-- ==== Sys2Proof/Word.lean ====
section
/-!
DEFINITION. The word types of the GL7416: registers are 32 bits wide (R13 and the text before it), memories are bytes.
-/
namespace Sys2Proof

/-- A register word. -/
abbrev Word := BitVec 32

/-- A byte of an image slot, user NV, core SRAM or a brick. -/
abbrev Byte := BitVec 8

end Sys2Proof
end

