-- ==== Sys2Proof/Machine/Operands.lean ====
section
/-!
DEFINITION. The structured operands of commands: what the world outside the block supplies with an event (samples, frames, readings,
measured outcomes). Plain data.
-/
namespace Sys2Proof

/-- What the ADCs and the gate readback give for one tile in a cycle (R97, R88, R115); the sensed currents are those before the trim of R98. -/
structure TileSample where
  /-- valley current, 10 mA, positive from the port towards SYS (R91) -/
  valley : Int := 0
  /-- BOOTn − SWn, 10 mV -/
  boot : Nat := 0
  /-- current of a dump resistor while LOn is on, 10 mA -/
  onAmps : Nat := 0
  /-- a commanded gate missed its bound (R115, cause 6) -/
  gateErr : Bool := false
deriving DecidableEq, Repr, Inhabited

/-- What a tile's self-test measures (R124): the slowest rise to 90 % and fall to 10 % of a gate, ns; the time until BOOTn − SWn reaches 7.5 V, µs, and
its droop in 1 ms, 10 mV; the offset in ADC steps; the gain error in 0.1 % and the DAC code at the trip of the sweep; the voltage across the half-bridge,
10 mV, and the measured rise in % of the predicted one. -/
structure TestReading where
  rise   : Nat := 0
  fall   : Nat := 0
  charge : Nat := 0
  droop  : Nat := 0
  offset : Int := 0
  gain   : Int := 0
  trip   : Nat := 512
  volts  : Nat := 0
  ratio  : Nat := 100
deriving DecidableEq, Repr, Inhabited

/-- The samples of the cycle that ends at a boundary (R129, R130). -/
structure CycleSample where
  /-- SYS voltage, 10 mV -/
  vSys : Nat := 0
  /-- voltage of MAIN at MAINS, or of BAT at BATS, 10 mV (R130) -/
  vPort : Nat := 0
  /-- voltages at AIN0 to AIN19, microvolts: those of EAST, WEST and the device side of SERV come through dividers of 1/60.0 (R497, R254) -/
  ain : Vector Nat 20 := Vector.replicate 20 0
  /-- port current, 10 mA, positive into the device -/
  iPort : Int := 0
  tiles : Vector TileSample 16 := Vector.replicate 16 {}
  /-- the demand that a disturbed mirror lane computed in place of its own (R155) -/
  mirrorD : Option Nat := none
deriving DecidableEq, Repr, Inhabited

/-- What stands at the voltage inputs when a port is looked at: the voltage of MAIN at MAINS, or of BAT at BATS, in 10 mV, and the voltages at AIN0 to
AIN19 in microvolts, from which those of EAST, WEST and SERV come (R130, R497). -/
structure NodeSample where
  node : Nat := 0
  ain  : Vector Nat 20 := Vector.replicate 20 0
deriving DecidableEq, Repr, Inhabited

/-- Who writes a register: the host over SPI, the control core, or a debugger at the debug balls (R13, R350, R456). -/
inductive Origin where
  | host | core | debugger
deriving DecidableEq, Repr, Inhabited

/-- What one sensor gives in a thermal round (R320, R323, R324): the junction temperature of a diode in 0.1 °C, or the voltage of an NTC
ball with its pull-up connected, in microvolts. -/
structure SensorReading where
  temp : Int := 250
  ball : Nat := 600000
deriving DecidableEq, Repr, Inhabited

/-- The conversions that the prism makes every 10 µs (R365, R368): SYS voltage, the voltages of MAIN at MAINS and BAT at BATS (10 mV), the voltages at
AIN0 to AIN19 in microvolts, from which those of EAST, WEST and SERV come (R497), and the port currents (10 mA, positive into the device) in the order
MAIN, BAT, EAST, WEST, SERV; and the AIN results that have come in, channel and code. -/
structure Conversions where
  vSys  : Nat := 0
  v     : Vector Nat 2 := Vector.replicate 2 0
  balls : Vector Nat 20 := Vector.replicate 20 0
  i     : Vector Int 5 := Vector.replicate 5 0
  ain   : List (Nat × Int) := []
deriving DecidableEq, Repr, Inhabited

/-- QA and QB as sampled, and the number of consecutive samples for which a level that has changed has held (R270). -/
structure QuadSample where
  qa   : Bool := false
  qb   : Bool := false
  held : Nat := 0
deriving DecidableEq, Repr, Inhabited

/-- What an attached NAND answers (R376, R377, R384): a number for its identity, the blocks behind NCE0 and behind NCE1, the powers of 2 of its pages per
block and bricks per page in the mode used, its spare bytes per KiB of page, its maximum program time in microseconds, and the blocks that carry a bad-block
mark. -/
structure NandInfo where
  ident  : Nat := 0
  blocks : Nat := 0
  second : Nat := 0
  ppb    : Nat := 0
  bpp    : Nat := 0
  spare  : Nat := 72
  tProg  : Nat := 0
  marked : List Nat := []
deriving DecidableEq, Repr, Inhabited

/-- What the NAND gives when the log store recovers (R383): every brick of the page whose program was cut reads with a valid CRC, and the repeated erase of a
block succeeds. -/
structure RecoveryRead where
  whole  : Bool := false
  erased : Bool := true
deriving DecidableEq, Repr, Inhabited

/-- How the read of a brick ended: valid, not correctable, or corrected with a CRC that fails (R387). -/
inductive BrickRead where
  | good | uncorrectable | crcFailed
deriving DecidableEq, Repr, Inhabited

/-- A received Ring Link frame whose CRC is good: header fields other than TYPE, and payload (R220). -/
structure RxFrame where
  dst  : Nat := 0
  src  : Nat := 0
  prio : Nat := 0
  seq  : Nat := 0
  data : List Byte := []
deriving DecidableEq, Repr, Inhabited

/-- What the resident supervisor, or a customer task in its place, decides to answer (R236, R237, R244). -/
inductive Decision where
  | accept
  | reject (reason : Nat)
  | wait (ms : Nat)
deriving DecidableEq, Repr

/-- What the provider's supervisor answers to a FLOW_OPEN (R244). -/
inductive FlowAnswer where
  | accept
  | reject (reason : Nat)
deriving DecidableEq, Repr

/-- A role swap asked for: voltage, current, FORCE (R223). -/
structure SwapAsk where
  v     : Nat
  i     : Nat
  force : Bool
deriving DecidableEq, Repr

/-- A flow that this unit asks for as the consumer (R223, R244). -/
structure FlowAsk where
  provider : Nat
  flowId   : Nat
  rate     : Nat
  rateMax  : Nat
  allow    : Nat
  reroute  : Bool
deriving DecidableEq, Repr

/-- What the policy of a segment does: it follows SEGs_POLICY, or a customer task offers points, withdraws, asks for a role swap or for a flow (R222, R237,
R241, R244). -/
inductive PolicyAct where
  | follow
  | offer (points : List (Nat × Nat))
  | withdraw
  | swap (a : SwapAsk)
  | openFlow (a : FlowAsk)
deriving DecidableEq, Repr

/-- What an EMERG finds on the segment it is forwarded to: nobody sends, this unit sends, or the neighbour does (R250). -/
inductive LineUse where
  | free
  | own
  | neighbour
deriving DecidableEq, Repr

/-! ### Bytes of a frame (R220 to R223): most significant byte first -/

/-- The bytes of a number of `n` bytes, most significant first (R220). -/
def beBytes (n v : Nat) : List Byte := (List.range n).map fun i => BitVec.ofNat 8 (v / 256 ^ (n - 1 - i))

/-- The number in `n` bytes from offset `o` of a payload. -/
def beAt (l : List Byte) (o n : Nat) : Nat := ((l.drop o).take n).foldl (fun a b => a * 256 + b.toNat) 0

/-- One byte of the CRC-16 of R221. -/
def crc16Byte (c : BitVec 16) (b : Byte) : BitVec 16 :=
  (List.range 8).foldl (fun c _ => if c.getMsbD 0 then (c <<< 1) ^^^ 0x1021#16 else c <<< 1) (c ^^^ (b.setWidth 16 <<< 8))

/-- CRC-16 of R221: polynomial 1021h, initial value FFFFh, no reflection, no final XOR. -/
def crc16 (bs : List Byte) : BitVec 16 :=
  bs.foldl crc16Byte 0xFFFF#16

/-- The bytes received after SYNC make a frame: its LEN is at most 64, they are as many as it says, and the CRC over header and payload is good (R220,
R221). -/
def frameGood (bs : List Byte) : Bool :=
  let n := beAt bs 5 1
  decide (n ≤ 64) && bs.length == 8 + n && beAt bs (6 + n) 2 == (crc16 (bs.take (6 + n))).toNat

/-- The frame types of R222. -/
def listedTypes : List Nat := [0, 1, 2, 3, 4, 8, 9, 10, 11, 12, 13, 14, 16, 17, 0x18, 0x19, 0x1A, 0x3F]

/-- What a request that waited longer than its limit had asked for (R408 to R413): a tile's self-test, a lens check, an ADC calibration. -/
inductive Waiting where
  | tile (t : Fin 16)
  | lens (n : Fin 24)
  | adc (u : Fin 2)
deriving DecidableEq, Repr

/-- A background function that FUNC_PEND lists (R413, R428). -/
inductive Func where
  | chg | cap | patrol | slot | mscrub | lens
  | shed (c : Fin 6)
deriving DecidableEq, Repr

/-- What wakes the device (R205): nBTN, a source voltage, or the ring, by a frame that is or is not an EMERG HOLD (R200). -/
inductive WakeBy where
  | button
  | source
  | ring (hold : Bool)
deriving DecidableEq, Repr

/-- What the reset release reads beside the slots (R16, R65, R406): the straps and the crystals that oscillate; and which ring ports are the open ends of a
chain (R217). -/
structure LoadInput where
  /-- the COMPAT ball; SYSCFG.COMPAT_PIN -/
  compat : Bool := false
  /-- BID3 to BID0 -/
  bid    : BitVec 4 := 0
  /-- the crystals are found running (R59) -/
  xtal25 : Bool := false
  xtal32 : Bool := false
  openEast : Bool := false
  openWest : Bool := false
deriving DecidableEq, Repr, Inhabited

/-- What the world shows to a register access whose rule looks at it: the BAT voltage that a COMMIT's admission reads, 10 mV (R70); that a port
has no guard condition (R152); the logic clocks since the last position step (R274); that the CRC of a section, or a row of the MRAM scrub, is in
progress (R409); and the cause of a reset that falls into a life-cycle change (R423). -/
structure AccessWorld where
  vBat      : Nat := 0
  clear     : Bool := true
  t         : Nat := 0
  slotBusy  : Bool := false
  scrubBusy : Bool := false
  cut       : Option (Fin 8) := none
deriving DecidableEq, Repr, Inhabited

/-- What the world shows to a register read: the logic clocks since the last position step (R274), and that nBTN has been low for less than 2 s, which
no command has told of (R206, R216). -/
structure ReadWorld where
  t       : Nat := 0
  pressed : Bool := false
deriving DecidableEq, Repr, Inhabited

/-- A frame as it comes in at SDI (R431): its 64 bits, CMD first, what the world shows to its access, and what follows a burst's frame: the words and
the CRC of a burst write, and the words of a burst read after which nCS rises, if it does (R440, R441). -/
structure SpiFrame where
  bits  : BitVec 64 := 0
  write : AccessWorld := {}
  read  : ReadWorld := {}
  words : List Word := []
  crc   : Byte := 0
  cut   : Option Nat := none
deriving DecidableEq, Repr, Inhabited

/-- A rise of nCS: in a frame, in the words of a burst write, or between frames (R430, R438). -/
inductive NcsRise where
  | inFrame | inBurst | between
deriving DecidableEq, Repr, Inhabited

/-- An access on the internal bus (R442, R443, R455): a register written or read; 1, 2 or 4 bytes, by the power of 2, stored or loaded at a core address, by a
customer task or not; and, at the JTAG balls, an instruction shifted in and its data register scanned, or a low nTRST. -/
inductive BusOp where
  | write (a : BitVec 16)
  | read (a : BitVec 16)
  | store (a : BitVec 32) (size : Fin 3) (task : Bool)
  | load (a : BitVec 32) (size : Fin 3) (task : Bool)
  | scan (ir : BitVec 5)
  | trst
deriving DecidableEq, Repr, Inhabited

/-- An access by one initiator (R442): the data it writes, and what the world shows to it. -/
structure BusAccess where
  by_   : Origin := .core
  op    : BusOp := .read 0
  data  : Word := 0
  write : AccessWorld := {}
  rd    : ReadWorld := {}
deriving DecidableEq, Repr, Inhabited

/-- What the world shows to an access on the bus, and the accesses that other initiators make in the same logic clock (R442). -/
structure BusWorld where
  write  : AccessWorld := {}
  rd     : ReadWorld := {}
  others : List BusAccess := []
deriving DecidableEq, Repr, Inhabited

/-- What a fall of VLOGIC below its brown-out reset threshold finds (R393, R405, R473): a power-fail save that has started and not ended; a fault-log entry
of which only so many of the four words have been written; and VKA below 1.8 V. -/
structure SupplyDrop where
  save   : Bool := false
  entry  : Option (Fin 4) := none
  vkaLow : Bool := false
deriving DecidableEq, Repr, Inhabited

end Sys2Proof
end

