-- ==== Sys2Proof/Syntax.lean ====
section
/-!
DEFINITION. The commands of the GL7416: one constructor per row of opcode_table.json, in its order, with the operands that the world outside the
block supplies. The docstring names the row and its rule.
-/
namespace Sys2Proof

inductive Instr where
  /-- LOGIC_DIE_ABSENT (R22) -/
  | logicDieAbsent
  /-- IMAGE_LOAD (R65) -/
  | imageLoad (i : LoadInput)
  /-- HANDBACK (R160) -/
  | handback (vSys : Nat) (code : BitVec 10)
  /-- IMG_OPEN (R68) -/
  | imgOpen (force : Bool)
  /-- IMGDATA_WRITE (R68) -/
  | imgdataWrite (w : BitVec 32)
  /-- IMGDATA_READ (R86) -/
  | imgdataRead
  /-- IMGADDR_WRITE (R68) -/
  | imgaddrWrite (w : BitVec 32)
  /-- IMG_CHECK (R69) -/
  | imgCheck (force : Bool)
  /-- IMG_CHECK_DONE (R69) -/
  | imgCheckDone
  /-- IMG_COMMIT (R70) -/
  | imgCommit (force : Bool) (vBat : Nat)
  /-- COMMIT_RESTART (R71) -/
  | commitRestart
  /-- IMG_CONFIRM (R72) -/
  | imgConfirm (force : Bool)
  /-- TRIAL_EXPIRY (R72) -/
  | trialExpiry
  /-- IMG_ABORT (R73) -/
  | imgAbort (force : Bool)
  /-- LIVE_WRITE (R75) -/
  | liveWrite (addr : BitVec 16) (w : BitVec 32)
  /-- CONFIG_SCRUB_ERROR (R77) -/
  | configScrubError (double sourceFails : Bool)
  /-- INACTIVE_SLOT_CHECK (R80) -/
  | inactiveSlotCheck
  /-- VDRV_UVLO (R88) -/
  | vdrvUvlo
  /-- VDRV_RECOVER (R102) -/
  | vdrvRecover
  /-- COURSE_CYCLE_BOUNDARY (R103) -/
  | courseCycleBoundary (c : Fin 6) (q : CycleSample)
  /-- PEAK_CURRENT_TRIP (R96) -/
  | peakCurrentTrip (t : Fin 16) (ton : Nat)
  /-- MAX_ON_EXPIRY (R92) -/
  | maxOnExpiry (t : Fin 16)
  /-- DCM_ZERO_CROSS (R94) -/
  | dcmZeroCross (t : Fin 16) (tfall : Nat)
  /-- ARMING_DONE (R496) -/
  | armingDone (t : Fin 16) (ok : Bool)
  /-- TILE_FAIL_DETECT (R117) -/
  | tileFailDetect (t : Fin 16)
  /-- FORCE_FAIL (R100) -/
  | forceFail (t : Fin 16)
  /-- CLEAR_FAIL (R119) -/
  | clearFail (t : Fin 16)
  /-- SHED_START (R108) -/
  | shedStart (c : Fin 6)
  /-- SHED_RAMP_END (R109) -/
  | shedRampEnd (c : Fin 6)
  /-- ADD_ALL (R111) -/
  | addAll (c : Fin 6)
  /-- SHED_HOLD (R409) -/
  | shedHold (c : Fin 6) (v : Bool)
  /-- DUMP_ENERGY_LIMIT (R122) -/
  | dumpEnergyLimit (t : Fin 16)
  /-- TILE_TEST_START (R124) -/
  | tileTestStart (t : Fin 16)
  /-- TILE_TEST_ADMIT (R411) -/
  | tileTestAdmit (t : Fin 16)
  /-- TILE_TEST_END (R125) -/
  | tileTestEnd (t : Fin 16) (r : TestReading)
  /-- TILE_TEST_ABORT (R125) -/
  | tileTestAbort (t : Fin 16)
  /-- DEFERRED_TIMEOUT (R414) -/
  | deferredTimeout (w : Waiting)
  /-- CROWBAR_TRIP (R144) -/
  | crowbarTrip (vSys : Nat)
  /-- CB_CLEAR (R146) -/
  | cbClear (c : Fin 6)
  /-- GUARD_TRIP (R149): port voltage and current, the current positive into the device; whether an over-current has lasted OC_FILT -/
  | guardTrip (p : Fin 5) (v : NodeSample) (i : Int) (filtered : Bool)
  /-- GUARD_OC_RETRY (R152) -/
  | guardOcRetry (p : Fin 5)
  /-- GUARD_REARM (R152) -/
  | guardRearm (p : Fin 5) (clear : Bool)
  /-- TWIN_MISMATCH (R154) -/
  | twinMismatch (p : Option (Fin 5))
  /-- MIRROR_FAULT (R156) -/
  | mirrorFault (c : Fin 6)
  /-- MM_CLEAR (R156) -/
  | mmClear (c : Fin 6)
  /-- HOLD_BAT_LOW (R158) -/
  | holdBatLow
  /-- HOLD_BAT_OK (R158) -/
  | holdBatOk
  /-- SYS_WINDOW_CHANGE (R139) -/
  | sysWindowChange (vSys : Nat)
  /-- SURPLUS_ENTER (R161) -/
  | surplusEnter (st : Fin 3) (vSys : Nat)
  /-- SURPLUS_EXIT (R161) -/
  | surplusExit (c : Fin 6)
  /-- PORT_WINDOW_CHANGE (R170) -/
  | portWindowChange (p : Fin 5) (v : NodeSample)
  /-- SOURCE_QUALIFIED (R172) -/
  | sourceQualified (p : Fin 5)
  /-- TRANSFER_COMPLETE (R186) -/
  | transferComplete
  /-- SOURCE_LOST (R172) -/
  | sourceLost (p : Fin 5) (v : NodeSample)
  /-- SHARE_START (R178) -/
  | shareStart
  /-- SHARE_RELEASE (R178) -/
  | shareRelease (pos : Option (Fin 4))
  /-- BAT_ASSIST_START (R179) -/
  | batAssistStart
  /-- CHARGE_DWELL_EXPIRY (R189) -/
  | chargeDwellExpiry
  /-- CHARGE_SAFETY_TIMER_EXPIRY (R190) -/
  | chargeSafetyTimerExpiry
  /-- CHG_CLEAR_FAULT (R194) -/
  | chgClearFault
  /-- CHG_PROBE (R201) -/
  | chgProbe
  /-- PROBE_TIMER (R201) -/
  | probeTimer
  /-- PROBE_END (R201) -/
  | probeEnd (v : Nat)
  /-- BATTERY_REMOVAL (R203) -/
  | batteryRemoval (det : Fin 3)
  /-- ENERGY_ACCOUNT_TICK (R197) -/
  | energyAccountTick (vBat : Nat) (iBat : Int)
  /-- ENERGY_RETAIN (R197) -/
  | energyRetain
  /-- RESERVE_RELEASE (R199) -/
  | reserveRelease
  /-- RESERVE_RESTORE (R199) -/
  | reserveRestore
  /-- KEEPALIVE_ENTRY (R200) -/
  | keepaliveEntry
  /-- SHIP_ARM (R204) -/
  | shipArm
  /-- SHIP_CANCEL (R204) -/
  | shipCancel
  /-- SHIP_ENTRY (R204) -/
  | shipEntry
  /-- WAKE (R205) -/
  | wake (by_ : WakeBy)
  /-- BTN_SHORT_PRESS (R206) -/
  | btnShortPress (ms : Nat)
  /-- BTN_LONG_PRESS (R206) -/
  | btnLongPress
  /-- BTN_POWER_CYCLE (R207) -/
  | btnPowerCycle
  /-- POWER_CYCLE_RELEASE (R207) -/
  | powerCycleRelease
  /-- STAT_SLOT (R208) -/
  | statSlot
  /-- RING_HELLO_RX (R232) -/
  | ringHelloRx (sg : Fin 2) (f : RxFrame)
  /-- RING_PING_RX (R228) -/
  | ringPingRx (sg : Fin 2) (f : RxFrame)
  /-- RING_ACK_RX (R228) -/
  | ringAckRx (sg : Fin 2) (f : RxFrame)
  /-- RING_NAK_RX (R229) -/
  | ringNakRx (sg : Fin 2) (f : RxFrame)
  /-- RING_TELEM_RX (R226) -/
  | ringTelemRx (sg : Fin 2) (f : RxFrame)
  /-- RING_OFFER_RX (R236) -/
  | ringOfferRx (sg : Fin 2) (f : RxFrame)
  /-- RING_REQUEST_RX (R236) -/
  | ringRequestRx (sg : Fin 2) (f : RxFrame) (ans : Decision)
  /-- RING_ACCEPT_RX (R236) -/
  | ringAcceptRx (sg : Fin 2) (f : RxFrame)
  /-- RING_REJECT_RX (R244) -/
  | ringRejectRx (sg : Fin 2) (f : RxFrame)
  /-- RING_WAIT_RX (R236) -/
  | ringWaitRx (sg : Fin 2) (f : RxFrame)
  /-- RING_READY_RX (R236) -/
  | ringReadyRx (sg : Fin 2) (f : RxFrame)
  /-- RING_HARDCLOSE_RX (R239) -/
  | ringHardcloseRx (sg : Fin 2) (f : RxFrame)
  /-- RING_SWAP_REQ_RX (R241) -/
  | ringSwapReqRx (sg : Fin 2) (f : RxFrame) (ok : Bool)
  /-- RING_SWAP_ACK_RX (R242) -/
  | ringSwapAckRx (sg : Fin 2) (f : RxFrame)
  /-- RING_FLOW_OPEN_RX (R244) -/
  | ringFlowOpenRx (sg : Fin 2) (f : RxFrame) (ans : FlowAnswer)
  /-- RING_FLOW_UPDATE_RX (R246) -/
  | ringFlowUpdateRx (sg : Fin 2) (f : RxFrame)
  /-- RING_FLOW_CLOSE_RX (R246) -/
  | ringFlowCloseRx (sg : Fin 2) (f : RxFrame)
  /-- RING_EMERG_RX (R249) -/
  | ringEmergRx (sg : Fin 2) (f : RxFrame) (crcOk : Bool) (use : LineUse)
  /-- RING_UNKNOWN_TYPE_RX (R222) -/
  | ringUnknownTypeRx (sg : Fin 2) (f : RxFrame) (typ : BitVec 6)
  /-- RING_ACK_TIMEOUT (R229) -/
  | ringAckTimeout (sg : Fin 2)
  /-- RING_BUSY_RETRY (R229) -/
  | ringBusyRetry (sg : Fin 2)
  /-- RING_COLLISION (R231) -/
  | ringCollision (sg : Fin 2)
  /-- RING_BACKOFF_END (R231) -/
  | ringBackoffEnd (sg : Fin 2) (idle : Bool)
  /-- RING_HELLO_TIMER (R232) -/
  | ringHelloTimer (sg : Fin 2)
  /-- RING_LOST_HOLD_END (R232) -/
  | ringLostHoldEnd (sg : Fin 2)
  /-- RING_PING_TIMER (R232) -/
  | ringPingTimer (sg : Fin 2)
  /-- ROUTE_ENTRY_EXPIRY (R227) -/
  | routeEntryExpiry (a : BitVec 12)
  /-- RING_RELINK (R232) -/
  | ringRelink (sg : Fin 2)
  /-- RING_HARDCLOSE_CMD (R239) -/
  | ringHardcloseCmd (sg : Fin 2)
  /-- EMERG_SEND (R249) -/
  | emergSend
  /-- EMERG_REPEAT (R249) -/
  | emergRepeat
  /-- POLICY_OFFER (R237) -/
  | policyOffer (sg : Fin 2) (act : PolicyAct)
  /-- CONTRACT_READY_SEND (R236) -/
  | contractReadySend (sg : Fin 2) (v : Nat)
  /-- OFFER_LAPSE (R236) -/
  | offerLapse (sg : Fin 2)
  /-- READY_TIMEOUT (R236) -/
  | readyTimeout (sg : Fin 2)
  /-- REOFFER_TIMEOUT (R238) -/
  | reofferTimeout (sg : Fin 2)
  /-- SWAP_REQ_TIMEOUT (R241) -/
  | swapReqTimeout (sg : Fin 2)
  /-- FLOW_TICK (R246) -/
  | flowTick
  /-- FLOW_RESERVE_TIMEOUT (R244) -/
  | flowReserveTimeout (i : BitVec 8)
  /-- FRAME_CLOCK_ABSENT (R252) -/
  | frameClockAbsent
  /-- SERV_ATTACH (R254) -/
  | servAttach (cc2 : Bool) (v : Nat) (wish : Bool)
  /-- SERV_PREBIAS_TIMEOUT (R255) -/
  | servPrebiasTimeout
  /-- SERV_DETACH (R254) -/
  | servDetach
  /-- PD_DRP_TOGGLE (R253) -/
  | pdDrpToggle
  /-- PD_SOURCE_CAPS_RX (R256) -/
  | pdSourceCapsRx (caps : List (Nat × Nat))
  /-- PD_REQUEST_RX (R257) -/
  | pdRequestRx (n : Fin 7) (i : Nat)
  /-- PD_PS_RDY_SEND (R257) -/
  | pdPsRdySend (v : Nat)
  /-- PD_EPR_ENTRY (R256) -/
  | pdEprEntry (own : Bool)
  /-- PD_PR_SWAP (R259) -/
  | pdPrSwap (own partner : Bool)
  /-- PD_DR_SWAP (R259) -/
  | pdDrSwap (own partner : Bool)
  /-- PD_VCONN_SWAP (R259) -/
  | pdVconnSwap (own partner : Bool)
  /-- PD_FR_SWAP_RX (R253) -/
  | pdFrSwapRx
  /-- PD_UNSUPPORTED_VDM_RX (R253) -/
  | pdUnsupportedVdmRx
  /-- PD_HARD_RESET (R260) -/
  | pdHardReset (own : Bool)
  /-- VCONN_OVERCURRENT (R260) -/
  | vconnOvercurrent
  /-- PORT_DISCHARGE_END (R264) -/
  | portDischargeEnd (p : Fin 5)
  /-- PTB_STEP (R274) -/
  | ptbStep (q : QuadSample) (ivl : Nat)
  /-- QUADRATURE_ERROR (R270) -/
  | quadratureError (held : Nat)
  /-- QZ_CLEAR (R271) -/
  | qzClear (t held : Nat)
  /-- PTB_STALL (R275) -/
  | ptbStall
  /-- PTB_SET (R276) -/
  | ptbSet
  /-- PTB_FRAC_READ (R277) -/
  | ptbFracRead (t : Nat)
  /-- SLOT_FIRE (R278) -/
  | slotFire (t : Nat)
  /-- SLOT_POSF_WRITE (R281) -/
  | slotPosfWrite (k : Fin 32) (t : Nat) (frac : BitVec 16)
  /-- TIMER_OVERFLOW (R285) -/
  | timerOverflow (n : Fin 12)
  /-- TIMER_MATCH (R285) -/
  | timerMatch (n : Fin 12)
  /-- TIMER_CAPTURE (R291) -/
  | timerCapture (n : Fin 12)
  /-- TIMER_START (R288) -/
  | timerStart (n : Fin 12)
  /-- TIMER_STOP (R288) -/
  | timerStop (n : Fin 12)
  /-- TIMER_RESET (R288) -/
  | timerReset (n : Fin 12)
  /-- TIMER_UPDATE (R288) -/
  | timerUpdate (n : Fin 12)
  /-- TIMER_PERIOD_CMP_WRITE (R289) -/
  | timerPeriodCmpWrite (n : Fin 12) (cmp : Bool) (v : BitVec 16)
  /-- TIMER_CNT_WRITE (R287) -/
  | timerCntWrite (n : Fin 12) (v : BitVec 16)
  /-- LENS_OUTPUT_CHANGE (R305) -/
  | lensOutputChange (n : Fin 24) (uv : Int)
  /-- LENS_TH_WRITE (R307) -/
  | lensThWrite (n : Fin 24) (lo hi : Byte)
  /-- LENS_CHECK_REQUEST (R309) -/
  | lensCheckRequest (n : Fin 24)
  /-- LENS_CHECK_ADMIT (R412) -/
  | lensCheckAdmit (n : Fin 24)
  /-- LENS_CHECK_END (R308) -/
  | lensCheckEnd (n : Fin 24) (rs : Vector Bool 10)
  /-- LENS_CHECK_ABORT (R309) -/
  | lensCheckAbort (n : Fin 24)
  /-- LENS_AUTO_CHECK (R310) -/
  | lensAutoCheck
  /-- LENS_RESTORE (R314) -/
  | lensRestore (n : Fin 24)
  /-- THERMAL_ROUND (R321) -/
  | thermalRound (rs : Vector SensorReading 12)
  /-- SENSOR_BROKEN (R324) -/
  | sensorBroken (n : Fin 12)
  /-- SENSOR_CLEAR (R324) -/
  | sensorClear (n : Fin 12)
  /-- SENSOR_STANDIN (R331) -/
  | sensorStandin (n : Fin 12)
  /-- THROTTLE_STEP_TIMER (R326) -/
  | throttleStepTimer (z : Fin 4)
  /-- ZONE_FLOOR_WRITE (R327) -/
  | zoneFloorWrite (z : Fin 4) (v : BitVec 5)
  /-- PD_THERMAL_TRIP (R336) -/
  | pdThermalTrip (a b : Int)
  /-- PD_THERMAL_RELEASE (R336) -/
  | pdThermalRelease (a b : Int)
  /-- LD_THERMAL_TRIP (R336) -/
  | ldThermalTrip (a b : Int)
  /-- LD_THERMAL_RELEASE (R336) -/
  | ldThermalRelease (a b : Int)
  /-- WDT_WINDOW_OPEN (R347) -/
  | wdtWindowOpen
  /-- WDT_TIMEOUT (R354) -/
  | wdtTimeout
  /-- WDT_CHECKIN (R350) -/
  | wdtCheckin (id : Byte) (o : Origin)
  /-- WDT_SERVICE (R352) -/
  | wdtService (echo tok : BitVec 16) (o : Origin)
  /-- WDT_CLOCK_STOP (R345) -/
  | wdtClockStop
  /-- WDT_FORCE (R360) -/
  | wdtForce
  /-- WDO_PULSE_END (R356) -/
  | wdoPulseEnd
  /-- CAP_OPEN (R369) -/
  | capOpen (cause : Fin 3)
  /-- CAP_CLOSE (R369) -/
  | capClose (cause : Fin 3)
  /-- CAPTURE_WINDOW_MAX (R369) -/
  | captureWindowMax
  /-- CAPTURE_FRAME (R370) -/
  | captureFrame
  /-- CAP_EN_WRITE (R409) -/
  | capEnWrite (en : Bool)
  /-- COMMIT_START (R381) -/
  | commitStart
  /-- NAND_PAGE_PROGRAMMED (R381) -/
  | nandPageProgrammed (ok : Bool)
  /-- NAND_ERASE_DONE (R384) -/
  | nandEraseDone (ok : Bool)
  /-- NAND_ATTACH (R377) -/
  | nandAttach (q : NandInfo)
  /-- LOG_RECOVERY (R383) -/
  | logRecovery (q : RecoveryRead) (lost : List Nat)
  /-- NAND_PATROL (R385) -/
  | nandPatrol (block corr : Nat) (uncorr last : Bool)
  /-- REC_FETCH (R387) -/
  | recFetch (i : BitVec 10)
  /-- REC_FETCH_DONE (R387) -/
  | recFetchDone (corr : Byte) (r : BrickRead)
  /-- REC_DATA_READ (R387) -/
  | recDataRead
  /-- NVDATA_WRITE (R392) -/
  | nvdataWrite (w : Word)
  /-- NVDATA_READ (R392) -/
  | nvdataRead
  /-- MRAM_SCRUB (R391) -/
  | mramScrub (rows : List (List Nat)) (uncorr : Option Nat) (last : Bool)
  /-- FLOG_SELECT (R398) -/
  | flogSelect (n : BitVec 10)
  /-- FLOW_SELECT (R267) -/
  | flowSelect (i : Byte)
  /-- PRISM_TSEL_WRITE (R367) -/
  | prismTselWrite (src : Byte)
  /-- PRISM_TMEAN_READ (R367) -/
  | prismTmeanRead
  /-- METER_TICK (R368) -/
  | meterTick (q : Conversions)
  /-- VLOGIC_BROWNOUT_WARN (R404) -/
  | vlogicBrownoutWarn
  /-- VLOGIC_BROWNOUT_RESET (R406) -/
  | vlogicBrownoutReset (cut : SupplyDrop)
  /-- NRST (R406) -/
  | nrst
  /-- POWER_ON (R406) -/
  | powerOn
  /-- FUNC_SAFE_POINT (R408) -/
  | funcSafePoint (f : Func)
  /-- BG_CTL_WRITE (R409) -/
  | bgCtlWrite (w : Word) (slotBusy scrubBusy : Bool)
  /-- BG_AGE_ALARM (R410) -/
  | bgAgeAlarm (scrub : Bool)
  /-- ADC_CAL_REQUEST (R413) -/
  | adcCalRequest (u : Fin 2)
  /-- ADC_CAL_ADMIT (R413) -/
  | adcCalAdmit (u : Fin 2) (load : Nat)
  /-- ADC_CAL_END (R413) -/
  | adcCalEnd (u : Fin 2) (pass : Bool)
  /-- LC_ADVANCE (R421) -/
  | lcAdvance (key : BitVec 2) (target : BitVec 8) (cut : Option (Fin 8))
  /-- LC_WRITE_KEY (R420) -/
  | lcWriteKey (key : BitVec 2) (slot : BitVec 8)
  /-- LC_REVOKE_KEY (R420) -/
  | lcRevokeKey (key : BitVec 2) (slot : BitVec 8)
  /-- LC_FUSE (R420) -/
  | lcFuse (key : BitVec 2) (arg : BitVec 8)
  /-- LC_INVALID_OP (R429) -/
  | lcInvalidOp (op : BitVec 4) (key : BitVec 2) (arg : BitVec 8)
  /-- HOST_NOP (R433) -/
  | hostNop (addr : BitVec 16)
  /-- HOST_READ (R434) -/
  | hostRead (addr : BitVec 16) (r : ReadWorld)
  /-- HOST_WRITE (R434) -/
  | hostWrite (addr : BitVec 16) (w : Word) (x : AccessWorld)
  /-- BURST_RD (R440) -/
  | burstRd (addr : BitVec 16) (blen : Fin 11) (r : ReadWorld) (n : Option Nat)
  /-- BURST_RD_INC (R440) -/
  | burstRdInc (addr : BitVec 16) (blen : Fin 11) (r : ReadWorld) (n : Option Nat)
  /-- BURST_WR (R441) -/
  | burstWr (addr : BitVec 16) (blen : Fin 11) (words : List Word) (crc : BitVec 8) (x : AccessWorld)
  /-- BURST_WR_APPLIED (R441) -/
  | burstWrApplied
  /-- REPEAT (R437) -/
  | hostRepeat (addr : BitVec 16)
  /-- HOST_FRAME_REJECT (R436): a frame as its bits come in, carried out where it passes every check (R431, R433) -/
  | hostFrameReject (x : SpiFrame)
  /-- NCS_FRAME_CUT (R438) -/
  | ncsFrameCut (rise : NcsRise)
  /-- REGISTER_WRITE (R13), and the other accesses of the core and of a debugger, which the table gives no row (R442, R443, R455, R456) -/
  | registerWrite (o : Origin) (op : BusOp) (w : Word) (x : BusWorld)
  /-- TIME_LO_READ (R445) -/
  | timeLoRead
  /-- TIME_SETL_WRITE (R445) -/
  | timeSetlWrite (w : Word)
  /-- EVF_DATA0_READ (R449) -/
  | evfData0Read
  /-- EVF_FLUSH (R449) -/
  | evfFlush
  /-- EV_SW_RAISE (R451) -/
  | evSwRaise (bits : BitVec 6)
  /-- DMA_TRANSFER (R454) -/
  | dmaTransfer (n : Fin 8)
  /-- DMA_CTL_WRITE (R454) -/
  | dmaCtlWrite (n : Fin 8) (w : Word)
  /-- DBG_OPEN (R456) -/
  | dbgOpen
  /-- DEBUG_HALT (R359) -/
  | debugHalt
  /-- PD_PS_RDY_RX (R235) -/
  | pdPsRdyRx
  /-- CABLE_IDENTITY_DISCOVERED (R256) -/
  | cableIdentityDiscovered (vMax : Fin 4) (iMax : Fin 3) (eprOk : Bool)
  /-- PD_EPR_EXIT (R259) -/
  | pdEprExit (own : Bool)
  /-- RING_FRAME_DROP (R221) -/
  | ringFrameDrop (sg : Fin 2) (bytes : List Byte) (violation : Bool)
  /-- RING_LINE_IDLE (R219) -/
  | ringLineIdle (sg : Fin 2)
  /-- SINKTX_CHANGE (R258) -/
  | sinktxChange (ok : Bool)
  /-- BAT_WINDOW_DEBOUNCE (R176) -/
  | batWindowDebounce
  /-- NBTN_RELEASE (R206) -/
  | nbtnRelease (ms : Nat)
  /-- GUARD_DIRECTION_CHANGE (R148) -/
  | guardDirectionChange (p : Fin 5)
  /-- GUARD_RETRY_WINDOW_EXPIRY (R152) -/
  | guardRetryWindowExpiry (p : Fin 5)
  /-- TIMER_TICK (R285) -/
  | timerTick (n : Fin 12)
  /-- WDT_TICK (R347) -/
  | wdtTick
  /-- DEBUG_RESUME (R359) -/
  | debugResume
  /-- CUSTOMER_TASK_FAULT (R443) -/
  | customerTaskFault
deriving DecidableEq, Repr

end Sys2Proof
end

