-- ==== Sys2Proof/WellFormed.lean ====
section
/-!
DEFINITION. Which commands the world can send: the ranges that the operand types do not carry already, from the layouts and the conditions of the
spec. A meaning is total all the same; these conditions say which operands stand for something.
-/
namespace Sys2Proof

/-- A received Ring Link frame: addresses of 12 bits, PRIO of 2, SEQ of 8, at most 64 payload bytes (R220, R221). -/
def RxFrame.wf (f : RxFrame) : Bool :=
  decide (f.dst < 4096) && decide (f.src < 4096) && decide (f.prio < 4) && decide (f.seq < 256) && decide (f.data.length ≤ 64)

/-- A voltage in 10 mV that a 16-bit register shows. -/
def wfVolts (v : Nat) : Bool := decide (v < 65536)

/-- A current in 10 mA that a 16-bit two's-complement register shows. -/
def wfAmps (i : Int) : Bool := decide (-32768 ≤ i) && decide (i < 32768)

/-- Points of an OFFER, a SWAP_REQ and a FLOW_OPEN fit their payload fields (R223). -/
def PolicyAct.wf : PolicyAct → Bool
  | .offer l => decide (1 ≤ l.length) && decide (l.length ≤ 4) && l.all fun (x : Nat × Nat) => wfVolts x.1 && wfVolts x.2
  | .swap a => wfVolts a.v && wfVolts a.i
  | .openFlow a => decide (a.provider < 4096) && wfVolts a.flowId && wfVolts a.rate && wfVolts a.rateMax && decide (a.allow < 2 ^ 32)
  | _ => true

/-- The voltages at the sense inputs (R130, R497). -/
def NodeSample.wf (v : NodeSample) : Bool := wfVolts v.node && v.ain.toList.all fun x => decide (x < 10000000)

/-- The samples of a cycle (R97, R130). -/
def CycleSample.wf (q : CycleSample) : Bool :=
  wfVolts q.vSys && wfVolts q.vPort && wfAmps q.iPort && q.ain.toList.all (fun v => decide (v < 10000000)) &&
  q.tiles.toList.all fun x => wfAmps x.valley && wfVolts x.boot && decide (x.onAmps < 32768)

/-- The measurements of a self-test fit the field that reports them (R127). -/
def TestReading.wf (r : TestReading) : Bool :=
  [r.rise, r.fall, r.droop, r.ratio].all (fun v => decide (v < 65536)) && wfAmps r.offset && decide (-1000 < r.gain) && wfAmps r.gain && decide (r.trip < 1024)

/-- The conversions of 10 µs (R365, R368). -/
def Conversions.wf (q : Conversions) : Bool :=
  wfVolts q.vSys && q.v.toList.all wfVolts && q.balls.toList.all (fun v => decide (v < 10000000)) && q.i.toList.all wfAmps &&
  q.ain.all fun (x : Nat × Int) => decide (x.1 < 20) && wfAmps x.2

/-- A WAIT names 1 to 65 535 ms, a REJECT a reason byte (R223). -/
def Decision.wf : Decision → Bool
  | .accept => true
  | .reject r => decide (r < 256)
  | .wait ms => decide (ms < 65536)

/-- Bricks per page, pages per block and the identity fit their fields (R376, R377). -/
def NandInfo.wf (q : NandInfo) : Bool :=
  decide (0 < q.blocks) && decide (q.ppb ≤ 12) && decide (q.bpp ≤ 3) && q.marked.all fun b => decide (b < q.blocks + q.second)

/-- A REJECT names a reason byte (R223). -/
def wfFlowAnswer : FlowAnswer → Bool
  | .accept => true
  | .reject r => decide (r < 256)

/-- An access that its initiator has (R442, R443, R455): the host reaches registers only, the core and an open debugger aligned core addresses too, and a
debugger the JTAG balls. -/
def wfBusOp (o : Origin) : BusOp → Bool
  | .write _ => true
  | .read _ => true
  | .store a n _ => o != .host && a.toNat % 2 ^ n.val == 0
  | .load a n _ => o != .host && a.toNat % 2 ^ n.val == 0
  | .scan _ => o == .debugger
  | .trst => o == .debugger

/-- The command can be sent by the world outside the block. -/
def WellFormed : Instr → Bool
  | .handback v _ => wfVolts v
  | .imgCommit _ v => wfVolts v
  | .courseCycleBoundary _ q => q.wf
  | .crowbarTrip v => wfVolts v
  | .guardTrip _ v i _ => v.wf && wfAmps i
  | .sysWindowChange v => wfVolts v
  | .surplusEnter _ v => wfVolts v
  | .portWindowChange _ v => v.wf
  | .sourceLost _ v => v.wf
  | .probeEnd v => wfVolts v
  | .energyAccountTick v i => wfVolts v && wfAmps i
  | .tileTestEnd _ r => r.wf
  | .btnShortPress ms => decide (50 ≤ ms) && decide (ms < 2000)
  | .nbtnRelease ms => decide (ms < 50) || decide (2000 ≤ ms)
  | .ringHelloRx _ f => f.wf
  | .ringPingRx _ f => f.wf
  | .ringAckRx _ f => f.wf
  | .ringNakRx _ f => f.wf
  | .ringTelemRx _ f => f.wf
  | .ringOfferRx _ f => f.wf
  | .ringRequestRx _ f ans => f.wf && ans.wf
  | .ringAcceptRx _ f => f.wf
  | .ringRejectRx _ f => f.wf
  | .ringWaitRx _ f => f.wf
  | .ringReadyRx _ f => f.wf
  | .ringHardcloseRx _ f => f.wf
  | .ringSwapReqRx _ f _ => f.wf
  | .ringSwapAckRx _ f => f.wf
  | .ringFlowOpenRx _ f ans => f.wf && wfFlowAnswer ans
  | .ringFlowUpdateRx _ f => f.wf
  | .ringFlowCloseRx _ f => f.wf
  | .ringEmergRx _ f _ _ => f.wf
  | .ringUnknownTypeRx _ f typ => f.wf && !listedTypes.contains typ.toNat
  | .ringFrameDrop _ bytes violation => violation || !frameGood bytes
  | .policyOffer _ act => act.wf
  | .contractReadySend _ v => wfVolts v
  | .servAttach _ v _ => wfVolts v
  | .pdSourceCapsRx caps => decide (caps.length ≤ 7)
  | .pdPsRdySend v => wfVolts v
  | .nandAttach q => q.wf
  | .meterTick q => q.wf
  | .lensOutputChange _ uv => decide (-2147483648 ≤ uv) && decide (uv < 2147483648)
  | .lcInvalidOp op _ _ => !(decide (1 ≤ op.toNat) && decide (op.toNat ≤ 4))
  | .burstWr _ blen words _ _ => words.length == 2 ^ blen.val
  | .registerWrite o op _ x => wfBusOp o op && x.others.all fun q => wfBusOp q.by_ q.op
  | .burstRdInc addr blen _ _ => decide (addr.toNat + 4 * (2 ^ blen.val - 1) ≤ 0xFFFC)
  | _ => true

end Sys2Proof
end

