-- ==== Sys2Proof/Decode.lean ====
section
/-!
DEFINITION. The command that a word spells by the bits of opcode_table.json. Every row of that table has an empty list of fields: no row gives any
bits, so no word spells a command. (The host port's frames have a layout of their own, R431; it is in Machine/HostOps.lean.)
-/
namespace Sys2Proof

/-- The command that a word of `nbits` bits spells by the table. -/
def decodeTableWord (_nbits _w : Nat) : Option Instr := none

end Sys2Proof
end

