-- ==== Sys2Proof/Config.lean ====
section
/-!
DEFINITION. What the spec leaves open: constants without a body, so that no proof can see a value of them. A function
stands where the open value depends on something; each is named in the assumption log.
-/
namespace Sys2Proof

/-- A value the spec gives no result for, by the model's own counter of such values (assumption 3). -/
opaque Config.freeValue : Nat → Nat

/-- SHA-256 of a byte sequence, as eight words, byte 4n in bits [7:0] of word n (R62, R86, R420; assumption 4). -/
opaque Config.sha256 : List Byte → List Word

/-- The ECDSA P-256 verification: public key words, digest words, signature words (R62, R420; assumption 4). -/
opaque Config.ecdsaVerify : List Word → List Word → List Word → Bool

/-- A pair of coordinates is a point of P-256 (R420; assumption 4). -/
opaque Config.validPoint : List Word → Bool

/-- The AES-XTS ciphertext of a log-store page under key pair number `k`, and its plaintext, are not modelled as bytes; this is
the number of the new key pair that a life-cycle change draws (R422; assumption 5). -/
opaque Config.newKeyPair : Nat → Nat

/-- Times that the USB Power Delivery standard prescribes and the spec does not state, in microseconds: CRCReceiveTimer, the wait after SinkTxNG, and
the period of EPR_KeepAlive; and the number of retries (R253, R258; assumption 73). -/
opaque Config.crcReceiveUs : Nat
opaque Config.sinkTxUs : Nat
opaque Config.keepAliveUs : Nat
opaque Config.pdRetries : Nat

end Sys2Proof
end

