-- ==== Sys2Proof/Machine/RegMap.lean ====
section
/-!
DEFINITION. The register map of the GL7416 (R13, R15, R461 to R465): every register's address, reset value and fields with
their access codes, row by row from the field maps of the spec's chapters, and a named address and a named field for each.
-/
namespace Sys2Proof.Machine

/-- The access codes of R13. -/
inductive Access where
  | rw | ro | w1c | w1s | rc | lk | img
deriving DecidableEq, Repr

/-- A field of a field map: lowest bit, width, access code, and the encodings its map marks reserved or not used (R38). -/
structure FieldMap where
  lo    : Nat
  width : Nat
  acc   : Access
  resv  : List Nat
deriving DecidableEq, Repr

/-- A register or an array of registers (R463): base address, stride, number of elements, reset value, fields that are not reserved. -/
structure RegDesc where
  base   : Nat
  stride : Nat
  count  : Nat
  reset  : Nat
  fields : List FieldMap
deriving DecidableEq, Repr

/-- A named field: the register that holds it, its lowest bit and its width (R8). -/
structure Field where
  addr  : Nat
  lo    : Nat
  width : Nat
deriving DecidableEq, Repr

/-- Field maps of the System registers: identity, reset cause, host port, time, debug (R32, R427, R458). -/
def regTableSystem : List RegDesc := [
  ⟨0x0, 4, 1, 0x74160110, [⟨16, 16, .ro, []⟩, ⟨8, 8, .ro, []⟩, ⟨0, 8, .ro, []⟩]⟩,  -- DEVID
  ⟨0x4, 4, 1, 0x0, [⟨19, 1, .ro, []⟩, ⟨18, 1, .ro, []⟩, ⟨17, 1, .ro, []⟩, ⟨16, 1, .ro, []⟩, ⟨8, 4, .ro, []⟩, ⟨4, 1, .img, []⟩, ⟨2, 1, .img, []⟩, ⟨1, 1, .ro, []⟩, ⟨0, 1, .ro, []⟩]⟩,  -- SYSCFG
  ⟨0x8, 4, 1, 0x0, [⟨16, 16, .ro, []⟩, ⟨9, 1, .ro, []⟩, ⟨8, 1, .ro, []⟩, ⟨4, 4, .ro, []⟩, ⟨0, 4, .ro, []⟩]⟩,  -- RSTCAUSE
  ⟨0xC, 4, 1, 0x0, [⟨24, 8, .rc, []⟩, ⟨16, 8, .rc, []⟩, ⟨0, 6, .ro, []⟩]⟩,  -- HOST_STAT
  ⟨0x10, 4, 1, 0x0, [⟨0, 32, .ro, []⟩]⟩,  -- TIME_LO
  ⟨0x14, 4, 1, 0x0, [⟨0, 16, .ro, []⟩]⟩,  -- TIME_HI
  ⟨0x18, 4, 1, 0x0, [⟨0, 16, .rw, []⟩]⟩,  -- TIME_SETH
  ⟨0x1C, 4, 1, 0x0, [⟨0, 32, .rw, []⟩]⟩,  -- TIME_SETL
  ⟨0x20, 4, 1, 0x0, [⟨3, 1, .ro, []⟩, ⟨2, 1, .w1c, []⟩, ⟨1, 1, .ro, []⟩, ⟨0, 1, .w1s, []⟩]⟩  -- DBG_CTL
]

/-- Field maps of the Image registers: image control (R86). -/
def regTableImage : List RegDesc := [
  ⟨0x400, 4, 1, 0x0, [⟨8, 1, .rw, []⟩, ⟨5, 1, .w1s, []⟩, ⟨4, 1, .w1s, []⟩, ⟨3, 1, .w1s, []⟩, ⟨2, 1, .w1s, []⟩, ⟨1, 1, .w1s, []⟩]⟩,  -- IMGCTL
  ⟨0x404, 4, 1, 0x0, [⟨16, 8, .ro, []⟩, ⟨15, 1, .w1c, []⟩, ⟨14, 1, .w1c, []⟩, ⟨13, 1, .ro, []⟩, ⟨11, 1, .ro, []⟩, ⟨10, 1, .w1c, []⟩, ⟨9, 1, .ro, []⟩, ⟨8, 1, .ro, []⟩, ⟨0, 4, .ro, []⟩]⟩,  -- IMGSTAT
  ⟨0x408, 4, 1, 0x0, [⟨17, 2, .ro, []⟩, ⟨16, 1, .ro, []⟩, ⟨8, 8, .ro, []⟩, ⟨0, 8, .ro, []⟩]⟩,  -- IMGRESULT
  ⟨0x40C, 4, 1, 0x0, [⟨18, 1, .ro, []⟩, ⟨16, 2, .ro, []⟩, ⟨0, 16, .ro, []⟩]⟩,  -- IMGINFO
  ⟨0x410, 4, 1, 0x0, [⟨2, 19, .rw, []⟩]⟩,  -- IMGADDR
  ⟨0x414, 4, 1, 0x0, [⟨0, 32, .rw, []⟩]⟩,  -- IMGDATA
  ⟨0x418, 4, 1, 0x0, [⟨0, 16, .ro, []⟩]⟩,  -- IMGSVN
  ⟨0x420, 4, 8, 0x0, [⟨0, 32, .ro, []⟩]⟩,  -- IMGDIGEST0 to IMGDIGEST7
  ⟨0x440, 4, 1, 0x0, [⟨24, 8, .ro, []⟩, ⟨16, 8, .rc, []⟩, ⟨0, 16, .rc, []⟩]⟩  -- SCRUBSTAT
]

/-- Field maps of the Tile registers: tiles (R127). -/
def regTableTileA : List RegDesc := [
  ⟨0x800, 64, 16, 0x7, [⟨6, 1, .img, []⟩, ⟨4, 2, .img, []⟩, ⟨0, 3, .img, []⟩]⟩,  -- TILEn_MAP
  ⟨0x804, 64, 16, 0xA12, [⟨8, 8, .lk, []⟩, ⟨4, 1, .lk, []⟩, ⟨3, 1, .lk, []⟩, ⟨1, 2, .lk, [3]⟩, ⟨0, 1, .lk, []⟩]⟩,  -- TILEn_CFG
  ⟨0x808, 64, 16, 0x14030707, [⟨24, 8, .lk, []⟩, ⟨16, 4, .lk, []⟩, ⟨8, 6, .lk, []⟩, ⟨0, 6, .lk, []⟩]⟩,  -- TILEn_TIMING
  ⟨0x80C, 64, 16, 0x1D603E8, [⟨16, 16, .lk, []⟩, ⟨0, 16, .lk, []⟩]⟩,  -- TILEn_SCALE
  ⟨0x810, 64, 16, 0x80000000, [⟨16, 16, .ro, []⟩, ⟨0, 16, .ro, []⟩]⟩,  -- TILEn_TRIM
  ⟨0x814, 64, 16, 0xF00, [⟨8, 5, .rw, []⟩, ⟨3, 1, .w1s, []⟩, ⟨2, 1, .w1s, []⟩, ⟨1, 1, .w1s, []⟩, ⟨0, 1, .w1s, []⟩]⟩,  -- TILEn_CTL
  ⟨0x818, 64, 16, 0x0, [⟨15, 1, .w1c, []⟩, ⟨14, 1, .ro, []⟩, ⟨13, 1, .ro, []⟩, ⟨12, 1, .ro, []⟩, ⟨11, 1, .ro, []⟩, ⟨10, 1, .ro, []⟩, ⟨9, 1, .ro, []⟩, ⟨8, 1, .ro, []⟩, ⟨4, 4, .ro, []⟩, ⟨3, 1, .ro, []⟩, ⟨0, 3, .ro, []⟩]⟩,  -- TILEn_STAT
  ⟨0x81C, 64, 16, 0x0, [⟨24, 8, .rc, []⟩, ⟨16, 8, .rc, []⟩, ⟨8, 8, .ro, []⟩, ⟨0, 4, .ro, []⟩]⟩,  -- TILEn_FAULT
  ⟨0x820, 64, 16, 0x0, [⟨31, 1, .ro, []⟩, ⟨16, 13, .ro, []⟩, ⟨0, 13, .ro, []⟩]⟩,  -- TILEn_PHASE
  ⟨0x824, 64, 16, 0x0, [⟨16, 1, .ro, []⟩, ⟨0, 10, .ro, []⟩]⟩  -- TILEn_IPK
]

/-- Field maps of the Tile registers: tiles (R127). -/
def regTableTileB : List RegDesc := [
  ⟨0x828, 64, 16, 0x0, [⟨16, 16, .ro, []⟩, ⟨0, 16, .ro, []⟩]⟩,  -- TILEn_IMEAS
  ⟨0x82C, 64, 16, 0x0, [⟨0, 32, .ro, []⟩]⟩,  -- TILEn_CYCLES
  ⟨0x830, 64, 16, 0x0, [⟨16, 16, .ro, []⟩, ⟨4, 3, .ro, []⟩, ⟨0, 3, .ro, []⟩]⟩,  -- TILEn_TEST
  ⟨0x834, 64, 16, 0x0, [⟨20, 12, .lk, []⟩, ⟨8, 12, .lk, []⟩, ⟨0, 8, .lk, []⟩]⟩,  -- TILEn_DUMP
  ⟨0x838, 64, 16, 0x0, [⟨16, 1, .ro, []⟩, ⟨0, 16, .ro, []⟩]⟩  -- TILEn_DUMPSTAT
]

/-- Field maps of the Course registers: courses (R128, R166). -/
def regTableCourseA : List RegDesc := [
  ⟨0x1000, 128, 6, 0x0, [⟨16, 13, .img, []⟩, ⟨8, 4, .img, []⟩, ⟨7, 1, .img, []⟩, ⟨6, 1, .img, []⟩, ⟨4, 2, .img, []⟩, ⟨0, 3, .img, []⟩]⟩,  -- Cn_MAP
  ⟨0x1004, 128, 6, 0x0, [⟨16, 16, .img, []⟩, ⟨0, 16, .img, []⟩]⟩,  -- Cn_TILES
  ⟨0x1008, 128, 6, 0x7D407832, [⟨26, 5, .lk, []⟩, ⟨24, 2, .lk, []⟩, ⟨16, 8, .lk, []⟩, ⟨8, 8, .lk, []⟩, ⟨0, 8, .lk, []⟩]⟩,  -- Cn_SHED
  ⟨0x100C, 128, 6, 0x140A, [⟨16, 2, .lk, [2, 3]⟩, ⟨8, 8, .lk, []⟩, ⟨0, 8, .lk, []⟩]⟩,  -- Cn_STEP
  ⟨0x1010, 128, 6, 0x0, [⟨0, 13, .lk, []⟩]⟩,  -- Cn_OFFSET
  ⟨0x1014, 128, 6, 0x0, [⟨1, 1, .w1s, []⟩, ⟨0, 1, .rw, []⟩]⟩,  -- Cn_CTL
  ⟨0x1018, 128, 6, 0x0, [⟨20, 1, .ro, []⟩, ⟨19, 1, .ro, []⟩, ⟨18, 1, .ro, []⟩, ⟨17, 1, .ro, []⟩, ⟨16, 1, .ro, []⟩, ⟨15, 1, .ro, []⟩, ⟨12, 3, .ro, []⟩, ⟨8, 4, .ro, []⟩, ⟨4, 4, .ro, []⟩, ⟨0, 4, .ro, []⟩]⟩,  -- Cn_STAT
  ⟨0x101C, 128, 6, 0x0, [⟨7, 1, .w1c, []⟩, ⟨6, 1, .w1c, []⟩, ⟨5, 1, .w1c, []⟩, ⟨4, 1, .w1c, []⟩, ⟨3, 1, .w1c, []⟩, ⟨2, 1, .w1c, []⟩, ⟨1, 1, .w1c, []⟩, ⟨0, 1, .w1c, []⟩]⟩,  -- Cn_EVT
  ⟨0x1020, 128, 6, 0x0, [⟨16, 16, .ro, []⟩, ⟨0, 16, .ro, []⟩]⟩,  -- Cn_SHEDCNT
  ⟨0x1024, 128, 6, 0x0, [⟨16, 16, .ro, []⟩, ⟨0, 16, .ro, []⟩]⟩  -- Cn_IMEAN
]

/-- Field maps of the Course registers: courses (R128, R166). -/
def regTableCourseB : List RegDesc := [
  ⟨0x1040, 128, 6, 0x100, [⟨16, 16, .lk, []⟩, ⟨8, 1, .lk, []⟩, ⟨0, 3, .ro, []⟩]⟩,  -- Cn_MODE
  ⟨0x1044, 128, 6, 0xBB80BB8, [⟨16, 16, .ro, []⟩, ⟨0, 16, .rw, []⟩]⟩,  -- Cn_ILIM
  ⟨0x1048, 128, 6, 0x1000400, [⟨16, 16, .lk, []⟩, ⟨0, 16, .lk, []⟩]⟩,  -- Cn_LOOP
  ⟨0x104C, 128, 6, 0x0, [⟨0, 12, .lk, []⟩]⟩,  -- Cn_SLOPE
  ⟨0x1050, 128, 6, 0xA70, [⟨8, 8, .lk, []⟩, ⟨4, 3, .lk, []⟩, ⟨3, 1, .lk, []⟩, ⟨0, 2, .lk, [3]⟩]⟩,  -- Cn_TRACK
  ⟨0x1054, 128, 6, 0x0, [⟨16, 16, .ro, []⟩, ⟨0, 16, .ro, []⟩]⟩,  -- Cn_REF
  ⟨0x1058, 128, 6, 0x0, [⟨16, 16, .ro, []⟩, ⟨0, 10, .ro, []⟩]⟩,  -- Cn_DEMAND
  ⟨0x105C, 128, 6, 0x0, [⟨9, 1, .ro, []⟩, ⟨8, 1, .ro, []⟩, ⟨6, 2, .ro, []⟩, ⟨5, 1, .ro, []⟩, ⟨0, 4, .ro, []⟩]⟩,  -- Cn_RSTAT
  ⟨0x1060, 128, 6, 0x0, [⟨17, 1, .ro, []⟩, ⟨16, 1, .ro, []⟩, ⟨9, 1, .w1c, []⟩, ⟨8, 1, .w1c, []⟩, ⟨1, 1, .w1s, []⟩, ⟨0, 1, .w1s, []⟩]⟩,  -- Cn_PCTL
  ⟨0x1064, 128, 6, 0x1008, [⟨24, 8, .rc, []⟩, ⟨16, 1, .lk, []⟩, ⟨8, 8, .lk, []⟩, ⟨0, 8, .lk, []⟩]⟩  -- Cn_MIRROR
]

/-- Field maps of the Sys registers: SYS, hold loop, guards (R167, R168). -/
def regTableSysA : List RegDesc := [
  ⟨0x1300, 4, 1, 0x12C0, [⟨0, 16, .rw, []⟩]⟩,  -- SYS_SETPT
  ⟨0x1304, 4, 1, 0x0, [⟨8, 8, .img, []⟩, ⟨0, 8, .rw, []⟩]⟩,  -- SYS_LOADLINE
  ⟨0x1308, 4, 1, 0x12C012C0, [⟨16, 16, .img, []⟩, ⟨0, 16, .img, []⟩]⟩,  -- SYS_BOUNDS
  ⟨0x130C, 4, 1, 0x11301194, [⟨16, 16, .img, []⟩, ⟨0, 16, .img, []⟩]⟩,  -- SYS_FLOOR
  ⟨0x1310, 4, 1, 0x140A0A, [⟨16, 8, .lk, []⟩, ⟨8, 8, .img, []⟩, ⟨0, 8, .img, []⟩]⟩,  -- SYS_WIN
  ⟨0x1314, 4, 1, 0x140A05, [⟨24, 1, .rw, []⟩, ⟨16, 8, .lk, []⟩, ⟨8, 8, .lk, []⟩, ⟨0, 8, .lk, []⟩]⟩,  -- SYS_SURPLUS
  ⟨0x1318, 4, 1, 0xBB81838, [⟨16, 16, .lk, []⟩, ⟨0, 16, .lk, []⟩]⟩,  -- SYS_CB
  ⟨0x131C, 4, 1, 0x0, [⟨16, 16, .ro, []⟩, ⟨0, 16, .ro, []⟩]⟩,  -- SYS_MEAS
  ⟨0x1320, 4, 1, 0x0, [⟨16, 16, .ro, []⟩, ⟨0, 16, .ro, []⟩]⟩,  -- SYS_TARGET
  ⟨0x1324, 4, 1, 0x0, [⟨9, 1, .w1c, []⟩, ⟨8, 1, .w1c, []⟩, ⟨4, 2, .ro, []⟩, ⟨2, 1, .ro, []⟩, ⟨1, 1, .ro, []⟩, ⟨0, 1, .ro, []⟩]⟩  -- SYS_STAT
]

/-- Field maps of the Sys registers: SYS, hold loop, guards (R167, R168). -/
def regTableSysB : List RegDesc := [
  ⟨0x1328, 4, 1, 0x0, [⟨0, 32, .rc, []⟩]⟩,  -- SYS_OOW
  ⟨0x132C, 4, 1, 0x1E00, [⟨16, 16, .lk, []⟩, ⟨8, 8, .lk, []⟩]⟩,  -- HOLD_CFG
  ⟨0x1330, 4, 1, 0x0, [⟨16, 16, .ro, []⟩, ⟨11, 1, .ro, []⟩, ⟨10, 1, .ro, []⟩, ⟨0, 10, .ro, []⟩]⟩,  -- HOLD_STAT
  ⟨0x1340, 16, 5, 0xA301F1F, [⟨24, 8, .lk, []⟩, ⟨20, 3, .lk, []⟩, ⟨16, 1, .w1s, []⟩, ⟨8, 5, .lk, []⟩, ⟨0, 5, .lk, []⟩]⟩,  -- GUARDp_CFG
  ⟨0x1344, 16, 5, 0x0, [⟨16, 16, .img, []⟩, ⟨0, 16, .img, []⟩]⟩,  -- GUARDp_TRIP1
  ⟨0x1348, 16, 5, 0x3E80000, [⟨16, 16, .lk, []⟩, ⟨0, 16, .img, []⟩]⟩,  -- GUARDp_TRIP2
  ⟨0x134C, 16, 5, 0x0, [⟨16, 16, .ro, []⟩, ⟨8, 3, .ro, []⟩, ⟨6, 1, .w1c, []⟩, ⟨5, 1, .w1c, []⟩, ⟨4, 1, .ro, []⟩, ⟨3, 1, .w1c, []⟩, ⟨2, 1, .w1c, []⟩, ⟨1, 1, .w1c, []⟩, ⟨0, 1, .ro, []⟩]⟩  -- GUARDp_STAT
]

/-- Field maps of the Ring registers: Ring Link and USB PD (R267, R268). -/
def regTableRingA : List RegDesc := [
  ⟨0x1400, 4, 1, 0x0, [⟨16, 1, .ro, []⟩, ⟨0, 12, .lk, []⟩]⟩,  -- RING_ADDR
  ⟨0x1404, 4, 1, 0xE320A, [⟨20, 12, .lk, []⟩, ⟨19, 1, .lk, []⟩, ⟨18, 1, .lk, []⟩, ⟨17, 1, .lk, []⟩, ⟨8, 8, .lk, []⟩, ⟨0, 8, .lk, []⟩]⟩,  -- RING_CFG
  ⟨0x1408, 4, 1, 0x0, [⟨8, 8, .rw, []⟩, ⟨4, 1, .w1s, []⟩, ⟨3, 1, .w1s, []⟩, ⟨2, 1, .w1s, []⟩, ⟨1, 1, .w1s, []⟩, ⟨0, 1, .w1s, []⟩]⟩,  -- RING_CTL
  ⟨0x140C, 4, 1, 0x0, [⟨31, 1, .w1c, []⟩, ⟨29, 1, .w1c, []⟩, ⟨16, 12, .ro, []⟩, ⟨8, 8, .ro, []⟩, ⟨0, 8, .ro, []⟩]⟩,  -- RING_EMERG
  ⟨0x1410, 16, 2, 0x0, [⟨20, 12, .ro, []⟩, ⟨17, 3, .ro, []⟩, ⟨15, 2, .ro, []⟩, ⟨14, 1, .w1c, []⟩, ⟨13, 1, .w1c, []⟩, ⟨0, 3, .ro, []⟩]⟩,  -- SEGs_STAT
  ⟨0x1414, 16, 2, 0x0, [⟨16, 16, .ro, []⟩, ⟨0, 16, .ro, []⟩]⟩,  -- SEGs_CONTRACT
  ⟨0x1418, 16, 2, 0x0, [⟨24, 8, .rc, []⟩, ⟨16, 8, .rc, []⟩, ⟨8, 8, .rc, []⟩, ⟨0, 8, .rc, []⟩]⟩,  -- SEGs_CNT
  ⟨0x141C, 16, 2, 0x12C00001, [⟨16, 16, .lk, []⟩, ⟨0, 2, .lk, [3]⟩]⟩,  -- SEGs_POLICY
  ⟨0x1430, 4, 1, 0x80000, [⟨23, 9, .ro, []⟩, ⟨12, 9, .ro, []⟩, ⟨0, 8, .rc, []⟩]⟩,  -- FLOW_STAT
  ⟨0x1434, 4, 1, 0x0, [⟨0, 8, .rw, []⟩]⟩  -- FLOW_SEL
]

/-- Field maps of the Ring registers: Ring Link and USB PD (R267, R268). -/
def regTableRingB : List RegDesc := [
  ⟨0x1438, 4, 1, 0x0, [⟨20, 12, .ro, []⟩, ⟨18, 2, .ro, []⟩, ⟨16, 2, .ro, []⟩, ⟨0, 16, .ro, []⟩]⟩,  -- FLOW_CTX0
  ⟨0x143C, 4, 1, 0x0, [⟨16, 16, .ro, []⟩, ⟨0, 16, .ro, []⟩]⟩,  -- FLOW_CTX1
  ⟨0x1440, 4, 1, 0x0, [⟨0, 32, .ro, []⟩]⟩,  -- FLOW_CTX2
  ⟨0x1444, 4, 1, 0x0, [⟨16, 16, .ro, []⟩, ⟨8, 8, .ro, []⟩, ⟨6, 2, .ro, []⟩, ⟨4, 2, .ro, []⟩]⟩,  -- FLOW_CTX3
  ⟨0x1500, 4, 1, 0x1F0070, [⟨16, 5, .lk, []⟩, ⟨7, 1, .lk, []⟩, ⟨6, 1, .lk, []⟩, ⟨5, 1, .lk, []⟩, ⟨4, 1, .lk, []⟩, ⟨2, 2, .lk, [3]⟩]⟩,  -- PD_CFG
  ⟨0x1504, 4, 1, 0x0, [⟨16, 1, .ro, []⟩, ⟨15, 1, .ro, []⟩, ⟨14, 1, .ro, []⟩, ⟨13, 1, .ro, []⟩, ⟨12, 1, .ro, []⟩, ⟨11, 1, .ro, []⟩, ⟨9, 1, .w1c, []⟩, ⟨8, 1, .w1c, []⟩, ⟨3, 2, .ro, []⟩, ⟨0, 3, .ro, []⟩]⟩,  -- PD_STAT
  ⟨0x1508, 4, 1, 0x0, [⟨16, 16, .ro, []⟩, ⟨0, 16, .ro, []⟩]⟩,  -- PD_CONTRACT
  ⟨0x150C, 4, 1, 0x0, [⟨15, 1, .ro, []⟩, ⟨14, 1, .ro, []⟩, ⟨12, 2, .ro, []⟩, ⟨8, 2, .ro, []⟩]⟩,  -- PD_CABLE
  ⟨0x1510, 4, 1, 0x812C01F4, [⟨31, 1, .lk, []⟩, ⟨16, 10, .lk, []⟩, ⟨0, 13, .lk, []⟩]⟩,  -- PD_PDO0 to PD_PDO6
  ⟨0x1514, 4, 6, 0x0, [⟨31, 1, .lk, []⟩, ⟨16, 10, .lk, []⟩, ⟨0, 13, .lk, []⟩]⟩,  -- PD_PDO0 to PD_PDO6
  ⟨0x152C, 4, 1, 0x7D0012C, [⟨16, 13, .lk, []⟩, ⟨0, 10, .lk, []⟩]⟩  -- PD_SNK
]

/-- Field maps of the Ring registers: Ring Link and USB PD (R267, R268). -/
def regTableRingC : List RegDesc := [
  ⟨0x1530, 4, 1, 0x0, [⟨24, 8, .rc, []⟩, ⟨16, 8, .rc, []⟩, ⟨8, 8, .rc, []⟩, ⟨0, 8, .rc, []⟩]⟩,  -- PD_CNT
  ⟨0x1540, 4, 1, 0xA1D, [⟨16, 5, .ro, []⟩, ⟨8, 8, .lk, []⟩, ⟨2, 3, .lk, []⟩, ⟨0, 1, .lk, []⟩]⟩  -- PDIS_CFG
]

/-- Field maps of the Path registers: power path, charger, ship mode, lamps (R214 to R216). -/
def regTablePathA : List RegDesc := [
  ⟨0x1800, 4, 1, 0x0, [⟨24, 1, .ro, []⟩, ⟨16, 8, .ro, []⟩, ⟨11, 4, .ro, []⟩, ⟨10, 1, .ro, []⟩, ⟨9, 1, .ro, []⟩, ⟨8, 1, .ro, []⟩, ⟨4, 3, .ro, []⟩, ⟨0, 3, .ro, []⟩]⟩,  -- PATH_STAT
  ⟨0x1804, 4, 1, 0x0, [⟨1, 1, .w1s, []⟩, ⟨0, 1, .w1s, []⟩]⟩,  -- PATH_CTL
  ⟨0x1808, 4, 1, 0x0, [⟨16, 16, .ro, []⟩, ⟨0, 16, .ro, []⟩]⟩,  -- PATH_CNT
  ⟨0x180C, 4, 1, 0xFFFFFFFF, [⟨24, 8, .img, []⟩, ⟨16, 8, .img, []⟩, ⟨8, 8, .img, []⟩, ⟨0, 8, .img, []⟩]⟩,  -- SRC_ORDER
  ⟨0x1810, 4, 1, 0x0, [⟨8, 1, .img, []⟩, ⟨0, 4, .img, []⟩]⟩,  -- SRC_SHARE
  ⟨0x1820, 16, 5, 0x0, [⟨16, 16, .img, []⟩, ⟨0, 16, .img, []⟩]⟩,  -- PORTp_QUAL
  ⟨0x1824, 16, 5, 0x0, [⟨16, 16, .img, []⟩, ⟨0, 16, .rw, []⟩]⟩,  -- PORTp_ILIM
  ⟨0x1828, 16, 5, 0x0, [⟨16, 16, .img, []⟩, ⟨0, 16, .rw, []⟩]⟩,  -- PORTp_OLIM
  ⟨0x182C, 16, 5, 0x0, [⟨16, 16, .ro, []⟩, ⟨8, 7, .ro, []⟩, ⟨6, 1, .w1c, []⟩, ⟨5, 1, .ro, []⟩, ⟨4, 1, .ro, []⟩, ⟨3, 1, .ro, []⟩, ⟨2, 1, .ro, []⟩, ⟨0, 2, .ro, []⟩]⟩,  -- PORTp_STAT
  ⟨0x1880, 4, 1, 0xFF000000, [⟨24, 8, .img, []⟩, ⟨16, 3, .img, []⟩, ⟨8, 5, .img, []⟩, ⟨0, 3, .img, []⟩]⟩  -- CHG_CFG
]

/-- Field maps of the Path registers: power path, charger, ship mode, lamps (R214 to R216). -/
def regTablePathB : List RegDesc := [
  ⟨0x1884, 4, 1, 0x0, [⟨16, 16, .img, []⟩, ⟨0, 16, .img, []⟩]⟩,  -- CHG_VTH
  ⟨0x1888, 4, 1, 0x0, [⟨16, 16, .img, []⟩, ⟨0, 16, .img, []⟩]⟩,  -- CHG_VCV
  ⟨0x188C, 4, 1, 0x0, [⟨16, 16, .img, []⟩, ⟨0, 16, .img, []⟩]⟩,  -- CHG_IPRE
  ⟨0x1890, 4, 1, 0x0, [⟨16, 16, .img, []⟩, ⟨0, 16, .rw, []⟩]⟩,  -- CHG_ICC
  ⟨0x1894, 4, 1, 0x0, [⟨0, 16, .img, []⟩]⟩,  -- CHG_ITERM
  ⟨0x1898, 4, 1, 0x0, [⟨16, 16, .img, []⟩, ⟨0, 16, .img, []⟩]⟩,  -- CHG_TMR1
  ⟨0x189C, 4, 1, 0x0, [⟨16, 16, .img, []⟩, ⟨0, 16, .img, []⟩]⟩,  -- CHG_TMR2
  ⟨0x18A0, 4, 1, 0x640000, [⟨16, 16, .img, []⟩, ⟨0, 16, .img, []⟩]⟩,  -- CHG_TEDGE_A
  ⟨0x18A4, 4, 1, 0x22601C2, [⟨16, 16, .img, []⟩, ⟨0, 16, .img, []⟩]⟩,  -- CHG_TEDGE_B
  ⟨0x18A8, 4, 1, 0x14141414, [⟨24, 8, .img, []⟩, ⟨16, 8, .img, []⟩, ⟨8, 8, .img, []⟩, ⟨0, 8, .img, []⟩]⟩  -- CHG_THYST
]

/-- Field maps of the Path registers: power path, charger, ship mode, lamps (R214 to R216). -/
def regTablePathC : List RegDesc := [
  ⟨0x18AC, 4, 1, 0x5F0A3232, [⟨24, 8, .lk, []⟩, ⟨16, 8, .lk, []⟩, ⟨8, 8, .lk, []⟩, ⟨0, 8, .lk, []⟩]⟩,  -- CHG_TADJ
  ⟨0x18B0, 4, 1, 0x0, [⟨0, 16, .lk, []⟩]⟩,  -- CHG_BAT
  ⟨0x18B4, 4, 1, 0x0, [⟨16, 16, .lk, []⟩, ⟨0, 16, .lk, []⟩]⟩,  -- CHG_VFLOOR
  ⟨0x18B8, 4, 1, 0x0, [⟨16, 16, .img, []⟩, ⟨0, 16, .rw, []⟩]⟩,  -- CHG_RESV
  ⟨0x18BC, 4, 1, 0x10000000, [⟨31, 1, .ro, []⟩, ⟨30, 1, .ro, []⟩, ⟨29, 1, .ro, []⟩, ⟨28, 1, .ro, []⟩, ⟨0, 16, .img, []⟩]⟩,  -- CHG_RESV_E
  ⟨0x18C0, 4, 1, 0x0, [⟨16, 16, .ro, []⟩, ⟨0, 16, .ro, []⟩]⟩,  -- CHG_ENERGY
  ⟨0x18C4, 4, 1, 0x79, [⟨20, 12, .ro, []⟩, ⟨16, 4, .ro, []⟩, ⟨12, 4, .ro, []⟩, ⟨10, 1, .ro, []⟩, ⟨8, 2, .ro, []⟩, ⟨7, 1, .ro, []⟩, ⟨4, 3, .ro, []⟩, ⟨0, 4, .ro, []⟩]⟩,  -- CHG_PHASE
  ⟨0x18C8, 4, 1, 0x0, [⟨16, 16, .ro, []⟩, ⟨0, 16, .ro, []⟩]⟩,  -- CHG_MEAS
  ⟨0x18CC, 4, 1, 0x1, [⟨8, 1, .w1c, []⟩, ⟨2, 1, .w1s, []⟩, ⟨1, 1, .w1s, []⟩, ⟨0, 1, .rw, []⟩]⟩,  -- CHG_CTL
  ⟨0x18E0, 4, 1, 0x0, [⟨1, 1, .w1s, []⟩, ⟨0, 1, .w1s, []⟩]⟩  -- PWR_CTL
]

/-- Field maps of the Path registers: power path, charger, ship mode, lamps (R214 to R216). -/
def regTablePathD : List RegDesc := [
  ⟨0x18E4, 4, 1, 0x0, [⟨16, 16, .ro, []⟩, ⟨4, 4, .ro, []⟩, ⟨1, 1, .ro, []⟩, ⟨0, 1, .ro, []⟩]⟩,  -- PWR_STAT
  ⟨0x18E8, 4, 1, 0x0, [⟨20, 3, .ro, []⟩, ⟨16, 3, .ro, []⟩, ⟨4, 3, .rw, [7]⟩, ⟨0, 3, .rw, [7]⟩]⟩  -- STAT_CTL
]

/-- Field maps of the Thermal registers: sensors and zones (R341 to R343). -/
def regTableThermalA : List RegDesc := [
  ⟨0x1C00, 32, 12, 0xFFFF, [⟨8, 8, .img, []⟩, ⟨0, 8, .img, []⟩]⟩,  -- TSn_MAP
  ⟨0x1C04, 32, 4, 0x917D73, [⟨16, 8, .lk, []⟩, ⟨8, 8, .lk, []⟩, ⟨0, 8, .lk, []⟩]⟩,  -- TSn_TH
  ⟨0x1C84, 32, 8, 0x6E5F55, [⟨16, 8, .lk, []⟩, ⟨8, 8, .lk, []⟩, ⟨0, 8, .lk, []⟩]⟩,  -- TSn_TH
  ⟨0x1C08, 32, 12, 0xAAA, [⟨8, 4, .lk, []⟩, ⟨4, 4, .lk, []⟩, ⟨0, 4, .lk, []⟩]⟩,  -- TSn_HYST
  ⟨0x1C0C, 32, 12, 0x0, [⟨20, 4, .ro, []⟩, ⟨19, 1, .ro, []⟩, ⟨18, 1, .ro, []⟩, ⟨16, 2, .ro, []⟩, ⟨0, 16, .ro, []⟩]⟩,  -- TSn_VAL
  ⟨0x1C10, 32, 4, 0, []⟩,  -- TSn_NTC
  ⟨0x1C90, 32, 8, 0xD6B03E8, [⟨16, 16, .lk, []⟩, ⟨15, 1, .lk, []⟩, ⟨0, 15, .lk, []⟩]⟩,  -- TSn_NTC
  ⟨0x1C14, 32, 12, 0x0, [⟨17, 1, .ro, []⟩, ⟨16, 1, .ro, []⟩, ⟨12, 4, .ro, []⟩, ⟨8, 1, .ro, []⟩, ⟨0, 8, .rc, []⟩]⟩,  -- TSn_STAT
  ⟨0x1D80, 16, 4, 0x1010, [⟨16, 6, .img, []⟩, ⟨8, 5, .img, []⟩, ⟨0, 5, .rw, []⟩]⟩,  -- ZONEz_CFG
  ⟨0x1D84, 16, 4, 0x800F7FFF, [⟨27, 5, .ro, []⟩, ⟨26, 1, .ro, []⟩, ⟨25, 1, .ro, []⟩, ⟨24, 1, .ro, []⟩, ⟨22, 2, .ro, []⟩, ⟨20, 2, .ro, []⟩, ⟨16, 4, .ro, []⟩, ⟨0, 16, .ro, []⟩]⟩,  -- ZONEz_STAT
  ⟨0x1DC0, 4, 1, 0xF7FFF, [⟨16, 4, .ro, []⟩, ⟨0, 16, .ro, []⟩]⟩,  -- THERM_MAX
  ⟨0x1DC4, 4, 1, 0x0, [⟨24, 8, .ro, []⟩, ⟨16, 8, .ro, []⟩, ⟨9, 1, .w1c, []⟩, ⟨8, 1, .w1c, []⟩, ⟨0, 1, .ro, []⟩]⟩  -- THERM_HW
]

/-- Field maps of the Thermal registers: sensors and zones (R341 to R343). -/
def regTableThermalB : List RegDesc := [
  ⟨0x1DC8, 4, 1, 0x0, [⟨0, 32, .ro, []⟩]⟩  -- THERM_ROUND
]

/-- Field maps of the Timer registers: PTB, timers, slots (R298 to R300). -/
def regTableTimerA : List RegDesc := [
  ⟨0x2000, 4, 1, 0x1F0, [⟨4, 5, .img, []⟩, ⟨3, 1, .img, []⟩, ⟨2, 1, .img, []⟩, ⟨0, 2, .img, []⟩]⟩,  -- PTB_MAP
  ⟨0x2004, 4, 1, 0xA080031, [⟨24, 8, .lk, []⟩, ⟨16, 8, .lk, []⟩, ⟨8, 4, .lk, []⟩, ⟨4, 4, .lk, []⟩, ⟨1, 1, .lk, []⟩, ⟨0, 1, .lk, []⟩]⟩,  -- PTB_CFG
  ⟨0x2008, 4, 1, 0x0, [⟨0, 1, .w1s, []⟩]⟩,  -- PTB_CTL
  ⟨0x200C, 4, 1, 0x0, [⟨0, 32, .rw, []⟩]⟩,  -- PTB_SETV
  ⟨0x2010, 4, 1, 0x0, [⟨0, 16, .ro, []⟩]⟩,  -- PTB_FRAC
  ⟨0x2014, 4, 1, 0x0, [⟨0, 32, .ro, []⟩]⟩,  -- PTB_INT
  ⟨0x2018, 4, 1, 0x0, [⟨10, 1, .w1c, []⟩, ⟨9, 1, .w1c, []⟩, ⟨8, 1, .w1c, []⟩, ⟨3, 1, .ro, []⟩, ⟨2, 1, .ro, []⟩, ⟨1, 1, .ro, []⟩, ⟨0, 1, .ro, []⟩]⟩,  -- PTB_STAT
  ⟨0x201C, 4, 1, 0x0, [⟨0, 32, .ro, []⟩]⟩,  -- PTB_IVL
  ⟨0x2020, 4, 1, 0x0, [⟨0, 32, .ro, []⟩]⟩,  -- PTB_QZ
  ⟨0x2024, 4, 1, 0x0, [⟨16, 16, .rc, []⟩, ⟨0, 16, .rc, []⟩]⟩  -- PTB_ERR
]

/-- Field maps of the Timer registers: PTB, timers, slots (R298 to R300). -/
def regTableTimerB : List RegDesc := [
  ⟨0x2028, 4, 1, 0x0, [⟨0, 32, .w1c, []⟩]⟩,  -- PTB_HIT
  ⟨0x2040, 32, 12, 0x70, [⟨16, 8, .img, []⟩, ⟨8, 8, .img, []⟩, ⟨4, 3, .img, []⟩, ⟨0, 2, .img, []⟩]⟩,  -- GTn_MAP
  ⟨0x2044, 32, 12, 0x1F0090, [⟨24, 8, .lk, []⟩, ⟨16, 5, .lk, []⟩, ⟨8, 2, .lk, [3]⟩, ⟨7, 1, .lk, []⟩, ⟨6, 1, .lk, []⟩, ⟨5, 1, .lk, []⟩, ⟨4, 1, .lk, []⟩, ⟨2, 2, .lk, [3]⟩, ⟨0, 2, .lk, [3]⟩]⟩,  -- GTn_CFG
  ⟨0x2048, 32, 12, 0xFFFF, [⟨0, 16, .img, []⟩]⟩,  -- GTn_INIT
  ⟨0x204C, 32, 12, 0x0, [⟨0, 16, .rw, []⟩]⟩,  -- GTn_CNT
  ⟨0x2050, 32, 12, 0xFFFFFFFF, [⟨16, 16, .ro, []⟩, ⟨0, 16, .rw, []⟩]⟩,  -- GTn_PERIOD
  ⟨0x2054, 32, 12, 0xFFFFFFFF, [⟨16, 16, .ro, []⟩, ⟨0, 16, .rw, []⟩]⟩,  -- GTn_CMP
  ⟨0x2058, 32, 12, 0x0, [⟨0, 16, .ro, []⟩]⟩,  -- GTn_CAP
  ⟨0x205C, 32, 12, 0x0, [⟨19, 1, .w1c, []⟩, ⟨18, 1, .w1c, []⟩, ⟨17, 1, .w1c, []⟩, ⟨16, 1, .w1c, []⟩, ⟨9, 1, .ro, []⟩, ⟨8, 1, .ro, []⟩, ⟨3, 1, .w1s, []⟩, ⟨2, 1, .w1s, []⟩, ⟨1, 1, .w1s, []⟩, ⟨0, 1, .w1s, []⟩]⟩,  -- GTn_CTL
  ⟨0x2200, 16, 32, 0x0, [⟨0, 32, .rw, []⟩]⟩  -- SLOTk_POSI
]

/-- Field maps of the Timer registers: PTB, timers, slots (R298 to R300). -/
def regTableTimerC : List RegDesc := [
  ⟨0x2204, 16, 32, 0x0, [⟨0, 16, .rw, []⟩]⟩,  -- SLOTk_POSF
  ⟨0x2208, 16, 32, 0x0, [⟨25, 1, .ro, []⟩, ⟨24, 1, .ro, []⟩, ⟨17, 1, .img, []⟩, ⟨16, 1, .img, []⟩, ⟨8, 8, .img, []⟩, ⟨0, 8, .img, []⟩]⟩,  -- SLOTk_MAP
  ⟨0x220C, 16, 32, 0x0, [⟨0, 32, .rw, []⟩]⟩  -- SLOTk_ARG
]

/-- Field maps of the Lens registers: lenses (R317, R318). -/
def regTableLens : List RegDesc := [
  ⟨0x2400, 16, 24, 0x4000FF, [⟨23, 1, .lk, []⟩, ⟨22, 1, .lk, []⟩, ⟨20, 2, .lk, []⟩, ⟨16, 2, .lk, [2, 3]⟩, ⟨8, 2, .img, []⟩, ⟨0, 8, .img, []⟩]⟩,  -- LENSn_CFG
  ⟨0x2404, 16, 24, 0x0, [⟨8, 8, .rw, []⟩, ⟨0, 8, .rw, []⟩]⟩,  -- LENSn_TH
  ⟨0x2408, 16, 24, 0x0, [⟨2, 1, .w1s, []⟩, ⟨1, 1, .w1s, []⟩, ⟨0, 1, .w1s, []⟩]⟩,  -- LENSn_CTL
  ⟨0x240C, 16, 24, 0x0, [⟨20, 1, .ro, []⟩, ⟨16, 4, .ro, []⟩, ⟨15, 1, .w1c, []⟩, ⟨14, 1, .ro, []⟩, ⟨13, 1, .ro, []⟩, ⟨12, 1, .ro, []⟩, ⟨11, 1, .ro, []⟩, ⟨8, 3, .ro, []⟩, ⟨7, 1, .ro, []⟩, ⟨2, 5, .ro, []⟩, ⟨1, 1, .ro, []⟩, ⟨0, 1, .ro, []⟩]⟩,  -- LENSn_STAT
  ⟨0x2580, 4, 1, 0x0, [⟨0, 24, .ro, []⟩]⟩,  -- LENS_OUT
  ⟨0x2584, 4, 1, 0x0, [⟨0, 24, .w1c, []⟩]⟩,  -- LENS_EVTF
  ⟨0x2588, 4, 1, 0x3C, [⟨0, 8, .lk, []⟩]⟩,  -- LENS_AUTO
  ⟨0x258C, 4, 1, 0x1F1F, [⟨13, 3, .ro, []⟩, ⟨8, 5, .ro, []⟩, ⟨5, 3, .ro, []⟩, ⟨0, 5, .ro, []⟩]⟩  -- LENS_SPARE
]

/-- Field maps of the Wdt registers: watchdog (R364). -/
def regTableWdtA : List RegDesc := [
  ⟨0x2800, 4, 1, 0x0, [⟨24, 8, .img, []⟩, ⟨23, 1, .img, []⟩, ⟨22, 1, .img, []⟩, ⟨16, 5, .img, []⟩, ⟨0, 16, .img, []⟩]⟩,  -- WDT_CFG
  ⟨0x2804, 4, 1, 0x0, [⟨0, 20, .ro, []⟩]⟩,  -- WDT_PERIOD_T
  ⟨0x2808, 4, 1, 0x0, [⟨0, 20, .ro, []⟩]⟩,  -- WDT_OPEN_T
  ⟨0x280C, 4, 1, 0x0, [⟨0, 20, .ro, []⟩]⟩,  -- WDT_COUNT
  ⟨0x2810, 4, 1, 0x0, [⟨16, 16, .ro, []⟩, ⟨0, 16, .ro, []⟩]⟩,  -- WDT_CHAL
  ⟨0x2814, 4, 1, 0x0, [⟨0, 8, .rw, []⟩]⟩,  -- WDT_CHECKIN
  ⟨0x2818, 4, 1, 0x0, [⟨16, 16, .rw, []⟩, ⟨0, 16, .rw, []⟩]⟩,  -- WDT_SERVICE
  ⟨0x281C, 4, 1, 0x0, [⟨12, 1, .w1c, []⟩, ⟨11, 1, .w1c, []⟩, ⟨10, 1, .w1c, []⟩, ⟨9, 1, .w1c, []⟩, ⟨8, 1, .w1c, []⟩, ⟨4, 1, .ro, []⟩, ⟨3, 1, .ro, []⟩, ⟨2, 1, .ro, []⟩, ⟨1, 1, .ro, []⟩, ⟨0, 1, .ro, []⟩]⟩,  -- WDT_STAT
  ⟨0x2820, 4, 1, 0x0, [⟨16, 16, .ro, []⟩, ⟨0, 16, .ro, []⟩]⟩,  -- WDT_FAULT
  ⟨0x2824, 4, 1, 0x0, [⟨16, 16, .ro, []⟩, ⟨0, 4, .ro, []⟩]⟩  -- WDT_LAST
]

/-- Field maps of the Wdt registers: watchdog (R364). -/
def regTableWdtB : List RegDesc := [
  ⟨0x2828, 4, 1, 0x0, [⟨0, 1, .w1s, []⟩]⟩,  -- WDT_CTL
  ⟨0x282C, 4, 1, 0x0, [⟨3, 1, .ro, []⟩, ⟨0, 3, .ro, []⟩]⟩,  -- WDT_FUSE
  ⟨0x2840, 4, 16, 0x0, [⟨16, 16, .img, []⟩, ⟨8, 8, .img, []⟩, ⟨0, 8, .img, []⟩]⟩  -- WDT_TASK0 to WDT_TASK15
]

/-- Field maps of the Event registers: events, FIFO, DMA (R459, R460). -/
def regTableEventA : List RegDesc := [
  ⟨0x2C00, 32, 6, 0x0, [⟨0, 32, .w1c, []⟩]⟩,  -- EVBk_PEND
  ⟨0x2C04, 32, 6, 0x0, [⟨0, 32, .rw, []⟩]⟩,  -- EVBk_INT0
  ⟨0x2C08, 32, 6, 0x0, [⟨0, 32, .rw, []⟩]⟩,  -- EVBk_INT1
  ⟨0x2C0C, 32, 6, 0x0, [⟨0, 32, .rw, []⟩]⟩,  -- EVBk_CORE
  ⟨0x2C10, 32, 6, 0x0, [⟨0, 32, .rw, []⟩]⟩,  -- EVBk_WAKE
  ⟨0x2C14, 32, 6, 0x0, [⟨0, 32, .rw, []⟩]⟩,  -- EVBk_FIFO
  ⟨0x2CC0, 4, 1, 0x0, [⟨0, 6, .w1s, []⟩]⟩,  -- EV_SW
  ⟨0x2CC4, 4, 1, 0x0, [⟨16, 16, .rc, []⟩, ⟨0, 7, .ro, []⟩]⟩,  -- EVF_STAT
  ⟨0x2CC8, 4, 1, 0x0, [⟨31, 1, .ro, []⟩, ⟨30, 1, .ro, []⟩, ⟨16, 8, .ro, []⟩, ⟨0, 16, .ro, []⟩]⟩,  -- EVF_DATA0
  ⟨0x2CCC, 4, 1, 0x0, [⟨0, 32, .ro, []⟩]⟩  -- EVF_DATA1
]

/-- Field maps of the Event registers: events, FIFO, DMA (R459, R460). -/
def regTableEventB : List RegDesc := [
  ⟨0x2CD0, 4, 1, 0x0, [⟨0, 1, .w1s, []⟩]⟩,  -- EVF_CTL
  ⟨0x2D00, 16, 8, 0xFF0000, [⟨16, 8, .rw, []⟩, ⟨2, 14, .rw, []⟩]⟩,  -- DMAn_SRC
  ⟨0x2D04, 16, 8, 0x0, [⟨2, 17, .rw, []⟩]⟩,  -- DMAn_DST
  ⟨0x2D08, 16, 8, 0x0, [⟨31, 1, .rw, []⟩, ⟨0, 13, .rw, []⟩]⟩,  -- DMAn_CTL
  ⟨0x2D0C, 16, 8, 0x0, [⟨16, 16, .rc, []⟩, ⟨0, 13, .ro, []⟩]⟩  -- DMAn_STAT
]

/-- Field maps of the Capture registers: capture, NAND, log, MRAM, prism (R396 to R399). -/
def regTableCaptureA : List RegDesc := [
  ⟨0x3000, 4, 1, 0x0, [⟨16, 16, .img, []⟩, ⟨8, 7, .img, []⟩, ⟨0, 5, .img, []⟩]⟩,  -- CAP_CFG
  ⟨0x3004, 4, 1, 0xFFFFFFFF, [⟨16, 16, .img, []⟩, ⟨0, 16, .img, []⟩]⟩,  -- CAP_EVT
  ⟨0x3008, 4, 4, 0xFFFFFFFF, [⟨0, 32, .img, []⟩]⟩,  -- CAP_CH0 to CAP_CH3
  ⟨0x3018, 4, 1, 0x100, [⟨8, 1, .rw, []⟩, ⟨1, 1, .w1s, []⟩, ⟨0, 1, .w1s, []⟩]⟩,  -- CAP_CTL
  ⟨0x301C, 4, 1, 0x0, [⟨5, 1, .ro, []⟩, ⟨4, 1, .ro, []⟩, ⟨2, 2, .ro, []⟩, ⟨0, 2, .ro, []⟩]⟩,  -- CAP_STAT
  ⟨0x3020, 4, 1, 0x0, [⟨0, 21, .ro, []⟩]⟩,  -- CAP_FRAMES
  ⟨0x3024, 4, 1, 0x0, [⟨16, 16, .rc, []⟩, ⟨0, 16, .ro, []⟩]⟩,  -- CAP_CNT
  ⟨0x3028, 4, 1, 0x0, [⟨0, 32, .ro, []⟩]⟩,  -- CAP_CYCLE
  ⟨0x3040, 4, 1, 0x1E1C0400, [⟨24, 8, .lk, []⟩, ⟨16, 8, .lk, []⟩, ⟨12, 4, .lk, []⟩, ⟨10, 1, .lk, []⟩, ⟨9, 1, .lk, []⟩, ⟨8, 1, .lk, []⟩, ⟨4, 3, .lk, []⟩, ⟨0, 1, .lk, []⟩]⟩,  -- NAND_CFG
  ⟨0x3044, 4, 1, 0x0, [⟨16, 16, .ro, []⟩, ⟨8, 4, .ro, []⟩, ⟨0, 2, .ro, []⟩]⟩  -- NAND_GEOM
]

/-- Field maps of the Capture registers: capture, NAND, log, MRAM, prism (R396 to R399). -/
def regTableCaptureB : List RegDesc := [
  ⟨0x3048, 4, 1, 0x0, [⟨16, 16, .ro, []⟩, ⟨9, 1, .ro, []⟩, ⟨8, 1, .ro, []⟩, ⟨0, 3, .ro, []⟩]⟩,  -- NAND_STAT
  ⟨0x304C, 4, 1, 0x0, [⟨0, 32, .ro, []⟩]⟩,  -- LOG_SEQ
  ⟨0x3050, 4, 1, 0x0, [⟨0, 32, .ro, []⟩]⟩,  -- LOG_TAIL
  ⟨0x3054, 4, 1, 0x0, [⟨16, 16, .ro, []⟩, ⟨0, 16, .ro, []⟩]⟩,  -- LOG_CNT
  ⟨0x3060, 4, 1, 0x0, [⟨0, 32, .rw, []⟩]⟩,  -- REC_SEL
  ⟨0x3064, 4, 1, 0x0, [⟨24, 8, .ro, []⟩, ⟨16, 3, .ro, []⟩, ⟨12, 1, .w1s, []⟩, ⟨0, 10, .rw, []⟩]⟩,  -- REC_CTL
  ⟨0x3068, 4, 1, 0x0, [⟨0, 32, .ro, []⟩]⟩,  -- REC_DATA
  ⟨0x3080, 4, 1, 0x0, [⟨0, 10, .rw, []⟩]⟩,  -- FLOG_SEL
  ⟨0x3084, 4, 1, 0x0, [⟨11, 1, .ro, []⟩, ⟨10, 1, .ro, []⟩, ⟨0, 10, .ro, []⟩]⟩,  -- FLOG_STAT
  ⟨0x30A0, 4, 8, 0x0, [⟨0, 32, .ro, []⟩]⟩  -- FLOG_DATA0 to FLOG_DATA7
]

/-- Field maps of the Capture registers: capture, NAND, log, MRAM, prism (R396 to R399). -/
def regTableCaptureC : List RegDesc := [
  ⟨0x30C0, 4, 1, 0x2C0, [⟨24, 1, .w1c, []⟩, ⟨16, 8, .rc, []⟩, ⟨0, 10, .ro, []⟩]⟩,  -- MRAM_STAT
  ⟨0x30C4, 4, 1, 0x0, [⟨2, 20, .rw, []⟩]⟩,  -- NVADDR
  ⟨0x30C8, 4, 1, 0x0, [⟨0, 32, .rw, []⟩]⟩,  -- NVDATA
  ⟨0x3400, 4, 1, 0x10, [⟨0, 8, .rw, []⟩]⟩,  -- PRISM_TSEL
  ⟨0x3404, 4, 1, 0x80007FFF, [⟨16, 16, .ro, []⟩, ⟨0, 16, .ro, []⟩]⟩,  -- PRISM_TMM
  ⟨0x3408, 4, 1, 0x0, [⟨16, 16, .ro, []⟩, ⟨0, 16, .ro, []⟩]⟩,  -- PRISM_TMEAN
  ⟨0x3440, 8, 5, 0x0, [⟨0, 32, .ro, []⟩]⟩,  -- METERp_IN
  ⟨0x3444, 8, 5, 0x0, [⟨0, 32, .ro, []⟩]⟩  -- METERp_OUT
]

/-- Field maps of the Life registers: self-test, background, life cycle (R428, R429). -/
def regTableLifeA : List RegDesc := [
  ⟨0x3800, 4, 1, 0x19, [⟨0, 8, .lk, []⟩]⟩,  -- ST_CFG
  ⟨0x3804, 4, 1, 0x0, [⟨13, 1, .ro, []⟩, ⟨12, 1, .ro, []⟩, ⟨8, 3, .ro, []⟩, ⟨4, 3, .ro, []⟩, ⟨1, 1, .w1s, []⟩, ⟨0, 1, .w1s, []⟩]⟩,  -- ST_ADC
  ⟨0x3808, 4, 1, 0x0, [⟨8, 6, .ro, []⟩, ⟨5, 1, .ro, []⟩, ⟨4, 1, .ro, []⟩, ⟨3, 1, .ro, []⟩, ⟨2, 1, .ro, []⟩, ⟨1, 1, .ro, []⟩, ⟨0, 1, .ro, []⟩]⟩,  -- FUNC_PEND
  ⟨0x380C, 4, 1, 0xF, [⟨3, 1, .rw, []⟩, ⟨2, 1, .rw, []⟩, ⟨1, 1, .rw, []⟩, ⟨0, 1, .rw, []⟩]⟩,  -- BG_CTL
  ⟨0x3810, 4, 1, 0x0, [⟨16, 16, .ro, []⟩, ⟨0, 16, .ro, []⟩]⟩,  -- BG_STAT
  ⟨0x3814, 4, 1, 0x0, [⟨0, 32, .rc, []⟩]⟩,  -- AVL_DARK
  ⟨0x3C00, 4, 1, 0x100, [⟨16, 8, .ro, []⟩, ⟨15, 1, .ro, []⟩, ⟨14, 1, .ro, []⟩, ⟨8, 4, .ro, []⟩, ⟨4, 4, .ro, []⟩, ⟨0, 2, .ro, []⟩]⟩,  -- LC_STAT
  ⟨0x3C04, 4, 1, 0x0, [⟨31, 1, .w1s, []⟩, ⟨16, 2, .rw, []⟩, ⟨8, 8, .rw, []⟩, ⟨0, 4, .rw, []⟩]⟩,  -- LC_CTL
  ⟨0x3C08, 4, 1, 0x0, [⟨0, 32, .ro, []⟩]⟩,  -- LC_NONCE
  ⟨0x3C0C, 4, 2, 0x0, [⟨0, 32, .ro, []⟩]⟩  -- LC_UID0 and LC_UID1
]

/-- Field maps of the Life registers: self-test, background, life cycle (R428, R429). -/
def regTableLifeB : List RegDesc := [
  ⟨0x3C40, 4, 16, 0x0, [⟨0, 32, .rw, []⟩]⟩,  -- LC_BUF0 to LC_BUF15
  ⟨0x3C80, 4, 16, 0x0, [⟨0, 32, .rw, []⟩]⟩  -- LC_SIG0 to LC_SIG15
]

/-- Every register of R464. -/
def regTable : List RegDesc :=
  regTableSystem ++ regTableImage ++ regTableTileA ++ regTableTileB ++ regTableCourseA ++ regTableCourseB ++ regTableSysA ++ regTableSysB ++ regTableRingA ++ regTableRingB ++ regTableRingC ++ regTablePathA ++ regTablePathB ++ regTablePathC ++ regTablePathD ++ regTableThermalA ++ regTableThermalB ++ regTableTimerA ++ regTableTimerB ++ regTableTimerC ++ regTableLens ++ regTableWdtA ++ regTableWdtB ++ regTableEventA ++ regTableEventB ++ regTableCaptureA ++ regTableCaptureB ++ regTableCaptureC ++ regTableLifeA ++ regTableLifeB

/-- The part of the table that can cover address `a` (R461: each chapter's registers lie in one address range). -/
def regPage (a : Nat) : List RegDesc :=
  if a < 0x400 then regTableSystem
  else if a < 0x800 then regTableImage
  else if a < 0x1000 then regTableTileA ++ regTableTileB
  else if a < 0x1300 then regTableCourseA ++ regTableCourseB
  else if a < 0x1400 then regTableSysA ++ regTableSysB
  else if a < 0x1800 then regTableRingA ++ regTableRingB ++ regTableRingC
  else if a < 0x1C00 then regTablePathA ++ regTablePathB ++ regTablePathC ++ regTablePathD
  else if a < 0x2000 then regTableThermalA ++ regTableThermalB
  else if a < 0x2400 then regTableTimerA ++ regTableTimerB ++ regTableTimerC
  else if a < 0x2800 then regTableLens
  else if a < 0x2C00 then regTableWdtA ++ regTableWdtB
  else if a < 0x3000 then regTableEventA ++ regTableEventB
  else if a < 0x3800 then regTableCaptureA ++ regTableCaptureB ++ regTableCaptureC
  else if a < 0x4000 then regTableLifeA ++ regTableLifeB
  else []

/-- The descriptor covers address `a` (R463). -/
def RegDesc.covers (d : RegDesc) (a : Nat) : Bool :=
  decide (d.base ≤ a) && (a - d.base) % d.stride == 0 && decide ((a - d.base) / d.stride < d.count)

/-- The register at `a`; none where R462 says the address holds no register. -/
def regAt (a : Nat) : Option RegDesc := (regPage a).find? (·.covers a)

/-- The value an address reads as after a reset (R15): the field map's reset value, 0 where no register lies. -/
def resetWord (a : Nat) : Word :=
  match regAt a with
  | some d => BitVec.ofNat 32 d.reset
  | none => 0

/-- The bits of a field of `width` bits from bit `lo`. -/
def fieldMask (lo width : Nat) : Word := BitVec.ofNat 32 ((2 ^ width - 1) * 2 ^ lo)

/-- The bits of the fields whose access code satisfies `p`. -/
def RegDesc.mask (d : RegDesc) (p : Access → Bool) : Word :=
  d.fields.foldl (fun m f => if p f.acc then m ||| fieldMask f.lo f.width else m) 0

/-- The value of field `f` in register word `w`. -/
def Field.read (f : Field) (w : Word) : Nat := (w >>> f.lo).toNat % 2 ^ f.width

/-- Register word `w` with field `f` holding `v` (its low bits). -/
def Field.write (f : Field) (v : Nat) (w : Word) : Word :=
  (w &&& ~~~ fieldMask f.lo f.width) ||| ((BitVec.ofNat 32 v <<< f.lo) &&& fieldMask f.lo f.width)

/-! ### Register addresses (R464). An array's argument is the element's index. -/
namespace R

def DEVID : Nat := 0x0
def SYSCFG : Nat := 0x4
def RSTCAUSE : Nat := 0x8
def HOST_STAT : Nat := 0xC
def TIME_LO : Nat := 0x10
def TIME_HI : Nat := 0x14
def TIME_SETH : Nat := 0x18
def TIME_SETL : Nat := 0x1C
def DBG_CTL : Nat := 0x20
def IMGCTL : Nat := 0x400
def IMGSTAT : Nat := 0x404
def IMGRESULT : Nat := 0x408
def IMGINFO : Nat := 0x40C
def IMGADDR : Nat := 0x410
def IMGDATA : Nat := 0x414
def IMGSVN : Nat := 0x418
def IMGDIGEST (i : Nat) : Nat := 0x420 + 4 * i
def SCRUBSTAT : Nat := 0x440
def TILE_MAP (i : Nat) : Nat := 0x800 + 64 * i
def TILE_CFG (i : Nat) : Nat := 0x804 + 64 * i
def TILE_TIMING (i : Nat) : Nat := 0x808 + 64 * i
def TILE_SCALE (i : Nat) : Nat := 0x80C + 64 * i
def TILE_TRIM (i : Nat) : Nat := 0x810 + 64 * i
def TILE_CTL (i : Nat) : Nat := 0x814 + 64 * i
def TILE_STAT (i : Nat) : Nat := 0x818 + 64 * i
def TILE_FAULT (i : Nat) : Nat := 0x81C + 64 * i
def TILE_PHASE (i : Nat) : Nat := 0x820 + 64 * i
def TILE_IPK (i : Nat) : Nat := 0x824 + 64 * i
def TILE_IMEAS (i : Nat) : Nat := 0x828 + 64 * i
def TILE_CYCLES (i : Nat) : Nat := 0x82C + 64 * i
def TILE_TEST (i : Nat) : Nat := 0x830 + 64 * i
def TILE_DUMP (i : Nat) : Nat := 0x834 + 64 * i
def TILE_DUMPSTAT (i : Nat) : Nat := 0x838 + 64 * i
def C_MAP (i : Nat) : Nat := 0x1000 + 128 * i
def C_TILES (i : Nat) : Nat := 0x1004 + 128 * i
def C_SHED (i : Nat) : Nat := 0x1008 + 128 * i
def C_STEP (i : Nat) : Nat := 0x100C + 128 * i
def C_OFFSET (i : Nat) : Nat := 0x1010 + 128 * i
def C_CTL (i : Nat) : Nat := 0x1014 + 128 * i
def C_STAT (i : Nat) : Nat := 0x1018 + 128 * i
def C_EVT (i : Nat) : Nat := 0x101C + 128 * i
def C_SHEDCNT (i : Nat) : Nat := 0x1020 + 128 * i
def C_IMEAN (i : Nat) : Nat := 0x1024 + 128 * i
def C_MODE (i : Nat) : Nat := 0x1040 + 128 * i
def C_ILIM (i : Nat) : Nat := 0x1044 + 128 * i
def C_LOOP (i : Nat) : Nat := 0x1048 + 128 * i
def C_SLOPE (i : Nat) : Nat := 0x104C + 128 * i
def C_TRACK (i : Nat) : Nat := 0x1050 + 128 * i
def C_REF (i : Nat) : Nat := 0x1054 + 128 * i
def C_DEMAND (i : Nat) : Nat := 0x1058 + 128 * i
def C_RSTAT (i : Nat) : Nat := 0x105C + 128 * i
def C_PCTL (i : Nat) : Nat := 0x1060 + 128 * i
def C_MIRROR (i : Nat) : Nat := 0x1064 + 128 * i
def SYS_SETPT : Nat := 0x1300
def SYS_LOADLINE : Nat := 0x1304
def SYS_BOUNDS : Nat := 0x1308
def SYS_FLOOR : Nat := 0x130C
def SYS_WIN : Nat := 0x1310
def SYS_SURPLUS : Nat := 0x1314
def SYS_CB : Nat := 0x1318
def SYS_MEAS : Nat := 0x131C
def SYS_TARGET : Nat := 0x1320
def SYS_STAT : Nat := 0x1324
def SYS_OOW : Nat := 0x1328
def HOLD_CFG : Nat := 0x132C
def HOLD_STAT : Nat := 0x1330
def GUARD_CFG (i : Nat) : Nat := 0x1340 + 16 * i
def GUARD_TRIP1 (i : Nat) : Nat := 0x1344 + 16 * i
def GUARD_TRIP2 (i : Nat) : Nat := 0x1348 + 16 * i
def GUARD_STAT (i : Nat) : Nat := 0x134C + 16 * i
def RING_ADDR : Nat := 0x1400
def RING_CFG : Nat := 0x1404
def RING_CTL : Nat := 0x1408
def RING_EMERG : Nat := 0x140C
def SEG_STAT (i : Nat) : Nat := 0x1410 + 16 * i
def SEG_CONTRACT (i : Nat) : Nat := 0x1414 + 16 * i
def SEG_CNT (i : Nat) : Nat := 0x1418 + 16 * i
def SEG_POLICY (i : Nat) : Nat := 0x141C + 16 * i
def FLOW_STAT : Nat := 0x1430
def FLOW_SEL : Nat := 0x1434
def FLOW_CTX0 : Nat := 0x1438
def FLOW_CTX1 : Nat := 0x143C
def FLOW_CTX2 : Nat := 0x1440
def FLOW_CTX3 : Nat := 0x1444
def PD_CFG : Nat := 0x1500
def PD_STAT : Nat := 0x1504
def PD_CONTRACT : Nat := 0x1508
def PD_CABLE : Nat := 0x150C
def PD_PDO (i : Nat) : Nat := 0x1510 + 4 * i
def PD_SNK : Nat := 0x152C
def PD_CNT : Nat := 0x1530
def PDIS_CFG : Nat := 0x1540
def PATH_STAT : Nat := 0x1800
def PATH_CTL : Nat := 0x1804
def PATH_CNT : Nat := 0x1808
def SRC_ORDER : Nat := 0x180C
def SRC_SHARE : Nat := 0x1810
def PORT_QUAL (i : Nat) : Nat := 0x1820 + 16 * i
def PORT_ILIM (i : Nat) : Nat := 0x1824 + 16 * i
def PORT_OLIM (i : Nat) : Nat := 0x1828 + 16 * i
def PORT_STAT (i : Nat) : Nat := 0x182C + 16 * i
def CHG_CFG : Nat := 0x1880
def CHG_VTH : Nat := 0x1884
def CHG_VCV : Nat := 0x1888
def CHG_IPRE : Nat := 0x188C
def CHG_ICC : Nat := 0x1890
def CHG_ITERM : Nat := 0x1894
def CHG_TMR1 : Nat := 0x1898
def CHG_TMR2 : Nat := 0x189C
def CHG_TEDGE_A : Nat := 0x18A0
def CHG_TEDGE_B : Nat := 0x18A4
def CHG_THYST : Nat := 0x18A8
def CHG_TADJ : Nat := 0x18AC
def CHG_BAT : Nat := 0x18B0
def CHG_VFLOOR : Nat := 0x18B4
def CHG_RESV : Nat := 0x18B8
def CHG_RESV_E : Nat := 0x18BC
def CHG_ENERGY : Nat := 0x18C0
def CHG_PHASE : Nat := 0x18C4
def CHG_MEAS : Nat := 0x18C8
def CHG_CTL : Nat := 0x18CC
def PWR_CTL : Nat := 0x18E0
def PWR_STAT : Nat := 0x18E4
def STAT_CTL : Nat := 0x18E8
def TS_MAP (i : Nat) : Nat := 0x1C00 + 32 * i
def TS_TH (i : Nat) : Nat := 0x1C04 + 32 * i
def TS_HYST (i : Nat) : Nat := 0x1C08 + 32 * i
def TS_VAL (i : Nat) : Nat := 0x1C0C + 32 * i
def TS_NTC (i : Nat) : Nat := 0x1C10 + 32 * i
def TS_STAT (i : Nat) : Nat := 0x1C14 + 32 * i
def ZONE_CFG (i : Nat) : Nat := 0x1D80 + 16 * i
def ZONE_STAT (i : Nat) : Nat := 0x1D84 + 16 * i
def THERM_MAX : Nat := 0x1DC0
def THERM_HW : Nat := 0x1DC4
def THERM_ROUND : Nat := 0x1DC8
def PTB_MAP : Nat := 0x2000
def PTB_CFG : Nat := 0x2004
def PTB_CTL : Nat := 0x2008
def PTB_SETV : Nat := 0x200C
def PTB_FRAC : Nat := 0x2010
def PTB_INT : Nat := 0x2014
def PTB_STAT : Nat := 0x2018
def PTB_IVL : Nat := 0x201C
def PTB_QZ : Nat := 0x2020
def PTB_ERR : Nat := 0x2024
def PTB_HIT : Nat := 0x2028
def GT_MAP (i : Nat) : Nat := 0x2040 + 32 * i
def GT_CFG (i : Nat) : Nat := 0x2044 + 32 * i
def GT_INIT (i : Nat) : Nat := 0x2048 + 32 * i
def GT_CNT (i : Nat) : Nat := 0x204C + 32 * i
def GT_PERIOD (i : Nat) : Nat := 0x2050 + 32 * i
def GT_CMP (i : Nat) : Nat := 0x2054 + 32 * i
def GT_CAP (i : Nat) : Nat := 0x2058 + 32 * i
def GT_CTL (i : Nat) : Nat := 0x205C + 32 * i
def SLOT_POSI (i : Nat) : Nat := 0x2200 + 16 * i
def SLOT_POSF (i : Nat) : Nat := 0x2204 + 16 * i
def SLOT_MAP (i : Nat) : Nat := 0x2208 + 16 * i
def SLOT_ARG (i : Nat) : Nat := 0x220C + 16 * i
def LENS_CFG (i : Nat) : Nat := 0x2400 + 16 * i
def LENS_TH (i : Nat) : Nat := 0x2404 + 16 * i
def LENS_CTL (i : Nat) : Nat := 0x2408 + 16 * i
def LENS_STAT (i : Nat) : Nat := 0x240C + 16 * i
def LENS_OUT : Nat := 0x2580
def LENS_EVTF : Nat := 0x2584
def LENS_AUTO : Nat := 0x2588
def LENS_SPARE : Nat := 0x258C
def WDT_CFG : Nat := 0x2800
def WDT_PERIOD_T : Nat := 0x2804
def WDT_OPEN_T : Nat := 0x2808
def WDT_COUNT : Nat := 0x280C
def WDT_CHAL : Nat := 0x2810
def WDT_CHECKIN : Nat := 0x2814
def WDT_SERVICE : Nat := 0x2818
def WDT_STAT : Nat := 0x281C
def WDT_FAULT : Nat := 0x2820
def WDT_LAST : Nat := 0x2824
def WDT_CTL : Nat := 0x2828
def WDT_FUSE : Nat := 0x282C
def WDT_TASK (i : Nat) : Nat := 0x2840 + 4 * i
def EVB_PEND (i : Nat) : Nat := 0x2C00 + 32 * i
def EVB_INT0 (i : Nat) : Nat := 0x2C04 + 32 * i
def EVB_INT1 (i : Nat) : Nat := 0x2C08 + 32 * i
def EVB_CORE (i : Nat) : Nat := 0x2C0C + 32 * i
def EVB_WAKE (i : Nat) : Nat := 0x2C10 + 32 * i
def EVB_FIFO (i : Nat) : Nat := 0x2C14 + 32 * i
def EV_SW : Nat := 0x2CC0
def EVF_STAT : Nat := 0x2CC4
def EVF_DATA0 : Nat := 0x2CC8
def EVF_DATA1 : Nat := 0x2CCC
def EVF_CTL : Nat := 0x2CD0
def DMA_SRC (i : Nat) : Nat := 0x2D00 + 16 * i
def DMA_DST (i : Nat) : Nat := 0x2D04 + 16 * i
def DMA_CTL (i : Nat) : Nat := 0x2D08 + 16 * i
def DMA_STAT (i : Nat) : Nat := 0x2D0C + 16 * i
def CAP_CFG : Nat := 0x3000
def CAP_EVT : Nat := 0x3004
def CAP_CH (i : Nat) : Nat := 0x3008 + 4 * i
def CAP_CTL : Nat := 0x3018
def CAP_STAT : Nat := 0x301C
def CAP_FRAMES : Nat := 0x3020
def CAP_CNT : Nat := 0x3024
def CAP_CYCLE : Nat := 0x3028
def NAND_CFG : Nat := 0x3040
def NAND_GEOM : Nat := 0x3044
def NAND_STAT : Nat := 0x3048
def LOG_SEQ : Nat := 0x304C
def LOG_TAIL : Nat := 0x3050
def LOG_CNT : Nat := 0x3054
def REC_SEL : Nat := 0x3060
def REC_CTL : Nat := 0x3064
def REC_DATA : Nat := 0x3068
def FLOG_SEL : Nat := 0x3080
def FLOG_STAT : Nat := 0x3084
def FLOG_DATA (i : Nat) : Nat := 0x30A0 + 4 * i
def MRAM_STAT : Nat := 0x30C0
def NVADDR : Nat := 0x30C4
def NVDATA : Nat := 0x30C8
def PRISM_TSEL : Nat := 0x3400
def PRISM_TMM : Nat := 0x3404
def PRISM_TMEAN : Nat := 0x3408
def METER_IN (i : Nat) : Nat := 0x3440 + 8 * i
def METER_OUT (i : Nat) : Nat := 0x3444 + 8 * i
def ST_CFG : Nat := 0x3800
def ST_ADC : Nat := 0x3804
def FUNC_PEND : Nat := 0x3808
def BG_CTL : Nat := 0x380C
def BG_STAT : Nat := 0x3810
def AVL_DARK : Nat := 0x3814
def LC_STAT : Nat := 0x3C00
def LC_CTL : Nat := 0x3C04
def LC_NONCE : Nat := 0x3C08
def LC_UID (i : Nat) : Nat := 0x3C0C + 4 * i
def LC_BUF (i : Nat) : Nat := 0x3C40 + 4 * i
def LC_SIG (i : Nat) : Nat := 0x3C80 + 4 * i

end R

/-! ### Fields, named REGISTER_FIELD as the chapters name them (R8). -/
namespace F

def DEVID_PART : Field := ⟨R.DEVID, 16, 16⟩
def DEVID_LOGIC_STEP : Field := ⟨R.DEVID, 8, 8⟩
def DEVID_POWER_STEP : Field := ⟨R.DEVID, 0, 8⟩
def SYSCFG_XTAL32 : Field := ⟨R.SYSCFG, 19, 1⟩
def SYSCFG_XTAL25 : Field := ⟨R.SYSCFG, 18, 1⟩
def SYSCFG_HOLD_ACTIVE : Field := ⟨R.SYSCFG, 17, 1⟩
def SYSCFG_PWR_DIE_OK : Field := ⟨R.SYSCFG, 16, 1⟩
def SYSCFG_BID : Field := ⟨R.SYSCFG, 8, 4⟩
def SYSCFG_PROFILE : Field := ⟨R.SYSCFG, 4, 1⟩
def SYSCFG_COMPAT_IMG : Field := ⟨R.SYSCFG, 2, 1⟩
def SYSCFG_COMPAT_PIN : Field := ⟨R.SYSCFG, 1, 1⟩
def SYSCFG_COMPAT : Field := ⟨R.SYSCFG, 0, 1⟩
def RSTCAUSE_RESTARTS : Field := ⟨R.RSTCAUSE, 16, 16⟩
def RSTCAUSE_PFS_MISS : Field := ⟨R.RSTCAUSE, 9, 1⟩
def RSTCAUSE_PFS : Field := ⟨R.RSTCAUSE, 8, 1⟩
def RSTCAUSE_PREV : Field := ⟨R.RSTCAUSE, 4, 4⟩
def RSTCAUSE_CAUSE : Field := ⟨R.RSTCAUSE, 0, 4⟩
def HOST_STAT_CMD_CRC : Field := ⟨R.HOST_STAT, 24, 8⟩
def HOST_STAT_FRAME_ERR : Field := ⟨R.HOST_STAT, 16, 8⟩
def HOST_STAT_LAST_CODE : Field := ⟨R.HOST_STAT, 0, 6⟩
def TIME_LO_TIME : Field := ⟨R.TIME_LO, 0, 32⟩
def TIME_HI_TIME : Field := ⟨R.TIME_HI, 0, 16⟩
def TIME_SETH_TIME : Field := ⟨R.TIME_SETH, 0, 16⟩
def TIME_SETL_TIME : Field := ⟨R.TIME_SETL, 0, 32⟩
def DBG_CTL_HALTED : Field := ⟨R.DBG_CTL, 3, 1⟩
def DBG_CTL_REJ : Field := ⟨R.DBG_CTL, 2, 1⟩
def DBG_CTL_OPENED : Field := ⟨R.DBG_CTL, 1, 1⟩
def DBG_CTL_OPEN : Field := ⟨R.DBG_CTL, 0, 1⟩
def IMGCTL_FORCE : Field := ⟨R.IMGCTL, 8, 1⟩
def IMGCTL_ABORT : Field := ⟨R.IMGCTL, 5, 1⟩
def IMGCTL_CONFIRM : Field := ⟨R.IMGCTL, 4, 1⟩
def IMGCTL_COMMIT : Field := ⟨R.IMGCTL, 3, 1⟩
def IMGCTL_CHECK : Field := ⟨R.IMGCTL, 2, 1⟩
def IMGCTL_OPEN : Field := ⟨R.IMGCTL, 1, 1⟩
def IMGSTAT_GENERATION : Field := ⟨R.IMGSTAT, 16, 8⟩
def IMGSTAT_LIVE_REJ : Field := ⟨R.IMGSTAT, 15, 1⟩
def IMGSTAT_SCRUB_RELOAD : Field := ⟨R.IMGSTAT, 14, 1⟩
def IMGSTAT_ALT_VALID : Field := ⟨R.IMGSTAT, 13, 1⟩
def IMGSTAT_COMMIT_PENDING : Field := ⟨R.IMGSTAT, 11, 1⟩
def IMGSTAT_FALLBACK : Field := ⟨R.IMGSTAT, 10, 1⟩
def IMGSTAT_TRIAL : Field := ⟨R.IMGSTAT, 9, 1⟩
def IMGSTAT_ACTIVE : Field := ⟨R.IMGSTAT, 8, 1⟩
def IMGSTAT_STATE : Field := ⟨R.IMGSTAT, 0, 4⟩
def IMGRESULT_ORIGIN : Field := ⟨R.IMGRESULT, 17, 2⟩
def IMGRESULT_SLOT : Field := ⟨R.IMGRESULT, 16, 1⟩
def IMGRESULT_SECTION : Field := ⟨R.IMGRESULT, 8, 8⟩
def IMGRESULT_CODE : Field := ⟨R.IMGRESULT, 0, 8⟩
def IMGINFO_FORMAT : Field := ⟨R.IMGINFO, 18, 1⟩
def IMGINFO_KEY : Field := ⟨R.IMGINFO, 16, 2⟩
def IMGINFO_SVN : Field := ⟨R.IMGINFO, 0, 16⟩
def IMGADDR_OFFSET : Field := ⟨R.IMGADDR, 0, 21⟩
def IMGDATA_DATA : Field := ⟨R.IMGDATA, 0, 32⟩
def IMGSVN_SVN_MIN : Field := ⟨R.IMGSVN, 0, 16⟩
def IMGDIGEST_DIGEST (i : Nat) : Field := ⟨R.IMGDIGEST i, 0, 32⟩
def SCRUBSTAT_PASSES : Field := ⟨R.SCRUBSTAT, 24, 8⟩
def SCRUBSTAT_RELOADED : Field := ⟨R.SCRUBSTAT, 16, 8⟩
def SCRUBSTAT_CORRECTED : Field := ⟨R.SCRUBSTAT, 0, 16⟩
def TILE_MAP_SENSE (i : Nat) : Field := ⟨R.TILE_MAP i, 6, 1⟩
def TILE_MAP_ROLE (i : Nat) : Field := ⟨R.TILE_MAP i, 4, 2⟩
def TILE_MAP_COURSE (i : Nat) : Field := ⟨R.TILE_MAP i, 0, 3⟩
def TILE_CFG_REFRESH (i : Nat) : Field := ⟨R.TILE_CFG i, 8, 8⟩
def TILE_CFG_GATE_CHK (i : Nat) : Field := ⟨R.TILE_CFG i, 4, 1⟩
def TILE_CFG_DCM (i : Nat) : Field := ⟨R.TILE_CFG i, 3, 1⟩
def TILE_CFG_RANGE (i : Nat) : Field := ⟨R.TILE_CFG i, 1, 2⟩
def TILE_CFG_SPAN (i : Nat) : Field := ⟨R.TILE_CFG i, 0, 1⟩
def TILE_TIMING_MIN_OFF (i : Nat) : Field := ⟨R.TILE_TIMING i, 24, 8⟩
def TILE_TIMING_LEB (i : Nat) : Field := ⟨R.TILE_TIMING i, 16, 4⟩
def TILE_TIMING_DT_FALL (i : Nat) : Field := ⟨R.TILE_TIMING i, 8, 6⟩
def TILE_TIMING_DT_RISE (i : Nat) : Field := ⟨R.TILE_TIMING i, 0, 6⟩
def TILE_SCALE_L (i : Nat) : Field := ⟨R.TILE_SCALE i, 16, 16⟩
def TILE_SCALE_RSENSE (i : Nat) : Field := ⟨R.TILE_SCALE i, 0, 16⟩
def TILE_TRIM_GAIN (i : Nat) : Field := ⟨R.TILE_TRIM i, 16, 16⟩
def TILE_TRIM_OFFSET (i : Nat) : Field := ⟨R.TILE_TRIM i, 0, 16⟩
def TILE_CTL_TEST_SEL (i : Nat) : Field := ⟨R.TILE_CTL i, 8, 5⟩
def TILE_CTL_TEST_ABORT (i : Nat) : Field := ⟨R.TILE_CTL i, 3, 1⟩
def TILE_CTL_TEST_START (i : Nat) : Field := ⟨R.TILE_CTL i, 2, 1⟩
def TILE_CTL_FORCE_FAIL (i : Nat) : Field := ⟨R.TILE_CTL i, 1, 1⟩
def TILE_CTL_CLEAR_FAIL (i : Nat) : Field := ⟨R.TILE_CTL i, 0, 1⟩
def TILE_STAT_CLEAR_REJ (i : Nat) : Field := ⟨R.TILE_STAT i, 15, 1⟩
def TILE_STAT_TEST_PENDING (i : Nat) : Field := ⟨R.TILE_STAT i, 14, 1⟩
def TILE_STAT_VDRV_OK (i : Nat) : Field := ⟨R.TILE_STAT i, 13, 1⟩
def TILE_STAT_BOOT_OK (i : Nat) : Field := ⟨R.TILE_STAT i, 12, 1⟩
def TILE_STAT_CROWBAR (i : Nat) : Field := ⟨R.TILE_STAT i, 11, 1⟩
def TILE_STAT_HOLD (i : Nat) : Field := ⟨R.TILE_STAT i, 10, 1⟩
def TILE_STAT_SHEDDING (i : Nat) : Field := ⟨R.TILE_STAT i, 9, 1⟩
def TILE_STAT_STANDIN_V (i : Nat) : Field := ⟨R.TILE_STAT i, 8, 1⟩
def TILE_STAT_STANDIN (i : Nat) : Field := ⟨R.TILE_STAT i, 4, 4⟩
def TILE_STAT_ARMING (i : Nat) : Field := ⟨R.TILE_STAT i, 3, 1⟩
def TILE_STAT_STATE (i : Nat) : Field := ⟨R.TILE_STAT i, 0, 3⟩
def TILE_FAULT_GATE_ERR (i : Nat) : Field := ⟨R.TILE_FAULT i, 24, 8⟩
def TILE_FAULT_BOOT_SKIP (i : Nat) : Field := ⟨R.TILE_FAULT i, 16, 8⟩
def TILE_FAULT_DETAIL (i : Nat) : Field := ⟨R.TILE_FAULT i, 8, 8⟩
def TILE_FAULT_CAUSE (i : Nat) : Field := ⟨R.TILE_FAULT i, 0, 4⟩
def TILE_PHASE_NEXT_V (i : Nat) : Field := ⟨R.TILE_PHASE i, 31, 1⟩
def TILE_PHASE_NEXT (i : Nat) : Field := ⟨R.TILE_PHASE i, 16, 13⟩
def TILE_PHASE_OFFSET (i : Nat) : Field := ⟨R.TILE_PHASE i, 0, 13⟩
def TILE_IPK_DIR (i : Nat) : Field := ⟨R.TILE_IPK i, 16, 1⟩
def TILE_IPK_DAC (i : Nat) : Field := ⟨R.TILE_IPK i, 0, 10⟩
def TILE_IMEAS_RIPPLE (i : Nat) : Field := ⟨R.TILE_IMEAS i, 16, 16⟩
def TILE_IMEAS_AVG (i : Nat) : Field := ⟨R.TILE_IMEAS i, 0, 16⟩
def TILE_CYCLES_COUNT (i : Nat) : Field := ⟨R.TILE_CYCLES i, 0, 32⟩
def TILE_TEST_MEAS (i : Nat) : Field := ⟨R.TILE_TEST i, 16, 16⟩
def TILE_TEST_STEP (i : Nat) : Field := ⟨R.TILE_TEST i, 4, 3⟩
def TILE_TEST_RESULT (i : Nat) : Field := ⟨R.TILE_TEST i, 0, 3⟩
def TILE_DUMP_E_MAX (i : Nat) : Field := ⟨R.TILE_DUMP i, 20, 12⟩
def TILE_DUMP_P_CONT (i : Nat) : Field := ⟨R.TILE_DUMP i, 8, 12⟩
def TILE_DUMP_RES (i : Nat) : Field := ⟨R.TILE_DUMP i, 0, 8⟩
def TILE_DUMPSTAT_LIMITED (i : Nat) : Field := ⟨R.TILE_DUMPSTAT i, 16, 1⟩
def TILE_DUMPSTAT_ENERGY (i : Nat) : Field := ⟨R.TILE_DUMPSTAT i, 0, 16⟩
def C_MAP_PERIOD (i : Nat) : Field := ⟨R.C_MAP i, 16, 13⟩
def C_MAP_MIN_PHASES (i : Nat) : Field := ⟨R.C_MAP i, 8, 4⟩
def C_MAP_SHED_EN (i : Nat) : Field := ⟨R.C_MAP i, 7, 1⟩
def C_MAP_ENABLE (i : Nat) : Field := ⟨R.C_MAP i, 6, 1⟩
def C_MAP_TOPOLOGY (i : Nat) : Field := ⟨R.C_MAP i, 4, 2⟩
def C_MAP_PORT (i : Nat) : Field := ⟨R.C_MAP i, 0, 3⟩
def C_TILES_SPARE_MASK (i : Nat) : Field := ⟨R.C_TILES i, 16, 16⟩
def C_TILES_WORK_MASK (i : Nat) : Field := ⟨R.C_TILES i, 0, 16⟩
def C_SHED_STEP_LENS (i : Nat) : Field := ⟨R.C_SHED i, 26, 5⟩
def C_SHED_RAMP (i : Nat) : Field := ⟨R.C_SHED i, 24, 2⟩
def C_SHED_DWELL (i : Nat) : Field := ⟨R.C_SHED i, 16, 8⟩
def C_SHED_ADD_TH (i : Nat) : Field := ⟨R.C_SHED i, 8, 8⟩
def C_SHED_SHED_TH (i : Nat) : Field := ⟨R.C_SHED i, 0, 8⟩
def C_STEP_PLAUS (i : Nat) : Field := ⟨R.C_STEP i, 16, 2⟩
def C_STEP_IMB_MIN (i : Nat) : Field := ⟨R.C_STEP i, 8, 8⟩
def C_STEP_DELTA (i : Nat) : Field := ⟨R.C_STEP i, 0, 8⟩
def C_OFFSET_SHIFT (i : Nat) : Field := ⟨R.C_OFFSET i, 0, 13⟩
def C_CTL_ADD_ALL (i : Nat) : Field := ⟨R.C_CTL i, 1, 1⟩
def C_CTL_SHED_HOLD (i : Nat) : Field := ⟨R.C_CTL i, 0, 1⟩
def C_STAT_TEST_ACTIVE (i : Nat) : Field := ⟨R.C_STAT i, 20, 1⟩
def C_STAT_COURSE_FAIL (i : Nat) : Field := ⟨R.C_STAT i, 19, 1⟩
def C_STAT_STAGGER_PEND (i : Nat) : Field := ⟨R.C_STAT i, 18, 1⟩
def C_STAT_SPARE_ARMING (i : Nat) : Field := ⟨R.C_STAT i, 17, 1⟩
def C_STAT_NO_SPARE (i : Nat) : Field := ⟨R.C_STAT i, 16, 1⟩
def C_STAT_LIMIT_CUT (i : Nat) : Field := ⟨R.C_STAT i, 15, 1⟩
def C_STAT_SHED_ST (i : Nat) : Field := ⟨R.C_STAT i, 12, 3⟩
def C_STAT_WORKCFG (i : Nat) : Field := ⟨R.C_STAT i, 8, 4⟩
def C_STAT_HEALTHY (i : Nat) : Field := ⟨R.C_STAT i, 4, 4⟩
def C_STAT_RUNNING (i : Nat) : Field := ⟨R.C_STAT i, 0, 4⟩
def C_EVT_DUMP_LIMIT (i : Nat) : Field := ⟨R.C_EVT i, 7, 1⟩
def C_EVT_STAGGER (i : Nat) : Field := ⟨R.C_EVT i, 6, 1⟩
def C_EVT_SPARE_FAIL (i : Nat) : Field := ⟨R.C_EVT i, 5, 1⟩
def C_EVT_SPARE_IN (i : Nat) : Field := ⟨R.C_EVT i, 4, 1⟩
def C_EVT_TILE_FAIL (i : Nat) : Field := ⟨R.C_EVT i, 3, 1⟩
def C_EVT_SHED_ABORT (i : Nat) : Field := ⟨R.C_EVT i, 2, 1⟩
def C_EVT_ADD_DONE (i : Nat) : Field := ⟨R.C_EVT i, 1, 1⟩
def C_EVT_SHED_DONE (i : Nat) : Field := ⟨R.C_EVT i, 0, 1⟩
def C_SHEDCNT_ABORTS (i : Nat) : Field := ⟨R.C_SHEDCNT i, 16, 16⟩
def C_SHEDCNT_SHEDS (i : Nat) : Field := ⟨R.C_SHEDCNT i, 0, 16⟩
def C_IMEAN_TOTAL (i : Nat) : Field := ⟨R.C_IMEAN i, 16, 16⟩
def C_IMEAN_MEAN (i : Nat) : Field := ⟨R.C_IMEAN i, 0, 16⟩
def C_MODE_P_LIM (i : Nat) : Field := ⟨R.C_MODE i, 16, 16⟩
def C_MODE_CB_EN (i : Nat) : Field := ⟨R.C_MODE i, 8, 1⟩
def C_MODE_MODE (i : Nat) : Field := ⟨R.C_MODE i, 0, 3⟩
def C_ILIM_CEIL (i : Nat) : Field := ⟨R.C_ILIM i, 16, 16⟩
def C_ILIM_ILIM (i : Nat) : Field := ⟨R.C_ILIM i, 0, 16⟩
def C_LOOP_KI (i : Nat) : Field := ⟨R.C_LOOP i, 16, 16⟩
def C_LOOP_KP (i : Nat) : Field := ⟨R.C_LOOP i, 0, 16⟩
def C_SLOPE_SLOPE (i : Nat) : Field := ⟨R.C_SLOPE i, 0, 12⟩
def C_TRACK_RATE (i : Nat) : Field := ⟨R.C_TRACK i, 8, 8⟩
def C_TRACK_MASTER (i : Nat) : Field := ⟨R.C_TRACK i, 4, 3⟩
def C_TRACK_STOP (i : Nat) : Field := ⟨R.C_TRACK i, 3, 1⟩
def C_TRACK_MODE (i : Nat) : Field := ⟨R.C_TRACK i, 0, 2⟩
def C_REF_FINAL (i : Nat) : Field := ⟨R.C_REF i, 16, 16⟩
def C_REF_REF (i : Nat) : Field := ⟨R.C_REF i, 0, 16⟩
def C_DEMAND_D (i : Nat) : Field := ⟨R.C_DEMAND i, 16, 16⟩
def C_DEMAND_CODE (i : Nat) : Field := ⟨R.C_DEMAND i, 0, 10⟩
def C_RSTAT_TRACK_WAIT (i : Nat) : Field := ⟨R.C_RSTAT i, 9, 1⟩
def C_RSTAT_DIR (i : Nat) : Field := ⟨R.C_RSTAT i, 8, 1⟩
def C_RSTAT_START_ST (i : Nat) : Field := ⟨R.C_RSTAT i, 6, 2⟩
def C_RSTAT_DELIVER (i : Nat) : Field := ⟨R.C_RSTAT i, 5, 1⟩
def C_RSTAT_ACTIVE (i : Nat) : Field := ⟨R.C_RSTAT i, 0, 4⟩
def C_PCTL_MM_FAULT (i : Nat) : Field := ⟨R.C_PCTL i, 17, 1⟩
def C_PCTL_CB_LATCH (i : Nat) : Field := ⟨R.C_PCTL i, 16, 1⟩
def C_PCTL_MM_REJ (i : Nat) : Field := ⟨R.C_PCTL i, 9, 1⟩
def C_PCTL_CB_REJ (i : Nat) : Field := ⟨R.C_PCTL i, 8, 1⟩
def C_PCTL_MM_CLEAR (i : Nat) : Field := ⟨R.C_PCTL i, 1, 1⟩
def C_PCTL_CB_CLEAR (i : Nat) : Field := ⟨R.C_PCTL i, 0, 1⟩
def C_MIRROR_MM_CNT (i : Nat) : Field := ⟨R.C_MIRROR i, 24, 8⟩
def C_MIRROR_ACTION (i : Nat) : Field := ⟨R.C_MIRROR i, 16, 1⟩
def C_MIRROR_COUNT (i : Nat) : Field := ⟨R.C_MIRROR i, 8, 8⟩
def C_MIRROR_TOL (i : Nat) : Field := ⟨R.C_MIRROR i, 0, 8⟩
def SYS_SETPT_SETPOINT : Field := ⟨R.SYS_SETPT, 0, 16⟩
def SYS_LOADLINE_SLOPE_MAX : Field := ⟨R.SYS_LOADLINE, 8, 8⟩
def SYS_LOADLINE_SLOPE : Field := ⟨R.SYS_LOADLINE, 0, 8⟩
def SYS_BOUNDS_SETPOINT_MAX : Field := ⟨R.SYS_BOUNDS, 16, 16⟩
def SYS_BOUNDS_SETPOINT_MIN : Field := ⟨R.SYS_BOUNDS, 0, 16⟩
def SYS_FLOOR_HOLD_V : Field := ⟨R.SYS_FLOOR, 16, 16⟩
def SYS_FLOOR_VSYS_MIN : Field := ⟨R.SYS_FLOOR, 0, 16⟩
def SYS_WIN_SLEW : Field := ⟨R.SYS_WIN, 16, 8⟩
def SYS_WIN_WIN_HI : Field := ⟨R.SYS_WIN, 8, 8⟩
def SYS_WIN_WIN_LO : Field := ⟨R.SYS_WIN, 0, 8⟩
def SYS_SURPLUS_ARM : Field := ⟨R.SYS_SURPLUS, 24, 1⟩
def SYS_SURPLUS_SURP_DUMP : Field := ⟨R.SYS_SURPLUS, 16, 8⟩
def SYS_SURPLUS_SURP_RING : Field := ⟨R.SYS_SURPLUS, 8, 8⟩
def SYS_SURPLUS_SURP_BAT : Field := ⟨R.SYS_SURPLUS, 0, 8⟩
def SYS_CB_CB_REL : Field := ⟨R.SYS_CB, 16, 16⟩
def SYS_CB_CB_V : Field := ⟨R.SYS_CB, 0, 16⟩
def SYS_MEAS_I_SYS : Field := ⟨R.SYS_MEAS, 16, 16⟩
def SYS_MEAS_V_SYS : Field := ⟨R.SYS_MEAS, 0, 16⟩
def SYS_TARGET_REF : Field := ⟨R.SYS_TARGET, 16, 16⟩
def SYS_TARGET_TARGET : Field := ⟨R.SYS_TARGET, 0, 16⟩
def SYS_STAT_LEFT_WIN : Field := ⟨R.SYS_STAT, 9, 1⟩
def SYS_STAT_TWIN : Field := ⟨R.SYS_STAT, 8, 1⟩
def SYS_STAT_SURP_ST : Field := ⟨R.SYS_STAT, 4, 2⟩
def SYS_STAT_CB_ANY : Field := ⟨R.SYS_STAT, 2, 1⟩
def SYS_STAT_BELOW_MIN : Field := ⟨R.SYS_STAT, 1, 1⟩
def SYS_STAT_IN_WIN : Field := ⟨R.SYS_STAT, 0, 1⟩
def SYS_OOW_MS : Field := ⟨R.SYS_OOW, 0, 32⟩
def HOLD_CFG_VBAT_MIN : Field := ⟨R.HOLD_CFG, 16, 16⟩
def HOLD_CFG_ILIM_T : Field := ⟨R.HOLD_CFG, 8, 8⟩
def HOLD_STAT_ABSENT_MS : Field := ⟨R.HOLD_STAT, 16, 16⟩
def HOLD_STAT_CB_BLOCK : Field := ⟨R.HOLD_STAT, 11, 1⟩
def HOLD_STAT_BAT_LOW : Field := ⟨R.HOLD_STAT, 10, 1⟩
def HOLD_STAT_LAST_CODE : Field := ⟨R.HOLD_STAT, 0, 10⟩
def GUARD_CFG_OC_FILT (i : Nat) : Field := ⟨R.GUARD_CFG i, 24, 8⟩
def GUARD_CFG_OC_RETRY (i : Nat) : Field := ⟨R.GUARD_CFG i, 20, 3⟩
def GUARD_CFG_REARM (i : Nat) : Field := ⟨R.GUARD_CFG i, 16, 1⟩
def GUARD_CFG_VSNS (i : Nat) : Field := ⟨R.GUARD_CFG i, 8, 5⟩
def GUARD_CFG_ISNS (i : Nat) : Field := ⟨R.GUARD_CFG i, 0, 5⟩
def GUARD_TRIP1_OC_TRIP (i : Nat) : Field := ⟨R.GUARD_TRIP1 i, 16, 16⟩
def GUARD_TRIP1_OV_TRIP (i : Nat) : Field := ⟨R.GUARD_TRIP1 i, 0, 16⟩
def GUARD_TRIP2_RSH (i : Nat) : Field := ⟨R.GUARD_TRIP2 i, 16, 16⟩
def GUARD_TRIP2_RC_TRIP (i : Nat) : Field := ⟨R.GUARD_TRIP2 i, 0, 16⟩
def GUARD_STAT_TRIPS (i : Nat) : Field := ⟨R.GUARD_STAT i, 16, 16⟩
def GUARD_STAT_RETRIES (i : Nat) : Field := ⟨R.GUARD_STAT i, 8, 3⟩
def GUARD_STAT_REARM_REJ (i : Nat) : Field := ⟨R.GUARD_STAT i, 6, 1⟩
def GUARD_STAT_TWIN (i : Nat) : Field := ⟨R.GUARD_STAT i, 5, 1⟩
def GUARD_STAT_LATCHED (i : Nat) : Field := ⟨R.GUARD_STAT i, 4, 1⟩
def GUARD_STAT_RC (i : Nat) : Field := ⟨R.GUARD_STAT i, 3, 1⟩
def GUARD_STAT_OC (i : Nat) : Field := ⟨R.GUARD_STAT i, 2, 1⟩
def GUARD_STAT_OV (i : Nat) : Field := ⟨R.GUARD_STAT i, 1, 1⟩
def GUARD_STAT_FET_ON (i : Nat) : Field := ⟨R.GUARD_STAT i, 0, 1⟩
def RING_ADDR_DUP : Field := ⟨R.RING_ADDR, 16, 1⟩
def RING_ADDR_ADDR : Field := ⟨R.RING_ADDR, 0, 12⟩
def RING_CFG_CLK_SRC : Field := ⟨R.RING_CFG, 20, 12⟩
def RING_CFG_REROUTE : Field := ⟨R.RING_CFG, 19, 1⟩
def RING_CFG_TERM_W : Field := ⟨R.RING_CFG, 18, 1⟩
def RING_CFG_TERM_E : Field := ⟨R.RING_CFG, 17, 1⟩
def RING_CFG_FLOW_AGE : Field := ⟨R.RING_CFG, 8, 8⟩
def RING_CFG_BUDGET : Field := ⟨R.RING_CFG, 0, 8⟩
def RING_CTL_EMERG_CODE : Field := ⟨R.RING_CTL, 8, 8⟩
def RING_CTL_RELINK_W : Field := ⟨R.RING_CTL, 4, 1⟩
def RING_CTL_RELINK_E : Field := ⟨R.RING_CTL, 3, 1⟩
def RING_CTL_EMERG_SEND : Field := ⟨R.RING_CTL, 2, 1⟩
def RING_CTL_HARDCLOSE_W : Field := ⟨R.RING_CTL, 1, 1⟩
def RING_CTL_HARDCLOSE_E : Field := ⟨R.RING_CTL, 0, 1⟩
def RING_EMERG_RX : Field := ⟨R.RING_EMERG, 31, 1⟩
def RING_EMERG_SEND_REJ : Field := ⟨R.RING_EMERG, 29, 1⟩
def RING_EMERG_SRC : Field := ⟨R.RING_EMERG, 16, 12⟩
def RING_EMERG_ESN : Field := ⟨R.RING_EMERG, 8, 8⟩
def RING_EMERG_CODE : Field := ⟨R.RING_EMERG, 0, 8⟩
def SEG_STAT_NEIGH (i : Nat) : Field := ⟨R.SEG_STAT i, 20, 12⟩
def SEG_STAT_CSTATE (i : Nat) : Field := ⟨R.SEG_STAT i, 17, 3⟩
def SEG_STAT_CROLE (i : Nat) : Field := ⟨R.SEG_STAT i, 15, 2⟩
def SEG_STAT_SWAP_LOST (i : Nat) : Field := ⟨R.SEG_STAT i, 14, 1⟩
def SEG_STAT_ABANDONED (i : Nat) : Field := ⟨R.SEG_STAT i, 13, 1⟩
def SEG_STAT_LSTATE (i : Nat) : Field := ⟨R.SEG_STAT i, 0, 3⟩
def SEG_CONTRACT_I (i : Nat) : Field := ⟨R.SEG_CONTRACT i, 16, 16⟩
def SEG_CONTRACT_V (i : Nat) : Field := ⟨R.SEG_CONTRACT i, 0, 16⟩
def SEG_CNT_CRC_ERR (i : Nat) : Field := ⟨R.SEG_CNT i, 24, 8⟩
def SEG_CNT_COLLISIONS (i : Nat) : Field := ⟨R.SEG_CNT i, 16, 8⟩
def SEG_CNT_RETRIES (i : Nat) : Field := ⟨R.SEG_CNT i, 8, 8⟩
def SEG_CNT_LOSSES (i : Nat) : Field := ⟨R.SEG_CNT i, 0, 8⟩
def SEG_POLICY_VOFFER (i : Nat) : Field := ⟨R.SEG_POLICY i, 16, 16⟩
def SEG_POLICY_MODE (i : Nat) : Field := ⟨R.SEG_POLICY i, 0, 2⟩
def FLOW_STAT_IN_USE : Field := ⟨R.FLOW_STAT, 23, 9⟩
def FLOW_STAT_CAPACITY : Field := ⟨R.FLOW_STAT, 12, 9⟩
def FLOW_STAT_REFUSED : Field := ⟨R.FLOW_STAT, 0, 8⟩
def FLOW_SEL_INDEX : Field := ⟨R.FLOW_SEL, 0, 8⟩
def FLOW_CTX0_CONSUMER : Field := ⟨R.FLOW_CTX0, 20, 12⟩
def FLOW_CTX0_ROLE : Field := ⟨R.FLOW_CTX0, 18, 2⟩
def FLOW_CTX0_STATE : Field := ⟨R.FLOW_CTX0, 16, 2⟩
def FLOW_CTX0_FLOW_ID : Field := ⟨R.FLOW_CTX0, 0, 16⟩
def FLOW_CTX1_RATE_MAX : Field := ⟨R.FLOW_CTX1, 16, 16⟩
def FLOW_CTX1_RATE : Field := ⟨R.FLOW_CTX1, 0, 16⟩
def FLOW_CTX2_ALLOW : Field := ⟨R.FLOW_CTX2, 0, 32⟩
def FLOW_CTX3_AGE : Field := ⟨R.FLOW_CTX3, 16, 16⟩
def FLOW_CTX3_FSEQ : Field := ⟨R.FLOW_CTX3, 8, 8⟩
def FLOW_CTX3_IN : Field := ⟨R.FLOW_CTX3, 6, 2⟩
def FLOW_CTX3_OUT : Field := ⟨R.FLOW_CTX3, 4, 2⟩
def PD_CFG_DSNS : Field := ⟨R.PD_CFG, 16, 5⟩
def PD_CFG_EPR_EN : Field := ⟨R.PD_CFG, 7, 1⟩
def PD_CFG_VCONN_EN : Field := ⟨R.PD_CFG, 6, 1⟩
def PD_CFG_DR_SWAP_EN : Field := ⟨R.PD_CFG, 5, 1⟩
def PD_CFG_PR_SWAP_EN : Field := ⟨R.PD_CFG, 4, 1⟩
def PD_CFG_TRY : Field := ⟨R.PD_CFG, 2, 2⟩
def PD_STAT_SINKTX : Field := ⟨R.PD_STAT, 16, 1⟩
def PD_STAT_ATTACHED : Field := ⟨R.PD_STAT, 15, 1⟩
def PD_STAT_PROLE : Field := ⟨R.PD_STAT, 14, 1⟩
def PD_STAT_DROLE : Field := ⟨R.PD_STAT, 13, 1⟩
def PD_STAT_VCONN_ON : Field := ⟨R.PD_STAT, 12, 1⟩
def PD_STAT_EPR : Field := ⟨R.PD_STAT, 11, 1⟩
def PD_STAT_VCONN_OC : Field := ⟨R.PD_STAT, 9, 1⟩
def PD_STAT_ABANDONED : Field := ⟨R.PD_STAT, 8, 1⟩
def PD_STAT_CC : Field := ⟨R.PD_STAT, 3, 2⟩
def PD_STAT_PSTATE : Field := ⟨R.PD_STAT, 0, 3⟩
def PD_CONTRACT_I : Field := ⟨R.PD_CONTRACT, 16, 16⟩
def PD_CONTRACT_V : Field := ⟨R.PD_CONTRACT, 0, 16⟩
def PD_CABLE_VALID : Field := ⟨R.PD_CABLE, 15, 1⟩
def PD_CABLE_EPR_OK : Field := ⟨R.PD_CABLE, 14, 1⟩
def PD_CABLE_I_MAX : Field := ⟨R.PD_CABLE, 12, 2⟩
def PD_CABLE_V_MAX : Field := ⟨R.PD_CABLE, 8, 2⟩
def PD_PDO_EN (i : Nat) : Field := ⟨R.PD_PDO i, 31, 1⟩
def PD_PDO_I (i : Nat) : Field := ⟨R.PD_PDO i, 16, 10⟩
def PD_PDO_V (i : Nat) : Field := ⟨R.PD_PDO i, 0, 13⟩
def PD_SNK_VMAX : Field := ⟨R.PD_SNK, 16, 13⟩
def PD_SNK_I_OP : Field := ⟨R.PD_SNK, 0, 10⟩
def PD_CNT_HARD_RESETS : Field := ⟨R.PD_CNT, 24, 8⟩
def PD_CNT_SOFT_RESETS : Field := ⟨R.PD_CNT, 16, 8⟩
def PD_CNT_RETRY_FAIL : Field := ⟨R.PD_CNT, 8, 8⟩
def PD_CNT_DETACHES : Field := ⟨R.PD_CNT, 0, 8⟩
def PDIS_CFG_RUNNING : Field := ⟨R.PDIS_CFG, 16, 5⟩
def PDIS_CFG_I_DIS : Field := ⟨R.PDIS_CFG, 8, 8⟩
def PDIS_CFG_EN : Field := ⟨R.PDIS_CFG, 0, 5⟩
def PATH_STAT_RETURN_PEND : Field := ⟨R.PATH_STAT, 24, 1⟩
def PATH_STAT_HANDOVER_US : Field := ⟨R.PATH_STAT, 16, 8⟩
def PATH_STAT_SHARERS : Field := ⟨R.PATH_STAT, 11, 4⟩
def PATH_STAT_ASSIST : Field := ⟨R.PATH_STAT, 10, 1⟩
def PATH_STAT_BACKOFF : Field := ⟨R.PATH_STAT, 9, 1⟩
def PATH_STAT_HOT : Field := ⟨R.PATH_STAT, 8, 1⟩
def PATH_STAT_LEAD : Field := ⟨R.PATH_STAT, 4, 3⟩
def PATH_STAT_STATE : Field := ⟨R.PATH_STAT, 0, 3⟩
def PATH_CTL_RESTORE : Field := ⟨R.PATH_CTL, 1, 1⟩
def PATH_CTL_RELEASE : Field := ⟨R.PATH_CTL, 0, 1⟩
def PATH_CNT_TRANSFERS : Field := ⟨R.PATH_CNT, 16, 16⟩
def PATH_CNT_HANDOVERS : Field := ⟨R.PATH_CNT, 0, 16⟩
def SRC_ORDER_POS3 : Field := ⟨R.SRC_ORDER, 24, 8⟩
def SRC_ORDER_POS2 : Field := ⟨R.SRC_ORDER, 16, 8⟩
def SRC_ORDER_POS1 : Field := ⟨R.SRC_ORDER, 8, 8⟩
def SRC_ORDER_POS0 : Field := ⟨R.SRC_ORDER, 0, 8⟩
def SRC_SHARE_BAT_ASSIST : Field := ⟨R.SRC_SHARE, 8, 1⟩
def SRC_SHARE_SHARE : Field := ⟨R.SRC_SHARE, 0, 4⟩
def PORT_QUAL_QUAL_VMAX (i : Nat) : Field := ⟨R.PORT_QUAL i, 16, 16⟩
def PORT_QUAL_QUAL_VMIN (i : Nat) : Field := ⟨R.PORT_QUAL i, 0, 16⟩
def PORT_ILIM_IN_MAX (i : Nat) : Field := ⟨R.PORT_ILIM i, 16, 16⟩
def PORT_ILIM_IN (i : Nat) : Field := ⟨R.PORT_ILIM i, 0, 16⟩
def PORT_OLIM_OUT_CEIL (i : Nat) : Field := ⟨R.PORT_OLIM i, 16, 16⟩
def PORT_OLIM_OUT (i : Nat) : Field := ⟨R.PORT_OLIM i, 0, 16⟩
def PORT_STAT_LOSSES (i : Nat) : Field := ⟨R.PORT_STAT i, 16, 16⟩
def PORT_STAT_DEB_MS (i : Nat) : Field := ⟨R.PORT_STAT i, 8, 7⟩
def PORT_STAT_LOST (i : Nat) : Field := ⟨R.PORT_STAT i, 6, 1⟩
def PORT_STAT_LIMITED (i : Nat) : Field := ⟨R.PORT_STAT i, 5, 1⟩
def PORT_STAT_CONTRACT (i : Nat) : Field := ⟨R.PORT_STAT i, 4, 1⟩
def PORT_STAT_ABOVE (i : Nat) : Field := ⟨R.PORT_STAT i, 3, 1⟩
def PORT_STAT_ABOVE_MIN (i : Nat) : Field := ⟨R.PORT_STAT i, 2, 1⟩
def PORT_STAT_QSTATE (i : Nat) : Field := ⟨R.PORT_STAT i, 0, 2⟩
def CHG_CFG_BAL_LENS : Field := ⟨R.CHG_CFG, 24, 8⟩
def CHG_CFG_NTC_SEL : Field := ⟨R.CHG_CFG, 16, 3⟩
def CHG_CFG_CELLS : Field := ⟨R.CHG_CFG, 8, 5⟩
def CHG_CFG_CHEM : Field := ⟨R.CHG_CFG, 0, 3⟩
def CHG_VTH_V_PRE : Field := ⟨R.CHG_VTH, 16, 16⟩
def CHG_VTH_V_DEEP : Field := ⟨R.CHG_VTH, 0, 16⟩
def CHG_VCV_V_RECHG : Field := ⟨R.CHG_VCV, 16, 16⟩
def CHG_VCV_V_CV : Field := ⟨R.CHG_VCV, 0, 16⟩
def CHG_IPRE_I_PRE : Field := ⟨R.CHG_IPRE, 16, 16⟩
def CHG_IPRE_I_TRICKLE : Field := ⟨R.CHG_IPRE, 0, 16⟩
def CHG_ICC_I_CC_MAX : Field := ⟨R.CHG_ICC, 16, 16⟩
def CHG_ICC_I_CC : Field := ⟨R.CHG_ICC, 0, 16⟩
def CHG_ITERM_I_TERM : Field := ⟨R.CHG_ITERM, 0, 16⟩
def CHG_TMR1_T_PRE : Field := ⟨R.CHG_TMR1, 16, 16⟩
def CHG_TMR1_T_TRICKLE : Field := ⟨R.CHG_TMR1, 0, 16⟩
def CHG_TMR2_T_CV : Field := ⟨R.CHG_TMR2, 16, 16⟩
def CHG_TMR2_T_CC : Field := ⟨R.CHG_TMR2, 0, 16⟩
def CHG_TEDGE_A_COOL_NORMAL : Field := ⟨R.CHG_TEDGE_A, 16, 16⟩
def CHG_TEDGE_A_COLD_COOL : Field := ⟨R.CHG_TEDGE_A, 0, 16⟩
def CHG_TEDGE_B_WARM_HOT : Field := ⟨R.CHG_TEDGE_B, 16, 16⟩
def CHG_TEDGE_B_NORMAL_WARM : Field := ⟨R.CHG_TEDGE_B, 0, 16⟩
def CHG_THYST_H_WARM_HOT : Field := ⟨R.CHG_THYST, 24, 8⟩
def CHG_THYST_H_NORMAL_WARM : Field := ⟨R.CHG_THYST, 16, 8⟩
def CHG_THYST_H_COOL_NORMAL : Field := ⟨R.CHG_THYST, 8, 8⟩
def CHG_THYST_H_COLD_COOL : Field := ⟨R.CHG_THYST, 0, 8⟩
def CHG_TADJ_ETA : Field := ⟨R.CHG_TADJ, 24, 8⟩
def CHG_TADJ_WARM_DV : Field := ⟨R.CHG_TADJ, 16, 8⟩
def CHG_TADJ_WARM_PCT : Field := ⟨R.CHG_TADJ, 8, 8⟩
def CHG_TADJ_COOL_PCT : Field := ⟨R.CHG_TADJ, 0, 8⟩
def CHG_BAT_CAPACITY : Field := ⟨R.CHG_BAT, 0, 16⟩
def CHG_VFLOOR_V_RES : Field := ⟨R.CHG_VFLOOR, 16, 16⟩
def CHG_VFLOOR_V_DISCH : Field := ⟨R.CHG_VFLOOR, 0, 16⟩
def CHG_RESV_CYC_MIN : Field := ⟨R.CHG_RESV, 16, 16⟩
def CHG_RESV_CYC : Field := ⟨R.CHG_RESV, 0, 16⟩
def CHG_RESV_E_RELEASED : Field := ⟨R.CHG_RESV_E, 31, 1⟩
def CHG_RESV_E_HOLD_RX : Field := ⟨R.CHG_RESV_E, 30, 1⟩
def CHG_RESV_E_AT_FLOOR : Field := ⟨R.CHG_RESV_E, 29, 1⟩
def CHG_RESV_E_UNCAL : Field := ⟨R.CHG_RESV_E, 28, 1⟩
def CHG_RESV_E_RESERVE_E : Field := ⟨R.CHG_RESV_E, 0, 16⟩
def CHG_ENERGY_E_RES : Field := ⟨R.CHG_ENERGY, 16, 16⟩
def CHG_ENERGY_E_AVAIL : Field := ⟨R.CHG_ENERGY, 0, 16⟩
def CHG_PHASE_TIMER : Field := ⟨R.CHG_PHASE, 20, 12⟩
def CHG_PHASE_PREV : Field := ⟨R.CHG_PHASE, 16, 4⟩
def CHG_PHASE_CAUSE : Field := ⟨R.CHG_PHASE, 12, 4⟩
def CHG_PHASE_BAL : Field := ⟨R.CHG_PHASE, 10, 1⟩
def CHG_PHASE_END : Field := ⟨R.CHG_PHASE, 8, 2⟩
def CHG_PHASE_REG : Field := ⟨R.CHG_PHASE, 7, 1⟩
def CHG_PHASE_WINDOW : Field := ⟨R.CHG_PHASE, 4, 3⟩
def CHG_PHASE_PHASE : Field := ⟨R.CHG_PHASE, 0, 4⟩
def CHG_MEAS_T_NTC : Field := ⟨R.CHG_MEAS, 16, 16⟩
def CHG_MEAS_V_CELL : Field := ⟨R.CHG_MEAS, 0, 16⟩
def CHG_CTL_CLEAR_REJ : Field := ⟨R.CHG_CTL, 8, 1⟩
def CHG_CTL_PROBE : Field := ⟨R.CHG_CTL, 2, 1⟩
def CHG_CTL_CLEAR_FAULT : Field := ⟨R.CHG_CTL, 1, 1⟩
def CHG_CTL_EN : Field := ⟨R.CHG_CTL, 0, 1⟩
def PWR_CTL_SHIP_CANCEL : Field := ⟨R.PWR_CTL, 1, 1⟩
def PWR_CTL_SHIP_ARM : Field := ⟨R.PWR_CTL, 0, 1⟩
def PWR_STAT_PRESS_10MS : Field := ⟨R.PWR_STAT, 16, 16⟩
def PWR_STAT_WAKE : Field := ⟨R.PWR_STAT, 4, 4⟩
def PWR_STAT_BTN : Field := ⟨R.PWR_STAT, 1, 1⟩
def PWR_STAT_SHIP_PEND : Field := ⟨R.PWR_STAT, 0, 1⟩
def STAT_CTL_PAT1 : Field := ⟨R.STAT_CTL, 20, 3⟩
def STAT_CTL_PAT0 : Field := ⟨R.STAT_CTL, 16, 3⟩
def STAT_CTL_FORCE1 : Field := ⟨R.STAT_CTL, 4, 3⟩
def STAT_CTL_FORCE0 : Field := ⟨R.STAT_CTL, 0, 3⟩
def TS_MAP_ZONE (i : Nat) : Field := ⟨R.TS_MAP i, 8, 8⟩
def TS_MAP_SPARE_FOR (i : Nat) : Field := ⟨R.TS_MAP i, 0, 8⟩
def TS_TH_SHUTDOWN (i : Nat) : Field := ⟨R.TS_TH i, 16, 8⟩
def TS_TH_THROTTLE (i : Nat) : Field := ⟨R.TS_TH i, 8, 8⟩
def TS_TH_WARN (i : Nat) : Field := ⟨R.TS_TH i, 0, 8⟩
def TS_HYST_H_SD (i : Nat) : Field := ⟨R.TS_HYST i, 8, 4⟩
def TS_HYST_H_THR (i : Nat) : Field := ⟨R.TS_HYST i, 4, 4⟩
def TS_HYST_H_WARN (i : Nat) : Field := ⟨R.TS_HYST i, 0, 4⟩
def TS_VAL_CAUSE (i : Nat) : Field := ⟨R.TS_VAL i, 20, 4⟩
def TS_VAL_BROKEN (i : Nat) : Field := ⟨R.TS_VAL i, 19, 1⟩
def TS_VAL_VALID (i : Nat) : Field := ⟨R.TS_VAL i, 18, 1⟩
def TS_VAL_LEVEL (i : Nat) : Field := ⟨R.TS_VAL i, 16, 2⟩
def TS_VAL_TEMP (i : Nat) : Field := ⟨R.TS_VAL i, 0, 16⟩
def TS_NTC_B (i : Nat) : Field := ⟨R.TS_NTC i, 16, 16⟩
def TS_NTC_PULLUP (i : Nat) : Field := ⟨R.TS_NTC i, 15, 1⟩
def TS_NTC_R25 (i : Nat) : Field := ⟨R.TS_NTC i, 0, 15⟩
def TS_STAT_EXEMPT (i : Nat) : Field := ⟨R.TS_STAT i, 17, 1⟩
def TS_STAT_SERVED (i : Nat) : Field := ⟨R.TS_STAT i, 16, 1⟩
def TS_STAT_SERVES (i : Nat) : Field := ⟨R.TS_STAT i, 12, 4⟩
def TS_STAT_STANDIN_V (i : Nat) : Field := ⟨R.TS_STAT i, 8, 1⟩
def TS_STAT_BREAKS (i : Nat) : Field := ⟨R.TS_STAT i, 0, 8⟩
def ZONE_CFG_COURSES (i : Nat) : Field := ⟨R.ZONE_CFG i, 16, 6⟩
def ZONE_CFG_FLOOR_MAX (i : Nat) : Field := ⟨R.ZONE_CFG i, 8, 5⟩
def ZONE_CFG_FLOOR (i : Nat) : Field := ⟨R.ZONE_CFG i, 0, 5⟩
def ZONE_STAT_STEP (i : Nat) : Field := ⟨R.ZONE_STAT i, 27, 5⟩
def ZONE_STAT_SHUT (i : Nat) : Field := ⟨R.ZONE_STAT i, 26, 1⟩
def ZONE_STAT_DOUBLE (i : Nat) : Field := ⟨R.ZONE_STAT i, 25, 1⟩
def ZONE_STAT_BROKEN_HOLD (i : Nat) : Field := ⟨R.ZONE_STAT i, 24, 1⟩
def ZONE_STAT_DEMAND (i : Nat) : Field := ⟨R.ZONE_STAT i, 22, 2⟩
def ZONE_STAT_LEVEL (i : Nat) : Field := ⟨R.ZONE_STAT i, 20, 2⟩
def ZONE_STAT_MAX_TS (i : Nat) : Field := ⟨R.ZONE_STAT i, 16, 4⟩
def ZONE_STAT_MAX (i : Nat) : Field := ⟨R.ZONE_STAT i, 0, 16⟩
def THERM_MAX_TS : Field := ⟨R.THERM_MAX, 16, 4⟩
def THERM_MAX_TEMP : Field := ⟨R.THERM_MAX, 0, 16⟩
def THERM_HW_PD_SHUTS : Field := ⟨R.THERM_HW, 24, 8⟩
def THERM_HW_LD_SHUTS : Field := ⟨R.THERM_HW, 16, 8⟩
def THERM_HW_LD_SEEN : Field := ⟨R.THERM_HW, 9, 1⟩
def THERM_HW_PD_SEEN : Field := ⟨R.THERM_HW, 8, 1⟩
def THERM_HW_PD_SHUT : Field := ⟨R.THERM_HW, 0, 1⟩
def THERM_ROUND_ROUNDS : Field := ⟨R.THERM_ROUND, 0, 32⟩
def PTB_MAP_LENS : Field := ⟨R.PTB_MAP, 4, 5⟩
def PTB_MAP_QZ_CLR : Field := ⟨R.PTB_MAP, 3, 1⟩
def PTB_MAP_REV : Field := ⟨R.PTB_MAP, 2, 1⟩
def PTB_MAP_SOURCE : Field := ⟨R.PTB_MAP, 0, 2⟩
def PTB_CFG_STALL : Field := ⟨R.PTB_CFG, 24, 8⟩
def PTB_CFG_BLANK : Field := ⟨R.PTB_CFG, 16, 8⟩
def PTB_CFG_REARM : Field := ⟨R.PTB_CFG, 8, 4⟩
def PTB_CFG_FILT : Field := ⟨R.PTB_CFG, 4, 4⟩
def PTB_CFG_NEED_HOME : Field := ⟨R.PTB_CFG, 1, 1⟩
def PTB_CFG_INTERP : Field := ⟨R.PTB_CFG, 0, 1⟩
def PTB_CTL_SET : Field := ⟨R.PTB_CTL, 0, 1⟩
def PTB_SETV_VALUE : Field := ⟨R.PTB_SETV, 0, 32⟩
def PTB_FRAC_FRAC : Field := ⟨R.PTB_FRAC, 0, 16⟩
def PTB_INT_INT : Field := ⟨R.PTB_INT, 0, 32⟩
def PTB_STAT_JUMP : Field := ⟨R.PTB_STAT, 10, 1⟩
def PTB_STAT_INDEX : Field := ⟨R.PTB_STAT, 9, 1⟩
def PTB_STAT_QERR : Field := ⟨R.PTB_STAT, 8, 1⟩
def PTB_STAT_STALLED : Field := ⟨R.PTB_STAT, 3, 1⟩
def PTB_STAT_HOMED : Field := ⟨R.PTB_STAT, 2, 1⟩
def PTB_STAT_DIR : Field := ⟨R.PTB_STAT, 1, 1⟩
def PTB_STAT_RUN : Field := ⟨R.PTB_STAT, 0, 1⟩
def PTB_IVL_IVL : Field := ⟨R.PTB_IVL, 0, 32⟩
def PTB_QZ_INT : Field := ⟨R.PTB_QZ, 0, 32⟩
def PTB_ERR_BLANKED : Field := ⟨R.PTB_ERR, 16, 16⟩
def PTB_ERR_QERR : Field := ⟨R.PTB_ERR, 0, 16⟩
def PTB_HIT_HIT : Field := ⟨R.PTB_HIT, 0, 32⟩
def GT_MAP_TARGET (i : Nat) : Field := ⟨R.GT_MAP i, 16, 8⟩
def GT_MAP_ACTION (i : Nat) : Field := ⟨R.GT_MAP i, 8, 8⟩
def GT_MAP_MASTER (i : Nat) : Field := ⟨R.GT_MAP i, 4, 3⟩
def GT_MAP_CLOCK (i : Nat) : Field := ⟨R.GT_MAP i, 0, 2⟩
def GT_CFG_PRESC (i : Nat) : Field := ⟨R.GT_CFG i, 24, 8⟩
def GT_CFG_CAPSRC (i : Nat) : Field := ⟨R.GT_CFG i, 16, 5⟩
def GT_CFG_ACT_ON (i : Nat) : Field := ⟨R.GT_CFG i, 8, 2⟩
def GT_CFG_AUTORUN (i : Nat) : Field := ⟨R.GT_CFG i, 7, 1⟩
def GT_CFG_PTB_BOTH (i : Nat) : Field := ⟨R.GT_CFG i, 6, 1⟩
def GT_CFG_ONESHOT (i : Nat) : Field := ⟨R.GT_CFG i, 5, 1⟩
def GT_CFG_SHADOW (i : Nat) : Field := ⟨R.GT_CFG i, 4, 1⟩
def GT_CFG_TRGO (i : Nat) : Field := ⟨R.GT_CFG i, 2, 2⟩
def GT_CFG_SMODE (i : Nat) : Field := ⟨R.GT_CFG i, 0, 2⟩
def GT_INIT_PERIOD (i : Nat) : Field := ⟨R.GT_INIT i, 0, 16⟩
def GT_CNT_COUNT (i : Nat) : Field := ⟨R.GT_CNT i, 0, 16⟩
def GT_PERIOD_ACTIVE (i : Nat) : Field := ⟨R.GT_PERIOD i, 16, 16⟩
def GT_PERIOD_PERIOD (i : Nat) : Field := ⟨R.GT_PERIOD i, 0, 16⟩
def GT_CMP_ACTIVE (i : Nat) : Field := ⟨R.GT_CMP i, 16, 16⟩
def GT_CMP_CMP (i : Nat) : Field := ⟨R.GT_CMP i, 0, 16⟩
def GT_CAP_CAP (i : Nat) : Field := ⟨R.GT_CAP i, 0, 16⟩
def GT_CTL_CAP_OVR (i : Nat) : Field := ⟨R.GT_CTL i, 19, 1⟩
def GT_CTL_CAPT (i : Nat) : Field := ⟨R.GT_CTL i, 18, 1⟩
def GT_CTL_MATCH (i : Nat) : Field := ⟨R.GT_CTL i, 17, 1⟩
def GT_CTL_OVF (i : Nat) : Field := ⟨R.GT_CTL i, 16, 1⟩
def GT_CTL_PEND (i : Nat) : Field := ⟨R.GT_CTL i, 9, 1⟩
def GT_CTL_RUNNING (i : Nat) : Field := ⟨R.GT_CTL i, 8, 1⟩
def GT_CTL_UPDATE (i : Nat) : Field := ⟨R.GT_CTL i, 3, 1⟩
def GT_CTL_RESET (i : Nat) : Field := ⟨R.GT_CTL i, 2, 1⟩
def GT_CTL_STOP (i : Nat) : Field := ⟨R.GT_CTL i, 1, 1⟩
def GT_CTL_START (i : Nat) : Field := ⟨R.GT_CTL i, 0, 1⟩
def SLOT_POSI_INT (i : Nat) : Field := ⟨R.SLOT_POSI i, 0, 32⟩
def SLOT_POSF_FRAC (i : Nat) : Field := ⟨R.SLOT_POSF i, 0, 16⟩
def SLOT_MAP_ARM_R (i : Nat) : Field := ⟨R.SLOT_MAP i, 25, 1⟩
def SLOT_MAP_ARM_F (i : Nat) : Field := ⟨R.SLOT_MAP i, 24, 1⟩
def SLOT_MAP_BOTH (i : Nat) : Field := ⟨R.SLOT_MAP i, 17, 1⟩
def SLOT_MAP_EN (i : Nat) : Field := ⟨R.SLOT_MAP i, 16, 1⟩
def SLOT_MAP_TARGET (i : Nat) : Field := ⟨R.SLOT_MAP i, 8, 8⟩
def SLOT_MAP_ACTION (i : Nat) : Field := ⟨R.SLOT_MAP i, 0, 8⟩
def SLOT_ARG_ARG (i : Nat) : Field := ⟨R.SLOT_ARG i, 0, 32⟩
def LENS_CFG_FAILSAFE (i : Nat) : Field := ⟨R.LENS_CFG i, 23, 1⟩
def LENS_CFG_COVER (i : Nat) : Field := ⟨R.LENS_CFG i, 22, 1⟩
def LENS_CFG_EDGE (i : Nat) : Field := ⟨R.LENS_CFG i, 20, 2⟩
def LENS_CFG_MODE (i : Nat) : Field := ⟨R.LENS_CFG i, 16, 2⟩
def LENS_CFG_HYST (i : Nat) : Field := ⟨R.LENS_CFG i, 8, 2⟩
def LENS_CFG_INPUT (i : Nat) : Field := ⟨R.LENS_CFG i, 0, 8⟩
def LENS_TH_HI (i : Nat) : Field := ⟨R.LENS_TH i, 8, 8⟩
def LENS_TH_LO (i : Nat) : Field := ⟨R.LENS_TH i, 0, 8⟩
def LENS_CTL_RESTORE (i : Nat) : Field := ⟨R.LENS_CTL i, 2, 1⟩
def LENS_CTL_ABORT (i : Nat) : Field := ⟨R.LENS_CTL i, 1, 1⟩
def LENS_CTL_CHECK (i : Nat) : Field := ⟨R.LENS_CTL i, 0, 1⟩
def LENS_STAT_PENDING (i : Nat) : Field := ⟨R.LENS_STAT i, 20, 1⟩
def LENS_STAT_FSTEP (i : Nat) : Field := ⟨R.LENS_STAT i, 16, 4⟩
def LENS_STAT_RESTORE_REJ (i : Nat) : Field := ⟨R.LENS_STAT i, 15, 1⟩
def LENS_STAT_UNAVAIL (i : Nat) : Field := ⟨R.LENS_STAT i, 14, 1⟩
def LENS_STAT_FAILED (i : Nat) : Field := ⟨R.LENS_STAT i, 13, 1⟩
def LENS_STAT_TESTING (i : Nat) : Field := ⟨R.LENS_STAT i, 12, 1⟩
def LENS_STAT_COVERED (i : Nat) : Field := ⟨R.LENS_STAT i, 11, 1⟩
def LENS_STAT_RESULT (i : Nat) : Field := ⟨R.LENS_STAT i, 8, 3⟩
def LENS_STAT_STANDIN_V (i : Nat) : Field := ⟨R.LENS_STAT i, 7, 1⟩
def LENS_STAT_STANDIN (i : Nat) : Field := ⟨R.LENS_STAT i, 2, 5⟩
def LENS_STAT_C_HI (i : Nat) : Field := ⟨R.LENS_STAT i, 1, 1⟩
def LENS_STAT_C_LO (i : Nat) : Field := ⟨R.LENS_STAT i, 0, 1⟩
def LENS_OUT_OUT : Field := ⟨R.LENS_OUT, 0, 24⟩
def LENS_EVTF_EDGE : Field := ⟨R.LENS_EVTF, 0, 24⟩
def LENS_AUTO_INTERVAL : Field := ⟨R.LENS_AUTO, 0, 8⟩
def LENS_SPARE_USE23 : Field := ⟨R.LENS_SPARE, 13, 3⟩
def LENS_SPARE_SERVES23 : Field := ⟨R.LENS_SPARE, 8, 5⟩
def LENS_SPARE_USE22 : Field := ⟨R.LENS_SPARE, 5, 3⟩
def LENS_SPARE_SERVES22 : Field := ⟨R.LENS_SPARE, 0, 5⟩
def WDT_CFG_WDO_MS : Field := ⟨R.WDT_CFG, 24, 8⟩
def WDT_CFG_HOST_REQ : Field := ⟨R.WDT_CFG, 23, 1⟩
def WDT_CFG_RESET_EN : Field := ⟨R.WDT_CFG, 22, 1⟩
def WDT_CFG_TASKS : Field := ⟨R.WDT_CFG, 16, 5⟩
def WDT_CFG_PERIOD : Field := ⟨R.WDT_CFG, 0, 16⟩
def WDT_PERIOD_T_TICKS : Field := ⟨R.WDT_PERIOD_T, 0, 20⟩
def WDT_OPEN_T_TICKS : Field := ⟨R.WDT_OPEN_T, 0, 20⟩
def WDT_COUNT_C : Field := ⟨R.WDT_COUNT, 0, 20⟩
def WDT_CHAL_PERIODS : Field := ⟨R.WDT_CHAL, 16, 16⟩
def WDT_CHAL_CHALLENGE : Field := ⟨R.WDT_CHAL, 0, 16⟩
def WDT_CHECKIN_ID : Field := ⟨R.WDT_CHECKIN, 0, 8⟩
def WDT_SERVICE_ECHO : Field := ⟨R.WDT_SERVICE, 16, 16⟩
def WDT_SERVICE_TOKEN : Field := ⟨R.WDT_SERVICE, 0, 16⟩
def WDT_STAT_FORCE_REJ : Field := ⟨R.WDT_STAT, 12, 1⟩
def WDT_STAT_EXPIRED : Field := ⟨R.WDT_STAT, 11, 1⟩
def WDT_STAT_CLK_STOP : Field := ⟨R.WDT_STAT, 10, 1⟩
def WDT_STAT_BAD_ORIGIN : Field := ⟨R.WDT_STAT, 9, 1⟩
def WDT_STAT_BAD_ID : Field := ⟨R.WDT_STAT, 8, 1⟩
def WDT_STAT_MODE : Field := ⟨R.WDT_STAT, 4, 1⟩
def WDT_STAT_CLK : Field := ⟨R.WDT_STAT, 3, 1⟩
def WDT_STAT_FROZEN : Field := ⟨R.WDT_STAT, 2, 1⟩
def WDT_STAT_WINDOW : Field := ⟨R.WDT_STAT, 1, 1⟩
def WDT_STAT_ARMED : Field := ⟨R.WDT_STAT, 0, 1⟩
def WDT_FAULT_EXCESS : Field := ⟨R.WDT_FAULT, 16, 16⟩
def WDT_FAULT_MISS : Field := ⟨R.WDT_FAULT, 0, 16⟩
def WDT_LAST_RESETS : Field := ⟨R.WDT_LAST, 16, 16⟩
def WDT_LAST_CAUSE : Field := ⟨R.WDT_LAST, 0, 4⟩
def WDT_CTL_FORCE : Field := ⟨R.WDT_CTL, 0, 1⟩
def WDT_FUSE_NOFREEZE : Field := ⟨R.WDT_FUSE, 3, 1⟩
def WDT_FUSE_WINDOW : Field := ⟨R.WDT_FUSE, 0, 3⟩
def WDT_TASK_SIGNATURE (i : Nat) : Field := ⟨R.WDT_TASK i, 16, 16⟩
def WDT_TASK_OWNER (i : Nat) : Field := ⟨R.WDT_TASK i, 8, 8⟩
def WDT_TASK_TASK_ID (i : Nat) : Field := ⟨R.WDT_TASK i, 0, 8⟩
def EVB_PEND_PEND (i : Nat) : Field := ⟨R.EVB_PEND i, 0, 32⟩
def EVB_INT0_EN (i : Nat) : Field := ⟨R.EVB_INT0 i, 0, 32⟩
def EVB_INT1_EN (i : Nat) : Field := ⟨R.EVB_INT1 i, 0, 32⟩
def EVB_CORE_EN (i : Nat) : Field := ⟨R.EVB_CORE i, 0, 32⟩
def EVB_WAKE_EN (i : Nat) : Field := ⟨R.EVB_WAKE i, 0, 32⟩
def EVB_FIFO_EN (i : Nat) : Field := ⟨R.EVB_FIFO i, 0, 32⟩
def EV_SW_RAISE : Field := ⟨R.EV_SW, 0, 6⟩
def EVF_STAT_LOST : Field := ⟨R.EVF_STAT, 16, 16⟩
def EVF_STAT_COUNT : Field := ⟨R.EVF_STAT, 0, 7⟩
def EVF_DATA0_VALID : Field := ⟨R.EVF_DATA0, 31, 1⟩
def EVF_DATA0_GAP : Field := ⟨R.EVF_DATA0, 30, 1⟩
def EVF_DATA0_EVENT : Field := ⟨R.EVF_DATA0, 16, 8⟩
def EVF_DATA0_TIME : Field := ⟨R.EVF_DATA0, 0, 16⟩
def EVF_DATA1_TIME : Field := ⟨R.EVF_DATA1, 0, 32⟩
def EVF_CTL_FLUSH : Field := ⟨R.EVF_CTL, 0, 1⟩
def DMA_SRC_TRIG (i : Nat) : Field := ⟨R.DMA_SRC i, 16, 8⟩
def DMA_SRC_ADDR (i : Nat) : Field := ⟨R.DMA_SRC i, 0, 16⟩
def DMA_DST_ADDR (i : Nat) : Field := ⟨R.DMA_DST i, 0, 19⟩
def DMA_CTL_EN (i : Nat) : Field := ⟨R.DMA_CTL i, 31, 1⟩
def DMA_CTL_LEN (i : Nat) : Field := ⟨R.DMA_CTL i, 0, 13⟩
def DMA_STAT_OVERRUN (i : Nat) : Field := ⟨R.DMA_STAT i, 16, 16⟩
def DMA_STAT_POS (i : Nat) : Field := ⟨R.DMA_STAT i, 0, 13⟩
def CAP_CFG_WINDOW_MAX : Field := ⟨R.CAP_CFG, 16, 16⟩
def CAP_CFG_RATE : Field := ⟨R.CAP_CFG, 8, 7⟩
def CAP_CFG_CHANNELS : Field := ⟨R.CAP_CFG, 0, 5⟩
def CAP_EVT_STOP_EVT : Field := ⟨R.CAP_EVT, 16, 16⟩
def CAP_EVT_START_EVT : Field := ⟨R.CAP_EVT, 0, 16⟩
def CAP_CH_CH (i : Nat) : Field := ⟨R.CAP_CH i, 0, 32⟩
def CAP_CTL_EN : Field := ⟨R.CAP_CTL, 8, 1⟩
def CAP_CTL_CLOSE : Field := ⟨R.CAP_CTL, 1, 1⟩
def CAP_CTL_OPEN : Field := ⟨R.CAP_CTL, 0, 1⟩
def CAP_STAT_HALF : Field := ⟨R.CAP_STAT, 5, 1⟩
def CAP_STAT_OPEN : Field := ⟨R.CAP_STAT, 4, 1⟩
def CAP_STAT_STATE_B : Field := ⟨R.CAP_STAT, 2, 2⟩
def CAP_STAT_STATE_A : Field := ⟨R.CAP_STAT, 0, 2⟩
def CAP_FRAMES_FRAMES : Field := ⟨R.CAP_FRAMES, 0, 21⟩
def CAP_CNT_MISSED : Field := ⟨R.CAP_CNT, 16, 16⟩
def CAP_CNT_WINDOWS : Field := ⟨R.CAP_CNT, 0, 16⟩
def CAP_CYCLE_CYCLE : Field := ⟨R.CAP_CYCLE, 0, 32⟩
def NAND_CFG_PATROL : Field := ⟨R.NAND_CFG, 24, 8⟩
def NAND_CFG_RETIRE : Field := ⟨R.NAND_CFG, 16, 8⟩
def NAND_CFG_PSLC_SEQ : Field := ⟨R.NAND_CFG, 12, 4⟩
def NAND_CFG_RING : Field := ⟨R.NAND_CFG, 10, 1⟩
def NAND_CFG_PSLC : Field := ⟨R.NAND_CFG, 9, 1⟩
def NAND_CFG_CE1 : Field := ⟨R.NAND_CFG, 8, 1⟩
def NAND_CFG_TMODE : Field := ⟨R.NAND_CFG, 4, 3⟩
def NAND_CFG_IFACE : Field := ⟨R.NAND_CFG, 0, 1⟩
def NAND_GEOM_BLOCKS : Field := ⟨R.NAND_GEOM, 16, 16⟩
def NAND_GEOM_PPB : Field := ⟨R.NAND_GEOM, 8, 4⟩
def NAND_GEOM_BPP : Field := ⟨R.NAND_GEOM, 0, 2⟩
def NAND_STAT_SPARES : Field := ⟨R.NAND_STAT, 16, 16⟩
def NAND_STAT_PATROL : Field := ⟨R.NAND_STAT, 9, 1⟩
def NAND_STAT_COMMIT : Field := ⟨R.NAND_STAT, 8, 1⟩
def NAND_STAT_STATE : Field := ⟨R.NAND_STAT, 0, 3⟩
def LOG_SEQ_NEXT : Field := ⟨R.LOG_SEQ, 0, 32⟩
def LOG_TAIL_OLDEST : Field := ⟨R.LOG_TAIL, 0, 32⟩
def LOG_CNT_ROLLBACKS : Field := ⟨R.LOG_CNT, 16, 16⟩
def LOG_CNT_RETIRED : Field := ⟨R.LOG_CNT, 0, 16⟩
def REC_SEL_SEQ : Field := ⟨R.REC_SEL, 0, 32⟩
def REC_CTL_CORR : Field := ⟨R.REC_CTL, 24, 8⟩
def REC_CTL_RESULT : Field := ⟨R.REC_CTL, 16, 3⟩
def REC_CTL_FETCH : Field := ⟨R.REC_CTL, 12, 1⟩
def REC_CTL_INDEX : Field := ⟨R.REC_CTL, 0, 10⟩
def REC_DATA_DATA : Field := ⟨R.REC_DATA, 0, 32⟩
def FLOG_SEL_ENTRY : Field := ⟨R.FLOG_SEL, 0, 10⟩
def FLOG_STAT_SEL_VOID : Field := ⟨R.FLOG_STAT, 11, 1⟩
def FLOG_STAT_FIRST : Field := ⟨R.FLOG_STAT, 10, 1⟩
def FLOG_STAT_NEWEST : Field := ⟨R.FLOG_STAT, 0, 10⟩
def FLOG_DATA_DATA (i : Nat) : Field := ⟨R.FLOG_DATA i, 0, 32⟩
def MRAM_STAT_UNCORR : Field := ⟨R.MRAM_STAT, 24, 1⟩
def MRAM_STAT_CORRECTED : Field := ⟨R.MRAM_STAT, 16, 8⟩
def MRAM_STAT_SPARE_LEFT : Field := ⟨R.MRAM_STAT, 0, 10⟩
def NVADDR_OFFSET : Field := ⟨R.NVADDR, 0, 22⟩
def NVDATA_DATA : Field := ⟨R.NVDATA, 0, 32⟩
def PRISM_TSEL_SOURCE : Field := ⟨R.PRISM_TSEL, 0, 8⟩
def PRISM_TMM_MAX : Field := ⟨R.PRISM_TMM, 16, 16⟩
def PRISM_TMM_MIN : Field := ⟨R.PRISM_TMM, 0, 16⟩
def PRISM_TMEAN_COUNT : Field := ⟨R.PRISM_TMEAN, 16, 16⟩
def PRISM_TMEAN_MEAN : Field := ⟨R.PRISM_TMEAN, 0, 16⟩
def METER_IN_E (i : Nat) : Field := ⟨R.METER_IN i, 0, 32⟩
def METER_OUT_E (i : Nat) : Field := ⟨R.METER_OUT i, 0, 32⟩
def ST_CFG_MARGIN : Field := ⟨R.ST_CFG, 0, 8⟩
def ST_ADC_PENDING1 : Field := ⟨R.ST_ADC, 13, 1⟩
def ST_ADC_PENDING0 : Field := ⟨R.ST_ADC, 12, 1⟩
def ST_ADC_RESULT1 : Field := ⟨R.ST_ADC, 8, 3⟩
def ST_ADC_RESULT0 : Field := ⟨R.ST_ADC, 4, 3⟩
def ST_ADC_CAL1 : Field := ⟨R.ST_ADC, 1, 1⟩
def ST_ADC_CAL0 : Field := ⟨R.ST_ADC, 0, 1⟩
def FUNC_PEND_SHED : Field := ⟨R.FUNC_PEND, 8, 6⟩
def FUNC_PEND_LENS : Field := ⟨R.FUNC_PEND, 5, 1⟩
def FUNC_PEND_MSCRUB : Field := ⟨R.FUNC_PEND, 4, 1⟩
def FUNC_PEND_SLOT : Field := ⟨R.FUNC_PEND, 3, 1⟩
def FUNC_PEND_PATROL : Field := ⟨R.FUNC_PEND, 2, 1⟩
def FUNC_PEND_CAP : Field := ⟨R.FUNC_PEND, 1, 1⟩
def FUNC_PEND_CHG : Field := ⟨R.FUNC_PEND, 0, 1⟩
def BG_CTL_LENS_AUTO : Field := ⟨R.BG_CTL, 3, 1⟩
def BG_CTL_MSCRUB : Field := ⟨R.BG_CTL, 2, 1⟩
def BG_CTL_SLOT_CHK : Field := ⟨R.BG_CTL, 1, 1⟩
def BG_CTL_PATROL : Field := ⟨R.BG_CTL, 0, 1⟩
def BG_STAT_SCRUB_AGE_H : Field := ⟨R.BG_STAT, 16, 16⟩
def BG_STAT_SLOT_AGE_H : Field := ⟨R.BG_STAT, 0, 16⟩
def AVL_DARK_MS : Field := ⟨R.AVL_DARK, 0, 32⟩
def LC_STAT_RESULT : Field := ⟨R.LC_STAT, 16, 8⟩
def LC_STAT_BUSY : Field := ⟨R.LC_STAT, 15, 1⟩
def LC_STAT_CHANGING : Field := ⟨R.LC_STAT, 14, 1⟩
def LC_STAT_PRESENT : Field := ⟨R.LC_STAT, 8, 4⟩
def LC_STAT_REVOKED : Field := ⟨R.LC_STAT, 4, 4⟩
def LC_STAT_STATE : Field := ⟨R.LC_STAT, 0, 2⟩
def LC_CTL_GO : Field := ⟨R.LC_CTL, 31, 1⟩
def LC_CTL_KEY : Field := ⟨R.LC_CTL, 16, 2⟩
def LC_CTL_ARG : Field := ⟨R.LC_CTL, 8, 8⟩
def LC_CTL_OP : Field := ⟨R.LC_CTL, 0, 4⟩
def LC_NONCE_NONCE : Field := ⟨R.LC_NONCE, 0, 32⟩
def LC_UID_UID (i : Nat) : Field := ⟨R.LC_UID i, 0, 32⟩
def LC_BUF_DATA (i : Nat) : Field := ⟨R.LC_BUF i, 0, 32⟩
def LC_SIG_DATA (i : Nat) : Field := ⟨R.LC_SIG i, 0, 32⟩

end F

end Sys2Proof.Machine
end

