-- ==== Sys2Proof/Machine/Sparse.lean ====
section
/-!
DEFINITION. Sparse tables in one canonical form: keys strictly rising and no entry equal to what an unlisted key
reads as. The register file (R461) and every byte memory of the block are such tables, so equal contents are equal data.
-/
namespace Sys2Proof.Machine

/-- What key `k` reads as in table `m`, where an unlisted key reads as `dflt k`. -/
def Sparse.get {α : Type} (dflt : Nat → α) : List (Nat × α) → Nat → α
  | [], k => dflt k
  | (a, v) :: t, k => if k = a then v else Sparse.get dflt t k

/-- `m` without an entry for `k`. -/
def Sparse.erase {α : Type} : List (Nat × α) → Nat → List (Nat × α)
  | [], _ => []
  | (a, v) :: t, k => if k = a then Sparse.erase t k else (a, v) :: Sparse.erase t k

/-- `m` with `v` listed at `k`. -/
def Sparse.insert {α : Type} : List (Nat × α) → Nat → α → List (Nat × α)
  | [], k, v => [(k, v)]
  | (a, w) :: t, k, v =>
    if k < a then (k, v) :: (a, w) :: t
    else if k = a then (k, v) :: t
    else (a, w) :: Sparse.insert t k v

/-- Table `m` after writing `v` at `k`; writing what an unlisted key reads as removes the entry. -/
def Sparse.set {α : Type} [DecidableEq α] (dflt : Nat → α) (m : List (Nat × α)) (k : Nat) (v : α) : List (Nat × α) :=
  if v = dflt k then Sparse.erase m k else Sparse.insert m k v

/-- The canonical form, from a lower bound on the keys. -/
def Sparse.wfFrom {α : Type} [DecidableEq α] (dflt : Nat → α) : Nat → List (Nat × α) → Bool
  | _, [] => true
  | lo, (a, v) :: t => decide (lo ≤ a) && decide (v ≠ dflt a) && Sparse.wfFrom dflt (a + 1) t

/-- The canonical form of a table. -/
def Sparse.wf {α : Type} [DecidableEq α] (dflt : Nat → α) (m : List (Nat × α)) : Bool := Sparse.wfFrom dflt 0 m

/-! ### Byte memories: an unlisted byte reads 0 (assumption 2). -/

/-- A byte of a memory. -/
def Mem.byte (m : List (Nat × Byte)) (a : Nat) : Byte := Sparse.get (fun _ => 0#8) m a

/-- A memory after one byte is written. -/
def Mem.setByte (m : List (Nat × Byte)) (a : Nat) (v : Byte) : List (Nat × Byte) := Sparse.set (fun _ => 0#8) m a v

/-- The canonical form of a byte memory. -/
def Mem.wf (m : List (Nat × Byte)) : Bool := Sparse.wf (fun _ => 0#8) m

/-- The 32-bit word at `a`, byte 0 in bits [7:0] (R33, R86). -/
def Mem.word (m : List (Nat × Byte)) (a : Nat) : Word :=
  (Mem.byte m (a + 3)) ++ (Mem.byte m (a + 2)) ++ (Mem.byte m (a + 1)) ++ (Mem.byte m a)

/-- A memory after the 32-bit word `w` is written at `a`, byte 0 from bits [7:0] (R86). -/
def Mem.setWord (m : List (Nat × Byte)) (a : Nat) (w : Word) : List (Nat × Byte) :=
  Mem.setByte (Mem.setByte (Mem.setByte (Mem.setByte m a (w.extractLsb' 0 8)) (a + 1) (w.extractLsb' 8 8))
    (a + 2) (w.extractLsb' 16 8)) (a + 3) (w.extractLsb' 24 8)

/-- A memory after the bytes `bs` are written from `a` on. -/
def Mem.setBytes (m : List (Nat × Byte)) (a : Nat) : List Byte → List (Nat × Byte)
  | [] => m
  | b :: bs => Mem.setBytes (Mem.setByte m a b) (a + 1) bs

/-- The `n` bytes from `a`. -/
def Mem.bytes (m : List (Nat × Byte)) (a n : Nat) : List Byte := (List.range n).map fun i => Mem.byte m (a + i)

/-- The little-endian number in the `n` bytes from `a` (R33). -/
def Mem.le (m : List (Nat × Byte)) (a n : Nat) : Nat :=
  (Mem.bytes m a n).foldr (fun b acc => b.toNat + 256 * acc) 0

/-- A memory without the bytes of `lo` to `hi - 1`: they read 0. -/
def Mem.clear (m : List (Nat × Byte)) (lo hi : Nat) : List (Nat × Byte) :=
  m.filter fun c => decide (c.1 < lo) || decide (hi ≤ c.1)

/-! ### Fixed arrays of like things -/

/-- Element `i` of an array; past the end, the element type's default. -/
def vget {α : Type} [Inhabited α] {n : Nat} (v : Vector α n) (i : Nat) : α := (v[i]?).getD default

/-- An array with element `i` replaced; past the end, unchanged. -/
def vset {α : Type} {n : Nat} (v : Vector α n) (i : Nat) (x : α) : Vector α n := v.setIfInBounds i x

/-! ### Checksums -/

/-- One bit of the reflected CRC-32 of R37. -/
def crc32Bit (c : BitVec 32) : BitVec 32 := if c.getLsbD 0 then (c >>> 1) ^^^ 0xEDB88320#32 else c >>> 1

/-- One byte of the CRC-32 of R37. -/
def crc32Byte (c : BitVec 32) (b : Byte) : BitVec 32 :=
  (List.range 8).foldl (fun c _ => crc32Bit c) (c ^^^ b.setWidth 32)

/-- The CRC-32 of R37: reflected, initial value and final XOR all ones. -/
def crc32 (bs : List Byte) : Word := (bs.foldl crc32Byte 0xFFFFFFFF#32) ^^^ 0xFFFFFFFF#32

/-- One byte of the host frame CRC-8 of R432: polynomial 2Fh, no reflection. -/
def crc8Byte (c : Byte) (b : Byte) : Byte :=
  (List.range 8).foldl (fun c _ => if c.getMsbD 0 then (c <<< 1) ^^^ 0x2F#8 else c <<< 1) (c ^^^ b)

/-- The host frame CRC-8 of R432: initial value FFh, no final XOR. -/
def crc8 (bs : List Byte) : Byte := bs.foldl crc8Byte 0xFF#8

/-- The bytes of a word, least significant first. -/
def leBytes (w : Word) : List Byte :=
  [w.extractLsb' 0 8, w.extractLsb' 8 8, w.extractLsb' 16 8, w.extractLsb' 24 8]

end Sys2Proof.Machine
end

