-- ==== Sys2Proof/Machine/State.lean ====
section
/-!
DEFINITION. The state of the GL7416 as plain data: the register file (R461 to R465), the state that no register shows,
structure by structure, and the queue of waiting commands. Every field's default is its value right after power-on
(State.reset); the assumption log names those the spec does not give.
-/
namespace Sys2Proof.Machine

/-- The power modes of the two dies. -/
inductive PowerMode where
  | on          -- both dies powered
  | keepAlive   -- only the keep-alive domain, the wake comparators and the ring pass-through (R200)
  | ship        -- ship mode (R204)
  | cycleHeld   -- the 12 s power cycle holds both dies in reset (R207)
deriving DecidableEq, Repr, Inhabited

/-- The power die's keep-alive domain and its view of the logic die. -/
structure PowerState where
  /-- power mode; R200, R204, R207; on -/
  mode : PowerMode := .on
  /-- logic die held in reset; R406; yes -/
  inReset : Bool := false
  /-- cause the next reset release records, RSTCAUSE coding, 4 bits; R407; 0 -/
  resetCause : Nat := 0
  /-- the logic-die comparator is tripped, so the reset is not released; R336; no -/
  ldTripped : Bool := false
  /-- the comparator has tripped since the logic die last started, which EVB3 source 27 reports then; R336, R340; no -/
  ldRaise : Bool := false
  /-- the power die declares the logic die absent; R21; yes -/
  absent : Bool := false
  /-- course engines run; R65 step 6; no -/
  engines : Bool := false
  /-- the control core runs; R65 step 6; no -/
  coreRuns : Bool := false
  /-- step 1 of R65 has ended, so the host port takes frames; R430, R439; no -/
  hostReady : Bool := false
  /-- device time, 48 bits, keep-alive domain; R444; 0 -/
  time : Nat := 0
  /-- microseconds counted by the block's idle steps, the clock of its durations; the model's own counter; 0 -/
  clock : Nat := 0
  /-- 32.768 kHz ticks since keep-alive began, and the device time at that instant; R444; 0 -/
  kaTicks : Nat := 0
  kaStart : Nat := 0
  /-- VDRV is above its threshold; R88; yes -/
  vdrvOk : Bool := true
  /-- configuration words of the power die, as the last image apply gave them; R21, R77, R147, R171; none -/
  conf : List (Nat × Word) := []
  /-- a power-fail save has completed since the last release; R405; no -/
  pfsDone : Bool := false
  /-- a power-fail save was cut short; R405; no -/
  pfsMissed : Bool := false
  /-- E_AVAIL as the retained region held it before the last save; R404; 0 -/
  pfsOld : Nat := 0
  /-- course and block clock of a mirror fault that reset the logic die; R156, R164; none -/
  mirrorAt : Option (Nat × Nat) := none
  /-- block clock at which the logic-die reset that holds now took hold; R407; none -/
  resetAt : Option Nat := none
  /-- VKA stands below 1.8 V, so that keep-alive, ship mode and the nBTN timing are unpowered; R473; no -/
  vkaLow : Bool := false
  /-- level of the wake and interrupt outputs to the core: core interrupt asserted (R448), and a wake raised by the last command -/
  coreInt : Bool := false
  coreWake : Bool := false
deriving DecidableEq, Repr, Inhabited

/-- Levels of the balls that the block drives and that no register shows (R447, R484). True is driven low for nINT. -/
structure Balls where
  /-- nINT0 and nINT1 driven low; R447; released -/
  nInt0 : Bool := false
  nInt1 : Bool := false
  /-- WDO driven low (a pulse runs); R356; high -/
  wdoLow : Bool := false
  /-- what stands at each node that a lens can watch, by INPUT code, in microvolts: the ball voltage, the voltage of SYSS, MAINS, BATS or VDRV, that across a
  port sense shunt, or that at a tile's sense input; R301; 0 -/
  node : Vector Int 96 := Vector.replicate 96 0
deriving DecidableEq, Repr, Inhabited

/-- An image slot of MRAM: 1 572 864 bytes, and its seal word (R68). -/
structure Slot where
  bytes  : List (Nat × Byte) := []
  sealed : Bool := false
  /-- 64-bit words with an uncorrectable error, by number: their section fails its CRC; R391 -/
  spoilt : List Nat := []
deriving DecidableEq, Repr, Inhabited

/-- The boot record (text before R65); SVN_MIN lives in IMGSVN. The generation count keeps all its bits. -/
structure BootRecord where
  /-- the active slot, 0 for A and 1 for B; none active only in RETURN (R422); 0 -/
  active : Nat := 0
  noneActive : Bool := false
  trial : Bool := false
  /-- the trial slot has already booted once -/
  booted : Bool := false
  /-- the other slot is a valid fallback -/
  altValid : Bool := false
  generation : Nat := 0
deriving DecidableEq, Repr, Inhabited

/-- One recorded live value (R76): the field and the value. -/
structure LiveEntry where
  field : Field
  value : Nat
deriving DecidableEq, Repr

/-- The live record of the retained region (R76). -/
structure LiveRecord where
  tag     : List Word := []
  entries : List LiveEntry := []
deriving DecidableEq, Repr, Inhabited

/-- An entry of the fault log (R390): device time, event number, entry number, DETAIL, and the stored CRC word. -/
structure LogEntry where
  time   : Nat := 0
  event  : Nat := 0
  number : Nat := 0
  detail : List Word := []
  crc    : Word := 0
deriving DecidableEq, Repr, Inhabited

/-- A key slot of the identity and keys region (R63, R420): the public key bytes of LC_BUF, if a key is held. -/
structure KeySlot where
  key     : Option (List Word) := none
deriving DecidableEq, Repr, Inhabited

/-- A fault-log entry asked for by the command being executed. -/
structure LogReq where
  event : Nat
  time  : Nat
  words : List Word
deriving DecidableEq, Repr

/-- An entry of the event FIFO (R449). -/
structure FifoEntry where
  event : Nat
  time  : Nat
  gap   : Bool
deriving DecidableEq, Repr

/-- A response of the host port (R435) or the stream of a burst read (R440). -/
structure Response where
  /-- STATUS byte: INT, RST, CODE -/
  status : Nat := 0
  addr   : Nat := 0
  /-- one word, or the words of a stream -/
  data   : List Word := []
  /-- the slot carries a burst-read stream -/
  stream : Bool := false
deriving DecidableEq, Repr, Inhabited

/-- The host port (R430 to R441). -/
structure HostPort where
  /-- nCS is low; R430; no -/
  selected : Bool := false
  /-- response that the next frame shifts out; none: code 0Ah -/
  pending : Option Response := none
  /-- response of the last executed frame, for REPEAT (R437) -/
  last : Option Response := none
  /-- the response last shifted out -/
  shifted : Response := {}
  /-- no response has been shifted out since the last reset release: the next carries RST (R435) -/
  first : Bool := true
  /-- words of a burst write still to be applied, in order, their address, and what the world shows to them (R441) -/
  burst : List Word := []
  burstAddr : Nat := 0
  burstWorld : AccessWorld := {}
deriving DecidableEq, Repr, Inhabited

/-- Event FIFO, DMA and debug state (R449, R454, R456). -/
structure EventState where
  fifo : List FifoEntry := []
  /-- a raise was lost since the last entry was written (R450) -/
  gap : Bool := false
  /-- channels whose request waits, bit by channel (R454) -/
  dmaWait : List Nat := []
deriving DecidableEq, Repr, Inhabited

/-- Image commands in progress (R68 to R73). -/
structure ImgState where
  /-- the inactive slot is open -/
  slotOpen : Bool := false
  /-- a CHECK runs (R69) -/
  checking : Bool := false
  /-- COMMIT_PENDING waits for a trial expiry, not for a COMMIT (R72) -/
  expiry : Bool := false
  /-- RAISE_SVN of the running image (R64) -/
  raiseSvn : Bool := false
deriving DecidableEq, Repr, Inhabited


/-! ### Tiles and courses -/

/-- The gates of a tile (R87, R92): both off, active switch on, synchronous switch on, low side held on (R145, R121). -/
inductive Gates where
  | off | active | sync | lowHeld
deriving DecidableEq, Repr, Inhabited

/-- State of a tile that no register shows. -/
structure Tile where
  /-- gate commands; R87, R92; both off -/
  gates : Gates := .off
  /-- an arming runs (VDRV present); R102; no -/
  armRuns : Bool := false
  /-- slot this tile will fill when its arming ends; R118; none -/
  assigned : Option Nat := none
  /-- state to enter at the next boundary, in the STATE coding; R100; none -/
  next : Option Nat := none
  /-- offset before the shed, for an abort; R112; 0 -/
  former : Nat := 0
  /-- this cycle: comparator tripped, maximum on-time expired, on-time and fall time in PWM clocks, threshold at the trip; R97 -/
  tripped : Bool := false
  maxed : Bool := false
  tOn : Nat := 0
  tFall : Nat := 0
  /-- valley sample of the cycle, 10 mA; R97; 0 -/
  valley : Int := 0
  /-- (mean current, ripple) of the last 16 cycles, newest first, 10 mA doubled so that (peak + valley) stays whole; R97; none -/
  hist : List (Int × Int) := []
  /-- counts of consecutive failing cycles of detectors 1 to 6; R115; 0 -/
  det : Vector Nat 7 := Vector.replicate 7 0
  /-- measured ratio in % for detectors 1 and 2, and for detector 3; R127 DETAIL; 0 -/
  ratio : Nat := 0
  ratio3 : Nat := 0
  /-- a pulse was issued in this cycle; R92; no -/
  pulsed : Bool := false
  /-- energy account of a dump tile, in units of 2.5e-12 J; R122; 0 -/
  energy : Nat := 0
  /-- code that the last update computed, for a dump tile its on-time in PWM clocks; it applies from the next boundary; R129, R135; 0 -/
  code : Nat := 0
  /-- width of the bootstrap refresh pulse issued in this cycle, 10 ns, 0 without one; R89; 0 -/
  refresh : Nat := 0
  /-- the crowbar latch of its course holds the tile, as the power die knows it; R144, R147; no -/
  clamp : Bool := false
  /-- state a running self-test came from, STATE coding; R100; OFF -/
  testFrom : Nat := 0
  /-- a forced shed ramp leads to TEST; R124; no -/
  testRamp : Bool := false
  /-- back from TEST through SHED, not yet added; R107; no -/
  testBack : Bool := false
  /-- an aborted forced shed has ended in SHED: the tile returns at the next add; R125; no -/
  wantAdd : Bool := false
  /-- a stand-in whose arming ended waits for the boundary at which it enters RUN, which is traced; R117 step 5; no -/
  announce : Bool := false
  /-- a self-test passed after the failure; R119; no -/
  passed : Bool := false
  /-- steps of the self-test as requested, bit i for step i + 1; R124; none -/
  testSel : Nat := 0
  /-- microseconds that the running test step has lasted; R124; 0 -/
  stepUs : Nat := 0
  /-- high-side pulse of this cycle suppressed for want of its bootstrap: 0 none, 1 of the synchronous switch, 2 of the active switch; R88, R115; 0 -/
  skip : Nat := 0
deriving DecidableEq, Repr, Inhabited

/-- The failure map of the retained region (R101): per tile, a failed bit with CAUSE and DETAIL, and the slot it stands in for. -/
structure FailEntry where
  failed : Bool := false
  cause  : Nat := 0
  detail : Nat := 0
  slot   : Option Nat := none
deriving DecidableEq, Repr, Inhabited

/-- State of a course that no register shows. -/
structure Course where
  /-- shedding tile in the ramp or awaiting the re-stagger, and its ramp cycle; R109; none -/
  shedTile : Option Nat := none
  rampJ : Nat := 0
  /-- the ramp has run its N cycles; R109; no -/
  rampOver : Bool := false
  /-- consecutive cycles below SHED_TH; R108; 0 -/
  dwell : Nat := 0
  /-- ADD_ALL, or a handover, asks for every SHED tile; R111, R182; no -/
  addAll : Bool := false
  /-- SHED_HOLD asks for every SHED tile until it is cancelled or done; R111, R410; no -/
  holdAll : Bool := false
  /-- a failure asks for a re-stagger at the next boundary; R117; no -/
  failStagger : Bool := false
  /-- a load step asks for an add or an abort; R112; no -/
  stepSeen : Bool := false
  /-- cycles left of the pause of detectors 1, 2 and 4; R116; 0 -/
  pause : Nat := 0
  /-- demands of the last 16 updates, newest first, 10 mA; R112, R411; none -/
  demands : List Nat := []
  /-- updates since the last load step, up to 16; R411; 0 -/
  calm : Nat := 0
  /-- integrators in 1/65 536 of 10 mA: primary, and limits 3, 4, 5, 7; R132, R498; 0 -/
  integ : Vector Int 5 := Vector.replicate 5 0
  /-- the same of the mirror lane; R155; 0 -/
  mirror : Vector Int 5 := Vector.replicate 5 0
  /-- consecutive mismatching cycles; R155; 0 -/
  mmRun : Nat := 0
  /-- demand of the primary loop before the limits, d; R178; 0 -/
  d : Int := 0
  /-- the mode changed since the last update; R134; no -/
  bump : Bool := false
  /-- first demand to preload (handover, handback), 10 mA; R182, R160; none -/
  preload : Option Nat := none
  /-- mode in force through a fall of STOP 1, MODE coding; R143; NONE -/
  falling : Nat := 0
  /-- reference residue, 1/40 000 of a step; R141; 0 -/
  refFrac : Nat := 0
  /-- samples of the last cycle: port voltage 10 mV, port current 10 mA (positive into the device), SYS-side current 10 mA; R130; 0 -/
  vPort : Int := 0
  iPort : Int := 0
  iSys : Int := 0
  /-- consecutive updates with ACTIVE 3, and with demand 0; R178, R161; 0 -/
  run3 : Nat := 0
  run0 : Nat := 0
  /-- direction asked for by a reversal that its guard has not followed yet, and the guard's forward direction; R148 -/
  guardDir : Nat := 0
  guardPend : Bool := false
  /-- CB_CLEAR admitted, release at the next boundary; R146; no -/
  cbRelease : Bool := false
  /-- consecutive updates with FINAL 0; R178; 0 -/
  runF0 : Nat := 0
  /-- the offsets of running tiles have been replaced since the last boundary; R105; no -/
  replaced : Bool := false
  /-- the last update was the COUNT-th mismatching one: a mirror fault of this update; R155, R164; no -/
  mmDue : Bool := false
deriving DecidableEq, Repr, Inhabited

/-- SYS, the hold loop and the crowbar (R137 to R164). -/
structure SysLoop where
  /-- SYS voltage last sampled, 10 mV; R130; 0 -/
  vSys : Int := 0
  /-- SYS-side sums of the last 16 lead updates, newest first, 10 mA; R130; none -/
  sums : List Int := []
  /-- SYS reference residue, 1/40 000 of a step; R138; 0 -/
  refFrac : Nat := 0
  /-- the window has been evaluated since the reset release; R139; no -/
  winSeen : Bool := false
  /-- block clock at which SYS last fell below CB_REL; R146; none -/
  belowSince : Option Nat := none
  /-- hold map: the tiles the power die holds; R106; none -/
  holdMap : List Nat := []
  /-- the hold loop drives the hold map now; R22, R157; no -/
  holdRuns : Bool := false
  /-- the hold loop has run in the present or last absence; R23 (SYSCFG.HOLD_ACTIVE); no -/
  holdDid : Bool := false
  /-- handback waits for a working tile of C1; R160; no -/
  handback : Bool := false
  /-- the SYS reference moves at RATE from the measured voltage to the target after a handback; R160; no -/
  backRef : Bool := false
  /-- block clock at which SYS_STAT.SURP_ST was last seen at 3; R411; none -/
  dumpSeen : Option Nat := none
  /-- microseconds of the present absence and of SYS out of window below 1 ms; R159, R139; 0 -/
  absentUs : Nat := 0
  oowUs : Nat := 0
  darkUs : Nat := 0
deriving DecidableEq, Repr, Inhabited

/-- A port's guard and qualification (R149 to R152, R169 to R173). -/
structure Port where
  /-- image ROLE: 0 not enabled, 1 into the device, 2 out of it, 3 both; R46; 0 -/
  role : Nat := 0
  /-- block clock of the over-current retries in the last 60 s; R152; none -/
  retryTimes : List Nat := []
  /-- an over-current trip holds the FET open; R152; no -/
  ocHeld : Bool := false
  /-- block clock of the last over-current trip; R152; 0 -/
  ocAt : Nat := 0
  /-- REARM was admitted within 1 s of that trip, so the closing of the FET is no retry; R152, R173; no -/
  rearmed : Bool := false
  /-- the over-current trip latched, or a reverse-current or over-voltage trip since the debounce began; R169; no -/
  tripped : Bool := false
  /-- BAT has passed its window debounce; R176; no -/
  debounced : Bool := false
  /-- microseconds of the debounce below 1 ms; R172; 0 -/
  debUs : Nat := 0
  /-- lost as a source and not qualified since; R185; no -/
  outside : Bool := false
  /-- forward direction as the power die holds it while the logic die is absent: 0 none, 1 into the device, 2 out of it; R148; none -/
  fwd : Nat := 0
deriving DecidableEq, Repr, Inhabited

/-- The power path (R175 to R186). -/
structure Path where
  /-- ports by code 1 to 5, or 0: target of a handover, incoming source of a transfer; R182, R186; 0 -/
  target : Nat := 0
  incoming : Nat := 0
  /-- transfer: updates of the outgoing lead since step 2, and step 2 reached; R186; 0 -/
  stepTwo : Bool := false
  stepTwoRun : Nat := 0
  /-- STATE before the transfer; R211; OFF -/
  before : Nat := 0
  /-- block clock at the trigger of the handover; R182; 0 -/
  since : Nat := 0
  /-- the target was lost, or the battery removed, during the handover; R185, R211; no -/
  removed : Bool := false
  /-- back-off ceiling of C1, 1/40 000 of 10 mA; none while not backed off; R180; none -/
  ceiling : Option Nat := none
deriving DecidableEq, Repr, Inhabited

/-- The charger (R187 to R203). -/
structure Charger where
  /-- elapsed microseconds of the timers T_TRICKLE, T_PRE, T_CC, T_CV; R190; 0 -/
  timers : Vector Nat 4 := Vector.replicate 4 0
  /-- a timed phase has been entered since the reset release; R190; no -/
  derivedOnce : Bool := false
  /-- updates of the 16-update over-voltage count; R194; 0 -/
  overRun : Nat := 0
  /-- a valid NTC reading has been made; R196; no -/
  ntcSeen : Bool := false
  /-- window measured by the last round, taken at the next C1 update; R196; none -/
  nextWin : Option Nat := none
  /-- the NTC reads open, or short; R202, R194; no -/
  ntcOpen : Bool := false
  ntcShort : Bool := false
  openRounds : Nat := 0
  /-- removal seen: presence needs a passing probe; R201; no -/
  removed : Bool := false
  /-- a probe pulse runs; BAT voltage at its start, 10 mV; R201; none -/
  probe : Option Int := none
  /-- BAT voltage and current last sampled, 10 mV and 10 mA into the device; R130; 0 -/
  vBat : Int := 0
  iBat : Int := 0
  /-- exact energy account, 1e-9 J; R197; 0 -/
  energy : Nat := 0
  /-- phase that the expiry of its timer ended since the last C1 update; R211; none -/
  timedOut : Option Nat := none
  /-- level of the balancing lens; R192; low -/
  balLevel : Bool := false
deriving DecidableEq, Repr, Inhabited

/-- One lamp (R208): the pattern running, its slot, and the lamp's level. -/
structure Lamp where
  pattern : Nat := 0
  slot    : Nat := 0
  lit     : Bool := false
deriving DecidableEq, Repr, Inhabited


/-! ### Ring Link and the service port (Energy Ports) -/

/-- A Ring Link frame (R220): header fields and payload bytes in order. -/
structure Frame where
  dst  : Nat := 0
  src  : Nat := 0
  typ  : Nat := 0
  prio : Nat := 0
  seq  : Nat := 0
  data : List Byte := []
deriving DecidableEq, Repr, Inhabited

/-- The outstanding frame of a segment (R229, R231). -/
structure Outgoing where
  frame    : Frame := {}
  /-- it has been sent and its answer is awaited -/
  sent     : Bool := false
  retries  : Nat := 0
  busy     : Nat := 0
  coll     : Nat := 0
  /-- it waits 100 µs after a NAK 01h; it backs off after a collision for so many microseconds -/
  waitBusy : Bool := false
  backoff  : Option Nat := none
deriving DecidableEq, Repr, Inhabited

/-- A SWAP_REQ (R223, R241). -/
structure SwapReq where
  v     : Nat := 0
  i     : Nat := 0
  force : Bool := false
  seq   : Nat := 0
deriving DecidableEq, Repr, Inhabited

/-- A segment: line, queues and contract negotiation (R217 to R242). -/
structure Segment where
  /-- the line may be driven under R219; R219; idle -/
  idle : Bool := true
  /-- forwarding queue, in arrival order; R226; empty -/
  queue : List Frame := []
  /-- frames this unit originates; R227; none -/
  own : List Frame := []
  /-- outstanding frame; R229; none -/
  out : Option Outgoing := none
  /-- frames that nobody acknowledges, EMERG, ACK and NAK: the one on the line, and those that a collision has stopped; R228, R231; none -/
  aside : List Outgoing := []
  /-- last frame started, and last ACK or NAK answered, on the segment; R220, R228; none -/
  wire : Option Frame := none
  answer : Option Frame := none
  /-- the bytes that this unit's transceiver last put on the twisted pair, SYNC to CRC; R220, R221; none -/
  line : List Byte := []
  /-- (SRC, SEQ) last accepted per SRC, newest first, at most 64; R230; none -/
  seen : List (Nat × Nat) := []
  /-- own HELLO acknowledged, and a HELLO accepted, since HELLO was entered; R232; no -/
  helloAcked : Bool := false
  helloHeard : Bool := false
  /-- offered points (V, I), whether this unit offers, and the SEQ of the OFFER; R236; none -/
  offer : List (Nat × Nat) := []
  offerOwn : Bool := false
  offerSeq : Nat := 0
  /-- the offer is the capped one of R238 -/
  capped : Bool := false
  /-- point asked for by this unit's REQUEST; R236; none -/
  asked : Option (Nat × Nat) := none
  /-- a WAIT holds the negotiation until this time of the block clock; R236; none -/
  waitUntil : Option Nat := none
  /-- accepted point that awaits READY, and whether this unit is its source; R236, R238, R242; none -/
  pend : Option (Nat × Nat) := none
  pendSource : Bool := false
  /-- own SWAP_REQ outstanding; R241; none -/
  swapOut : Option SwapReq := none
deriving DecidableEq, Repr, Inhabited

/-- A flow context (R243); ports by code 0 SYS, 1 EAST, 2 WEST. -/
structure FlowCtx where
  role     : Nat := 0
  /-- 0 FREE, 1 RESERVED, 2 OPEN, 3 CLOSING -/
  state    : Nat := 0
  consumer : Nat := 0
  provider : Nat := 0
  flowId   : Nat := 0
  rate     : Nat := 0
  rateMax  : Nat := 0
  allow    : Nat := 0
  /-- residue of the allowance, mJ -/
  residue  : Nat := 0
  fseq     : Nat := 0
  age      : Nat := 0
  inp      : Nat := 0
  outp     : Nat := 0
  /-- SEQ and REROUTE of its FLOW_OPEN -/
  seq      : Nat := 0
  reroute  : Bool := false
deriving DecidableEq, Repr, Inhabited

/-- An EMERG seen (R249): SRC, ESN, block clock of its first arrival, and whether it has been acted on. -/
structure EmergSeen where
  src   : Nat
  esn   : Nat
  time  : Nat
  acted : Bool
deriving DecidableEq, Repr

/-- The ring of the unit (R217 to R252). -/
structure Ring where
  /-- next SEQ of an originated frame, and next ESN; R230, R249; 0 -/
  seq : Nat := 0
  esn : Nat := 0
  seg : Vector Segment 2 := Vector.replicate 2 {}
  /-- segments that are not wired, at the ends of an open chain; R217; none -/
  ends : List Nat := []
  /-- route table (address, segment), newest use first, at most 64; R227; empty -/
  routes : List (Nat × Nat) := []
  /-- flow contexts by index, FREE where not listed; R243; FREE -/
  flows : List (Nat × FlowCtx) := []
  /-- EMERG being originated: code, ESN, repeats left; R249; none -/
  emergOut : Option (Nat × Nat × Nat) := none
  emergSeen : List EmergSeen := []
  /-- block clock of the last frame-clock instant; R252; none -/
  clockAt : Option Nat := none
  /-- power die repeats the twisted pairs bit by bit; R234; yes while the logic die is absent -/
  passThrough : Bool := true
deriving DecidableEq, Repr, Inhabited

/-- A message sequence on SERV (R258). -/
inductive PdSeq where
  | eprEntry | prSwap | drSwap | vconnSwap | eprExit | caps
deriving DecidableEq, Repr, Inhabited

/-- A sequence of the device's own that waits: for SinkTxOK as Sink, until a time of the block clock as Source (R258); whether the partner will accept it. -/
structure PdWait where
  seq     : PdSeq
  partner : Bool
  due     : Nat
deriving DecidableEq, Repr, Inhabited

/-- A message whose GoodCRC is awaited: when it was last sent, and the retries made (R253). -/
structure PdTx where
  sentAt  : Nat
  retries : Nat
deriving DecidableEq, Repr, Inhabited

/-- A USB PD message the device last sent on SERV (R253 to R260). -/
inductive PdMsg where
  | none | sourceCaps (pdos : List (Nat × Nat)) | request (v i : Nat) | accept | reject | notSupported | psRdy | softReset | hardReset
  | eprEnter | eprExit | eprKeepAlive | eprKeepAliveAck | prSwap | drSwap | vconnSwap | discoverIdentity
deriving DecidableEq, Repr, Inhabited

/-- The service port (R253 to R263). -/
structure Serv where
  /-- Rp is presented (Source side of the toggle); R253; no -/
  rp : Bool := false
  /-- C4 brings the device side to this voltage with the FET open, 10 mV; R255; none -/
  prebias : Option Nat := none
  /-- point of the transition that runs, and whether the device is its Source; R257; none -/
  pend : Option (Nat × Nat) := none
  /-- an explicit contract is in force -/
  inForce : Bool := false
  /-- a PR_Swap runs; R259; no -/
  swapping : Bool := false
  /-- Hard Reset as Source: the device side falls to 0 V; R260; no -/
  falling : Bool := false
  /-- VCONN stays off until the next attach; R260; no -/
  vconnHeld : Bool := false
  /-- own sequence waiting for SinkTxOK; R258; none -/
  waiting : Option PdWait := none
  /-- last message sent -/
  msg : PdMsg := .none
  /-- that message awaits its GoodCRC, and the 3-bit MessageID of the next one; R253; none, 0 -/
  tx : Option PdTx := none
  msgId : Nat := 0
  /-- microseconds since the last EPR_KeepAlive or acknowledgement; R253; 0 -/
  keepUs : Nat := 0
  /-- GoodCRC messages sent for messages received since the attach; R253; 0 -/
  goodCrcs : Nat := 0
  /-- Discover Identity has been sent on SOP' since the device became VCONN Source; R253; no -/
  discovered : Bool := false
  /-- the partner was attached when the logic die was reset, so that the next attach is one over a restart; R261; no -/
  rejoin : Bool := false
deriving DecidableEq, Repr, Inhabited


/-! ### Position time base and timers (R269 to R296) -/

/-- The position time base (R269 to R277). -/
structure Ptb where
  /-- step count, 32 bits; R274; 0 -/
  count : Nat := 0
  /-- logic clocks since the last step, as the idle steps and the operands of commands have shown them; R274; 0 -/
  since : Nat := 0
  /-- a step has been taken since the image apply, or since a stall; R274; no -/
  stepped : Bool := false
  /-- a step has been counted since the image apply; R272; no -/
  counted : Bool := false
  /-- levels of QA and QB accepted last; R270; low -/
  qa : Bool := false
  qb : Bool := false
  /-- the last two steps had the same direction, so the fraction interpolates; R274; no -/
  interp : Bool := false
  /-- position last compared with the slots, 48 bits; R274, R278; 0 -/
  pos : Nat := 0
deriving DecidableEq, Repr, Inhabited


/-! ### Lenses (R301 to R316) -/

/-- A lens (R302 to R314): what its registers do not show. -/
structure Lens where
  /-- level its consumers keep during an uncovered check; R309; none -/
  held : Option Bool := none
  /-- the failure map of the retained region; R311, R313; clear -/
  failedMap : Bool := false
  /-- the last check after the failure passed; R314; no -/
  passed : Bool := false
  /-- microsecond from which the failed lens waits for a spare; R311 step 2, R315; none -/
  waits : Option Nat := none
deriving DecidableEq, Repr, Inhabited


/-! ### Temperature (R319 to R336) -/

/-- A sensor (R323, R324). -/
structure Sensor where
  /-- cause met in the last rounds and their number; R324; none -/
  cause : Nat := 0
  rounds : Nat := 0
  /-- rounds in which the cause of a broken sensor has been absent; R324; 0 -/
  absent : Nat := 0
  /-- no valid reading since the sensor started without history; R323; yes -/
  fresh : Bool := true
  /-- broken without a stand-in, it holds its zone at the floor; R330; no -/
  holds : Bool := false
deriving DecidableEq, Repr, Inhabited


/-! ### Watchdog (R344 to R361) -/

/-- A write of WDT_SERVICE that waits for the next tick (R347, R353). -/
structure WdtAnswer where
  by_  : Origin
  echo : BitVec 16
  tok  : BitVec 16
deriving DecidableEq, Repr, Inhabited

/-- The watchdog: accumulator and per-task counts of the period (R350, R351), and what waits for the next tick (R347, R360). -/
structure Wdt where
  acc    : BitVec 16 := 0
  counts : Vector Nat 16 := Vector.replicate 16 0
  /-- check-ins written since the last tick, in arrival order: TASK_ID and writer; R347; none -/
  checkins : List (Nat × Origin) := []
  /-- services written since the last tick, in arrival order; R347, R353; none -/
  services : List WdtAnswer := []
  /-- an admitted FORCE makes an expiry at the next tick; R360; no -/
  force : Bool := false
deriving DecidableEq, Repr, Inhabited


/-! ### Prism, capture and the NAND log store (R365 to R387) -/

/-- The prism's telemetry counters and the metering residues (R367, R368). -/
structure Prism where
  /-- sum and number of the results since the start; R367; 0 -/
  sum   : Int := 0
  count : Nat := 0
  /-- residues of METERp_IN and METERp_OUT, 1e-9 J; R368; 0 -/
  resIn  : Vector Nat 5 := Vector.replicate 5 0
  resOut : Vector Nat 5 := Vector.replicate 5 0
  /-- conversions asked for by ADC_TRIG that have not been made; R283; none -/
  trig : List Nat := []
deriving DecidableEq, Repr, Inhabited

/-- One half of the capture SRAM with the facts of its window (R370, R375). -/
structure Half where
  /-- frames in order, each with one value per channel; R370; none -/
  frames : List (List Int) := []
  time : Nat := 0
  cycle : Nat := 0
  openCause : Nat := 0
  closeCause : Nat := 0
  held : Bool := false
  stalled : Bool := false
  ptbOpen : Nat := 0
  ptbClose : Nat := 0
deriving DecidableEq, Repr, Inhabited

/-- Capture windows (R369 to R371). -/
structure Capture where
  half : Vector Half 2 := Vector.replicate 2 {}
  /-- halves that are QUEUED, oldest first; R371; none -/
  queue : List Nat := []
  /-- sum and number of the results of each channel since the last frame; R370; none -/
  sums : Vector (Int × Nat) 16 := Vector.replicate 16 (0, 0)
  /-- an open and a close asked for in this command, with their causes; R369; none -/
  wantOpen : Option Nat := none
  wantClose : Option Nat := none
  /-- values of the last frame taken; R370; none -/
  prev : List Int := []
deriving DecidableEq, Repr, Inhabited

/-- A position of the log-store ring: the block that takes its bricks, whether that block is erased, and a reserve block that takes the
position over at its next brick (R384, R385). -/
structure RingBlock where
  block  : Nat := 0
  erased : Bool := true
  next   : Option Nat := none
deriving DecidableEq, Repr, Inhabited

/-- The commit in flight (R381): its half, record, start and progress; none of it is a register. -/
structure Commit where
  half   : Nat := 0
  seq    : Nat := 0
  /-- ring position and first page -/
  index  : Nat := 0
  page   : Nat := 0
  bricks : List (List Byte) := []
  /-- bricks of pages programmed -/
  placed : Nat := 0
deriving DecidableEq, Repr, Inhabited

/-- The NAND and its journal (R376 to R386). -/
structure Nand where
  /-- identity recorded in the journal; R384; none -/
  ident : Option Nat := none
  /-- maximum program time, microseconds; R377; 0 -/
  tProg : Nat := 0
  /-- ring of blocks, the reserve, and the bad-block bitmap; R384, R385; empty -/
  ring    : List RingBlock := []
  reserve : List Nat := []
  bad     : List Nat := []
  /-- head: ring position and next free page; tail: ring position; R380; 0 -/
  headAt   : Nat := 0
  headPage : Nat := 0
  tailAt   : Nat := 0
  /-- the journal's head word is in state PEND (pending words) or ERASE (ring position); R380, R384; none -/
  pend  : Option Commit := none
  erase : Option Nat := none
  /-- the log store accepts no more: FULL 3 or CLOSED 5 as NAND_STAT.STATE codes it, else 0; R384, R386; 0 -/
  shut : Nat := 0
  /-- LOG_SEQ, LOG_TAIL, ROLLBACKS and RETIRED as the journal holds them while the registers read 0; R465; 0 -/
  jSeq : Nat := 0
  jTail : Nat := 0
  jRolls : Nat := 0
  jRetired : Nat := 0
  /-- the journal has been read since the reset, so that the registers show it; R383; no -/
  read : Bool := false
  /-- a life-cycle change asks for a format at the next attach; R384; yes -/
  format : Bool := true
  /-- bricks in clear by position (block × bricks per block + slot); R373, R378; erased -/
  store : List (Nat × List Byte) := []
  /-- fetch in progress: sequence number and index; fetch buffer and its read offset; R387; none -/
  fetch  : Option (Nat × Nat) := none
  buffer : List Byte := []
  offset : Nat := 0
deriving DecidableEq, Repr, Inhabited


/-! ### Retained region, fault log, recovery, life cycle (R388 to R423) -/

/-- What the retained region keeps beside the registers that R465 names (R389, R400). -/
structure Retained where
  /-- charge phase and timer elapsed, microseconds; R190; 0 -/
  chgPhase : Nat := 0
  chgTimer : Nat := 0
  /-- energy account last written, 0.1 Wh; R197; 0 -/
  eAvail : Nat := 0
  /-- throttle steps of the four zones, which come back with the live record; R329; none -/
  steps : List Nat := []
deriving DecidableEq, Repr, Inhabited

/-- The fault log (R389, R390): entry 0, the ring of entries 1 to 1023, and the count of all entries written. -/
structure FaultLog where
  entries   : List (Nat × LogEntry) := []
  count     : Nat := 0
  /-- entry 0 holds the first fault and is locked -/
  firstHeld : Bool := false
  /-- what the ring position written last held before; R393; zeros -/
  before : LogEntry := {}
deriving DecidableEq, Repr, Inhabited

/-- Background work and the life cycle (R408 to R423). -/
structure Recovery where
  /-- next lens of the automatic checks; R310; 0 -/
  autoNext : Nat := 0
  /-- lenses whose waiting or running check is an automatic one; R310, R409; none -/
  autoCheck : List Nat := []
  /-- a life-cycle change has begun and not ended: its target state; R421, R423; none -/
  lcTarget : Option Nat := none
  /-- number of the XTS key pair, none after RETURN; R378, R422; the first -/
  xts : Option Nat := some 0
  /-- digest and SVN of the slots in RETURN; R421; none -/
  returned : List Word := []
  /-- fuses already programmed: WINDOW, NOFREEZE; R420; none -/
  fuseWindow : Bool := false
  fuseFreeze : Bool := false
  /-- microseconds of the present hour of the ages of the MRAM scrub and of the inactive-slot check; R410; 0 -/
  scrubUs : Nat := 0
  slotUs : Nat := 0
  /-- microseconds until the life-cycle command that runs has ended; R420, R429; 0 -/
  lcUs : Nat := 0
deriving DecidableEq, Repr, Inhabited


/-- The JTAG port (R455): its 5-bit instruction register, BYPASS at reset, and the bits that the selected data register captured at the last scan. -/
structure Tap where
  ir : Nat := 0x1F
  captured : List Bool := []
deriving DecidableEq, Repr, Inhabited


/-! ### The device and the machine -/

/-- The device: everything but the queue of commands. -/
structure Dev where
  /-- the register file: R461 to R465; an unlisted register reads its reset value -/
  regs : List (Nat × Word) := []
  /-- events raised by the command being executed, with the device time of the raise; R446; none -/
  raised : List (Nat × Nat) := []
  /-- fault-log entries asked for by the command being executed; R390; none -/
  faults : List LogReq := []
  /-- the model's own counter of free values used (assumption 3) -/
  freeCount : Nat := 0
  pw : PowerState := { inReset := true, absent := true }
  balls : Balls := {}
  /-- image slots A and B; R64, R68; empty -/
  slots : Vector Slot 2 := Vector.replicate 2 {}
  boot : BootRecord := {}
  live : LiveRecord := {}
  /-- key slots 0 to 3; R63, R420; slot 0 holds a key -/
  keys : Vector KeySlot 4 := #v[{ key := some [] }, {}, {}, {}]
  host : HostPort := {}
  ev : EventState := {}
  img : ImgState := {}
  tile : Vector Tile 16 := Vector.replicate 16 {}
  /-- failure map of the tiles; R101; empty -/
  fmap : Vector FailEntry 16 := Vector.replicate 16 {}
  course : Vector Course 6 := Vector.replicate 6 {}
  sys : SysLoop := {}
  port : Vector Port 5 := Vector.replicate 5 {}
  path : Path := {}
  chg : Charger := {}
  ret : Retained := {}
  log : FaultLog := {}
  lamp : Vector Lamp 2 := Vector.replicate 2 {}
  ring : Ring := {}
  serv : Serv := {}
  ptb : Ptb := {}
  /-- position of each slot, 48 bits; R278, R281; 0 -/
  slotPos : Vector Nat 32 := Vector.replicate 32 0
  /-- timers whose count an action has set in the present logic clock; R296; none -/
  gtSet : List Nat := []
  lens : Vector Lens 24 := Vector.replicate 24 {}
  sensor : Vector Sensor 12 := Vector.replicate 12 {}
  wdt : Wdt := {}
  prism : Prism := {}
  cap : Capture := {}
  nand : Nand := {}
  recov : Recovery := {}
  tap : Tap := {}
  /-- user NV, 4 MiB, and core SRAM, 512 KiB; R388, R443; empty -/
  nv   : List (Nat × Byte) := []
  sram : List (Nat × Byte) := []
  /-- the word that the last register read returned to its initiator; R434; 0 -/
  readData : Word := 0
deriving DecidableEq, Repr

/-- The machine: the device and the commands that wait, first in first out. -/
structure State where
  dev     : Dev := {}
  pending : List Instr := []
deriving DecidableEq, Repr

/-- The machine right after the power-on of both dies, before the first reset release loads an image (R65, R406). -/
def State.reset : State := {}

/-- Why a command stops the machine. No meaning of this model raises one. -/
inductive Fault where
  /-- reserved: raised by no command; a stop would be safe -/
  | none
deriving DecidableEq, Repr

/-- Why a command is refused. -/
inductive Refusal where
  /-- raised by an arm of exec whose command has no meaning yet; safe: the machine stops -/
  | notModelled (mnemonic : String)
deriving DecidableEq, Repr

end Sys2Proof.Machine
end

