-- ==== Sys2Proof/Machine/Ops.lean ====
section
/-!
DEFINITION. The named operations over the state that every meaning uses: reading and writing registers and fields, raising
events, asking for fault-log entries, and the small combinators the meanings are written with.
-/
namespace Sys2Proof.Machine

/-! ### One part of the state replaced -/

/-- The state with one part replaced; one such update for each field of `Dev`. -/
def Dev.putRegs (d : Dev) (x : List (Nat × Word)) : Dev := { d with regs := x }
def Dev.putRaised (d : Dev) (x : List (Nat × Nat)) : Dev := { d with raised := x }
def Dev.putFaults (d : Dev) (x : List LogReq) : Dev := { d with faults := x }
def Dev.putFreeCount (d : Dev) (x : Nat) : Dev := { d with freeCount := x }
def Dev.putPw (d : Dev) (x : PowerState) : Dev := { d with pw := x }
def Dev.putBalls (d : Dev) (x : Balls) : Dev := { d with balls := x }
def Dev.putSlots (d : Dev) (x : Vector Slot 2) : Dev := { d with slots := x }
def Dev.putBoot (d : Dev) (x : BootRecord) : Dev := { d with boot := x }
def Dev.putLive (d : Dev) (x : LiveRecord) : Dev := { d with live := x }
def Dev.putKeys (d : Dev) (x : Vector KeySlot 4) : Dev := { d with keys := x }
def Dev.putHost (d : Dev) (x : HostPort) : Dev := { d with host := x }
def Dev.putEv (d : Dev) (x : EventState) : Dev := { d with ev := x }
def Dev.putImg (d : Dev) (x : ImgState) : Dev := { d with img := x }
def Dev.putTile (d : Dev) (x : Vector Tile 16) : Dev := { d with tile := x }
def Dev.putFmap (d : Dev) (x : Vector FailEntry 16) : Dev := { d with fmap := x }
def Dev.putCourse (d : Dev) (x : Vector Course 6) : Dev := { d with course := x }
def Dev.putSys (d : Dev) (x : SysLoop) : Dev := { d with sys := x }
def Dev.putPort (d : Dev) (x : Vector Port 5) : Dev := { d with port := x }
def Dev.putPath (d : Dev) (x : Path) : Dev := { d with path := x }
def Dev.putChg (d : Dev) (x : Charger) : Dev := { d with chg := x }
def Dev.putRet (d : Dev) (x : Retained) : Dev := { d with ret := x }
def Dev.putLog (d : Dev) (x : FaultLog) : Dev := { d with log := x }
def Dev.putLamp (d : Dev) (x : Vector Lamp 2) : Dev := { d with lamp := x }
def Dev.putRing (d : Dev) (x : Ring) : Dev := { d with ring := x }
def Dev.putServ (d : Dev) (x : Serv) : Dev := { d with serv := x }
def Dev.putPtb (d : Dev) (x : Ptb) : Dev := { d with ptb := x }
def Dev.putSlotPos (d : Dev) (x : Vector Nat 32) : Dev := { d with slotPos := x }
def Dev.putGtSet (d : Dev) (x : List Nat) : Dev := { d with gtSet := x }
def Dev.putLens (d : Dev) (x : Vector Lens 24) : Dev := { d with lens := x }
def Dev.putSensor (d : Dev) (x : Vector Sensor 12) : Dev := { d with sensor := x }
def Dev.putWdt (d : Dev) (x : Wdt) : Dev := { d with wdt := x }
def Dev.putPrism (d : Dev) (x : Prism) : Dev := { d with prism := x }
def Dev.putCap (d : Dev) (x : Capture) : Dev := { d with cap := x }
def Dev.putNand (d : Dev) (x : Nand) : Dev := { d with nand := x }
def Dev.putRecov (d : Dev) (x : Recovery) : Dev := { d with recov := x }
def Dev.putNv (d : Dev) (x : List (Nat × Byte)) : Dev := { d with nv := x }
def Dev.putTap (d : Dev) (x : Tap) : Dev := { d with tap := x }
def Dev.putSram (d : Dev) (x : List (Nat × Byte)) : Dev := { d with sram := x }
def Dev.putReadData (d : Dev) (x : Word) : Dev := { d with readData := x }

/-- The register word at address `a` (R13: the current value). -/
def Dev.rd (d : Dev) (a : Nat) : Word := Sparse.get resetWord d.regs a

/-- The state with the register word at `a` replaced, whatever its access codes say. -/
def Dev.wr (d : Dev) (a : Nat) (w : Word) : Dev := (d.putRegs (Sparse.set resetWord d.regs a w))

/-- The value of a field. -/
def Dev.f (d : Dev) (x : Field) : Nat := x.read (d.rd x.addr)

/-- The state with a field set to the low bits of `v`. -/
def Dev.set (d : Dev) (x : Field) (v : Nat) : Dev := d.wr x.addr (x.write v (d.rd x.addr))

/-- A field is not 0. -/
def Dev.on (d : Dev) (x : Field) : Bool := d.f x != 0

/-- The state with a one-bit field set to a truth value. -/
def Dev.setB (d : Dev) (x : Field) (b : Bool) : Dev := d.set x b.toNat

/-- A number as a two's-complement field of `w` bits holds it. -/
def toTwos (w : Nat) (v : Int) : Nat := (v % (2 ^ w : Nat)).toNat

/-- The number a two's-complement field of `w` bits holds. -/
def ofTwos (w v : Nat) : Int := if 2 ^ w ≤ 2 * v then (v : Int) - (2 ^ w : Nat) else v

/-- A field read as two's complement. -/
def Dev.fI (d : Dev) (x : Field) : Int := ofTwos x.width (d.f x)

/-- The state with a field set to a number in two's complement. -/
def Dev.setI (d : Dev) (x : Field) (v : Int) : Dev := d.set x (toTwos x.width v)

/-- The state with a field counted up, modulo its width. -/
def Dev.inc (d : Dev) (x : Field) : Dev := d.set x (d.f x + 1)

/-- The state with `v` added to a field, saturating at its largest value. -/
def Dev.addSat (d : Dev) (x : Field) (v : Nat) : Dev := d.set x (min (d.f x + v) (2 ^ x.width - 1))

/-- The state with a field counted up, saturating. -/
def Dev.incSat (d : Dev) (x : Field) : Dev := d.addSat x 1

/-- Bit `i` of a field. -/
def Dev.fbit (d : Dev) (x : Field) (i : Nat) : Bool := (d.f x).testBit i

/-- The number `v` with bit `i` set or cleared. -/
def withBit (v i : Nat) (b : Bool) : Nat :=
  if v.testBit i == b then v else v ^^^ 2 ^ i

/-- The state with bit `i` of a field set to a truth value. -/
def Dev.setBit (d : Dev) (x : Field) (i : Nat) (b : Bool) : Dev := d.set x (withBit (d.f x) i b)

/-- `g` applied if `c` holds. -/
def Dev.onlyIf (d : Dev) (c : Bool) (g : Dev → Dev) : Dev := if c then g d else d

/-- `g` applied for each of `0` to `n - 1` in turn. -/
def Dev.each (d : Dev) (n : Nat) (g : Dev → Nat → Dev) : Dev := (List.range n).foldl g d

/-- The number of bits set in `v`, among the lowest `n`. -/
def popcount (n v : Nat) : Nat := ((List.range n).filter fun i => v.testBit i).length

/-- A value lies from `lo` to `hi`, both included (R10). -/
def within (lo hi v : Nat) : Bool := decide (lo ≤ v) && decide (v ≤ hi)

/-! ### Events and fault-log entries (R446, R390) -/

/-- The logic die is powered and out of reset: its registers, events and host port run (R67). -/
def Dev.alive (d : Dev) : Bool := d.pw.mode == .on && !d.pw.inReset

/-- The course engines run, so the power die sees the logic die as present (R21). -/
def Dev.running (d : Dev) : Bool := d.alive && d.pw.engines

/-- A configuration field as the power die holds it: the register while the course engines run; else the word that the last image apply left
on the power die (R21, R67, R77). -/
def Dev.pd (d : Dev) (x : Field) : Nat := if d.running then d.f x else x.read (Sparse.get resetWord d.pw.conf x.addr)

/-- The configuration words that the power die's comparators, guards, crowbar and hold loop act on (R144, R152, R157, R171). -/
def powerWords : List Nat :=
  (List.range 16).flatMap (fun t => [R.TILE_MAP t, R.TILE_CFG t, R.TILE_SCALE t]) ++ (List.range 6).flatMap (fun c => [R.C_MAP c, R.C_MODE c]) ++
  (List.range 5).flatMap (fun p => [R.GUARD_CFG p, R.GUARD_TRIP1 p, R.GUARD_TRIP2 p, R.PORT_QUAL p]) ++ [R.SYS_CB, R.SYS_FLOOR, R.HOLD_CFG]

/-- Source `src` of bank `bank` is raised (R446); the raise is delivered at the end of the command. -/
def Dev.raise (d : Dev) (bank src : Nat) : Dev :=
  if d.alive then (d.putRaised (d.raised ++ [(bank * 32 + src, d.pw.time)])) else d

/-- A fault-log entry for event `src` of `bank`, with DETAIL `words` (R390); written at the end of the command. -/
def Dev.logFault (d : Dev) (bank src : Nat) (words : List Word) : Dev :=
  if d.alive then (d.putFaults (d.faults ++ [⟨bank * 32 + src, d.pw.time, words⟩])) else d

/-- The event is raised and a fault-log entry written, whose DETAIL holds the registers at `addrs` (R390). -/
def Dev.fault (d : Dev) (bank src : Nat) (addrs : List Nat) : Dev :=
  (d.raise bank src).logFault bank src (addrs.map d.rd)

/-! ### The fault log (R390) -/

/-- The bytes of an entry that its CRC covers: offsets 00h to 1Bh. -/
def LogEntry.body (e : LogEntry) : List Byte :=
  ((List.range 6).map fun i => BitVec.ofNat 8 (e.time / 256 ^ i)) ++
  ((List.range 2).map fun i => BitVec.ofNat 8 (e.event / 256 ^ i)) ++
  leBytes (BitVec.ofNat 32 e.number) ++ leBytes 0#32 ++
  ((List.range 3).flatMap fun i => leBytes (e.detail.getD i 0#32))

/-- The eight words that FLOG_DATA0 to FLOG_DATA7 show (R390). -/
def LogEntry.words (e : LogEntry) : List Word :=
  [BitVec.ofNat 32 e.time, BitVec.ofNat 32 (e.time / 2 ^ 32 + e.event * 2 ^ 16), BitVec.ofNat 32 e.number, 0#32,
   e.detail.getD 0 0#32, e.detail.getD 1 0#32, e.detail.getD 2 0#32, e.crc]

/-- An entry is valid: its stored CRC is that of its bytes. -/
def LogEntry.valid (e : LogEntry) : Bool := e.crc == crc32 e.body

end Sys2Proof.Machine
end

