-- ==== Sys2Proof/Machine/TileOps.lean ====
section
/-!
DEFINITION. Tiles and the running set of a course (Tiles and Courses): states, slots, shedding, adding, failures, arming.
-/
namespace Sys2Proof.Machine

/-! ### Small views -/

/-- The state with the hidden part of tile `t` changed. -/
def Dev.modTile (d : Dev) (t : Nat) (g : Tile → Tile) : Dev := (d.putTile (vset d.tile t (g (vget d.tile t))))

/-- The state with the hidden part of course `c` changed. -/
def Dev.modCourse (d : Dev) (c : Nat) (g : Course → Course) : Dev := (d.putCourse (vset d.course c (g (vget d.course c))))

/-- A value the spec leaves open, and the state with the counter of such values advanced (assumption 3). -/
def Dev.fresh (d : Dev) : Nat × Dev := (Config.freeValue d.freeCount, (d.putFreeCount (d.freeCount + 1)))

/-- TILEn_STAT.STATE of tile `t`: 0 OFF, 1 SPARE, 2 ARMED, 3 RUN, 4 SHED, 5 TEST, 6 FAILED (R99). -/
def Dev.tst (d : Dev) (t : Nat) : Nat := d.f (F.TILE_STAT_STATE t)

/-- Tile `t` with state `v`. -/
def Dev.setTst (d : Dev) (t v : Nat) : Dev := d.set (F.TILE_STAT_STATE t) v

/-- The gates of a tile that the crowbar holds: the low side on where its SPAN or its role puts it there; off otherwise, without VDRV (R88), while the power
die is powered down (R21), and while a dump tile follows its power limit (R144, R145). -/
def Dev.holdClamp (d : Dev) (t : Nat) : Dev :=
  let low := (d.pd (F.TILE_MAP_ROLE t) == 3 && !d.on (F.TILE_DUMPSTAT_LIMITED t)) || (d.pd (F.TILE_MAP_ROLE t) != 3 && d.pd (F.TILE_CFG_SPAN t) == 1)
  if (vget d.tile t).clamp then d.modTile t fun x => { x with gates := if low && d.pw.vdrvOk && d.pw.mode == .on then .lowHeld else .off } else d

/-- Tile `t` belongs to course `c` (R41). -/
def Dev.inCourse (d : Dev) (c t : Nat) : Bool := d.f (F.TILE_MAP_COURSE t) == c && d.on (F.TILE_MAP_ROLE t)

/-- Tile `t` is a dump tile (R121). -/
def Dev.isDump (d : Dev) (t : Nat) : Bool := d.f (F.TILE_MAP_ROLE t) == 3

/-- The tiles of course `c`, in ascending number. -/
def Dev.tilesOf (d : Dev) (c : Nat) : List Nat := (List.range 16).filter (d.inCourse c)

/-- The hold loop drives tile `t` (R22, R99). -/
def Dev.holds (d : Dev) (t : Nat) : Bool := d.sys.holdRuns && d.sys.holdMap.contains t

/-- The tiles that the hold loop drives. -/
def Dev.heldTiles (d : Dev) : List Nat := (List.range 16).filter d.holds

/-- The course engine runs tile `t`. A tile that the hold loop drives reads RUN too, but no course has it (R99, R160). -/
def Dev.runs (d : Dev) (t : Nat) : Bool := d.tst t == 3 && !d.holds t

/-- The tiles that course `c` runs. -/
def Dev.runTiles (d : Dev) (c : Nat) : List Nat := (d.tilesOf c).filter d.runs

/-- The ramp of tile `t` has run its N cycles: it gives no further pulse and takes no share (R109, R110). -/
def Dev.leaving (d : Dev) (c t : Nat) : Bool := (vget d.course c).rampOver && (vget d.course c).shedTile == some t && d.f (F.C_STAT_SHED_ST c) == 1

/-- The tiles of course `c` in SHED. -/
def Dev.shedTiles (d : Dev) (c : Nat) : List Nat := (d.tilesOf c).filter fun t => d.tst t == 4

/-- The working slots of course `c`: the tiles of its WORK_MASK (R42). -/
def Dev.slotsOf (d : Dev) (c : Nat) : List Nat := (List.range 16).filter fun t => d.fbit (F.C_TILES_WORK_MASK c) t

/-- Tile `s` holds its own slot: it is no spare after a clear (R119), and neither fills another slot nor arms to fill one. -/
def Dev.ownsSlot (d : Dev) (s : Nat) : Bool := d.tst s != 1 && !d.on (F.TILE_STAT_STANDIN_V s) && (vget d.tile s).assigned.isNone

/-- The tile that fills slot `s`: a stand-in whose arming has ended, or the slot's own tile if it holds it (R99, R119, R496). -/
def Dev.slotTile (d : Dev) (s : Nat) : Option Nat :=
  match (List.range 16).find? fun t => d.on (F.TILE_STAT_STANDIN_V t) && d.f (F.TILE_STAT_STANDIN t) == s with
  | some t => some t
  | none => if d.ownsSlot s then some s else none

/-- The tiles that fill the working slots of course `c`, in the order of the slots. -/
def Dev.fillers (d : Dev) (c : Nat) : List Nat := (d.slotsOf c).filterMap d.slotTile

/-- The slot whose rank tile `t` takes (R104). -/
def Dev.slotOf (d : Dev) (t : Nat) : Nat := if d.on (F.TILE_STAT_STANDIN_V t) then d.f (F.TILE_STAT_STANDIN t) else t

/-- The running tiles of course `c` by rank: ascending number of the tile that owns the slot (R104). -/
def Dev.ranked (d : Dev) (c : Nat) : List Nat :=
  if d.f (F.C_MAP_PORT c) == 6 then d.runTiles c
  else (d.fillers c).filter fun t => d.runs t && !d.leaving c t

/-- The SHED tiles of course `c` by rank. -/
def Dev.shedRanked (d : Dev) (c : Nat) : List Nat := (d.fillers c).filter fun t => d.tst t == 4

/-- Slot `s` counts for HEALTHY: a tile fills it that is neither FAILED, nor in TEST, nor on its way back from TEST (R107). -/
def Dev.slotHealthy (d : Dev) (s : Nat) : Bool :=
  match d.slotTile s with
  | some t => within 2 4 (d.tst t) && !(vget d.tile t).testBack && !(vget d.fmap t).failed
  | none => false

/-- HEALTHY of course `c` (R107); for a dump course, its tiles that can work. -/
def Dev.healthy (d : Dev) (c : Nat) : Nat := ((d.slotsOf c).filter d.slotHealthy).length

/-- WORKCFG of course `c`: the bits of WORK_MASK (R107). -/
def Dev.workCfg (d : Dev) (c : Nat) : Nat := popcount 16 (d.f (F.C_TILES_WORK_MASK c))

/-- The course delivers (R141). -/
def Dev.delivers (d : Dev) (c : Nat) : Bool := d.on (F.C_RSTAT_DELIVER c)

/-- The lowest throttle step among the zones that name course `c` (R328). -/
def Dev.zoneStep (d : Dev) (c : Nat) : Nat :=
  (List.range 4).foldl (fun m z => if d.fbit (F.ZONE_CFG_COURSES z) c then min m (d.f (F.ZONE_STAT_STEP z)) else m) 16

/-- A zone that names course `c` is shut down (R334). -/
def Dev.zoneShut (d : Dev) (c : Nat) : Bool :=
  (List.range 4).any fun z => d.fbit (F.ZONE_CFG_COURSES z) c && d.on (F.ZONE_STAT_SHUT z)

/-- The course limit in force, 10 mA: Cn_ILIM × HEALTHY / WORKCFG, times the throttle step / 16 (R107, R328). -/
def Dev.limit (d : Dev) (c : Nat) : Nat :=
  d.f (F.C_ILIM_ILIM c) * d.healthy c * d.zoneStep c / (d.workCfg c * 16)

/-! ### Course events -/

/-- Cn_EVT.SHED_DONE, ADD_DONE, SHED_ABORT or STAGGER sets, and EVB1 source 22 + c is raised (R126). -/
def Dev.courseEvt (d : Dev) (c : Nat) (x : Field) : Dev := (d.set x 1).raise 1 (22 + c)

/-- An arming of tile `t` starts, into state `st`; it runs only while VDRV is above its threshold (R496, R102). The offset that an ARMED tile has loaded is
the one it has, 0 after a reset or out of SHED: R99 gives it no value before its first RUN (assumption 68). -/
def Dev.startArming (d : Dev) (t st : Nat) : Dev :=
  ((d.setTst t st).set (F.TILE_STAT_ARMING t) 1).modTile t fun x => { x with armRuns := d.on (F.TILE_STAT_VDRV_OK t), gates := .off }

/-- Tile `t` takes the state that the loaded image gives it, through its arming (R100, R101, R160). -/
def Dev.takeRole (d : Dev) (t : Nat) : Dev :=
  let role := d.f (F.TILE_MAP_ROLE t)
  if role == 0 || !d.on (F.C_MAP_ENABLE (d.f (F.TILE_MAP_COURSE t))) then (d.setTst t 0).modTile t fun x => { x with gates := .off }
  else d.startArming t (if role == 2 && (vget d.tile t).assigned.isNone then 1 else 2)

/-- TILEn_STAT.HOLD follows the hold loop while the logic die shows it, and SYSCFG.HOLD_ACTIVE sets with it. Without course engines a tile reads RUN
while the loop drives it; one that the loop gives up is OFF without an image, and ARMED with one (R23, R67, R99). -/
def Dev.showHold (d : Dev) : Dev :=
  let rest := if d.f F.IMGSTAT_STATE == 2 then 0 else 2
  let shown (d : Dev) (t : Nat) : Dev := d.setB (F.TILE_STAT_HOLD t) (d.holds t)
  let state (d : Dev) (t : Nat) : Dev := if d.holds t then d.setTst t 3 else if d.tst t == 3 then d.setTst t rest else d
  if d.alive then
    (d.each 16 fun d t => if d.running then shown d t else state (shown d t) t).onlyIf d.sys.holdDid fun d => d.set F.SYSCFG_HOLD_ACTIVE 1
  else d

/-- The hold map sent to the power die: the tiles of C1's working slots that are not FAILED; a stand-in joins when its arming
ends; empty while C1 is held by a zone shutdown (R106, R334). -/
def Dev.sendHoldMap (d : Dev) : Dev :=
  let m := if d.zoneShut 1 then [] else (d.fillers 1).filter fun t => d.tst t != 6 && d.tst t != 0 && !(vget d.fmap t).failed
  let e := d.putSys { d.sys with holdMap := m }
  if d.sys.holdRuns then e.showHold else e

/-- The hold loop stops other than by a handback, with the gates of its tiles off; LAST_CODE keeps its last code (R157 to R159). Where the course
engines run already, its tiles take their states of the image (R160). -/
def Dev.dropHold (d : Dev) : Dev :=
  if d.sys.holdRuns then
    let ts := d.heldTiles.filter fun t => !(vget d.tile t).clamp
    let d := ts.foldl (fun d t => d.modTile t fun x => { x with gates := .off }) (d.putSys { d.sys with holdRuns := false })
    (if d.running then ts.foldl (fun d t => if d.tst t == 3 then d.takeRole t else d) d else d).showHold
  else d

/-- Every gate goes off, but for those of the tiles that the crowbar holds (R22 step 2, R336). -/
def Dev.gatesOff (d : Dev) : Dev := (d.putTile (d.tile.map fun x => if x.clamp then x else { x with gates := .off }))

/-- A dump tile that the crowbar holds with its account at its limit: LOn follows the power limit (R145). -/
def Dev.clampLimited (d : Dev) (t : Nat) : Bool := (vget d.tile t).clamp && d.isDump t && d.on (F.TILE_DUMPSTAT_LIMITED t)

/-- The highest code that the hold loop gives tile `t`: that of HOLD_CFG.ILIM_T, in 1 A, in the tile's sense range (R95, R157). -/
def Dev.holdCode (d : Dev) (t : Nat) : Nat :=
  min 1023 (d.pd F.HOLD_CFG_ILIM_T * 1023 * d.pd (F.TILE_SCALE_RSENSE t) / (25 * 2 ^ d.pd (F.TILE_CFG_RANGE t) * 1000))

/-- The hold loop ends a pulse on a tile: LAST_CODE takes its code (R159). No command shows the block that code, so a free value within the bound of R157
stands for it. -/
def Dev.holdPulse (d : Dev) (t : Nat) : Dev :=
  let x := d.fresh
  (x.2.set F.HOLD_STAT_LAST_CODE (x.1 % (d.holdCode t + 1))).modTile t fun y => { y with gates := .off }

/-! ### Phase offsets (R104, R105) -/

/-- The offset of rank `k` of `n` running slots with period `p`. -/
def phaseOffset (p n k : Nat) : Nat := k * p / n

/-- The offsets of the running tiles of `c` as a pending re-stagger shows them (R105). -/
def Dev.pendStagger (d : Dev) (c : Nat) : Dev :=
  let ts := d.ranked c
  let p := d.f (F.C_MAP_PERIOD c)
  ((ts.zipIdx).foldl (fun d x => (d.set (F.TILE_PHASE_NEXT x.1) (phaseOffset p ts.length x.2)).set (F.TILE_PHASE_NEXT_V x.1) 1) d).set
    (F.C_STAT_STAGGER_PEND c) 1

/-- A pending re-stagger is cancelled (R112). -/
def Dev.cancelStagger (d : Dev) (c : Nat) : Dev :=
  ((d.tilesOf c).foldl (fun d t => (d.set (F.TILE_PHASE_NEXT_V t) 0).set (F.TILE_PHASE_NEXT t) 0) d).set (F.C_STAT_STAGGER_PEND c) 0

/-- The offsets for the present running set take effect at once (R104, R111). -/
def Dev.applyOffsets (d : Dev) (c : Nat) : Dev :=
  let ts := d.ranked c
  let p := d.f (F.C_MAP_PERIOD c)
  (ts.zipIdx).foldl (fun d x => d.set (F.TILE_PHASE_OFFSET x.1) (phaseOffset p ts.length x.2))
    ((d.cancelStagger c).modCourse c fun k => { k with replaced := true })

/-- The detectors 1, 2 and 4 pause for 16 cycles after a re-stagger or an add (R116). -/
def Dev.pauseDetect (d : Dev) (c : Nat) : Dev :=
  (d.tilesOf c).foldl (fun d t => d.modTile t fun x => { x with det := vset (vset (vset x.det 1 0) 2 0) 4 0 })
    (d.modCourse c fun k => { k with pause := 16 })

/-- A pending re-stagger completes at a boundary (R105). -/
def Dev.doStagger (d : Dev) (c : Nat) : Dev := ((d.applyOffsets c).courseEvt c (F.C_EVT_STAGGER c)).pauseDetect c

/-! ### Shedding (R108 to R113) -/

/-- The number of ramp cycles N (R109). -/
def Dev.rampLen (d : Dev) (c : Nat) : Nat := 8 * 2 ^ d.f (F.C_SHED_RAMP c)

/-- A shed of tile `t` starts: stage 1, whose first cycle runs at 1 − 1/N of the course code (R109). -/
def Dev.startRamp (d : Dev) (c t : Nat) : Dev :=
  let n := d.rampLen c
  let d := d.modCourse c fun k => { k with shedTile := some t, rampJ := 1, rampOver := false, dwell := 0 }
  ((d.set (F.C_STAT_SHED_ST c) 1).set (F.TILE_STAT_SHEDDING t) 1).set (F.TILE_IPK_DAC t) (d.f (F.TILE_IPK_DAC t) * (n - 1) / n)

/-- The shed bookkeeping of a course is cleared. -/
def Dev.endShed (d : Dev) (c : Nat) : Dev :=
  let d := match (vget d.course c).shedTile with
    | some t => d.set (F.TILE_STAT_SHEDDING t) 0
    | none => d
  (d.modCourse c fun k => { k with shedTile := none, rampJ := 0, rampOver := false, dwell := 0 }).set (F.C_STAT_SHED_ST c) 0

/-- An aborted shed is counted and traced (R112). -/
def Dev.countAbort (d : Dev) (c : Nat) : Dev := (d.inc (F.C_SHEDCNT_ABORTS c)).courseEvt c (F.C_EVT_SHED_ABORT c)

/-- A shed in progress is aborted: in the ramp the tile's code returns at once; after its end the tile returns to RUN with its
former offset and the pending re-stagger is cancelled (R112). -/
def Dev.abortShed (d : Dev) (c : Nat) : Dev :=
  match (vget d.course c).shedTile with
  | none => d
  | some t =>
    if d.f (F.C_STAT_SHED_ST c) == 1 then (d.endShed c).countAbort c
    else if d.f (F.C_STAT_SHED_ST c) == 2 then
      let d := (((d.cancelStagger c).setTst t 3).set (F.TILE_PHASE_OFFSET t) (vget d.tile t).former).modTile t fun x =>
        { x with wantAdd := false, code := d.f (F.C_DEMAND_CODE c) }
      (d.endShed c).countAbort c
    else d

/-! ### Failures and stand-ins (R100, R101, R117, R118) -/

/-- The failure map of tile `t` is rewritten (R101). -/
def Dev.setMap (d : Dev) (t : Nat) (e : FailEntry) : Dev := (d.putFmap (vset d.fmap t e))

/-- A slot without a working tile and without a stand-in that arms for it: no tile fills it, or the one that does has failed, be it in FAILED, in a
self-test out of it, or held by the crowbar (R117, R118). -/
def Dev.slotOpen (d : Dev) (s : Nat) : Bool :=
  (match d.slotTile s with
   | some t => d.tst t == 6 || (vget d.fmap t).failed
   | none => true) && !((List.range 16).any fun t => (vget d.tile t).assigned == some s)

/-- The first free spare tile of course `c` (R118): in SPARE, or a spare of the image that the hold loop still drives or that gave its slot up in ARMED
(assumption 18), and standing in for no slot. -/
def Dev.freeSpare (d : Dev) (c : Nat) : Option Nat :=
  (d.tilesOf c).find? fun t => (d.tst t == 1 || ((d.holds t || d.tst t == 2) && d.f (F.TILE_MAP_ROLE t) == 2 && !(vget d.tile t).clamp)) &&
    !d.on (F.TILE_STAT_STANDIN_V t) && (vget d.tile t).assigned.isNone

/-- A stand-in is assigned to slot `s` of course `c` and starts arming, or NO_SPARE sets (R117 step 4, R118). One that the hold loop drives arms
when the loop releases it (R160). -/
def Dev.assignSpare (d : Dev) (c s : Nat) : Dev :=
  match d.freeSpare c with
  | none => d.set (F.C_STAT_NO_SPARE c) 1
  | some t =>
    let e := (d.modTile t fun x => { x with assigned := some s }).setMap t { vget d.fmap t with slot := some s }
    if d.holds t then e else (e.startArming t 2).set (F.C_STAT_SPARE_ARMING c) 1

/-- The entry of stand-in `t` into RUN or ARMED of course `c` is traced: Cn_EVT.SPARE_IN, EVB1 source 16 + c, the fault log (R117 step 5, R126). -/
def Dev.traceStandIn (d : Dev) (c t : Nat) : Dev :=
  ((d.set (F.C_EVT_SPARE_IN c) 1).fault 1 (16 + c) [R.C_STAT c, R.TILE_STAT t]).modTile t fun x => { x with announce := false }

/-- The entries of the tiles `ts` that wait to be traced. -/
def Dev.announceAll (d : Dev) (c : Nat) (ts : List Nat) : Dev :=
  ts.foldl (fun d t => if (vget d.tile t).announce then d.traceStandIn c t else d) d

/-- SPARE_ARMING of course `c`: some stand-in still arms. -/
def Dev.sparesArming (d : Dev) (c : Nat) : Bool :=
  (d.tilesOf c).any fun t => (vget d.tile t).assigned.isSome && d.on (F.TILE_STAT_ARMING t)

/-- NO_SPARE of course `c`: a failed slot has no stand-in. -/
def Dev.noSpare (d : Dev) (c : Nat) : Bool := (d.slotsOf c).any d.slotOpen

/-- Tile `t` enters FAILED with `cause` and `detail`: gates off, failure map, EVB1 source t, fault log (R100, R117 step 1). One that the crowbar holds stays
with it, and reads ARMED, until the latch clears (R145, assumption 18). -/
def Dev.tileFailed (d : Dev) (t cause detail : Nat) : Dev :=
  let c := d.f (F.TILE_MAP_COURSE t)
  let d := (if (vget d.tile t).clamp then d else d.setTst t 6).modTile t fun x => { x with
    gates := if x.clamp then x.gates else .off, armRuns := false, assigned := none, next := none, testRamp := false, testBack := false, wantAdd := false
    announce := false, passed := false, skip := 0, det := Vector.replicate 7 0 }
  let d := (((d.set (F.TILE_STAT_ARMING t) 0).set (F.TILE_STAT_SHEDDING t) 0).set (F.TILE_STAT_STANDIN_V t) 0).set (F.TILE_STAT_STANDIN t) 0
  let d := (d.set (F.TILE_FAULT_CAUSE t) cause).set (F.TILE_FAULT_DETAIL t) detail
  let d := d.setMap t { failed := true, cause := cause, detail := detail % 256 }
  let d := if c < 6 then d.set (F.C_EVT_TILE_FAIL c) 1 else d
  let d := d.fault 1 t [R.TILE_FAULT t, R.TILE_STAT t]
  if c == 1 then d.sendHoldMap else d


/-! ### Self-tests: their end, and the way back (R100, R125) -/

/-- Tile `t` is to enter state `st` at the next boundary of its course, with its gates off; a tile of no enabled course has no boundary and enters it
at once (R100). -/
def Dev.sendTo (d : Dev) (t st : Nat) : Dev :=
  let c := d.f (F.TILE_MAP_COURSE t)
  if decide (c < 6) && d.on (F.C_MAP_ENABLE c) then d.modTile t fun x => { x with next := some st, gates := .off }
  else (d.setTst t st).modTile t fun x => { x with gates := .off }

/-- The way back of a tile from TEST: to the state it came from, RUN through SHED and an add, until which HEALTHY does not count it (R100, R107). -/
def Dev.leaveTest (d : Dev) (t : Nat) : Dev :=
  let ran := (vget d.tile t).testFrom == 3
  (d.sendTo t (if ran then 4 else (vget d.tile t).testFrom)).modTile t fun x => { x with testBack := ran }

/-- A running self-test of tile `t` is aborted: no trim is written (R125). In the forced ramp the tile has not entered TEST yet: it goes on in RUN,
or, once it is in SHED, it returns at the next add. -/
def Dev.abortTest (d : Dev) (t : Nat) : Dev :=
  if d.f (F.TILE_TEST_RESULT t) == 1 && (d.tst t == 5 || (vget d.tile t).testRamp) then
    let d := ((d.set (F.TILE_TEST_RESULT t) 4).set (F.TILE_CTL_TEST_START t) 0).raise 1 28
    if d.tst t == 5 then d.leaveTest t
    else d.modTile t fun x => { x with testRamp := false, wantAdd := d.tst t == 4 }
  else d

/-- Every self-test of the course's tiles is aborted (R125). -/
def Dev.abortTests (d : Dev) (c : Nat) : Dev := (d.tilesOf c).foldl (fun d t => d.abortTest t) d

end Sys2Proof.Machine
end

