-- ==== Sys2Proof/Machine/CourseOps.lean ====
section
/-!
DEFINITION. Modes, starting and stopping of courses and the outer loop (Course Regulation and Protection, R129 to R143,
R155): demand, limit loops, references, DAC codes. Ports are named by their codes 1 MAIN, 2 BAT, 3 EAST, 4 WEST, 5 SERV, 6 SYS.
-/
namespace Sys2Proof.Machine

/-- The port code of course `c`. -/
def Dev.portCode (d : Dev) (c : Nat) : Nat := d.f (F.C_MAP_PORT c)

/-- The enabled course on port `p` (R24: at most one). -/
def Dev.courseOf (d : Dev) (p : Nat) : Option Nat :=
  (List.range 6).find? fun c => d.portCode c == p && d.on (F.C_MAP_ENABLE c)

/-- The port FET of port code `p` is commanded closed; SYS has none. -/
def Dev.fetOn (d : Dev) (p : Nat) : Bool := p == 6 || (within 1 5 p && d.on (F.GUARD_STAT_FET_ON (p - 1)))

/-- The mode a course regulates in: MODE, or the mode that falls under STOP 1 (R143). -/
def Dev.regMode (d : Dev) (c : Nat) : Nat :=
  let m := d.f (F.C_MODE_MODE c)
  if m != 0 then m else (vget d.course c).falling

/-- 1 when the course carries energy from SYS towards its port (TILEn_IPK.DIR coding). -/
def Dev.dir (d : Dev) (c : Nat) : Nat := d.f (F.C_RSTAT_DIR c)

/-- The high-side FET is the active switch of tile `t`: buck operation (R90). -/
def Dev.highActive (d : Dev) (c t : Nat) : Bool := d.on (F.TILE_CFG_SPAN t) == (d.dir c == 0)

/-- The gates of tile `t` after its active switch: the synchronous FET, unless that is a high side without its bootstrap (R88), or a dump tile, whose
HOn stays low (R121). -/
def Dev.syncGate (d : Dev) (t : Nat) : Gates :=
  if !d.isDump t && (d.highActive (d.f (F.TILE_MAP_COURSE t)) t || d.on (F.TILE_STAT_BOOT_OK t)) then .sync else .off

/-- The dead time before the high-side gate, or the low-side gate, of tile `t` goes on, PWM clocks (R93). -/
def Dev.deadTime (d : Dev) (t : Nat) (high : Bool) : Nat := 2 * ((if high then d.f (F.TILE_TIMING_DT_RISE t) else d.f (F.TILE_TIMING_DT_FALL t)) + 1)

/-- The maximum on-time of tile `t` of course `c`: PERIOD less MIN_OFF, PWM clocks (R92). -/
def Dev.maxOnTime (d : Dev) (c t : Nat) : Nat := d.f (F.C_MAP_PERIOD c) - 2 * d.f (F.TILE_TIMING_MIN_OFF t)

/-- The leading-edge blanking of tile `t`, 40 ns + 20 ns × LEB, PWM clocks (R96). -/
def Dev.blanking (d : Dev) (t : Nat) : Nat := 16 + 8 * d.f (F.TILE_TIMING_LEB t)

/-- The gates after an active pulse that ends `ton` PWM clocks into the cycle: the complementary FET's pulse is omitted if it would end inside its own
dead time (R92, R93). -/
def Dev.gatesAfter (d : Dev) (t ton : Nat) : Gates :=
  let c := d.f (F.TILE_MAP_COURSE t)
  if d.f (F.C_MAP_PERIOD c) ≤ ton + d.deadTime t (!d.highActive c t) then .off else d.syncGate t

/-- A port voltage in 10 mV from the voltage at an AIN ball in microvolts, through the divider of 1/60.0 (R497). -/
def ballVolts (uv : Nat) : Nat := 60 * uv / 10000

/-- The voltage of port code `p`: `v` at MAINS or BATS, or, through its divider, the one at the ball that VSNS names (R130, R497). -/
def Dev.nodeVolts (d : Dev) (p v : Nat) (ain : Vector Nat 20) : Nat :=
  if within 3 5 p then ballVolts (vget ain (d.pd (F.GUARD_CFG_VSNS (p - 1)))) else v

/-- The voltage that the course of port code `p` regulates: for SERV the one of the device side, at the ball that DSNS names (R254, R497). -/
def Dev.portVolts (d : Dev) (p v : Nat) (ain : Vector Nat 20) : Nat :=
  if p == 5 then ballVolts (vget ain (d.f F.PD_CFG_DSNS)) else d.nodeVolts p v ain

/-- A course can be given a mode other than NONE (R141, R147, R156, R334, R336, R118). -/
def Dev.canTake (d : Dev) (c : Nat) : Bool :=
  d.running && d.on (F.C_MAP_ENABLE c) && !d.on (F.C_PCTL_CB_LATCH c) && !d.on (F.C_PCTL_MM_FAULT c) &&
  !d.zoneShut c && !d.on F.THERM_HW_PD_SHUT && decide (0 < d.healthy c)

/-- The ports in falling priority (R47). -/
def Dev.order (d : Dev) : List Nat := [d.f F.SRC_ORDER_POS0, d.f F.SRC_ORDER_POS1, d.f F.SRC_ORDER_POS2, d.f F.SRC_ORDER_POS3]

/-- The ORDER position of port code `p`, or 4 where it has none. -/
def Dev.posOf (d : Dev) (p : Nat) : Nat := (d.order.findIdx? (· == p)).getD 4

/-- A course that stops shares no more (R178). -/
def Dev.unshare (d : Dev) (c : Nat) : Dev := d.onlyIf (decide (d.posOf (d.portCode c) < 4)) fun d => d.setBit F.PATH_STAT_SHARERS (d.posOf (d.portCode c)) false

/-- The tiles of a course that stops (R100, R143, R150): what runs or is shed, or was to return through SHED, enters ARMED at the next boundary; a
stand-in whose entry waited for RUN stands in ARMED. -/
def Dev.haltTiles (d : Dev) (c : Nat) (now : Bool) : Dev :=
  let d := d.announceAll c (d.tilesOf c)
  (d.tilesOf c).foldl (fun d t =>
    if (d.tst t == 3 && !d.holds t) || d.tst t == 4 || (vget d.tile t).next == some 4 then
      (d.modTile t fun x => { x with next := some 2, testBack := false, wantAdd := false, gates := if now then .off else x.gates }).set (F.TILE_IPK_DAC t) 0
    else d) d

/-- The course stops as stated for STOP 0 (R143): mode NONE, and its RUN and SHED tiles enter ARMED at the next boundary. With
`now`, their gates go off at once (R150, R182). -/
def Dev.haltCourse (d : Dev) (c : Nat) (now : Bool) : Dev :=
  if d.regMode c == 0 then d
  else
    let d := (((d.abortTests c).cancelStagger c).endShed c).unshare c
    let d := (((d.set (F.C_MODE_MODE c) 0).set (F.C_RSTAT_DELIVER c) 0).set (F.C_RSTAT_START_ST c) 0).set (F.C_RSTAT_ACTIVE c) 0
    let d := (((d.set (F.C_RSTAT_TRACK_WAIT c) 0).set (F.C_DEMAND_D c) 0).set (F.C_DEMAND_CODE c) 0).set (F.C_REF_REF c) 0
    let d := d.set (F.C_REF_FINAL c) 0
    let d := d.modCourse c fun k => { k with
      falling := 0, integ := Vector.replicate 5 0, mirror := Vector.replicate 5 0,
      mmRun := 0, d := 0, bump := false, preload := none, run3 := 0, run0 := 0, refFrac := 0,
      addAll := false, holdAll := false, stepSeen := false, failStagger := false, guardPend := false, demands := [] }
    d.haltTiles c now

/-- The course falls to 0 as stated for STOP 1 (R143); one that does not deliver yet stops at once. -/
def Dev.fallCourse (d : Dev) (c : Nat) : Dev :=
  if d.delivers c then
    let m := d.regMode c
    (((d.set (F.C_MODE_MODE c) 0).set (F.C_RSTAT_START_ST c) 3).abortTests c).modCourse c fun k => { k with falling := m }
  else d.haltCourse c false

/-- The courses that track course `c` (R142, R143). -/
def Dev.followers (d : Dev) (c : Nat) : List Nat :=
  (List.range 6).filter fun k => k != c && within 1 2 (d.f (F.C_MODE_MODE k)) && within 1 2 (d.f (F.C_TRACK_MODE k)) &&
    d.f (F.C_TRACK_MASTER k) == c

/-- The course is given mode NONE (R143): it stops or falls as Cn_TRACK.STOP says, and its followers fall. -/
def Dev.stopCourse (d : Dev) (c : Nat) : Dev :=
  if d.f (F.C_MODE_MODE c) == 0 then d
  else
    let fs := d.followers c
    let d := if d.on (F.C_TRACK_STOP c) then d.fallCourse c else d.haltCourse c false
    fs.foldl (fun d k => d.fallCourse k) d

/-- The course stops as stated for STOP 0, whatever STOP holds (R143), with its gates off at once if `now`. -/
def Dev.hardStop (d : Dev) (c : Nat) (now : Bool) : Dev :=
  if d.regMode c == 0 then d
  else
    let fs := d.followers c
    fs.foldl (fun d k => d.fallCourse k) (d.haltCourse c now)

/-- The measured value of the quantity that mode `m` regulates, in its steps (R131, R132): SYS or port voltage in 10 mV, port
current in the course's direction in 10 mA, port power in W. -/
def Dev.measured (d : Dev) (c m : Nat) : Int :=
  let k := vget d.course c
  if m == 2 then k.vPort
  else if m == 3 then (if d.dir c == 0 then k.iPort else -k.iPort)
  else if m == 4 then (k.vPort * k.iPort).tdiv 10000
  else d.sys.vSys

/-- A 16-bit field value from a measured number, clamped to the field. -/
def clamp16 (v : Int) : Nat := (max 0 (min v 65535)).toNat

/-- The direction of course `c` becomes `dir`. Where that reverses a delivering course, its guard still has the old one, until the reversal is over
(R94, R148). -/
def Dev.setDir (d : Dev) (c dir : Nat) : Dev :=
  let turned := d.dir c != dir && d.delivers c
  (d.set (F.C_RSTAT_DIR c) dir).modCourse c fun k => if turned then { k with guardPend := true } else if k.guardPend then k else { k with guardDir := dir }

/-- The course is given mode `m`, with final reference `final` and direction `dir` (R131). From NONE it starts as R141 step 1
says; a change between modes keeps the demand (R134) and leaves START_ST as it is, since R141 speaks of a start from NONE (assumption 68). It does
nothing while the course cannot take a mode. The port FET is not
asked for: R255 and R264 start a course with it open. -/
def Dev.giveModeOpen (d : Dev) (c m final dir : Nat) : Dev :=
  if m == 0 then d.stopCourse c
  else if !d.canTake c then d
  else
    let old := d.f (F.C_MODE_MODE c)
    let d := (d.setDir c dir).set (F.C_MODE_MODE c) m
    if old == m then d.set (F.C_REF_FINAL c) final
    else if old == 0 then
      let d := (d.abortTests c).set (F.C_REF_FINAL c) final
      let d := d.modCourse c fun k => { k with
        falling := 0, integ := Vector.replicate 5 0, mirror := Vector.replicate 5 0,
        bump := false, preload := none, refFrac := 0, run3 := 0, run0 := 0, d := 0 }
      let d := (d.set (F.C_DEMAND_D c) 0).set (F.C_RSTAT_ACTIVE c) 0
      let ref := if m == 1 then d.f F.SYS_TARGET_REF else if m == 2 || m == 5 then clamp16 (d.measured c m) else 0
      (d.set (F.C_REF_REF c) ref).set (F.C_RSTAT_START_ST c) 1
    else
      let ref := if m == 1 then d.f F.SYS_TARGET_REF else clamp16 (d.measured c m)
      ((d.modCourse c fun k => { k with bump := true, refFrac := 0, run3 := 0, run0 := 0 }).set (F.C_REF_REF c) ref).set (F.C_REF_FINAL c) final

/-- The course is given a mode while its port FET is commanded closed (R141). -/
def Dev.giveMode (d : Dev) (c m final dir : Nat) : Dev :=
  if m != 0 && !d.fetOn (d.portCode c) then d else d.giveModeOpen c m final dir

/-- Energy the OPEN flows take out of port code `p` (3 EAST, 4 WEST), and bring in through it, W (R240, R247). -/
def Dev.flowSum (d : Dev) (p : Nat) (outward : Bool) : Nat :=
  d.ring.flows.foldl (fun s x => if x.2.state == 2 && (if outward then x.2.outp else x.2.inp) + 2 == p then s + x.2.rate else s) 0

/-! ### Limits (R133, R174) -/

/-- The input current limit in force on port code `p`, 10 mA: PORTp_ILIM.IN, and on ring and service ports that of the contract in
force (R174). -/
def Dev.inLimit (d : Dev) (p : Nat) : Nat :=
  let i := d.f (F.PORT_ILIM_IN (p - 1))
  if within 3 4 p && decide (2 ≤ d.f (F.SEG_STAT_CSTATE (p - 3))) then min i (d.f (F.SEG_CONTRACT_I (p - 3)))
  else if p == 5 && d.serv.inForce then min i (d.f F.PD_CONTRACT_I)
  else i

/-- The output current limit in force on port code `p`, 10 mA; a SOURCE contract's current bounds a ring or service
port, less what its OPEN outbound flows take while it carries surplus (R174, R235, R240). -/
def Dev.outLimit (d : Dev) (p : Nat) : Nat :=
  let o := d.f (F.PORT_OLIM_OUT (p - 1))
  if within 3 4 p && d.f (F.SEG_STAT_CROLE (p - 3)) == 1 then
    let i := d.f (F.SEG_CONTRACT_I (p - 3))
    let v := d.f (F.SEG_CONTRACT_V (p - 3))
    let surplus := match d.courseOf p with
      | some c => d.f (F.C_MODE_MODE c) == 5
      | none => false
    min o (if surplus && v != 0 then i - d.flowSum p true * 10000 / v else i)
  else if p == 5 && d.on F.PD_STAT_PROLE && d.serv.inForce then min o (d.f F.PD_CONTRACT_I)
  else o

/-- One loop in the form of R132: proportional term and output, from the gains, the error and the integrator. -/
def loopOut (kp : Nat) (e integ : Int) : Int := ((kp : Int) * e).tdiv 256 + integ / 65536

/-- A loop that applies to a course in this update: integrator index, ACTIVE row, and error (R133, R498). -/
structure LoopTerm where
  idx : Nat
  row : Nat
  err : Int
deriving DecidableEq, Repr

/-- The threshold of the course's surplus stage, 10 mV (R161). -/
def Dev.surplusThr (d : Dev) (c : Nat) : Nat :=
  let p := d.portCode c
  10 * (if p == 2 then d.f F.SYS_SURPLUS_SURP_BAT else if p == 6 then d.f F.SYS_SURPLUS_SURP_DUMP else d.f F.SYS_SURPLUS_SURP_RING)

/-- The loops that apply to course `c` in this update, `ceil` being the charger's ceiling for C1 (R133, R498). -/
def Dev.loopTerms (d : Dev) (c : Nat) (ceil : Option Nat) : List LoopTerm :=
  let k := vget d.course c
  let m := d.regMode c
  let p := d.portCode c
  let e := ((d.f (F.C_REF_REF c) : Int) - d.measured c m) * (if m == 5 || (m == 2 && d.dir c == 0) then -1 else 1)
  let amp : Int := k.iPort.natAbs
  [⟨0, 1, e⟩] ++
  (if within 1 5 p && d.dir c == 0 then [⟨1, 3, (d.inLimit p : Int) - amp⟩] else []) ++
  (if within 1 5 p && d.dir c == 1 then [⟨2, 4, (d.outLimit p : Int) - amp⟩] else []) ++
  (if d.on (F.C_MODE_P_LIM c) then [⟨3, 5, (d.f (F.C_MODE_P_LIM c) : Int) - ((k.vPort * k.iPort).natAbs / 10000 : Nat)⟩] else []) ++
  (match ceil with
   | some l => if c == 1 && d.dir c == 1 then [⟨4, 7, (l : Int) + k.iPort⟩] else []
   | none => [])

/-- The row under which the clamp of the course limit acts (R133 rows 2 and 6, R328). -/
def Dev.clampRow (d : Dev) (c : Nat) : Nat := if d.zoneStep c < 16 then 6 else 2

/-- The smallest of the loop outputs and the clamp, with its row; where terms are equal, the lowest row (R498). -/
def pickLimit (outs : List (Nat × Int)) : Nat × Int :=
  outs.foldl (fun b x => if b.1 == 0 then x else if x.2 < b.2 || (x.2 == b.2 && decide (x.1 < b.1)) then x else b) (0, 0)

/-- What one lane of the course engine computes in an update (R132 to R134, R155): new integrators, D, d and ACTIVE. -/
structure LaneOut where
  integ  : Vector Int 5
  demand : Nat
  d      : Int
  active : Nat
deriving Repr

/-- The outputs of the loops with given integrators, and the clamp. -/
def laneOuts (kp : Nat) (terms : List LoopTerm) (integ : Vector Int 5) (clampRow clamp : Nat) : List (Nat × Int) :=
  (terms.map fun x => (x.row, loopOut kp x.err (vget integ x.idx))) ++ [(clampRow, (clamp : Int))]

/-- One lane's update (R132 to R134, R498). `bump` sets every integrator to D − p after a mode change, `preload` sets the primary one
for a first demand (R182, R160), and a loop to which ACTIVE changes starts from the last demand. -/
def laneStep (kp ki : Nat) (terms : List LoopTerm) (integ : Vector Int 5) (clampRow clamp last lastActive : Nat)
    (bump : Bool) (preload : Option Nat) : LaneOut :=
  let at0 (v : Int) (x : LoopTerm) : Int := (v - ((kp : Int) * x.err).tdiv 256) * 65536
  let base : Vector Int 5 :=
    match preload with
    | some v => terms.foldl (fun w x => if x.idx == 0 then vset w 0 (at0 v x) else w) integ
    | none => if bump then terms.foldl (fun w x => vset w x.idx (at0 last x)) integ else integ
  let hold := bump || preload.isSome
  let moved : Vector Int 5 :=
    if hold then base else terms.foldl (fun w x => vset w x.idx (vget w x.idx + (ki : Int) * x.err)) base
  let first := pickLimit (laneOuts kp terms moved clampRow clamp)
  let chosen : Vector Int 5 :=
    if hold || lastActive == 0 || first.1 == lastActive then moved
    else terms.foldl (fun w x => if x.row == first.1 then vset w x.idx (at0 last x) else w) moved
  let pick := pickLimit (laneOuts kp terms chosen clampRow clamp)
  let dem : Int := max pick.2 0
  let prim := match terms.head? with
    | some x => loopOut kp x.err (vget chosen 0)
    | none => 0
  let frozen : Vector Int 5 :=
    if hold then chosen
    else terms.foldl (fun w x =>
      if decide (dem < loopOut kp x.err (vget chosen x.idx)) && decide (0 < x.err) then vset w x.idx (vget base x.idx) else w) chosen
  { integ := frozen, demand := min dem.toNat 65535, d := prim, active := pick.1 }

/-! ### DAC codes and duties (R135, R95) -/

/-- The sense range of tile `t` in mV (R95). -/
def Dev.rangeMv (d : Dev) (t : Nat) : Nat := 25 * 2 ^ d.f (F.TILE_CFG_RANGE t)

/-- A quotient rounded to the nearest whole number, halves up. -/
def divRound (a b : Nat) : Nat := (2 * a + b) / (2 * b)

/-- The DAC code of tile `t` for a demand `dem` shared by `n` tiles (R135); I_FS is range / RSENSE. -/
def Dev.dacCode (d : Dev) (t dem n : Nat) : Nat :=
  min 1023 (divRound ((2 * dem + n * d.f (F.TILE_IMEAS_RIPPLE t)) * 1023 * d.f (F.TILE_SCALE_RSENSE t)) (2 * n * d.rangeMv t * 100000))

/-- The current of a DAC code of tile `t`, 10 mA (R96). -/
def Dev.codeAmps (d : Dev) (t code : Nat) : Nat := divRound (code * d.rangeMv t * 100000) (1023 * d.f (F.TILE_SCALE_RSENSE t))

/-- The on-time a dump tile may have under the power limit of R122, PWM clocks: its mean power is at most P_CONT. -/
def Dev.dumpCap (d : Dev) (c t : Nat) : Nat :=
  let v := d.sys.vSys.toNat
  d.f (F.TILE_DUMP_P_CONT t) * d.f (F.C_MAP_PERIOD c) * 1000 * d.f (F.TILE_DUMP_RES t) / (v * v)

/-- The on-time of a dump tile for demand `dem` shared by `n` tiles, PWM clocks: duty D × RES / (n × V_SYS), at most the whole
period, and bounded by the power limit (R135, R122). -/
def Dev.dumpTime (d : Dev) (c t dem n : Nat) : Nat :=
  let p := d.f (F.C_MAP_PERIOD c)
  let want := min p (p * dem * d.f (F.TILE_DUMP_RES t) / (10 * n * d.sys.vSys.toNat))
  if d.on (F.TILE_DUMPSTAT_LIMITED t) then min want (d.dumpCap c t) else want

/-- The codes that an update computes from demand `dem` for the running tiles, for a dump course their on-times (R135). They apply from the next
boundary (R129). -/
def Dev.compute (d : Dev) (c dem : Nat) : Dev :=
  let ts := d.ranked c
  let n := ts.length
  let code (t : Nat) : Nat := if d.portCode c == 6 then d.dumpTime c t dem n else d.dacCode t dem n
  let d := d.set (F.C_DEMAND_CODE c) (if d.portCode c == 6 then 0 else (ts.head?.map code).getD 0)
  ts.foldl (fun d t => d.modTile t fun x => { x with code := code t }) d

/-- The codes that the last update computed apply at this boundary; the shed ramp scales the shedding tile's code by 1 − j/N, rounded down (R109, R129,
assumption 68), and a power
limit bounds a dump tile's on-time (R122). -/
def Dev.drive (d : Dev) (c : Nat) : Dev :=
  let ts := d.ranked c
  let k := vget d.course c
  let big := d.rampLen c
  if d.portCode c == 6 then
    ts.foldl (fun d t =>
      let on := (vget d.tile t).code
      d.modTile t fun x => { x with tOn := if d.on (F.TILE_DUMPSTAT_LIMITED t) then min on (d.dumpCap c t) else on }) d
  else
    ts.foldl (fun d t =>
      let code := (vget d.tile t).code
      let code := if k.shedTile == some t && d.on (F.TILE_STAT_SHEDDING t) then code * (big - k.rampJ) / big else code
      (d.set (F.TILE_IPK_DAC t) code).set (F.TILE_IPK_DIR t) (d.dir c)) d

/-! ### References (R137, R138, R141, R142) -/

/-- A number moved towards a goal by at most `by_`. -/
def towards (v goal step : Int) : Int :=
  if v < goal then min goal (v + step) else max goal (v - step)

/-- SYS_TARGET.TARGET from the set-point, the load line and I_SYS averaged over the lead's last 16 updates, rounded to the nearest
10 mV with halves up, and not below VSYS_MIN (R137). -/
def Dev.sysTarget (d : Dev) : Nat :=
  let n : Int := max 1 d.sys.sums.length
  let sum : Int := max 0 (d.sys.sums.foldl (· + ·) 0)
  let num : Int := (d.f F.SYS_SETPT_SETPOINT : Int) * 5000 * n - (d.f F.SYS_LOADLINE_SLOPE : Int) * sum
  max (clamp16 ((2 * num + 5000 * n) / (10000 * n))) (d.f F.SYS_FLOOR_VSYS_MIN)

/-- The SYS voltage is seen: the clock of its last fall below CB_REL runs on, starts or stops (R146). -/
def Dev.seeSys (d : Dev) (v : Nat) : Dev :=
  let below := if v < d.pd F.SYS_CB_CB_REL then some (d.sys.belowSince.getD d.pw.clock) else none
  (d.putSys { d.sys with vSys := v, belowSince := below }).onlyIf d.alive fun d => d.set F.SYS_MEAS_V_SYS (min 65535 v)

/-- The SYS reference moves at an update of the lead course `c` (R138; at handback with SLEW 0, at C1's RATE, R160). -/
def Dev.moveSysRef (d : Dev) (c : Nat) (rate : Nat) : Dev :=
  let d := d.set F.SYS_TARGET_TARGET d.sysTarget
  let goal := d.f F.SYS_TARGET_TARGET
  if rate == 0 then d.set F.SYS_TARGET_REF goal
  else
    let acc := d.sys.refFrac + rate * d.f (F.C_MAP_PERIOD c)
    let d := (d.putSys { d.sys with refFrac := acc % 40000 })
    d.set F.SYS_TARGET_REF (clamp16 (towards (d.f F.SYS_TARGET_REF) goal (acc / 40000 : Nat)))

/-- The reference of the master that course `c` tracks, present and final (R142). -/
def Dev.masterRef (d : Dev) (c : Nat) : Nat × Nat :=
  let m := d.f (F.C_TRACK_MASTER c)
  if m == 6 then (d.f F.SYS_TARGET_REF, d.f F.SYS_TARGET_TARGET)
  else if m < 6 then
    if d.f (F.C_MODE_MODE m) == 1 then (d.f F.SYS_TARGET_REF, d.f F.SYS_TARGET_TARGET)
    else (d.f (F.C_REF_REF m), d.f (F.C_REF_FINAL m))
  else (0, 0)

/-- What tracking gives as REF in the modes V_SYS and V_PORT (R142), if the course tracks. The spec gives the ratiometric reference no rounding: it is
rounded down (assumption 68). -/
def Dev.tracked (d : Dev) (c : Nat) : Option Nat :=
  let t := d.f (F.C_TRACK_MODE c)
  let final := d.f (F.C_REF_FINAL c)
  if !within 1 2 (d.regMode c) || !within 1 2 t || d.f (F.C_TRACK_MASTER c) == 7 then none
  else
    let (r, rf) := d.masterRef c
    if t == 1 then some (min final r) else some (if rf == 0 then 0 else final * r / rf)

/-- A start reached its final reference: START_ST 2 and EVB2 source 22 + c (R141 step 4). -/
def Dev.reached (d : Dev) (c ref final : Nat) : Dev :=
  if d.f (F.C_RSTAT_START_ST c) == 1 && ref == final then (d.set (F.C_RSTAT_START_ST c) 2).raise 2 (22 + c) else d

/-- The reference of course `c` moves at its update (R141 step 3, R142, R143): the lead's is SYS_TARGET.REF (R138), and the final reference of SURPLUS
is the SYS reference plus the stage's threshold (R131). A fall that reaches 0 stops the course. TRACK_WAIT reads 1 in a fall too, while it is tracking that
gives a REF below FINAL. -/
def Dev.moveRef (d : Dev) (c : Nat) : Dev :=
  let m := d.regMode c
  let falls := d.f (F.C_RSTAT_START_ST c) == 3
  let acc := (vget d.course c).refFrac + d.f (F.C_TRACK_RATE c) * d.f (F.C_MAP_PERIOD c)
  let d := d.modCourse c fun k => { k with refFrac := acc % 40000 }
  let ref : Int := d.f (F.C_REF_REF c)
  if falls then
    let own := (towards ref 0 (acc / 40000 : Nat)).toNat
    let new := match d.tracked c with
      | some r => min own r
      | none => own
    let waits := match d.tracked c with
      | some r => decide (r ≤ own) && decide (r < d.f (F.C_REF_FINAL c))
      | none => false
    let d := (d.set (F.C_REF_REF c) new).setB (F.C_RSTAT_TRACK_WAIT c) waits
    if new == 0 then
      let fs := d.followers c
      fs.foldl (fun d k => d.fallCourse k) (d.haltCourse c false)
    else d
  else
    let d := if m == 1 then d.set (F.C_REF_FINAL c) (d.f F.SYS_TARGET_TARGET)
      else if m == 5 then d.set (F.C_REF_FINAL c) (clamp16 ((d.f F.SYS_TARGET_REF + d.surplusThr c : Nat) : Int))
      else d
    let final := d.f (F.C_REF_FINAL c)
    let own : Nat := if m == 1 then d.f F.SYS_TARGET_REF else (towards ref final (acc / 40000 : Nat)).toNat
    let new := (d.tracked c).getD own
    let d := d.setB (F.C_RSTAT_TRACK_WAIT c) ((d.tracked c).isSome && decide (new < final))
    (d.set (F.C_REF_REF c) new).reached c new final

/-- DCM operates on tile `t`: TILEn_CFG.DCM, but not during a reversal of its course, nor on C1 while SYS_SURPLUS.ARM is 1 (R94, R162). -/
def Dev.dcm (d : Dev) (t : Nat) : Bool :=
  let c := d.f (F.TILE_MAP_COURSE t)
  d.on (F.TILE_CFG_DCM t) && !(vget d.course c).guardPend && !(c == 1 && d.on F.SYS_SURPLUS_ARM)

end Sys2Proof.Machine
end

