-- ==== Sys2Proof/Machine/PathOps.lean ====
section
/-!
DEFINITION. The power path (R169 to R186): port FETs, qualification and loss, lead choice, handover, transfer, sharing, and
the conditions C1 hot and charging source available.
-/
namespace Sys2Proof.Machine

/-- The port FET of port code `p` is commanded open or closed (R173). -/
def Dev.setFet (d : Dev) (p : Nat) (closed : Bool) : Dev :=
  if within 1 5 p then d.setB (F.GUARD_STAT_FET_ON (p - 1)) closed else d

/-- The state with the hidden part of port code `p` changed. -/
def Dev.modPort (d : Dev) (p : Nat) (g : Port → Port) : Dev := (d.putPort (vset d.port (p - 1) (g (vget d.port (p - 1)))))

/-- Port code `p` is in its qualification window (R170). -/
def Dev.inWindow (d : Dev) (p : Nat) : Bool := d.on (F.PORT_STAT_ABOVE_MIN (p - 1)) && !d.on (F.PORT_STAT_ABOVE (p - 1))

/-- Port code `p` is qualified. -/
def Dev.qualified (d : Dev) (p : Nat) : Bool := within 1 5 p && d.f (F.PORT_STAT_QSTATE (p - 1)) == 2

/-- The port is a source by the image: it stands in SRC_ORDER, which R47 grants only to ports that may source to SYS. -/
def Dev.isSource (d : Dev) (p : Nat) : Bool := decide (d.posOf p < 4) && p != 2

/-- The qualified source of highest priority. -/
def Dev.bestSource (d : Dev) : Option Nat := d.order.find? fun p => d.qualified p

/-- The course of port code `p` can take SYS: it can be given a mode (R118, R141, R147, R156, R334, R336), and the port FET is commanded closed (R141). -/
def Dev.canServe (d : Dev) (p : Nat) : Bool :=
  match d.courseOf p with
  | some c => d.canTake c && d.fetOn p
  | none => false

/-- The qualified source of highest priority whose course can take SYS: no other can lead (R175, R182, R186). -/
def Dev.bestLead (d : Dev) : Option Nat := d.order.find? fun p => d.qualified p && d.canServe p

/-- PORTp_STAT.CONTRACT: a SINK contract is in force; always so for MAIN (R214). -/
def Dev.sinkContract (d : Dev) (p : Nat) : Bool := p == 1 || (within 3 5 p && d.on (F.PORT_STAT_CONTRACT (p - 1)))

/-- The conditions of R169 other than the window: not latched, a SINK contract where one is needed, no crowbar latch, and no zone
shutdown of the port's course (R334). -/
def Dev.mayQualify (d : Dev) (p : Nat) : Bool :=
  d.isSource p && d.sinkContract p && !d.on (F.GUARD_STAT_LATCHED (p - 1)) &&
  (match d.courseOf p with
   | some c => !d.on (F.C_PCTL_CB_LATCH c) && !d.zoneShut c
   | none => false)

/-- The debounce of port code `p` starts afresh, or ends, by the conditions of the moment (R172). A lost source of a handover
waits until the handover has completed (R185). -/
def Dev.restartDebounce (d : Dev) (p : Nat) : Dev :=
  let wait := d.f F.PATH_STAT_STATE == 2 && (vget d.port (p - 1)).outside
  let go := d.inWindow p && (if p == 2 then true else d.mayQualify p) && !wait
  let d := (d.set (F.PORT_STAT_DEB_MS (p - 1)) 0).modPort p fun x => { x with debUs := 0, tripped := false, debounced := false }
  d.set (F.PORT_STAT_QSTATE (p - 1)) (if go then 1 else 0)

/-- BAT counts as debounced: it has passed its window debounce, or is in window after the wake by an EMERG HOLD, until the next logic-die reset (R176). -/
def Dev.batSettled (d : Dev) : Bool :=
  (vget d.port 1).debounced || (d.on F.CHG_RESV_E_HOLD_RX && d.f F.RSTCAUSE_CAUSE == 9 && d.inWindow 2)

/-- C1 carries no charge and the battery may take SYS (R176). -/
def Dev.hot (d : Dev) : Bool :=
  d.running && d.on F.CHG_CFG_CHEM && d.f F.CHG_PHASE_PHASE != 9 && d.batSettled &&
  decide (d.f F.CHG_VFLOOR_V_DISCH ≤ d.f F.CHG_MEAS_V_CELL) &&
  (!d.on F.CHG_RESV_E_AT_FLOOR || d.on F.CHG_RESV_E_RELEASED) &&
  d.on (F.C_MAP_ENABLE 1) && !d.on (F.C_PCTL_CB_LATCH 1) && !d.on (F.C_PCTL_MM_FAULT 1) && !d.on (F.C_STAT_COURSE_FAIL 1) &&
  !d.zoneShut 1

/-- A charging source is available: STATE reads SOURCE and CHG_CTL.EN is 1 (R188). -/
def Dev.chargeSource (d : Dev) : Bool := d.f F.PATH_STAT_STATE == 1 && d.on F.CHG_CTL_EN

/-! ### The lead (R175, R177, R182, R185) -/

/-- A power-fail save starts; one that starts while another runs changes nothing (R404). It completes within the command: E_AVAIL is written to the
retained region; the charger timer, SYS_OOW and AVL_DARK are there already. -/
def Dev.powerFailSave (d : Dev) : Dev :=
  if d.alive then
    let d := d.putPw { d.pw with pfsDone := true, pfsOld := d.ret.eAvail }
    d.putRet { d.ret with eAvail := if d.f F.CHG_CFG_CHEM == 0 then d.ret.eAvail else d.f F.CHG_ENERGY_E_AVAIL }
  else d

/-- The path state and lead port shown. -/
def Dev.setPath (d : Dev) (st lead : Nat) : Dev := (d.set F.PATH_STAT_STATE st).set F.PATH_STAT_LEAD lead

/-- The course current that carries SYS-side current `i` at the present voltages: the inductor lies on the port side with SPAN 0,
on SYS with SPAN 1 (R90, R130, R182). -/
def Dev.carry (d : Dev) (c : Nat) (i : Int) : Nat :=
  let span := d.f (F.TILE_CFG_SPAN ((d.slotsOf c).headD 0))
  let v := (vget d.course c).vPort
  if span == 1 then i.toNat else if v ≤ 0 then 0 else (i * d.sys.vSys / v).toNat

/-- The SYS-side current of `x` of course `c`'s own current (R178: the excess d − D). -/
def Dev.sysSide (d : Dev) (c : Nat) (x : Int) : Int :=
  let span := d.f (F.TILE_CFG_SPAN ((d.slotsOf c).headD 0))
  if span == 1 then x else if d.sys.vSys ≤ 0 then 0 else x * (vget d.course c).vPort / d.sys.vSys

/-- The port current of course `c` that gives SYS-side current `i` (R130). -/
def Dev.portSide (d : Dev) (c : Nat) (i : Int) : Int :=
  let v := (vget d.course c).vPort
  if v ≤ 0 then 0 else i * d.sys.vSys / v

/-- C1 no longer charges: a charging phase becomes IDLE, whose timer is none, DONE stays (R183, R190, R211). -/
def Dev.phaseToIdle (d : Dev) : Dev :=
  let p := d.f F.CHG_PHASE_PHASE
  if within 1 5 p || p == 8 then
    ((((d.set F.CHG_PHASE_PREV p).set F.CHG_PHASE_PHASE 0).set F.CHG_PHASE_TIMER 0).putRet { d.ret with chgPhase := 0, chgTimer := 0 }).raise 3 0
  else d

/-- The lead's first start at a cold start: the SYS reference starts at the measured SYS voltage (R177, R141). -/
def Dev.coldLead (d : Dev) (p c st : Nat) : Dev :=
  let d := ((d.set F.SYS_TARGET_REF (clamp16 d.sys.vSys)).putSys { d.sys with refFrac := 0 })
  let d := d.set F.SYS_TARGET_TARGET d.sysTarget
  let d := if d.f F.SYS_WIN_SLEW == 0 then d.set F.SYS_TARGET_REF (d.f F.SYS_TARGET_TARGET) else d
  let d := if p == 2 then d.phaseToIdle else d
  let e := d.giveMode c 1 (d.f F.SYS_TARGET_TARGET) 0
  if e.f (F.C_MODE_MODE c) == 1 then e.setPath st p else d

/-- Steps 1 and 2 of a handover: the target takes V_SYS with REF equal to SYS_TARGET.REF and a first demand that carries the last
I_SYS; its SHED tiles return; R134 and R141 do not apply (R182, R183). -/
def Dev.takeOver (d : Dev) (p c : Nat) : Dev :=
  let turned := d.dir c != 0 && d.delivers c
  let n : Int := max 1 d.sys.sums.length
  let first := d.carry c (max 0 (d.sys.sums.foldl (· + ·) 0 / n))
  let d := if p == 2 then (d.set F.PATH_STAT_ASSIST 0).phaseToIdle else d.setBit F.PATH_STAT_SHARERS (d.posOf p) false
  let d := (d.set (F.C_MODE_MODE c) 1).set (F.C_RSTAT_DIR c) 0
  let d := ((d.set (F.C_REF_REF c) (d.f F.SYS_TARGET_REF)).set (F.C_REF_FINAL c) (d.f F.SYS_TARGET_TARGET)).set (F.C_RSTAT_START_ST c) 2
  (d.abortTests c).modCourse c fun k => { k with
    falling := 0, preload := some first, bump := false, addAll := true, run3 := 0, run0 := 0
    guardPend := turned || k.guardPend, guardDir := if turned then k.guardDir else 0 }

/-- The power path enters DARK: every source course stops, and a power-fail save starts (R182, R404). -/
def Dev.goDark (d : Dev) : Dev :=
  let d := d.order.foldl (fun d p => match d.courseOf p with
    | some c => if d.dir c == 0 then d.hardStop c false else d
    | none => d) d
  let d := match d.courseOf 2 with
    | some c => if d.f (F.C_MODE_MODE c) != 0 then (d.hardStop c false).phaseToIdle else d
    | none => d
  let d := d.putPath { d.path with target := 0, incoming := 0, stepTwo := false, stepTwoRun := 0 }
  (((d.setPath 6 0).set F.PATH_STAT_SHARERS 0).set F.PATH_STAT_ASSIST 0).powerFailSave

/-- C1 leaves SURPLUS: a handover to another target ends it too (R211). -/
def Dev.endSurplusC1 (d : Dev) : Dev :=
  match d.courseOf 2 with
  | some c => if d.f (F.C_MODE_MODE c) == 5 then d.hardStop c false else d
  | none => d

/-- A handover to `target` starts, or the path enters DARK where there is none that can take SYS (R182). `late` is the part of the 20 µs that had passed
before the loss was declared. -/
def Dev.handTo (d : Dev) (target : Option Nat) (late : Nat) : Dev :=
  match target with
  | none => d.goDark
  | some p =>
    match d.courseOf p with
    | none => d.goDark
    | some c =>
      let d := if p == 2 then d else d.endSurplusC1
      let d := (d.putPath { d.path with target := p, since := d.pw.clock - late, incoming := 0, stepTwo := false, stepTwoRun := 0, removed := false })
      (d.set F.PATH_STAT_STATE 2).takeOver p c

/-- The lead is lost (R182): C1 takes SYS if it is hot, else the course of the best source still qualified, else DARK. A target has to be able to take SYS. -/
def Dev.handover (d : Dev) (late : Nat) : Dev :=
  let lead := d.f F.PATH_STAT_LEAD
  let hot := d.hot
  let d := match d.courseOf lead with
    | some c => d.hardStop c true
    | none => d
  d.handTo (if hot && lead != 2 && d.canServe 2 then some 2 else d.bestLead) late

/-- Step 4 of a handover, at a boundary of its target: the state, the duration, the count, EVB2 source 28 and a fault-log entry (R182);
a lost source that has returned meanwhile starts its debounce (R185). -/
def Dev.finishHandover (d : Dev) : Dev :=
  let p := d.path.target
  let us := min 255 (d.pw.clock - d.path.since)
  let d := (d.setPath (if p == 2 then 3 else 1) p).set F.PATH_STAT_HANDOVER_US us
  let d := ((d.inc F.PATH_CNT_HANDOVERS).putPath { d.path with target := 0 })
  let d := d.fault 2 28 [R.PATH_STAT, R.PATH_CNT]
  d.each 5 fun d i => if (vget d.port i).outside && d.inWindow (i + 1) && d.f (F.PORT_STAT_QSTATE i) == 0 then d.restartDebounce (i + 1) else d

/-- A transfer of the lead to port `p` starts: its course starts in I_PORT towards SYS (R186 step 1). -/
def Dev.startTransfer (d : Dev) (p c : Nat) : Dev :=
  let before := d.f F.PATH_STAT_STATE
  let e := if d.f (F.C_MODE_MODE c) == 3 && d.dir c == 0 then d else d.giveMode c 3 0 0
  if e.f (F.C_MODE_MODE c) == 3 then
    ((e.set F.PATH_STAT_STATE 4).putPath { e.path with incoming := p, before := before, stepTwo := false, stepTwoRun := 0 })
  else d

/-- The lead is chosen or changed by the sources that are qualified now: a first lead out of OFF, DARK or RESERVE (R175, R177), a
transfer to a source of higher priority (R186), and the end of a battery lead that is no longer hot (R199, R200). -/
def Dev.pathReview (d : Dev) : Dev :=
  if !d.running || d.sys.handback then d
  else
    let st := d.f F.PATH_STAT_STATE
    if st == 0 || st == 5 || st == 6 then
      match d.bestLead with
      | some p => match d.courseOf p with
        | some c => d.coldLead p c 1
        | none => d
      | none => match d.courseOf 2 with
        | some c => if d.hot then d.coldLead 2 c 3 else d
        | none => d
    else if st == 1 || st == 3 then
      let lead := d.f F.PATH_STAT_LEAD
      match d.bestLead with
      | some p =>
        if decide (d.posOf p < d.posOf lead) then
          match d.courseOf p with
          | some c => d.startTransfer p c
          | none => d
        else d
      | none => d
    else d

/-- The reserve floor is reached with C1 in the lead and no release: C1 stops, STATE reads RESERVE; a transfer from C1 ends, and its source is
then taken as a first lead (R175, R200). -/
def Dev.goReserve (d : Dev) : Dev :=
  ((match d.courseOf 2 with
    | some c => d.hardStop c false
    | none => d).setPath 5 0).putPath { d.path with incoming := 0 }

/-! ### Loss of a source (R172) -/

/-- A transfer ends without its incoming source: the outgoing lead keeps V_SYS (R211). -/
def Dev.abandonTransfer (d : Dev) : Dev :=
  (d.set F.PATH_STAT_STATE d.path.before).putPath { d.path with incoming := 0, stepTwo := false, stepTwoRun := 0 }

/-- A source is lost: trace, FET open, and the consequence for the path: handover, abandoned transfer or lost sharer (R172, R173, R182,
R211). The target of a handover is lost once the handover has completed (R185). The FET of a port that carries energy out is left to the contract engine. -/
def Dev.loseSource (d : Dev) (p late : Nat) : Dev :=
  if !d.qualified p then
    if within 1 5 p && d.f (F.PORT_STAT_QSTATE (p - 1)) == 1 then (d.set (F.PORT_STAT_QSTATE (p - 1)) 0).set (F.PORT_STAT_DEB_MS (p - 1)) 0 else d
  else
    let d := (((d.set (F.PORT_STAT_QSTATE (p - 1)) 0).set (F.PORT_STAT_DEB_MS (p - 1)) 0).set (F.PORT_STAT_LOST (p - 1)) 1).inc (F.PORT_STAT_LOSSES (p - 1))
    let d := ((d.raise 2 31).setFet p false).modPort p fun x => { x with outside := true }
    let st := d.f F.PATH_STAT_STATE
    if d.f F.PATH_STAT_LEAD == p && (st == 1 || st == 4) then d.handover late
    else
      let d := match d.courseOf p with
        | some c => d.hardStop c true
        | none => d
      if st == 4 && d.path.incoming == p then d.abandonTransfer
      else if st == 2 && d.path.target == p then d.putPath { d.path with removed := true }
      else if decide (d.posOf p < 4) then d.setBit F.PATH_STAT_SHARERS (d.posOf p) false
      else d

/-- C1 leads SYS, alone or as the outgoing lead of a transfer. -/
def Dev.c1Leads (d : Dev) : Bool := d.f F.PATH_STAT_LEAD == 2 && (d.f F.PATH_STAT_STATE == 3 || d.f F.PATH_STAT_STATE == 4)

/-- C1 stops and is no longer available for SYS; a lead or assist of C1 ends, and the best qualified source, if any, takes SYS as in a
handover (R203, R211, R150, R334). With `idle` a charging phase becomes IDLE (R211). A handover to C1 that runs completes first, whatever stops C1 (R185). -/
def Dev.loseBattery (d : Dev) (now idle : Bool) : Dev :=
  let taking := d.f F.PATH_STAT_STATE == 2 && d.path.target == 2
  let leads := d.c1Leads
  let d := if taking then d.putPath { d.path with removed := true } else d
  if taking && !now then d
  else
    let d := (d.onlyIf idle Dev.phaseToIdle).set F.PATH_STAT_ASSIST 0
    let d := match d.courseOf 2 with
      | some c => d.hardStop c now
      | none => d
    if leads then d.handTo d.bestLead 0 else d

/-! ### Courses that fail, and self-tests (R100, R118) -/

/-- Course `c` leaves its mode for a fault of its own, as stated for STOP 0, and the path follows: a lead hands over, C1 gives up SYS, and a transfer to the
course is abandoned (R118, R143, R156, R182, R211). The charge phase stays as it is: R189 has no row for it. -/
def Dev.courseLost (d : Dev) (c : Nat) : Dev :=
  if d.portCode c == 2 then d.loseBattery false false
  else if d.portCode c == d.f F.PATH_STAT_LEAD then d.handover 0
  else (d.hardStop c false).onlyIf (d.f F.PATH_STAT_STATE == 4 && d.path.incoming == d.portCode c) Dev.abandonTransfer

/-- A course whose last healthy slot is gone stops as stated for STOP 0: COURSE_FAIL sets and EVB1 source 29 is raised (R118). -/
def Dev.judgeHealthy (d : Dev) (c : Nat) : Dev :=
  if d.on (F.C_MAP_ENABLE c) && d.healthy c == 0 && !d.on (F.C_STAT_COURSE_FAIL c) then
    ((d.set (F.C_STAT_COURSE_FAIL c) 1).courseLost c).raise 1 29
  else d

/-- The steps of tile `t`'s self-test, as requested: dump tiles run steps 1, 3 and 4 only (R124). -/
def Dev.testSteps (d : Dev) (t : Nat) : List Nat :=
  (List.range 6).filter fun i => 1 ≤ i && (vget d.tile t).testSel.testBit (i - 1) && (!d.isDump t || (i != 2 && i != 5))

/-- The step of tile `t`'s self-test that follows the one that STEP shows. -/
def Dev.nextStep (d : Dev) (t : Nat) : Option Nat := (d.testSteps t).find? fun i => decide (d.f (F.TILE_TEST_STEP t) < i)

/-- The bound of step `i`, in microseconds (R124); 0 before the first step. -/
def stepBound (i : Nat) : Nat :=
  match i with
  | 1 => 50
  | 2 => 1500
  | 3 => 500
  | 4 => 1000
  | 5 => 100
  | _ => 0

/-- The longest time before step `next` of tile `t`'s self-test starts, in microseconds: the bound of the step that runs and, before step 3, ten course
periods without current (R124). -/
def Dev.stepLimit (d : Dev) (t next : Nat) : Nat :=
  let c := d.f (F.TILE_MAP_COURSE t)
  stepBound (d.f (F.TILE_TEST_STEP t)) + if next == 3 && decide (c < 6) then d.f (F.C_MAP_PERIOD c) / 20 else 0

/-- A microsecond of tile `t`'s self-test: the step that runs goes on or gives way to the next, as a free value says and at its bound at the latest; the
last one goes on to the test's end (R124, R127, assumption 18). -/
def Dev.testTick (d : Dev) (t : Nat) : Dev :=
  match if d.tst t == 5 && d.f (F.TILE_TEST_RESULT t) == 1 then d.nextStep t else none with
  | none => d
  | some i =>
    let n := (vget d.tile t).stepUs + 1
    let x := d.fresh
    if x.1 % 2 == 1 || decide (d.stepLimit t i ≤ n) then (x.2.set (F.TILE_TEST_STEP t) i).modTile t fun y => { y with stepUs := 0 }
    else x.2.modTile t fun y => { y with stepUs := n }

/-- Tile `t` enters TEST and starts the first step, but for step 3, which waits for ten course periods without current; its gates are off, and its course
loses it for HEALTHY (R100, R107, R124). -/
def Dev.enterTest (d : Dev) (t : Nat) : Dev :=
  let c := d.f (F.TILE_MAP_COURSE t)
  let d := (d.setTst t 5).modTile t fun x => { x with testRamp := false, testBack := false, wantAdd := false, next := none, stepUs := 0, gates := .off }
  let first := (d.testSteps t).headD 0
  let d := d.set (F.TILE_TEST_STEP t) (if first == 3 then 0 else first)
  if c < 6 then d.judgeHealthy c else d

end Sys2Proof.Machine
end

