-- ==== Sys2Proof/Machine/ChargerOps.lean ====
section
/-!
DEFINITION. The charger (R187 to R203): phases, ceilings, timers, windows, the energy account and battery presence.
-/
namespace Sys2Proof.Machine

/-- The charger phases in which C1 carries charge: TRICKLE, PRECHARGE, CC, CV, TERMINATE, REDUCED_TEMP (R187). -/
def chargingPhase (p : Nat) : Bool := within 1 5 p || p == 8

/-- The window's percentage of the ceiling (R195). -/
def Dev.winPct (d : Dev) : Nat :=
  let w := d.f F.CHG_PHASE_WINDOW
  if w == 1 then d.f F.CHG_TADJ_COOL_PCT else if w == 3 then d.f F.CHG_TADJ_WARM_PCT else 100

/-- Charging is suspended by the temperature window: COLD, HOT, or a window whose percentage is 0 (R195). -/
def Dev.tooColdOrHot (d : Dev) : Bool :=
  let w := d.f F.CHG_PHASE_WINDOW
  w == 0 || w == 4 || ((w == 1 || w == 3) && d.winPct == 0)

/-- The window is COOL or WARM and charging goes on. -/
def Dev.reducedWin (d : Dev) : Bool := (d.f F.CHG_PHASE_WINDOW == 1 || d.f F.CHG_PHASE_WINDOW == 3) && d.winPct != 0

/-- The window lets charging go on: COOL, NORMAL or WARM. -/
def Dev.winOk (d : Dev) : Bool := within 1 3 (d.f F.CHG_PHASE_WINDOW) && !d.tooColdOrHot

/-- Cell voltage, mV (R187). -/
def Dev.vCell (d : Dev) : Nat := d.f F.CHG_MEAS_V_CELL

/-- The derived phase (R188), with REG 0. -/
def Dev.derived (d : Dev) : Nat :=
  if d.f F.CHG_PHASE_WINDOW == 7 then 0
  else if d.tooColdOrHot then 7
  else if d.vCell < d.f F.CHG_VTH_V_DEEP then (if d.f F.CHG_CFG_CHEM == 6 then 2 else 1)
  else if d.vCell < d.f F.CHG_VTH_V_PRE then 2
  else if d.reducedWin then 8
  else 3

/-- A crowbar latch is set on C1. -/
def Dev.c1Latched (d : Dev) : Bool := match d.courseOf 2 with
  | some c => d.on (F.C_PCTL_CB_LATCH c)
  | none => false

/-- The phase that a derivation gives: IDLE during an assist, and in place of a charging phase while C1 is latched (R179, R188, R211). -/
def Dev.derivedPhase (d : Dev) : Nat := if d.on F.PATH_STAT_ASSIST || (chargingPhase d.derived && d.c1Latched) then 0 else d.derived

/-- The safety timer that phase `p` runs, by index: T_TRICKLE, T_PRE, T_CC, T_CV (R190); REDUCED_TEMP keeps the one of its REG. -/
def Dev.timerOf (d : Dev) (p : Nat) : Option Nat :=
  if p == 1 then some 0 else if p == 2 then some 1 else if p == 3 then some 2 else if p == 4 || p == 5 then some 3
  else if p == 8 then some (if d.on F.CHG_PHASE_REG then 3 else 2) else none

/-- The limit of timer `i`, minutes. -/
def Dev.timerLimit (d : Dev) (i : Nat) : Nat :=
  if i == 0 then d.f F.CHG_TMR1_T_TRICKLE else if i == 1 then d.f F.CHG_TMR1_T_PRE
  else if i == 2 then d.f F.CHG_TMR2_T_CC else d.f F.CHG_TMR2_T_CV

/-- CHG_PHASE.TIMER: the minutes left on the phase timer, begun minutes counted; 0 when none runs (R190). -/
def Dev.showTimer (d : Dev) : Dev :=
  match d.timerOf (d.f F.CHG_PHASE_PHASE) with
  | none => d.set F.CHG_PHASE_TIMER 0
  | some i => d.set F.CHG_PHASE_TIMER ((d.timerLimit i * 60000000 - vget d.chg.timers i + 59999999) / 60000000)

/-- The elapsed time of the phase's timer is kept in the retained region with its phase; SUSPEND_TEMP holds it, and what an earlier run kept stands until a
timed phase is derived (R190, R400). -/
def Dev.keepTimer (d : Dev) : Dev :=
  let p := d.f F.CHG_PHASE_PHASE
  match d.timerOf p with
  | none => if d.chg.derivedOnce && p != 7 then (d.putRet { d.ret with chgPhase := p, chgTimer := 0 }) else d
  | some i => (d.putRet { d.ret with chgPhase := p, chgTimer := vget d.chg.timers i })

/-- The charge phase becomes `p` (R189): PREV, EVB3 source 0, EVB3 source 5 at DONE, and the phase's timer from 0 unless it is entered from
SUSPEND_TEMP, REDUCED_TEMP or itself; REDUCED_TEMP goes on with the timer of the CC or CV it is entered from; after a restart the kept time of
the same phase is resumed (R190). -/
def Dev.setPhase (d : Dev) (p : Nat) : Dev :=
  let old := d.f F.CHG_PHASE_PHASE
  if old == p then d
  else
    let d := ((d.set F.CHG_PHASE_PREV old).set F.CHG_PHASE_PHASE p).raise 3 0
    let d := if p == 6 then d.raise 3 5 else d
    let d := match d.timerOf p with
      | some i =>
        let resume := !d.chg.derivedOnce && d.ret.chgPhase == p && old != 10
        let v := if resume then d.ret.chgTimer
          else if old == 7 || old == 8 || (p == 8 && within 3 5 old) || (p == 5 && old == 4) then vget d.chg.timers i else 0
        (d.putChg { d.chg with timers := vset d.chg.timers i v, derivedOnce := true })
      | none => d
    d.keepTimer.showTimer

/-- The phase is derived (R188): REDUCED_TEMP with REG 0. -/
def Dev.derive (d : Dev) : Dev := (if d.derivedPhase == 8 then d.set F.CHG_PHASE_REG 0 else d).setPhase d.derivedPhase

/-- Charging ends in DONE with END `e`; with END 0 in NORMAL the energy account is calibrated (R189, R197). -/
def Dev.chargeDone (d : Dev) (e : Nat) : Dev :=
  let d := (d.set F.CHG_PHASE_END e).setPhase 6
  if e == 0 && d.f F.CHG_PHASE_WINDOW == 2 then
    let cap := d.f F.CHG_BAT_CAPACITY
    let d := ((d.set F.CHG_ENERGY_E_AVAIL cap).putChg { d.chg with energy := cap * 360000000000 })
    if d.on F.CHG_RESV_E_UNCAL then (d.set F.CHG_RESV_E_UNCAL 0).raise 3 15 else d
  else d

/-- The charger enters FAULT with a cause (R194). -/
def Dev.chargeFault (d : Dev) (cause : Nat) : Dev :=
  let d := (d.setPhase 10).set F.CHG_PHASE_CAUSE cause
  let d := d.fault 3 1 [R.CHG_PHASE, R.CHG_MEAS]
  if cause == 5 then d.raise 3 14 else d

/-- CELLS × V_CV rounded down to 10 mV, lowered in WARM by WARM_DV per cell (R193, R195), in 10 mV. -/
def Dev.cvVolts (d : Dev) : Nat :=
  let v := d.f F.CHG_VCV_V_CV - (if d.f F.CHG_PHASE_WINDOW == 3 then 10 * d.f F.CHG_TADJ_WARM_DV else 0)
  d.f F.CHG_CFG_CELLS * v / 10

/-- The balancing lens holds the ceiling at I_TERM: CHEM 06h, lens high, in CC, CV or TERMINATE (R192). -/
def Dev.balancing (d : Dev) : Bool :=
  d.f F.CHG_CFG_CHEM == 6 && d.chg.balLevel && within 3 5 (d.f F.CHG_PHASE_PHASE)

/-- The ceiling of the present phase, 10 mA, before the back-off (R187, R192, R195). -/
def Dev.phaseCeiling (d : Dev) : Nat :=
  let p := d.f F.CHG_PHASE_PHASE
  let full := if d.balancing then d.f F.CHG_ITERM_I_TERM else d.f F.CHG_ICC_I_CC
  if p == 1 then d.f F.CHG_IPRE_I_TRICKLE
  else if p == 2 then d.f F.CHG_IPRE_I_PRE
  else if within 3 5 p || p == 8 then full * d.winPct / 100
  else 0

/-- The ceiling in force for C1, 10 mA: the phase's, or the backed-off one (R133 row 7, R180). -/
def Dev.ceiling (d : Dev) : Nat :=
  match d.path.ceiling with
  | some x => min d.phaseCeiling (x / 40000)
  | none => d.phaseCeiling

/-- C1 regulates in the charger's CV mode in this phase. -/
def Dev.cvPhase (d : Dev) : Bool :=
  let p := d.f F.CHG_PHASE_PHASE
  p == 4 || p == 5 || (p == 8 && d.on F.CHG_PHASE_REG)

/-- The mode, FINAL and direction the charger gives C1 in the present phase (R187); none outside charging. -/
def Dev.chargeMode (d : Dev) : Option (Nat × Nat × Nat) :=
  let p := d.f F.CHG_PHASE_PHASE
  if !chargingPhase p then none
  else if d.cvPhase then some (2, d.cvVolts, 1)
  else if p == 1 then some (3, d.f F.CHG_IPRE_I_TRICKLE, 1)
  else if p == 2 then some (3, d.f F.CHG_IPRE_I_PRE, 1)
  else some (3, d.f F.CHG_ICC_I_CC, 1)

/-- The power path uses C1: as lead, handover target, incoming source or assist. -/
def Dev.pathUsesC1 (d : Dev) : Bool :=
  d.f F.PATH_STAT_LEAD == 2 || d.path.target == 2 || d.on F.PATH_STAT_ASSIST || d.sys.handback

/-- C1 takes the mode of the present phase, unless the power path or a surplus uses it (R187, R161, R201). -/
def Dev.applyCharge (d : Dev) : Dev :=
  match d.courseOf 2 with
  | none => d
  | some c =>
    if d.pathUsesC1 || d.chg.probe.isSome then d
    else if d.f (F.C_MODE_MODE c) == 5 then d
    else match d.chargeMode with
      | some (m, final, dr) => d.giveMode c m final dr
      | none => if d.f (F.C_MODE_MODE c) == 2 || d.f (F.C_MODE_MODE c) == 3 then d.stopCourse c else d

/-- The back-off of the charge ceiling at a C1 update (R180). -/
def Dev.backOff (d : Dev) (c : Nat) (tight : Bool) : Dev :=
  let phase := d.phaseCeiling * 40000
  if !chargingPhase (d.f F.CHG_PHASE_PHASE) then
    ((d.set F.PATH_STAT_BACKOFF 0).putPath { d.path with ceiling := none })
  else if tight then
    let now := min phase (d.path.ceiling.getD phase)
    let next := now - now / 8
    let next := if next < 40000 then 0 else next
    let d := (d.putPath { d.path with ceiling := some next })
    if d.on F.PATH_STAT_BACKOFF then d else if next < phase then (d.set F.PATH_STAT_BACKOFF 1).raise 3 6 else d
  else match d.path.ceiling with
    | none => d
    | some x =>
      let next := x + d.f (F.C_TRACK_RATE c) * d.f (F.C_MAP_PERIOD c)
      if phase ≤ next then ((d.set F.PATH_STAT_BACKOFF 0).putPath { d.path with ceiling := none })
      else (d.putPath { d.path with ceiling := some next })

/-- Presence is established: the phase is derived, or IDLE without a charging source; EVB3 source 3 (R189, R201). -/
def Dev.batteryPresent (d : Dev) : Dev :=
  if d.f F.CHG_CFG_CHEM == 0 || d.f F.CHG_PHASE_PHASE != 9 then d
  else
    let d := (d.putChg { d.chg with removed := false })
    (if d.chargeSource then d.derive else d.setPhase 0).raise 3 3

/-- Presence by the window debounce and the NTC (R201): BAT debounced, NTC not open, and no probe outstanding after a removal. -/
def Dev.checkPresence (d : Dev) : Dev :=
  if d.f F.CHG_PHASE_PHASE == 9 && d.batSettled && !d.chg.ntcOpen && !d.chg.removed then
    d.batteryPresent
  else d

/-- BAT counts as debounced after the wake by an EMERG HOLD, as soon as it is in window: its FET closes, and the battery may be present and lead
(R173, R176, R200). -/
def Dev.batWake (d : Dev) : Dev :=
  if d.running && d.batSettled && d.inWindow 2 && !d.on (F.GUARD_STAT_LATCHED 1) && !(vget d.port 1).ocHeld && !d.c1Latched then
    (d.setFet 2 true).checkPresence.pathReview
  else d

/-- A battery removal (R203): C1 stops, the phase reads ABSENT, EVB3 source 2, fault log; in ABSENT too, where the next probe decides presence. If C1
leads, the path enters DARK. -/
def Dev.batteryRemoved (d : Dev) : Dev :=
  let leads := d.c1Leads
  let d := ((d.putChg { d.chg with removed := true, probe := none })).setPhase 9
  let d := d.fault 3 2 [R.CHG_PHASE, R.CHG_MEAS]
  if leads then d.goDark else d.loseBattery false false

/-- C1 assists the sources into SYS (R179): I_PORT towards SYS, EVB3 source 7, and the charge phase reads IDLE. -/
def Dev.startAssist (d : Dev) (c : Nat) : Dev :=
  let e := d.giveMode c 3 0 0
  if e.f (F.C_MODE_MODE c) != 3 then d
  else
    let d := ((e.set F.PATH_STAT_ASSIST 1).raise 3 7).modCourse c fun k => { k with runF0 := 0 }
    if 9 ≤ d.f F.CHG_PHASE_PHASE then d else d.setPhase 0

/-- The reserve E_RES (R198). -/
def Dev.eRes (d : Dev) : Nat := min (d.f F.CHG_RESV_CYC * d.f F.CHG_RESV_E_RESERVE_E) (d.f F.CHG_BAT_CAPACITY)

/-- The release reserve floor is reached (R198). -/
def Dev.floorReached (d : Dev) : Bool :=
  if d.on F.CHG_RESV_E_UNCAL then decide (d.vCell ≤ d.f F.CHG_VFLOOR_V_RES) else decide (d.f F.CHG_ENERGY_E_AVAIL ≤ d.eRes)

/-- AT_FLOOR is judged; reaching it raises EVB3 source 9, and an unreleased C1 lead gives up SYS (R198, R200). A release ends when a
source has qualified and AT_FLOOR has returned to 0 (R199). -/
def Dev.judgeFloor (d : Dev) : Dev :=
  if d.f F.CHG_CFG_CHEM == 0 then d
  else
    let was := d.on F.CHG_RESV_E_AT_FLOOR
    let now := d.floorReached
    let d := (d.set F.CHG_ENERGY_E_RES d.eRes).setB F.CHG_RESV_E_AT_FLOOR now
    let d := if now && !was then d.raise 3 9 else d
    let d := if !now && d.on F.CHG_RESV_E_RELEASED && d.bestSource.isSome && (was || d.f F.PATH_STAT_STATE == 1) then d.set F.CHG_RESV_E_RELEASED 0 else d
    let st := d.f F.PATH_STAT_STATE
    if now && !d.on F.CHG_RESV_E_RELEASED && (st == 3 || (st == 4 && d.f F.PATH_STAT_LEAD == 2)) then d.goReserve
    else if now && !d.on F.CHG_RESV_E_RELEASED && d.on F.PATH_STAT_ASSIST then
      match d.courseOf 2 with
      | some c => (d.hardStop c false).set F.PATH_STAT_ASSIST 0
      | none => d
    else d

/-- The reserve is released: EVB3 source 10 and a fault-log entry (R199). -/
def Dev.releaseReserve (d : Dev) : Dev :=
  if d.on F.CHG_RESV_E_RELEASED then d
  else ((d.set F.CHG_RESV_E_RELEASED 1).fault 3 10 [R.CHG_RESV_E, R.CHG_ENERGY]).pathReview

/-- The charge-phase changes of an update, the upper row of R189 first (R189, R194). -/
def Dev.phaseStep (d : Dev) : Dev :=
  let p := d.f F.CHG_PHASE_PHASE
  let iBat := d.chg.iBat.natAbs
  let src := d.chargeSource
  if p == 9 then d
  else if decide (16 ≤ d.chg.overRun) && p != 10 then d.chargeFault 4
  else if d.chg.ntcShort && p != 10 then d.chargeFault 5
  else if chargingPhase p && !src then d.setPhase 0
  else if chargingPhase p && d.c1Latched then d.setPhase 0
  else if p == 0 && src && d.derivedPhase != 0 then d.derive
  else if chargingPhase p && d.tooColdOrHot then d.setPhase 7
  else if p == 7 && d.winOk then d.derive
  else if (p == 3 || p == 4 || p == 5) && d.reducedWin then (d.setB F.CHG_PHASE_REG (p != 3)).setPhase 8
  else if p == 8 && d.f F.CHG_PHASE_WINDOW == 2 then d.setPhase (if d.on F.CHG_PHASE_REG then 4 else 3)
  else if p == 3 && decide ((d.cvVolts : Int) ≤ d.chg.vBat) then d.setPhase 4
  else if p == 8 && !d.on F.CHG_PHASE_REG && decide ((d.cvVolts : Int) ≤ d.chg.vBat) then
    ((d.set F.CHG_PHASE_REG 1).putChg { d.chg with timers := vset d.chg.timers 3 0 }).keepTimer
  else if p == 4 && decide (iBat < d.f F.CHG_ITERM_I_TERM) then d.setPhase 5
  else if p == 5 && decide (5 * d.f F.CHG_ITERM_I_TERM ≤ 4 * iBat) then d.setPhase 4
  else d

/-- The battery measurements of a C1 update (R187), and the count of updates with the cell above V_CV + 100 mV (R194). -/
def Dev.measureBattery (d : Dev) (c : Nat) : Dev :=
  let k := vget d.course c
  let v := clamp16 (k.vPort * 10 / ((max 1 (d.f F.CHG_CFG_CELLS) : Nat) : Int))
  let run := if Nat.blt (d.f F.CHG_VCV_V_CV + 100) v then d.chg.overRun + 1 else 0
  ((d.set F.CHG_MEAS_V_CELL v).putChg { d.chg with vBat := k.vPort, iBat := k.iPort, overRun := run })

/-- The temperature window measured by a thermal round takes effect (R196). -/
def Dev.takeWindow (d : Dev) : Dev :=
  match d.chg.nextWin with
  | none => d
  | some w => ((d.set F.CHG_PHASE_WINDOW w).putChg { d.chg with nextWin := none }).raise 3 4

/-- The charger's part of a C1 update: measurements, window, phase, mode and back-off (R187 to R196). -/
def Dev.chargerUpdate (d : Dev) (c : Nat) (tight : Bool) : Dev :=
  if d.f F.CHG_CFG_CHEM == 0 then d
  else
    let d := ((d.putChg { d.chg with timedOut := none }).measureBattery c).takeWindow.phaseStep
    ((d.setB F.CHG_PHASE_BAL d.balancing).backOff c tight).applyCharge.showTimer

end Sys2Proof.Machine
end

