-- ==== Sys2Proof/Machine/RingOps.lean ====
section
/-!
DEFINITION. The shared operations of Ring Link and the service port (R217 to R264): frames, sending, flow contexts, contracts, link loss
and port discharge. Segments are 0 EAST and 1 WEST; their port codes are 3 and 4.
-/
namespace Sys2Proof.Machine

/-! ### Views -/

/-- Segment `s`. -/
def Dev.sg (d : Dev) (s : Nat) : Segment := vget d.ring.seg s

/-- The state with segment `s` changed. -/
def Dev.modSeg (d : Dev) (s : Nat) (g : Segment → Segment) : Dev := (d.putRing { d.ring with seg := vset d.ring.seg s (g (d.sg s)) })

/-- The unit's address (R225). -/
def Dev.addr (d : Dev) : Nat := d.f F.RING_ADDR_ADDR

/-- The resident supervisor can act: the core runs and is not halted (R222, R265). -/
def Dev.supervisor (d : Dev) : Bool := d.running && d.pw.coreRuns && !d.on F.DBG_CTL_HALTED

/-- Image ROLE of port code `p` (R46). -/
def Dev.role (d : Dev) (p : Nat) : Nat := (vget d.port (p - 1)).role

/-- The image ROLE permits a SOURCE contract, or a SINK contract (R235). -/
def Dev.maySource (d : Dev) (p : Nat) : Bool := d.role p == 2 || d.role p == 3
def Dev.maySink (d : Dev) (p : Nat) : Bool := d.role p == 1 || d.role p == 3

/-- LSTATE of segment `s`: 0 DOWN, 1 HELLO, 2 UP, 3 LOST (R232). -/
def Dev.lstate (d : Dev) (s : Nat) : Nat := d.f (F.SEG_STAT_LSTATE s)

/-- CSTATE of segment `s`: 0 NONE, 1 NEGOTIATING, 2 ACTIVE, 3 TRANSITION, 4 SWAPPING. -/
def Dev.cstate (d : Dev) (s : Nat) : Nat := d.f (F.SEG_STAT_CSTATE s)

/-- CROLE of segment `s`: 0 none, 1 SOURCE, 2 SINK. -/
def Dev.crole (d : Dev) (s : Nat) : Nat := d.f (F.SEG_STAT_CROLE s)

/-- A contract is in force on segment `s`. -/
def Dev.inForce (d : Dev) (s : Nat) : Bool := decide (2 ≤ d.cstate s)

/-! ### Frames (R220) -/

/-- The header from DST to LEN, most significant bit first: 12, 12, 6, 2, 8 and 8 bits (R220). -/
def Frame.header (f : Frame) : List Byte :=
  [f.dst / 16, f.dst % 16 * 16 + f.src / 256, f.src % 256, f.typ * 4 + f.prio, f.seq, f.data.length].map (BitVec.ofNat 8)

/-- The bytes of a frame on the twisted pair: SYNC, header, payload, and the CRC over header and payload (R220, R221). -/
def Frame.bytes (f : Frame) : List Byte :=
  beBytes 2 0x2DD4 ++ f.header ++ f.data ++ beBytes 2 (crc16 (f.header ++ f.data)).toNat

/-! ### Sending (R219, R226 to R231) -/

/-- The next forwarded frame: highest PRIO first, then in arrival order (R226). -/
def nextForwarded (l : List Frame) : Option Frame :=
  l.foldl (fun b x => match b with
    | none => some x
    | some y => if y.prio < x.prio then some x else some y) none

/-- The place of an originated frame in the order of R416: contract, swap and flow frames, then PING and HELLO, then the frame clock's TELEM, then any other
TELEM. -/
def ownPlace (f : Frame) : Nat := if f.typ == 4 then (if f.prio == 3 then 2 else 3) else if f.typ ≤ 1 then 1 else 0

/-- The next originated frame, in the order of R416 and then in the order they were made. -/
def nextOwn (l : List Frame) : Option Frame :=
  l.foldl (fun b x => match b with
    | none => some x
    | some y => if ownPlace x < ownPlace y then some x else some y) none

/-- The next frame of a segment: the forwarded ones go before those that this unit originates (R416). -/
def nextFrame (queue own : List Frame) : Option Frame := (nextForwarded queue).orElse fun _ => nextOwn own

/-- The unit may start a frame on segment `s`: only a HELLO in HELLO, any frame in UP (R232). -/
def Dev.maySend (d : Dev) (s : Nat) (f : Frame) : Bool :=
  d.running && (d.lstate s == 2 || (d.lstate s == 1 && f.typ == 0))

/-- A frame is driven on segment `s`; the line is busy until it has been idle again (R219, R220). -/
def Dev.drive1 (d : Dev) (s : Nat) (f : Frame) : Dev :=
  d.modSeg s fun g => { g with wire := some f, line := f.bytes, idle := false, aside := g.aside.filter fun o => !o.sent }

/-- The frame just driven, or the answer just given, on segment `s` awaits no answer of its own; until the line is idle again a collision can stop it
(R228, R231). -/
def Dev.onLine (d : Dev) (s : Nat) (o : Outgoing) : Dev :=
  d.modSeg s fun g => { g with aside := { o with sent := true } :: g.aside.filter fun o => !o.sent }

/-- A frame that a collision stopped is sent again on segment `s`, which may carry it (R231, R232). -/
def Dev.sendAgain (d : Dev) (s : Nat) (o : Outgoing) : Dev :=
  if d.running && within 1 2 (d.lstate s) then
    ((d.modSeg s fun g => { g with aside := g.aside.erase o }).drive1 s o.frame).onLine s o
  else d

/-- The other segment. -/
def otherSeg (s : Nat) : Nat := 1 - s

/-- In pass-through the power die repeats on the other segment what it hears on `s`, bit by bit (R22, R234). -/
def Dev.passOn (d : Dev) (s : Nat) (f : Option Frame) (bytes : List Byte) : Dev :=
  if d.ring.passThrough then d.modSeg (otherSeg s) fun g => { g with wire := f, line := bytes } else d

/-- Segment `s` starts a frame if its line is idle and no EMERG, ACK or NAK backs off: one that a collision stopped, an EMERG of this unit, the outstanding
frame again, or the next that waits. An EMERG is answered by nobody, so it is never outstanding (R219, R228, R229, R231, R249). -/
def Dev.segStart (d : Dev) (s : Nat) : Dev :=
  let g := d.sg s
  if !g.idle || g.aside.any (fun o => o.backoff.isSome) then d
  else match g.aside.find? fun o => !o.sent with
  | some o => d.sendAgain s o
  | none => match g.own.find? fun f => f.typ == 0x3F && d.maySend s f with
  | some f => ((d.drive1 s f).onLine s { frame := f }).modSeg s fun g => { g with own := g.own.erase f }
  | none => match g.out with
    | some o =>
      if o.sent || o.waitBusy || o.backoff.isSome || !d.maySend s o.frame then d
      else (d.drive1 s o.frame).modSeg s fun g => { g with out := some { o with sent := true } }
    | none =>
      match nextFrame (g.queue.filter (d.maySend s)) (g.own.filter (d.maySend s)) with
      | none => d
      | some f =>
        (d.drive1 s f).modSeg s fun g =>
          { g with queue := g.queue.erase f, own := if g.queue.contains f then g.own else g.own.erase f,
                   out := some { frame := f, sent := true } }

/-- The unit originates a frame of type `typ` on segment `s` (R227, R230). A unit whose address is 000h originates only HELLO, PING, ACK
and NAK, and refuses contracts (R225). -/
def Dev.originate (d : Dev) (s typ dst prio : Nat) (data : List Byte) : Dev :=
  if d.addr == 0 && decide (3 < typ) && typ != 0x0B then d
  else
    let f : Frame := { dst := dst, src := d.addr, typ := typ, prio := prio, seq := d.ring.seq, data := data }
    let d := (d.putRing { d.ring with seq := (d.ring.seq + 1) % 256 })
    (d.modSeg s fun g => { g with own := g.own ++ [f] }).segStart s

/-- The segment that the route table names for an address; EAST where it names none (R227). -/
def Dev.route (d : Dev) (a : Nat) : Nat := ((d.ring.routes.find? fun r => r.1 == a).map (·.2)).getD 0

/-- A unicast frame to `dst` over the route table; the entry used is the newest (R227). -/
def Dev.sendRouted (d : Dev) (typ dst prio : Nat) (data : List Byte) : Dev :=
  let s := d.route dst
  let rs := d.ring.routes.filter fun r => r.1 == dst
  let d := (d.putRing { d.ring with routes := rs ++ (d.ring.routes.filter fun (r : Nat × Nat) => r.1 != dst) })
  d.originate s typ dst prio data

/-- A frame of type `typ` of this unit already waits or is outstanding on segment `s`. -/
def Dev.hasOwn (d : Dev) (s typ : Nat) : Bool :=
  (d.sg s).own.any (fun f => f.typ == typ) || match (d.sg s).out with
    | some o => o.frame.typ == typ && o.frame.src == d.addr
    | none => false

/-- A frame is sent to the neighbour on segment `s`. -/
def Dev.sendNeigh (d : Dev) (s typ : Nat) (data : List Byte) : Dev := d.originate s typ (d.f (F.SEG_STAT_NEIGH s)) 0 data

/-- The answer to frame `f` on segment `s`: DST its SRC, PRIO and SEQ copied (R228). -/
def Dev.answerTo (d : Dev) (s : Nat) (f : Frame) (typ : Nat) (data : List Byte) : Dev :=
  let a : Frame := { dst := f.src, src := d.addr, typ := typ, prio := f.prio, seq := f.seq, data := data }
  (d.modSeg s fun g => { g with answer := some a, line := a.bytes }).onLine s { frame := a }

/-- An ACK is answered to frame `f` on segment `s` (R228). -/
def Dev.ack (d : Dev) (s : Nat) (f : Frame) : Dev := d.answerTo s f 2 []

/-- A NAK with a reason is answered to frame `f` on segment `s` (R228). -/
def Dev.nak (d : Dev) (s : Nat) (f : Frame) (reason : Nat) : Dev := d.answerTo s f 3 (beBytes 1 reason)

/-- REJECT, ACCEPT or WAIT to `dst`: REF_TYPE, REF_SEQ and ARG (R223). -/
def Dev.reply (d : Dev) (typ dst refTyp refSeq arg : Nat) : Dev :=
  d.sendRouted typ dst 0 (beBytes 1 refTyp ++ beBytes 1 refSeq ++ beBytes 2 arg)

/-! ### Flow contexts (R243 to R248) -/

/-- Capacity of the flow store (R243). -/
def Dev.flowCap (d : Dev) : Nat := d.f F.FLOW_STAT_CAPACITY

/-- The context at an index; FREE where none is listed. -/
def Dev.flow (d : Dev) (i : Nat) : FlowCtx := Sparse.get (fun _ => ({} : FlowCtx)) d.ring.flows i

/-- The context at an index replaced; IN_USE follows. -/
def Dev.setFlow (d : Dev) (i : Nat) (x : FlowCtx) : Dev :=
  let fs := Sparse.set (fun _ => ({} : FlowCtx)) d.ring.flows i x
  ((d.putRing { d.ring with flows := fs })).set F.FLOW_STAT_IN_USE fs.length

/-- The context of a flow, by consumer and FLOW_ID (R243). -/
def Dev.findFlow (d : Dev) (consumer id : Nat) : Option (Nat × FlowCtx) :=
  d.ring.flows.find? fun x => x.2.consumer == consumer && x.2.flowId == id

/-- The lowest index of a FREE context. -/
def Dev.freeFlow (d : Dev) : Option Nat := (List.range d.flowCap).find? fun i => (d.flow i).state == 0

/-- The port code of a context's port: 0 SYS, 1 EAST, 2 WEST. -/
def flowPort (x : Nat) : Nat := x + 2

/-- Every port's course follows the flows that enter through it: P_PORT with the sum of their RATEs, unless the power path uses the
port (R247). -/
def Dev.flowModes (d : Dev) : Dev :=
  d.each 2 fun d s =>
    let p := s + 3
    match d.courseOf p with
    | none => d
    | some c =>
      let sum := d.flowSum p false
      let used := d.f F.PATH_STAT_LEAD == p || d.path.target == p || d.path.incoming == p ||
        (decide (d.posOf p < 4) && d.fbit F.PATH_STAT_SHARERS (d.posOf p))
      let m := d.f (F.C_MODE_MODE c)
      if used || m == 5 then d
      else if sum == 0 then (if m == 4 then d.stopCourse c else d)
      else if m == 0 || m == 4 then d.giveMode c 4 sum 0
      else d

/-- FLOW_CLOSE towards an endpoint that can still be reached: over the segment that the route table names, if its link is UP and not the one just lost
(R227, R246). -/
def Dev.sendFlowClose (d : Dev) (dst : Nat) (x : FlowCtx) (reason : Nat) (dead : Option Nat) : Dev :=
  if d.lstate (d.route dst) == 2 && dead != some (d.route dst) then
    d.sendRouted 0x1A dst 0 (beBytes 2 x.flowId ++ beBytes 2 x.consumer ++ beBytes 1 reason)
  else d

/-- A context is freed; after OPEN, EVB4 source 11 (R246). -/
def Dev.freeCtx (d : Dev) (i : Nat) : Dev :=
  let opened := (d.flow i).state == 2
  let d := d.setFlow i {}
  (if opened then d.raise 4 11 else d)

/-- The power of the contract on segment `s`, in units of 0.1 mW: V × I (R244). -/
def Dev.contractPower (d : Dev) (s : Nat) : Nat := d.f (F.SEG_CONTRACT_V s) * d.f (F.SEG_CONTRACT_I s)

/-- A consumer may send a FLOW_OPEN on segment `s`: its core runs, the link is UP, and the inbound contract bears RATE_MAX (R244, R248). -/
def Dev.mayOpen (d : Dev) (s rateMax : Nat) : Bool :=
  d.supervisor && d.lstate s == 2 && d.inForce s && d.crole s == 2 && decide (rateMax * 10000 ≤ d.contractPower s)

/-- A consumer reserves context `i` for flow `x` and sends its FLOW_OPEN on segment `s` (R244). -/
def Dev.openOn (d : Dev) (i s : Nat) (x : FlowCtx) : Dev :=
  (d.setFlow i { x with role := 2, state := 1, inp := s + 1, outp := 0, residue := 0, age := 0, seq := d.ring.seq }).originate s 0x18 x.provider 0
    (beBytes 2 x.flowId ++ beBytes 2 (x.provider + if x.reroute then 32768 else 0) ++ beBytes 2 x.rate ++ beBytes 2 x.rateMax ++ beBytes 4 x.allow)

/-- A consumer reopens a closed REROUTE flow on its other segment with the remaining allowance; the open is admitted afresh (R248). -/
def Dev.reroute (d : Dev) (i : Nat) (x : FlowCtx) (reason : Nat) : Dev :=
  let s := if x.inp == 1 then 1 else 0
  if x.role == 2 && x.reroute && (reason == 9 || reason == 10 || reason == 15) && d.on F.RING_CFG_REROUTE && d.mayOpen s x.rateMax then d.openOn i s x
  else d

/-- A context ends for a cause of this unit: FLOW_CLOSE towards each endpoint still reached, FREE, and a reroute at a consumer (R246, R248).
`dead` is a segment that cannot be used. -/
def Dev.endFlow (d : Dev) (i reason : Nat) (dead : Option Nat) : Dev :=
  let x := d.flow i
  if x.state == 0 then d
  else
    let d := if x.outp != 0 then d.sendFlowClose x.consumer x reason dead else d
    let d := if x.inp != 0 then d.sendFlowClose x.provider x reason dead else d
    let d := d.freeCtx i
    if x.state == 2 then d.reroute i x reason else d

/-- Every flow that crosses segment `s` ends with a reason (R233, R239, R242). -/
def Dev.endFlowsOn (d : Dev) (s reason : Nat) (dead : Bool) : Dev :=
  let hit := d.ring.flows.filter fun x => x.2.inp == s + 1 || x.2.outp == s + 1
  (hit.foldl (fun d x => d.endFlow x.1 reason (if dead then some s else none)) d).flowModes

/-! ### Discharge of a port (R264) -/

/-- In compatibility mode an enabled port whose FET has opened on a detach, a drop or a loss is discharged into SYS (R264). -/
def Dev.startDischarge (d : Dev) (p : Nat) : Dev :=
  if d.on F.SYSCFG_COMPAT && d.running && d.fbit F.PDIS_CFG_EN (p - 1) && p != 2 then
    match d.courseOf p with
    | some c =>
      let e := d.giveModeOpen c 3 (10 * d.f F.PDIS_CFG_I_DIS) 0
      if e.f (F.C_MODE_MODE c) == 3 then e.setBit F.PDIS_CFG_RUNNING (p - 1) true else e
    | none => d
  else d

/-- A discharge ends: its course stops, EVB4 source 30 (R264). -/
def Dev.endDischarge (d : Dev) (p : Nat) : Dev :=
  if d.fbit F.PDIS_CFG_RUNNING (p - 1) then
    let d := match d.courseOf p with
      | some c => d.hardStop c false
      | none => d
    (d.setBit F.PDIS_CFG_RUNNING (p - 1) false).raise 4 30
  else d

/-! ### Contracts (R235 to R239) -/

/-- HARDCLOSE is sent to the neighbour with a reason (R223). -/
def Dev.sendHardclose (d : Dev) (s reason : Nat) : Dev :=
  if d.lstate s == 2 then d.sendNeigh s 0x0E (beBytes 1 reason) else d

/-- The negotiation of segment `s` is forgotten. -/
def Dev.clearNego (d : Dev) (s : Nat) : Dev :=
  d.modSeg s fun g => { g with offer := [], offerOwn := false, capped := false, asked := none, waitUntil := none, pend := none, pendSource := false, swapOut := none }

/-- A contract, or a negotiation, on segment `s` is dropped with a reason (R239, R262): FET open, course stopped as for STOP 0, transition
abandoned, crossing flows closed, CSTATE NONE, and the port lost as a source where it was a SINK. -/
def Dev.dropContract (d : Dev) (s reason : Nat) (dead : Bool) : Dev :=
  let p := s + 3
  let cs := d.cstate s
  let pend := (d.sg s).pend.isSome
  if cs == 0 && !pend then d.clearNego s
  else if cs == 1 && !pend then (d.clearNego s).set (F.SEG_STAT_CSTATE s) 0
  else
    let moving := pend || cs == 3 || cs == 4
    let d := ((d.set (F.SEG_STAT_CSTATE s) 0).set (F.SEG_STAT_CROLE s) 0).set (F.PORT_STAT_CONTRACT (p - 1)) 0
    let d := ((d.set (F.SEG_CONTRACT_I s) 0).set (F.SEG_CONTRACT_V s) 0).clearNego s
    let d := d.loseSource p 0
    let d := match d.courseOf p with
      | some c => d.hardStop c false
      | none => d
    let d := d.setFet p false
    let d := if moving then (d.set (F.SEG_STAT_ABANDONED s) 1).raise 4 18 else d
    let d := d.endFlowsOn s (if moving && reason == 9 && !dead then 15 else reason) dead
    (d.raise 4 (6 + s)).startDischarge p

/-- A contract comes into force or changes on segment `s` with voltage and current (R235, R236 step 4): CSTATE ACTIVE, EVB4 source 4 or 5. -/
def Dev.contractInForce (d : Dev) (s v i : Nat) (source : Bool) : Dev :=
  let p := s + 3
  let fresh := !(d.inForce s && d.crole s == (if source then 1 else 2)) || d.cstate s == 4
  let d := ((d.set (F.SEG_CONTRACT_V s) v).set (F.SEG_CONTRACT_I s) i).set (F.SEG_STAT_CSTATE s) 2
  let d := (d.set (F.SEG_STAT_CROLE s) (if source then 1 else 2)).setB (F.PORT_STAT_CONTRACT (p - 1)) (!source)
  let d := (d.modSeg s fun g => { g with pend := none, pendSource := false }).raise 4 (4 + s)
  if !source && fresh then d.restartDebounce p else d

/-- The voltage and current in force while a change runs: the lower of old and new (R238). -/
def Dev.lowerContract (d : Dev) (s v i : Nat) : Dev :=
  ((d.set (F.SEG_CONTRACT_V s) (min v (d.f (F.SEG_CONTRACT_V s)))).set (F.SEG_CONTRACT_I s) (min i (d.f (F.SEG_CONTRACT_I s)))).set
    (F.SEG_STAT_CSTATE s) 3

/-- OFFER of one or more points on segment `s` (R236). -/
def Dev.sendOffer (d : Dev) (s : Nat) (pts : List (Nat × Nat)) (capped : Bool) : Dev :=
  if d.addr == 0 || d.on F.RING_ADDR_DUP || pts.isEmpty then d
  else
    let seq := d.ring.seq
    let d := d.sendNeigh s 0x08 (beBytes 1 pts.length ++ pts.flatMap fun x => beBytes 2 x.1 ++ beBytes 2 x.2)
    let d := d.modSeg s fun g => { g with offer := pts, offerOwn := true, offerSeq := seq, capped := capped }
    if d.cstate s == 0 then d.set (F.SEG_STAT_CSTATE s) 1 else d

/-! ### Link states (R232, R233) -/

/-- The EAST or WEST link enters UP: EVB4 source 0 or 1 (R232). -/
def Dev.linkUp (d : Dev) (s neigh : Nat) : Dev :=
  (((d.set (F.SEG_STAT_LSTATE s) 2).set (F.SEG_STAT_NEIGH s) neigh).raise 4 s).segStart s

/-- The effects of a link loss other than the link state (R233). -/
def Dev.linkLossEffects (d : Dev) (s : Nat) : Dev :=
  let d := d.incSat (F.SEG_CNT_LOSSES s)
  let d := d.fault 4 (2 + s) [R.SEG_STAT s, R.SEG_CNT s]
  let d := (d.dropContract s 9 true).endFlowsOn s 9 true
  d.modSeg s fun g => { g with out := none, aside := [], queue := [], own := [], helloAcked := false, helloHeard := false }

/-- The link on segment `s` is lost (R233). -/
def Dev.linkLost (d : Dev) (s : Nat) : Dev := (d.linkLossEffects s).set (F.SEG_STAT_LSTATE s) 3

/-- The frame as it is to be sent again after a failed attempt (R229). -/
def Outgoing.again (o : Outgoing) : Outgoing :=
  { o with sent := false, waitBusy := false, backoff := none, retries := o.retries + 1, busy := 0, coll := 0 }

/-- A failed attempt of the outstanding frame (R229): the same frame again, up to 3 times; then the link is lost. -/
def Dev.attemptFailed (d : Dev) (s : Nat) : Dev :=
  match (d.sg s).out with
  | none => d
  | some o =>
    if o.retries < 3 then
      let d := d.incSat (F.SEG_CNT_RETRIES s)
      (d.modSeg s fun g => { g with out := some o.again }).segStart s
    else d.linkLost s

/-- A failed attempt of a frame that awaits no answer (R229, R231). -/
def Dev.asideFailed (d : Dev) (s : Nat) (o : Outgoing) : Dev :=
  if o.retries < 3 then ((d.incSat (F.SEG_CNT_RETRIES s)).modSeg s fun g => { g with aside := g.aside ++ [o.again] }).segStart s
  else d.linkLost s

/-- The back-off after the collision that `k` others of the same frame precede: 4 µs × N + 4 µs, N being nibble k mod 3 of the own address (R231). -/
def Dev.backoffUs (d : Dev) (k : Nat) : Nat := 4 * (d.addr / 16 ^ (k % 3) % 16) + 4

/-- The frame as a collision leaves it, to be sent again after `us` microseconds (R231). -/
def Outgoing.backedOff (o : Outgoing) (us : Nat) : Outgoing := { o with coll := o.coll + 1, backoff := some us, sent := false }

/-- The frame being sent on segment `s` is cut by a collision: counted, and the frame backs off; the sixteenth is a failed attempt. It is the EMERG, ACK or
NAK on the line, else the outstanding frame (R231, R250). -/
def Dev.collide (d : Dev) (s : Nat) : Dev :=
  let hit (d : Dev) : Dev := (d.incSat (F.SEG_CNT_COLLISIONS s)).modSeg s fun g => { g with idle := false }
  match (d.sg s).aside.find? (·.sent) with
  | some o =>
    let d := (hit d).modSeg s fun g => { g with aside := g.aside.filter fun o => !o.sent }
    if 15 ≤ o.coll then d.asideFailed s o else d.modSeg s fun g => { g with aside := g.aside ++ [o.backedOff (d.backoffUs o.coll)] }
  | none => match (d.sg s).out with
    | some o =>
      if !o.sent then d
      else if 15 ≤ o.coll then (hit d).attemptFailed s
      else (hit d).modSeg s fun g => { g with out := some (o.backedOff (d.backoffUs o.coll)) }
    | none => d

/-- Segment `s` enters HELLO; a frame still outstanding that is no HELLO is given up, so that the HELLO is sent (R232, assumption 74). An open end of a
chain stays DOWN (R217, assumption 72). -/
def Dev.enterHello (d : Dev) (s : Nat) : Dev :=
  if d.ring.ends.contains s then d
  else
  (d.set (F.SEG_STAT_LSTATE s) 1).modSeg s fun g =>
    { g with helloAcked := false, helloHeard := false, out := g.out.filter fun o => o.frame.typ == 0 }

/-! ### The service port (R253 to R262) -/

/-- The state with the hidden part of the service port changed. -/
def Dev.modServ (d : Dev) (g : Serv → Serv) : Dev := (d.putServ (g d.serv))

/-- The device is Source on SERV. -/
def Dev.pdSource (d : Dev) : Bool := d.on F.PD_STAT_PROLE

/-- The device sends a PD message, whose GoodCRC it then awaits; Hard Reset is signalling and has none (R253). -/
def Dev.sendPd (d : Dev) (m : PdMsg) : Dev :=
  d.modServ fun x => { x with msg := m, tx := if m = .hardReset then none else some { sentAt := d.pw.clock, retries := 0 } }

/-- The message awaiting its GoodCRC has been received: the next one has the next MessageID (R253). -/
def Serv.acknowledged (x : Serv) : Serv := if x.tx.isSome then { x with tx := none, msgId := (x.msgId + 1) % 8 } else x

/-- A message received cancels a sequence whose own transmission has not started, with which a Source's Rp reads SinkTxOK again (R258). -/
def Dev.cancelOwn (d : Dev) : Dev :=
  let d := if d.pdSource && d.serv.waiting.isSome then d.set F.PD_STAT_SINKTX 1 else d
  d.modServ fun x => { x with waiting := none }

/-- What the partner does also shows that the last message of the device has arrived (R253). -/
def Dev.cancelSeq (d : Dev) : Dev := d.cancelOwn.modServ Serv.acknowledged

/-- GoodCRC answers a message received (R253). -/
def Dev.goodCrc (d : Dev) : Dev := d.modServ fun x => { x with goodCrcs := x.goodCrcs + 1 }

/-- A message of the partner is received, and answered by GoodCRC (R253). -/
def Dev.heardPd (d : Dev) : Dev := d.cancelSeq.goodCrc

/-- The cable's current limit: 3 A without an e-marker, else PD_CABLE.I_MAX (R256). -/
def Dev.cableAmps (d : Dev) : Nat := if d.on F.PD_CABLE_VALID && d.f F.PD_CABLE_I_MAX == 2 then 500 else 300

/-- PD_PDOn as offered, n from 0 to 6: enabled, EPR supplies only in EPR mode, and its current bounded (R256). -/
def Dev.offeredPdo (d : Dev) (n : Nat) : Option (Nat × Nat) :=
  if n < 7 && d.on (F.PD_PDO_EN n) && (decide (n < 4) || d.on F.PD_STAT_EPR) then
    some (d.f (F.PD_PDO_V n), min (d.f (F.PD_PDO_I n)) (min (d.f (F.PORT_OLIM_OUT 4)) d.cableAmps))
  else none

/-- As Source the supervisor offers every enabled supply (R256, R265). -/
def Dev.sendCaps (d : Dev) : Dev :=
  if d.supervisor && d.pdSource && d.fetOn 5 then d.sendPd (.sourceCaps ((List.range 7).filterMap d.offeredPdo)) else d

/-- A sequence of the device's own waits until a time of the block clock (R258). -/
def Dev.waitSeq (d : Dev) (q : PdSeq) (partner : Bool) (due : Nat) : Dev :=
  d.modServ fun x => { x with waiting := some { seq := q, partner := partner, due := due } }

/-- As Source the device sets SinkTxNG and waits the time that the standard prescribes before it sends (R258). -/
def Dev.sourceWaits (d : Dev) (q : PdSeq) (partner : Bool) : Dev :=
  (d.set F.PD_STAT_SINKTX 0).waitSeq q partner (d.pw.clock + Config.sinkTxUs)

/-- As Source the device begins to offer its supplies, a sequence of its own (R256, R258). -/
def Dev.offerCaps (d : Dev) : Dev := if d.supervisor && d.pdSource && d.fetOn 5 then d.sourceWaits .caps true else d

/-- The course of SERV. -/
def Dev.servCourse (d : Dev) : Option Nat := d.courseOf 5

/-- The PD contract is dropped (R239, R257, R262): EVB4 source 23 if one was in force; a transition is abandoned with source 31. The FET
opens unless `keep`. -/
def Dev.dropPd (d : Dev) (keep : Bool) : Dev :=
  let had := d.serv.inForce
  let moving := d.serv.pend.isSome && d.f F.PD_STAT_PSTATE == 4
  let sinkC := d.on (F.PORT_STAT_CONTRACT 4)
  let d := (d.putServ { d.serv with inForce := false, pend := none, swapping := false, falling := false, prebias := none })
  let d := ((d.set F.PD_CONTRACT_I 0).set F.PD_CONTRACT_V 0).set (F.PORT_STAT_CONTRACT 4) 0
  let d := if sinkC then d.loseSource 5 0 else d
  let d := if keep then d
    else
      let d := match d.servCourse with
        | some c => d.hardStop c false
        | none => d
      d.setFet 5 false
  let d := if moving then (d.set F.PD_STAT_ABANDONED 1).raise 4 31 else d
  if had then d.raise 4 23 else d

/-- The partner on SERV is detached (R254): counts, EVB4 source 21, contract dropped, FET open, unattached. -/
def Dev.servDetach (d : Dev) : Dev :=
  if !d.on F.PD_STAT_ATTACHED then d.modServ fun x => { x with rejoin := false }
  else
    let d := (d.incSat F.PD_CNT_DETACHES).raise 4 21
    let d := d.dropPd false
    let d := if d.on F.PD_STAT_EPR then (d.set F.PD_STAT_EPR 0).raise 4 26 else d
    let d := ((d.set F.PD_STAT_ATTACHED 0).set F.PD_STAT_PSTATE 0).set F.PD_STAT_CC 0
    let d := ((d.set F.PD_STAT_VCONN_ON 0).wr R.PD_CABLE 0#32).set F.PD_STAT_SINKTX 0
    let d := d.modServ fun x => { x with waiting := none, tx := none, msgId := 0, keepUs := 0, rejoin := false }
    d.startDischarge 5

/-- A source is lost with all that follows on its contract: a sink of a ring contract drops it, and the loss of SERV as a source is a
detach (R172, R239, R254, R262). -/
def Dev.sourceLost (d : Dev) (p late : Nat) : Dev :=
  let was := d.qualified p
  let d := d.loseSource p late
  if !was then d
  else if within 3 4 p && d.crole (p - 3) == 2 then
    (d.sendHardclose (p - 3) (if d.cstate (p - 3) == 2 then 9 else 15)).dropContract (p - 3) 9 false
  else if p == 5 then d.servDetach
  else d.startDischarge p

/-- The port's contract is dropped for a guard trip (R151, R239, R265). -/
def Dev.tripDrop (d : Dev) (p : Nat) : Dev :=
  if within 3 4 p && d.cstate (p - 3) != 0 then
    (d.sendHardclose (p - 3) 10).dropContract (p - 3) 10 false
  else if p == 5 && (d.serv.inForce || d.serv.pend.isSome) then ((d.dropPd false).set F.PD_STAT_PSTATE 1).startDischarge 5
  else d

/-- A transition runs on port code `p`: a ring contract between ACCEPT and READY or a swap, or a PD transition (R238, R242, R257, R262). -/
def Dev.inTransition (d : Dev) (p : Nat) : Bool :=
  if within 3 4 p then (d.sg (p - 3)).pend.isSome else p == 5 && d.serv.pend.isSome

end Sys2Proof.Machine
end

