-- ==== Sys2Proof/Machine/BoundaryOps.lean ====
section
/-!
DEFINITION. What happens at a course's cycle boundary (R103, R129), part by part: samples, detectors, changes of tile state, shedding and
adding, the outer loop, and the power-path and charger rules that are evaluated at an update.
-/
namespace Sys2Proof.Machine

/-- The Guard profile is in force (R26, R27). -/
def Dev.guardProfile (d : Dev) : Bool := !d.on F.SYSCFG_PROFILE

/-! ### Samples (R88, R97, R130) -/

/-- BOOT_OK with its hysteresis of 6.5 V and 7.0 V; for a dump tile it follows VDRV_OK (R88, R121). -/
def Dev.sampleBoot (d : Dev) (t boot : Nat) : Dev :=
  if d.isDump t then d.set (F.TILE_STAT_BOOT_OK t) (d.f (F.TILE_STAT_VDRV_OK t))
  else if boot < 650 then d.set (F.TILE_STAT_BOOT_OK t) 0
  else if 700 ≤ boot then d.set (F.TILE_STAT_BOOT_OK t) 1
  else d

/-- The magnitude of the peak current: the DAC threshold at the trip, less the compensation ramp (R97, R136). -/
def Dev.peakAt (d : Dev) (c t ton : Nat) : Nat := d.codeAmps t (d.f (F.TILE_IPK_DAC t)) - d.f (F.C_SLOPE_SLOPE c) * ton / 400

/-- The current that the sense path gives from a sensed `i`, after TILEn_TRIM (R98): OFFSET counts ADC steps, of which the full-scale input spans
12-bit steps over 1.2 V at 0.5 V (R301), and GAIN steps of 1/32 768 (assumption 69). The comparator compares the trimmed sense, so that its threshold
is a trimmed current already. -/
def Dev.trimmed (d : Dev) (t : Nat) (i : Int) : Int :=
  let steps : Int := d.fI (F.TILE_TRIM_OFFSET t)
  let fs : Int := (d.rangeMv t * 100000 : Nat)
  ((i * 5120 * d.f (F.TILE_SCALE_RSENSE t) + steps * fs * 3) * d.f (F.TILE_TRIM_GAIN t)).tdiv (5120 * d.f (F.TILE_SCALE_RSENSE t) * 32768 : Nat)

/-- Twice the mean current and the ripple of the cycle of a tile that is not a dump tile (R97). A pulse that ended without a trip has no
peak: the spec states none, and a free value stands for it. A cycle without a pulse has the valley as its mean and no ripple: the spec does not say what
it gives the means (assumption 17). -/
def Dev.cycleCurrent (d : Dev) (c t : Nat) (valley : Int) : (Int × Int) × Dev :=
  let x := vget d.tile t
  let sgn : Int := if d.dir c == 0 then 1 else -1
  if !x.pulsed then ((2 * valley, 0), d)
  else
    let pk : Nat × Dev := if x.tripped then (d.peakAt c t x.tOn, d) else ((d.fresh).1 % 32768, (d.fresh).2)
    let peak : Int := sgn * (pk.1 : Int)
    let two : Int :=
      if d.dcm t && x.gates == .off && (x.tFall != 0 || d.syncGate t == .sync) then (peak * (x.tOn + x.tFall : Nat)).tdiv (d.f (F.C_MAP_PERIOD c) : Nat)
      else peak + valley
    ((two, max 0 (sgn * (peak - valley))), pk.2)

/-- The means of the last 16 cycles, AVG and RIPPLE (R97). AVG wraps beyond its 16 bits, and RIPPLE saturates: R127 states neither (assumption 68). -/
def Dev.showMeans (d : Dev) (t : Nat) : Dev :=
  let h := (vget d.tile t).hist
  let n : Int := max 1 (h.length : Int)
  let a := (h.foldl (fun (s : Int) (x : Int × Int) => s + x.1) 0).tdiv (2 * n)
  let r := (h.foldl (fun (s : Int) (x : Int × Int) => s + x.2) 0) / n
  (d.setI (F.TILE_IMEAS_AVG t) a).set (F.TILE_IMEAS_RIPPLE t) (min r.toNat 65535)

/-- The current of a running tile is taken over: two means and ripple into the history (R97). A dump tile's mean is its on-current times
its on-time over the period, and flows out of SYS (R121). -/
def Dev.sampleTile (d : Dev) (c t : Nat) (q : TileSample) : Dev :=
  let x := vget d.tile t
  let valley := d.trimmed t q.valley
  let r : (Int × Int) × Dev :=
    if d.isDump t then
      let on := (d.trimmed t (q.onAmps : Nat)).toNat
      ((-(2 * (on * x.tOn / max 1 (d.f (F.C_MAP_PERIOD c)) : Nat) : Int), if x.tOn == 0 then 0 else (on : Int)), d)
    else d.cycleCurrent c t valley
  (r.2.modTile t fun x => { x with valley := valley, hist := (r.1 :: x.hist).take 16 }).showMeans t

/-- The suppressed high-side pulse of the cycle is counted, and every gate error, whatever GATE_CHK holds: R127 does not tie the count to the detector
(R88, R127, assumption 68). -/
def Dev.countSkips (d : Dev) (t : Nat) (q : TileSample) : Dev :=
  let d := if (vget d.tile t).skip != 0 then d.incSat (F.TILE_FAULT_BOOT_SKIP t) else d
  if q.gateErr then d.incSat (F.TILE_FAULT_GATE_ERR t) else d

/-! ### Failure detectors (R115, R116, R123) -/

/-- The ripple that volt-seconds predict, 10 mA; for a dump tile the on-current V_SYS / RES (R115, R123). -/
def Dev.predicted (d : Dev) (c t : Nat) : Nat :=
  let x := vget d.tile t
  let vp := (vget d.course c).vPort.toNat
  let vs := d.sys.vSys.toNat
  if d.isDump t then 10 * vs / d.f (F.TILE_DUMP_RES t)
  else
    let span := if d.on (F.TILE_CFG_SPAN t) then vp else vs
    let ind := if d.on (F.TILE_CFG_SPAN t) then vs else vp
    (if d.highActive c t then span - ind else ind) * x.tOn / (4 * d.f (F.TILE_SCALE_L t))

/-- The predicted ripple lies below 4 DAC steps (R115). -/
def Dev.tooSmall (d : Dev) (t pred : Nat) : Bool := decide (pred * 1023 * d.f (F.TILE_SCALE_RSENSE t) < 400000 * d.rangeMv t)

/-- A count of consecutive failing cycles. -/
def runCount (fails : Bool) (n : Nat) : Nat := if fails then n + 1 else 0

/-- Detectors 1 and 2 of tile `t` against the mean of the running tiles (R115). -/
def Dev.detectImbalance (d : Dev) (c t : Nat) (mean : Int) : Dev :=
  let avg := d.fI (F.TILE_IMEAS_AVG t)
  let sgn : Int := if mean < 0 then -1 else 1
  let m := mean * sgn
  let a := avg * sgn
  let on := decide ((10 * d.f (F.C_STEP_IMB_MIN c) : Nat) ≤ m)
  let low := on && decide (35 * m < 100 * (m - a))
  let high := on && decide (35 * m < 100 * (a - m))
  let ratio := if m ≤ 0 then 0 else (max 0 (100 * a / m)).toNat
  d.modTile t fun x => { x with
    det := vset (vset x.det 1 (runCount low (vget x.det 1))) 2 (runCount high (vget x.det 2))
    ratio := if low || high then ratio else x.ratio }

/-- Detector 3 of tile `t` (R115, R123). A dump tile is judged in every cycle whose duty is above 0, a suppressed or omitted pulse of LOn included: the
rules do not except it (assumption 17). -/
def Dev.detectSense (d : Dev) (c t : Nat) (q : TileSample) : Dev :=
  let x := vget d.tile t
  let pred := d.predicted c t
  let skip := if d.isDump t then x.tOn == 0 || pred == 0 else !x.pulsed || d.tooSmall t pred
  if skip then d
  else
    let meas := if d.isDump t then (d.trimmed t (q.onAmps : Nat)).toNat else match x.hist with
      | h :: _ => h.2.toNat
      | [] => 0
    let tight := d.f (F.C_STEP_PLAUS c) == 1
    let bad := decide (100 * meas < (if tight then 75 else 50) * pred) || decide ((if tight then 133 else 200) * pred < 100 * meas)
    d.modTile t fun x => { x with det := vset x.det 3 (runCount bad (vget x.det 3)), ratio3 := if bad then 100 * meas / pred else x.ratio3 }

/-- Detectors 4, 5 and 6 of tile `t` (R115); `others` is whether another running tile of the course tripped. -/
def Dev.detectOther (d : Dev) (t : Nat) (q : TileSample) (others paused : Bool) : Dev :=
  let x := vget d.tile t
  let noTrip := !paused && others && !x.tripped && !d.isDump t
  let noBoot := x.skip == 2
  let gate := d.on (F.TILE_CFG_GATE_CHK t) && q.gateErr
  d.modTile t fun x => { x with
    det := vset (vset (vset x.det 4 (runCount noTrip (vget x.det 4))) 5 (runCount noBoot (vget x.det 5))) 6 (runCount gate (vget x.det 6)) }

/-- The detectors of every RUN tile of a delivering course (R115, R116). -/
def Dev.detectAll (d : Dev) (c : Nat) (q : CycleSample) : Dev :=
  let ts := d.runTiles c
  let k := vget d.course c
  let mean := (ts.foldl (fun s t => s + d.fI (F.TILE_IMEAS_AVG t)) 0).tdiv (max 1 ts.length : Nat)
  let many := decide (2 ≤ ts.length)
  let d := ts.foldl (fun d t =>
    let p := vget q.tiles t
    let paused := !many || k.pause != 0 || d.on (F.TILE_STAT_SHEDDING t)
    let d := if paused || d.isDump t then
        d.modTile t fun x => { x with det := vset (vset x.det 1 0) 2 0 }
      else d.detectImbalance c t mean
    let others := ts.any fun u => u != t && (vget d.tile u).tripped
    (d.detectSense c t p).detectOther t p others paused) d
  d.modCourse c fun k => { k with pause := k.pause - 1 }

/-- The dump account of tile `t` over the cycle: V_SYS² / RES × t_on less P_CONT × PERIOD, not below 0 (R122). A dump tile held on by the
crowbar is on for the whole cycle unless its power limit acts (R145). -/
def Dev.dumpAccount (d : Dev) (c t : Nat) : Dev :=
  if !d.isDump t then d
  else
    let p := d.f (F.C_MAP_PERIOD c)
    let v := d.sys.vSys.toNat
    let x := vget d.tile t
    let ton := if x.gates == .lowHeld then p else if (d.tst t == 3 || d.clampLimited t) && x.pulsed then x.tOn else 0
    let add := v * v * ton / max 1 (d.f (F.TILE_DUMP_RES t))
    let e := x.energy + add - d.f (F.TILE_DUMP_P_CONT t) * p * 1000
    (d.modTile t fun x => { x with energy := e }).set (F.TILE_DUMPSTAT_ENERGY t) (min 65535 (e / 400000000000))

/-- The samples of the cycle are taken over (R97, R130). The SYS-side current is rounded toward zero, and TOTAL wraps beyond its 16 bits: the spec states
neither (assumption 68). -/
def Dev.takeSamples (d : Dev) (c : Nat) (q : CycleSample) : Dev :=
  let d := d.seeSys q.vSys
  let vPort := d.portVolts (d.portCode c) q.vPort q.ain
  let d := d.modCourse c fun k => { k with vPort := vPort, iPort := q.iPort }
  let d := (d.tilesOf c).foldl (fun d t => d.sampleBoot t (vget q.tiles t).boot) d
  let d := (d.runTiles c).foldl (fun d t => (d.sampleTile c t (vget q.tiles t)).countSkips t (vget q.tiles t)) d
  let d := (d.tilesOf c).foldl (fun d t => d.dumpAccount c t) d
  let ts := d.runTiles c
  let tot := ts.foldl (fun s t => s + d.fI (F.TILE_IMEAS_AVG t)) 0
  let mean := tot.tdiv (max 1 ts.length : Nat)
  let d := (d.setI (F.C_IMEAN_TOTAL c) tot).setI (F.C_IMEAN_MEAN c) mean
  let iSys : Int := if d.portCode c == 6 then tot
    else if q.vSys == 0 then 0 else ((vPort : Int) * q.iPort).tdiv q.vSys
  d.modCourse c fun k => { k with iSys := iSys }

/-! ### Changes of tile state at the boundary (R100, R103) -/

/-- The state a tile was told to enter at this boundary (R100). A tile of C1 that leaves FAILED joins the hold map (R106). A tile that came to TEST from
FAILED enters it again: EVB1 source t and TILE_FAIL, but neither a new cause nor a fault-log entry (R126, R128, assumption 18). -/
def Dev.enterNext (d : Dev) (t : Nat) : Dev :=
  match (vget d.tile t).next with
  | none => d
  | some n =>
    let was := d.tst t
    let d := (d.setTst t n).modTile t fun x => { x with next := none, gates := .off }
    let d := d.set (F.TILE_IPK_DAC t) 0
    let d := if n == 4 then d.set (F.TILE_PHASE_OFFSET t) 0 else d
    let c := d.f (F.TILE_MAP_COURSE t)
    let d := if was != 6 && n == 6 then (d.onlyIf (decide (c < 6)) fun d => d.set (F.C_EVT_TILE_FAIL c) 1).raise 1 t else d
    if was == 6 && n != 6 && c == 1 then d.sendHoldMap else d

/-- The tiles that an admitted CB_CLEAR releases enter ARMED (R146), but those that have failed meanwhile enter FAILED (R145, assumption 18). -/
def Dev.releaseCrowbar (d : Dev) (c : Nat) : Dev :=
  if (vget d.course c).cbRelease then
    (d.tilesOf c).foldl (fun d t =>
      if (vget d.tile t).clamp then
        let d := (d.set (F.TILE_STAT_CROWBAR t) 0).modTile t fun x => { x with gates := .off, clamp := false }
        if (vget d.fmap t).failed then d.setTst t 6 else d
      else d)
      (d.modCourse c fun k => { k with cbRelease := false })
  else d

/-- The tiles of the course that enter RUN at this boundary: ARMED, arming over, filling a slot (R100, R496); a dump tile once its course has
a duty above 0. -/
def Dev.readyTiles (d : Dev) (c : Nat) : List Nat :=
  (d.fillers c).filter fun t => d.tst t == 2 && !d.on (F.TILE_STAT_ARMING t) && !(vget d.tile t).clamp &&
    (d.portCode c != 6 || d.on (F.C_DEMAND_D c))

/-- Tiles of course `c` enter RUN; a fresh run has no history (R97, R100). The first code is the course code of the last update, for a dump tile its
on-time at the present demand (R135). The entry of a stand-in is traced (R117 step 5). -/
def Dev.enterRun (d : Dev) (c : Nat) (ts : List Nat) : Dev :=
  let d := ts.foldl (fun d t => d.setTst t 3) d
  let n := (d.ranked c).length
  let first (t : Nat) : Nat := if d.portCode c == 6 then d.dumpTime c t (d.f (F.C_DEMAND_D c)) n else d.f (F.C_DEMAND_CODE c)
  (ts.foldl (fun d t => d.modTile t fun x =>
    { x with hist := [], det := Vector.replicate 7 0, tripped := false, maxed := false, pulsed := false, testBack := false, wantAdd := false
             code := first t }) d).announceAll c ts

/-- The course starts to deliver, or tiles join a delivering course (R100, R141 step 2, R496). The new offsets take effect at once, as in an add: it is
no re-stagger of R105, and Cn_EVT.STAGGER does not set (assumption 70). A C1 whose tiles the hold loop still drives waits for the handback (R160). -/
def Dev.joinTiles (d : Dev) (c : Nat) : Dev :=
  if d.regMode c == 0 || d.on (F.C_PCTL_CB_LATCH c) || (c == 1 && d.sys.handback) then d
  else
    let ts := d.readyTiles c
    if !d.delivers c then
      let d := (d.abortTests c).set (F.C_RSTAT_DELIVER c) 1
      (d.enterRun c ts).applyOffsets c
    else if ts.isEmpty then d
    else ((d.enterRun c ts).applyOffsets c).pauseDetect c

/-! ### Shedding and adding at the boundary (R105, R109, R111, R112) -/

/-- A re-stagger omits the pulse that would start less than MIN_OFF after the end of the tile's previous one (R105). -/
def Dev.markOmitted (before after : Dev) (c : Nat) : List Nat :=
  let p := before.f (F.C_MAP_PERIOD c)
  (after.runTiles c).filter fun t =>
    let x := vget before.tile t
    x.pulsed && decide (p + after.f (F.TILE_PHASE_OFFSET t) < before.f (F.TILE_PHASE_OFFSET t) + x.tOn + 2 * before.f (F.TILE_TIMING_MIN_OFF t))

/-- The re-stagger stage of a shed completes: SHEDS counts, and a tile whose forced ramp belongs to a self-test enters TEST (R109, R124). -/
def Dev.shedDone (d : Dev) (c : Nat) : Dev :=
  let st := (vget d.course c).shedTile
  let d := (((d.doStagger c).inc (F.C_SHEDCNT_SHEDS c)).endShed c).modCourse c fun k => { k with failStagger := false }
  match st with
  | some t => if (vget d.tile t).testRamp then d.enterTest t else d
  | none => d

/-- A shed in progress at this boundary: aborted by a load step, its ramp goes on, or its re-stagger completes (R109, R112). -/
def Dev.advanceShed (d : Dev) (c : Nat) : Dev :=
  let k := vget d.course c
  let st := d.f (F.C_STAT_SHED_ST c)
  let d := if (k.stepSeen || k.addAll || k.holdAll) && (st == 1 || st == 2) then d.abortShed c
    else if st == 2 then d.shedDone c
    else if st == 1 then
      d.modCourse c fun k => if decide (k.rampJ < d.rampLen c) then { k with rampJ := k.rampJ + 1 } else { k with rampOver := true }
    else d
  if (vget d.course c).failStagger then (d.doStagger c).modCourse c fun k => { k with failStagger := false } else d

/-- The least number of further tiles, up to `m`, that bring the demand per running tile to ADD_TH or below (R111). -/
def addsNeeded (dem th n : Nat) : Nat → Nat
  | 0 => 0
  | m + 1 => if dem ≤ th * n then 0 else 1 + addsNeeded dem th (n + 1) m

/-- The SHED tiles that return to RUN at this boundary, in ascending rank: all of them when asked for or while SHED_HOLD is 1, those back from a
self-test, and as many more as the demand needs (R100, R111). -/
def Dev.addList (d : Dev) (c : Nat) : List Nat :=
  let k := vget d.course c
  let all := d.shedRanked c
  let returns (t : Nat) : Bool := (vget d.tile t).testBack || (vget d.tile t).wantAdd
  let back := all.filter returns
  let rest := all.filter fun t => !returns t
  if k.addAll || d.on (F.C_CTL_SHED_HOLD c) then all
  else
    let n := addsNeeded (d.f (F.C_DEMAND_D c)) (10 * d.f (F.C_SHED_ADD_TH c)) ((d.runTiles c).length + back.length) rest.length
    all.filter fun t => back.contains t || (rest.take n).contains t

/-- The add of this boundary: the new offsets take effect at once (R111). -/
def Dev.doAdds (d : Dev) (c : Nat) : Dev :=
  let ts := if d.delivers c && d.f (F.C_STAT_SHED_ST c) != 1 && !d.on (F.C_PCTL_CB_LATCH c) then d.addList c else []
  let d := d.modCourse c fun k => { k with addAll := false, holdAll := false, stepSeen := false }
  if ts.isEmpty then (if d.f (F.C_STAT_SHED_ST c) == 3 then d.set (F.C_STAT_SHED_ST c) 0 else d)
  else
    let d := ((d.enterRun c ts).applyOffsets c).courseEvt c (F.C_EVT_ADD_DONE c)
    ((d.pauseDetect c).modCourse c fun k => { k with dwell := 0 }).set (F.C_STAT_SHED_ST c) 0

/-! ### Pulses of the next cycle (R88, R92, R121) -/

/-- The pulse of the cycle that starts: suppressed without VDRV, or by R88 where the high side is the active switch, or omitted by a
re-stagger; a dump tile pulses for a duty above 0 (R121). `skip` keeps what R88 suppresses in the cycle. -/
def Dev.startPulse (d : Dev) (c t : Nat) (omitted : List Nat) : Dev :=
  let x := vget d.tile t
  let vd := d.on (F.TILE_STAT_VDRV_OK t)
  let boot := d.isDump t || d.on (F.TILE_STAT_BOOT_OK t) || !d.highActive c t
  let fits := d.isDump t || decide (d.deadTime t (d.highActive c t) < d.maxOnTime c t)
  let go := vd && boot && fits && !omitted.contains t && (!d.isDump t || x.tOn != 0)
  let g : Gates := if go then .active else if vd && !boot then .sync else .off
  let skip := if vd && fits && !omitted.contains t && !d.isDump t && !d.on (F.TILE_STAT_BOOT_OK t) then (if d.highActive c t then 2 else 1) else 0
  let d := d.modTile t fun x =>
    { x with gates := g, pulsed := go, skip := skip, tripped := false, maxed := false, tFall := 0, tOn := if d.isDump t then x.tOn else 0 }
  if go then d.inc (F.TILE_CYCLES_COUNT t) else d

/-- A dump tile that the crowbar holds at its power limit pulses LOn for the time the limit gives (R145). -/
def Dev.pulseClamped (d : Dev) (c t : Nat) : Dev :=
  if d.clampLimited t then
    let on := if d.pw.vdrvOk then min (d.f (F.C_MAP_PERIOD c)) (d.dumpCap c t) else 0
    d.modTile t fun x => { x with gates := if on == 0 then .off else .active, pulsed := on != 0, tOn := on }
  else d

/-- The refresh pulse of an ARMED or SHED tile whose bootstrap is below 7.5 V, `boot` in 10 mV: one in the cycle, of REFRESH width (R89). A dump tile has
none (R121), nor a tile that still arms (R496), that the crowbar holds, or without VDRV (R88). The hold loop refreshes its tiles alike (R157). -/
def Dev.refreshPulse (d : Dev) (t boot : Nat) : Dev :=
  let x := vget d.tile t
  let due := (d.holds t || ((d.tst t == 2 || d.tst t == 4) && !d.isDump t && !d.on (F.TILE_STAT_ARMING t))) && !x.clamp && d.pw.vdrvOk && decide (boot < 750)
  d.modTile t fun x => { x with refresh := if due then d.pd (F.TILE_CFG_REFRESH t) else 0 }

/-- The pulses of the cycle: of every RUN tile but one whose shed ramp has ended, of dump tiles held at their power limit, and refresh pulses. -/
def Dev.startPulses (d : Dev) (c : Nat) (q : CycleSample) (omitted : List Nat) : Dev :=
  let d := (d.runTiles c).foldl (fun d t =>
    if d.leaving c t then d.modTile t fun x => { x with gates := .off, pulsed := false, skip := 0 } else d.startPulse c t omitted) d
  (d.tilesOf c).foldl (fun d t => (d.pulseClamped c t).refreshPulse t (vget q.tiles t).boot) d

/-! ### SYS (R130, R137 to R139, R161) -/

/-- The course that regulates SYS: the lead's (R137). -/
def Dev.leadCourse (d : Dev) : Option Nat :=
  let p := if d.f F.PATH_STAT_STATE == 2 then d.path.target else d.f F.PATH_STAT_LEAD
  if within 1 5 p then d.courseOf p else none

/-- The measured SYS voltage lies from TARGET − WIN_LO to TARGET + WIN_HI (R139). -/
def Dev.sysInWindow (d : Dev) : Bool :=
  let t : Int := d.f F.SYS_TARGET_TARGET
  decide (t - (10 * d.f F.SYS_WIN_WIN_LO : Nat) ≤ d.sys.vSys) && decide (d.sys.vSys ≤ t + (10 * d.f F.SYS_WIN_WIN_HI : Nat))

/-- The first evaluation of the window after a reset release sets IN_WIN and nothing else (R139). -/
def Dev.firstWindow (d : Dev) : Dev :=
  if d.sys.winSeen then d
  else ((d.putSys { d.sys with winSeen := true })).setB F.SYS_STAT_IN_WIN d.sysInWindow

/-- The threshold of surplus stage 1 to 3 above TARGET, 10 mV (R161). -/
def Dev.stageThr (d : Dev) (st : Nat) : Nat :=
  10 * (if st == 1 then d.f F.SYS_SURPLUS_SURP_BAT else if st == 2 then d.f F.SYS_SURPLUS_SURP_RING else d.f F.SYS_SURPLUS_SURP_DUMP)

/-- The courses of a surplus stage: C1, the ring courses whose port holds a SOURCE contract, the dump course (R161). -/
def Dev.stageCourses (d : Dev) (st : Nat) : List Nat :=
  (List.range 6).filter fun c =>
    let p := d.portCode c
    d.on (F.C_MAP_ENABLE c) &&
    (if st == 1 then c == 1 && p == 2
     else if st == 2 then within 3 4 p && d.crole (p - 3) == 1 && d.inForce (p - 3)
     else p == 6)

/-- SYS_STAT.SURP_ST: the highest stage with a course in SURPLUS or whose threshold SYS exceeds (R161). -/
def Dev.surplusState (d : Dev) : Nat :=
  if !d.sys.winSeen then 0
  else (List.range 4).foldl (fun m st =>
    if st != 0 && (decide ((d.f F.SYS_TARGET_TARGET + d.stageThr st : Nat) < d.sys.vSys) ||
      (d.stageCourses st).any fun c => d.f (F.C_MODE_MODE c) == 5) then st else m) 0

/-- I_SYS: the sums of the last 16 updates of the lead (R130). -/
def Dev.updateSums (d : Dev) : Dev :=
  let s := (List.range 6).foldl (fun a c => a + (vget d.course c).iSys) 0
  let sums := (s :: d.sys.sums).take 16
  ((d.putSys { d.sys with sums := sums })).setI F.SYS_MEAS_I_SYS ((sums.foldl (· + ·) 0).tdiv (max 1 sums.length : Nat))

/-- SYS_STAT.SURP_ST takes value `st`; the entry to stage 3 raises EVB2 source 21 (R161). A dump tile's test waits for 1 s from its last 3 (R411). -/
def Dev.showSurplus (d : Dev) (st : Nat) : Dev :=
  let d := d.onlyIf (st == 3 || d.f F.SYS_STAT_SURP_ST == 3) fun d => d.putSys { d.sys with dumpSeen := some d.pw.clock }
  (d.onlyIf (st == 3 && d.f F.SYS_STAT_SURP_ST != 3) fun d => d.raise 2 21).set F.SYS_STAT_SURP_ST st

/-- The lead's part of an update: I_SYS, TARGET, REF, the window's first evaluation, the surplus stage (R130, R137 to R139, R161). -/
def Dev.leadUpdate (d : Dev) (c : Nat) : Dev :=
  if d.leadCourse != some c then d
  else
    let rate := if d.sys.backRef && d.f F.SYS_WIN_SLEW == 0 then d.f (F.C_TRACK_RATE c) else d.f F.SYS_WIN_SLEW
    let d := ((d.updateSums).moveSysRef c rate).firstWindow
    let d := if d.f F.SYS_TARGET_REF == d.f F.SYS_TARGET_TARGET then (d.putSys { d.sys with backRef := false }) else d
    d.showSurplus d.surplusState

/-! ### References that other rules move (R178, R179, R186) -/

/-- The course shares (R178) or is the assist (R179). -/
def Dev.shares (d : Dev) (c : Nat) : Bool :=
  let p := d.portCode c
  (p == 2 && d.on F.PATH_STAT_ASSIST) || (decide (d.posOf p < 4) && d.fbit F.PATH_STAT_SHARERS (d.posOf p))

/-- FINAL of a sharer, an assist or an incoming source: its own port current plus the excess, or the current, of the lead as SYS-side
current, bounded by its input limit (R178, R179, R186). -/
def Dev.shareFinal (d : Dev) (c : Nat) : Dev :=
  let p := d.portCode c
  let incoming := d.f F.PATH_STAT_STATE == 4 && d.path.incoming == p
  if d.f (F.C_MODE_MODE c) != 3 || (!d.shares c && !incoming) then d
  else match d.leadCourse with
    | none => d
    | some l =>
      let lk := vget d.course l
      let extra := if incoming then lk.iSys else d.sysSide l (lk.d - d.f (F.C_DEMAND_D l))
      let want := (vget d.course c).iPort + d.portSide c extra
      let final := min (clamp16 want) (d.inLimit p)
      (d.set (F.C_REF_FINAL c) final).modCourse c fun k => { k with runF0 := if final == 0 then min 16 (k.runF0 + 1) else 0 }

/-! ### The outer loop (R129 to R135, R155, R498) -/

/-- The charger's ceiling applies to C1 in the charging direction, but not to a presence probe (R133 row 7, R201). -/
def Dev.ceilFor (d : Dev) (c : Nat) : Option Nat :=
  if d.portCode c == 2 && d.chg.probe.isNone then some d.ceiling else none

/-- One lane of course `c` computes its update from integrators `w` (R132 to R135, R155). -/
def Dev.lane (d : Dev) (c : Nat) (w : Vector Int 5) : LaneOut :=
  let k := vget d.course c
  laneStep (d.f (F.C_LOOP_KP c)) (d.f (F.C_LOOP_KI c)) (d.loopTerms c (d.ceilFor c)) w (d.clampRow c) (d.limit c)
    (d.f (F.C_DEMAND_D c)) (d.f (F.C_RSTAT_ACTIVE c)) k.bump k.preload

/-- The course code for a demand: that of the first running tile by rank (R135). -/
def Dev.courseCode (d : Dev) (c dem : Nat) : Nat :=
  match (d.ranked c).head? with
  | some t => if d.portCode c == 6 then 0 else d.dacCode t dem (d.ranked c).length
  | none => 0

/-- The comparison of the two lanes and the demand used (R155): the lane with the smaller D where the codes differ by more than TOL. -/
def Dev.compareLanes (d : Dev) (c dem : Nat) (other : Nat) : Nat × Dev :=
  if !d.guardProfile then (dem, d)
  else
    let a := d.courseCode c dem
    let b := d.courseCode c other
    let tol := d.f (F.C_MIRROR_TOL c)
    if a ≤ b + tol && b ≤ a + tol then (dem, d.modCourse c fun k => { k with mmRun := 0 })
    else (min dem other, (d.incSat (F.C_MIRROR_MM_CNT c)).modCourse c fun k =>
      { k with mmRun := min 255 (k.mmRun + 1), mmDue := decide (d.f (F.C_MIRROR_COUNT c) ≤ min 255 (k.mmRun + 1)) })

/-- The counts that other rules read: updates with ACTIVE 3 and with demand 0 (R161, R178). -/
def countUpdate (active dem : Nat) (k : Course) : Course :=
  { k with run3 := if active == 3 then min 16 (k.run3 + 1) else 0, run0 := if dem == 0 then min 16 (k.run0 + 1) else 0 }

/-- A load step of this update: the demand rose by more than DELTA within 8 cycles, or the demand per running tile exceeds ADD_TH
(R111, R112). It aborts the course's self-tests at once (R125). -/
def Dev.loadStep (d : Dev) (c dem : Nat) : Dev :=
  let k := vget d.course c
  let delta := 100 * d.f (F.C_STEP_DELTA c)
  let rose := delta != 0 && (k.demands.take 8).any fun x => decide (x + delta < dem)
  let adds := d.portCode c != 6 && decide (10 * d.f (F.C_SHED_ADD_TH c) * (d.runTiles c).length < dem)
  let d := d.modCourse c fun k =>
    { k with demands := (dem :: k.demands).take 16, calm := if rose || adds then 0 else min 16 (k.calm + 1), stepSeen := k.stepSeen || rose || adds }
  let d := if (rose || adds) then d.abortTests c else d
  if adds && d.f (F.C_STAT_SHED_ST c) == 0 && !(d.shedTiles c).isEmpty then d.set (F.C_STAT_SHED_ST c) 3 else d

/-- The outer loop of a delivering course: reference, lanes, demand, ACTIVE (R132 to R135). -/
def Dev.outerLoop (d : Dev) (c : Nat) (q : CycleSample) : Dev :=
  let d := d.moveRef c
  if d.regMode c == 0 then d
  else
    let k := vget d.course c
    let out := d.lane c k.integ
    let mir := d.lane c k.mirror
    let (dem, d) := d.compareLanes c out.demand (q.mirrorD.getD mir.demand)
    let d := d.modCourse c fun k => countUpdate out.active dem { k with integ := out.integ, mirror := mir.integ, d := out.d, bump := false, preload := none }
    let d := (d.set (F.C_DEMAND_D c) dem).set (F.C_RSTAT_ACTIVE c) out.active
    (d.compute c dem).loadStep c dem

/-- The dwell count of R108: consecutive cycles in which the mean stays below SHED_TH. -/
def Dev.countDwell (d : Dev) (c : Nat) : Dev :=
  let low := d.delivers c && decide ((d.fI (F.C_IMEAN_MEAN c)).natAbs < 10 * d.f (F.C_SHED_SHED_TH c)) && d.f (F.C_STAT_SHED_ST c) == 0
  d.modCourse c fun k => { k with dwell := if low then min 4096 (k.dwell + 1) else 0 }

/-! ### What follows an update on the power path and the charger -/

/-- No further sharer can join (R180): no qualified source below the lead with its SHARE bit set, whose course can take a mode, is still unused. -/
def Dev.noFurtherSharer (d : Dev) : Bool :=
  let lead := d.posOf (d.f F.PATH_STAT_LEAD)
  (List.range 4).all fun n => !(decide (lead < n) && d.fbit F.SRC_SHARE_SHARE n && !d.fbit F.PATH_STAT_SHARERS n &&
    d.qualified (d.order.getD n 0) && d.canServe (d.order.getD n 0))

/-- Every engaged sharer reads ACTIVE 3. -/
def Dev.sharersLimited (d : Dev) : Bool :=
  (List.range 4).all fun n => !d.fbit F.PATH_STAT_SHARERS n || match d.courseOf (d.order.getD n 0) with
    | some c => d.f (F.C_RSTAT_ACTIVE c) == 3
    | none => true

/-- The back-off condition of R180. -/
def Dev.tight (d : Dev) : Bool :=
  d.on F.SYS_STAT_BELOW_MIN ||
  match d.leadCourse with
  | some l => d.f (F.C_RSTAT_ACTIVE l) == 3 && d.sharersLimited && d.noFurtherSharer
  | none => false

/-- Step 2 of a transfer, counted in updates of the outgoing lead (R186). -/
def Dev.transferUpdate (d : Dev) (c : Nat) : Dev :=
  if d.f F.PATH_STAT_STATE != 4 || d.leadCourse != some c then d
  else if d.path.stepTwo then (d.putPath { d.path with stepTwoRun := min 16 (d.path.stepTwoRun + 1) })
  else
    let full := match d.courseOf d.path.incoming with
      | some i => decide (16 ≤ (vget d.course i).run3)
      | none => false
    if d.f (F.C_DEMAND_D c) == 0 || full then (d.putPath { d.path with stepTwo := true, stepTwoRun := 0 }) else d

/-- Step 4 of a handover at its target's boundary, and what waited for it: the loss of the target, a removal, the reserve floor (R182, R185, R211). -/
def Dev.handoverUpdate (d : Dev) (c : Nat) : Dev :=
  let removed := d.path.removed
  let p := d.path.target
  if d.f F.PATH_STAT_STATE == 2 && d.courseOf p == some c && (d.delivers c || removed) then
    let d := d.finishHandover
    let d := (d.putPath { d.path with removed := false })
    if !removed then d.judgeFloor else if p == 2 then d.loseBattery false true else d.handover 0
  else d

/-- C1 may not deliver below V_DISCH: a lead or an assist of C1 ends (R176, R199). -/
def Dev.dischargeFloor (d : Dev) : Dev :=
  let low := decide (d.f F.CHG_MEAS_V_CELL < d.f F.CHG_VFLOOR_V_DISCH)
  if low && (d.c1Leads || d.on F.PATH_STAT_ASSIST) then d.loseBattery true false else d

/-- C1's update: the charger (R187 to R196), and the discharge floor. -/
def Dev.batteryUpdate (d : Dev) (c : Nat) : Dev :=
  if d.portCode c == 2 then (d.chargerUpdate c d.tight).dischargeFloor else d

/-- The device side of SERV is within 0.50 V of `v` (R255). -/
def Dev.servNear (d : Dev) (c v : Nat) : Bool :=
  decide ((vget d.course c).vPort ≤ (v + 50 : Nat)) && decide ((v : Int) ≤ (vget d.course c).vPort + 50)

/-- A Hard Reset as Source: at 0 V the device side turns back to 5.00 V, and there the supplies are offered afresh (R260). -/
def Dev.servReset (d : Dev) (c : Nat) : Dev :=
  if d.serv.falling then
    if (vget d.course c).vPort ≤ 0 && d.f (F.C_MODE_MODE c) == 2 then (d.modServ fun x => { x with falling := false }).set (F.C_REF_FINAL c) 500 else d
  else if d.f F.PD_STAT_PSTATE == 6 && d.pdSource && d.servNear c 500 then (d.set F.PD_STAT_PSTATE 2).offerCaps
  else d

/-- The service port at a boundary of its course: a pre-bias that has reached its target closes the FET, and until then returns any surplus to SYS (R255);
as Source the device then offers its supplies (R256). -/
def Dev.servUpdate (d : Dev) (c : Nat) : Dev :=
  if d.portCode c != 5 then d
  else
    let d := d.servReset c
    match d.serv.prebias with
    | none => d
    | some v =>
      if d.servNear c v && !d.on (F.GUARD_STAT_LATCHED 4) && !(vget d.port 4).ocHeld then
        let swap := d.serv.swapping
        let d := (((d.modServ fun x => { x with prebias := none, swapping := false }).setFet 5 true).set F.PD_STAT_PSTATE 2).set (F.C_RSTAT_DIR c) 1
        let d := if d.pdSource then d.offerCaps else d.hardStop c false
        if swap then d.raise 4 24 else d
      else d.setDir c (if (v : Int) < (vget d.course c).vPort then 0 else 1)

/-- The forward direction of port code `p`: 0 none, 1 into the device, 2 out of it (R148). During a reversal it is the one the guard still has. The power
die keeps its last one while the logic die is absent; the hold loop carries energy out of BAT into the device (assumption 71). -/
def Dev.forward (d : Dev) (p : Nat) : Nat :=
  let x := vget d.port (p - 1)
  if !d.running then (if p == 2 && d.sys.holdRuns then 1 else x.fwd)
  else
    let own := if p == 2 then 1 + d.dir 1
      else if x.role != 3 then x.role
      else if within 3 4 p && d.inForce (p - 3) then (if d.crole (p - 3) == 1 then 2 else 1)
      else if p == 5 && d.serv.inForce then (if d.on F.PD_STAT_PROLE then 2 else 1)
      else 0
    match d.courseOf p with
    | some c => if (vget d.course c).guardPend && own != 0 then 1 + (vget d.course c).guardDir else own
    | none => own

/-- The power die keeps the forward directions in force (R148, R465). -/
def Dev.latchForward (d : Dev) : Dev := (d.putPort (Vector.ofFn fun i : Fin 5 => { d.port[i] with fwd := d.forward (i.val + 1) }))

/-- A guard whose course's port current has crossed zero takes the new direction (R148). -/
def Dev.guardFollows (d : Dev) (c : Nat) : Dev :=
  let k := vget d.course c
  if k.guardPend && ((d.dir c == 0 && decide (0 ≤ k.iPort)) || (d.dir c == 1 && decide (k.iPort ≤ 0))) then
    d.modCourse c fun k => { k with guardPend := false, guardDir := d.dir c }
  else d

/-! ### The boundary (R103, R129) -/

/-- The changes that take effect at the boundary, in order: releases, ordered states, starts, shed stages, adds (R100 to R113). -/
def Dev.boundaryStates (d : Dev) (c : Nat) : Dev :=
  let d := (d.tilesOf c).foldl (fun d t => d.enterNext t) (d.releaseCrowbar c)
  ((d.joinTiles c).advanceShed c).doAdds c

/-- The update of the outer loop and of what is evaluated with it. The codes of the last update apply now, those of this one from the next boundary;
a course that starts at this boundary regulates from the next. A preloaded first demand applies at once (R129, R141, R160, R182). A fall that reaches 0 has
its tiles in ARMED at this boundary (R143). -/
def Dev.boundaryLoop (d : Dev) (c : Nat) (q : CycleSample) (was : Bool) : Dev :=
  let pre := (vget d.course c).preload.isSome
  let d := if d.delivers c && !pre then d.drive c else d
  let d := (d.leadUpdate c).shareFinal c
  let on := d.delivers c && (was || pre)
  let d := d.onlyIf on fun d => d.outerLoop c q
  if on && !d.delivers c then (d.tilesOf c).foldl (fun d t => d.enterNext t) d
  else if d.delivers c && pre then d.drive c else d

/-- The hold loop drives a tile of the power die's own grouping in a cycle of course `c`: a pulse starts once SYS has fallen to HOLD_V, and the bootstraps
are refreshed (R22 step 4, R157). A high-side pulse needs its bootstrap (R88); the crowbar's tiles are not driven. -/
def Dev.holdCycle (d : Dev) (c : Nat) (q : CycleSample) : Dev :=
  d.heldTiles.foldl (fun d t =>
    if d.pd (F.TILE_MAP_COURSE t) != c || (vget d.tile t).clamp then d
    else
      let boot := (vget q.tiles t).boot
      let starts := d.pw.vdrvOk && (d.pd (F.TILE_CFG_SPAN t) == 0 || decide (650 ≤ boot)) && decide (d.sys.vSys ≤ d.pd F.SYS_FLOOR_HOLD_V)
      (d.modTile t fun x => { x with gates := if starts then .active else .off }).refreshPulse t boot) d

/-- The cycle boundary of course `c` with the samples of the cycle that ends there (R103, R129). Without course engines it is a cycle of the hold loop. -/
def Dev.boundary (d : Dev) (c : Nat) (q : CycleSample) : Dev :=
  if !d.running then (if d.sys.holdRuns then (d.seeSys q.vSys).holdCycle c q else d)
  else if !d.on (F.C_MAP_ENABLE c) then d
  else
    let was := d.delivers c
    let d := (d.modCourse c fun k => { k with replaced := false, mmDue := false }).takeSamples c q
    let d := if was then (d.detectAll c q).countDwell c else d
    let before := d
    let d := d.boundaryStates c
    let d := (d.boundaryLoop c q was).guardFollows c
    let d := d.startPulses c q (if (vget d.course c).replaced then Dev.markOmitted before d c else [])
    let d := ((d.transferUpdate c).handoverUpdate c).batteryUpdate c
    ((d.servUpdate c).holdCycle c q).pathReview

end Sys2Proof.Machine
end

