-- ==== Sys2Proof/Machine/CaptureOps.lean ====
section
/-!
DEFINITION. The prism, capture windows, bricks and the NAND log store (Capture, Bricks and Non-Volatile Storage).
-/
namespace Sys2Proof.Machine

/-! ### The prism (R365 to R367) -/

/-- The prism source of capture channel `i` (R396). -/
def Dev.chanSource (d : Dev) (i : Nat) : Nat := (d.rd (R.CAP_CH (i / 4)) >>> (8 * (i % 4))).toNat % 256

/-- The telemetry counters take a result (R367). -/
def Dev.telemetry (d : Dev) (v : Int) : Dev :=
  let sum := d.prism.sum + v
  let n := d.prism.count + 1
  let d := (d.putPrism { d.prism with sum := sum, count := n })
  let d := (d.setI F.PRISM_TMM_MAX (max (d.fI F.PRISM_TMM_MAX) v)).setI F.PRISM_TMM_MIN (min (d.fI F.PRISM_TMM_MIN) v)
  (d.set F.PRISM_TMEAN_COUNT (min n 65535)).setI F.PRISM_TMEAN_MEAN (sum.tdiv n)

/-- The telemetry counters start afresh (R367). -/
def Dev.startTelemetry (d : Dev) : Dev :=
  let d := (d.putPrism { d.prism with sum := 0, count := 0 })
  (d.wr R.PRISM_TMM 0x80007FFF#32).wr R.PRISM_TMEAN 0#32

/-- A result of prism source `src` reaches the telemetry counters and the capture channels (R366). -/
def Dev.result (d : Dev) (src : Nat) (v : Int) : Dev :=
  let d := if d.f F.PRISM_TSEL_SOURCE == src then d.telemetry v else d
  d.each (d.f F.CAP_CFG_CHANNELS) fun d i =>
    if d.chanSource i == src then
      let x := vget d.cap.sums i
      (d.putCap { d.cap with sums := vset d.cap.sums i (x.1 + v, x.2 + 1) })
    else d

/-! ### Bricks (R373 to R375) -/

/-- A number as `n` bytes, least significant first. -/
def leNum (n v : Nat) : List Byte := (List.range n).map fun i => BitVec.ofNat 8 (v / 256 ^ i)

/-- `n` zero bytes. -/
def zeroBytes (n : Nat) : List Byte := List.replicate n 0#8

/-- The bytes of a half's frames: 16-bit two's complement, little-endian, in CH order (R370). -/
def Half.bytes (h : Half) : List Byte := h.frames.flatMap fun fr => fr.flatMap fun v => leNum 2 (toTwos 16 v)

/-- A position of the PTB in the record descriptor: fraction, then integer part (R375). -/
def ptbBytes (p : Nat) : List Byte := leNum 2 (p % 65536) ++ leNum 4 (p / 65536)

/-- The record descriptor of a half (R375). -/
def Dev.descriptor (d : Dev) (h : Half) : List Byte :=
  let n := d.f F.CAP_CFG_CHANNELS
  leNum 1 n ++ zeroBytes 1 ++ leNum 2 (d.f F.CAP_CFG_RATE) ++
  ((List.range 16).map fun i => if i < n then BitVec.ofNat 8 (d.chanSource i) else 0xFF#8) ++
  leNum 4 (h.frames.length * n * 2) ++ leNum 1 h.openCause ++ leNum 1 h.closeCause ++
  leNum 2 (h.held.toNat + 2 * h.stalled.toNat) ++ ptbBytes h.ptbOpen ++ ptbBytes h.ptbClose ++ zeroBytes 24

/-- Payload bytes of a brick (R374). -/
def payloadBytes : Nat := 4032

/-- The bricks that `len` frame bytes take (R374). -/
def brickCount (len : Nat) : Nat := (len + 64 + 4031) / payloadBytes

/-- Brick `i` of `n` of a record: header, CRC, payload, and zeros up to 4 KiB (R374). -/
def Dev.brick (d : Dev) (h : Half) (seq i n : Nat) (payload : List Byte) : List Byte :=
  let head := [0x42#8, 0x52#8, 0x49#8, 0x4B#8, 0x01#8, 0x00#8] ++
    leNum 2 ((if i == 0 then 1 else 0) + (if i + 1 == n then 2 else 0)) ++ leNum 4 seq ++ leNum 2 i ++ leNum 2 n ++
    leNum 6 h.time ++ zeroBytes 2 ++ leNum 4 h.cycle ++ leNum 2 payload.length ++ zeroBytes 2 ++
    leBytes (d.rd (R.IMGDIGEST 0)) ++ leBytes (d.rd (R.IMGDIGEST 1)) ++ zeroBytes 20
  head ++ leBytes (crc32 (head ++ payload)) ++ payload ++ zeroBytes (payloadBytes - payload.length)

/-- The bricks of the record of a half (R374). -/
def Dev.bricks (d : Dev) (h : Half) (seq : Nat) : List (List Byte) :=
  let body := d.descriptor h ++ h.bytes
  let n := brickCount h.bytes.length
  (List.range n).map fun i => d.brick h seq i n ((body.drop (i * payloadBytes)).take payloadBytes)

/-- The little-endian number of `n` bytes at `o` of a byte list. -/
def leAt (l : List Byte) (o n : Nat) : Nat := ((l.drop o).take n).foldr (fun b a => b.toNat + 256 * a) 0

/-! ### The ring of blocks (R377 to R386) -/

/-- NAND_STAT.STATE: 0 ABSENT, 1 RECOVERING, 2 READY, 3 FULL, 4 GEOM_ERR, 5 CLOSED. -/
def Dev.nandState (d : Dev) : Nat := d.f F.NAND_STAT_STATE

/-- Bricks per page, pages per block (R397). -/
def Dev.bricksPerPage (d : Dev) : Nat := 2 ^ d.f F.NAND_GEOM_BPP
def Dev.pagesPerBlock (d : Dev) : Nat := 2 ^ d.f F.NAND_GEOM_PPB

/-- A ring position. -/
def Dev.ringAt (d : Dev) (j : Nat) : RingBlock := (d.nand.ring[j]?).getD {}

/-- A ring position replaced. -/
def Dev.setRing (d : Dev) (j : Nat) (x : RingBlock) : Dev := (d.putNand { d.nand with ring := d.nand.ring.set j x })

/-- The ring position `k` further on from `j`. -/
def Dev.ringNext (d : Dev) (j k : Nat) : Nat := if d.nand.ring.length == 0 then 0 else (j + k) % d.nand.ring.length

/-- The brick positions of a block. -/
def Dev.inBlock (d : Dev) (block pos : Nat) : Bool := pos / (d.bricksPerPage * d.pagesPerBlock) == block

/-- The first bricks of records in the store: position and sequence number, of block numbers that satisfy `p`. -/
def Dev.firstBricks (d : Dev) (p : Nat → Bool) : List (Nat × Nat) :=
  (d.nand.store.filter fun (x : Nat × List Byte) => p (x.1 / (d.bricksPerPage * d.pagesPerBlock)) && (leAt x.2 6 2) % 2 == 1).map
    fun (x : Nat × List Byte) => (x.1, leAt x.2 8 4)

/-- The log store enters FULL or CLOSED: EVB5 source 29 (R384, R386). -/
def Dev.shutStore (d : Dev) (st : Nat) : Dev :=
  if d.nand.shut == st then d
  else (((d.putNand { d.nand with shut := st })).set F.NAND_STAT_STATE st).raise 5 29

/-- The erase of ring position `j` starts: its records are deleted and LOG_TAIL advances past them (R384). -/
def Dev.startErase (d : Dev) (j : Nat) : Dev :=
  let b := (d.ringAt j).block
  let tail := d.f F.LOG_TAIL_OLDEST
  let next := d.f F.LOG_SEQ_NEXT
  let left := (d.firstBricks fun x => x != b).filter fun (x : Nat × Nat) => decide (tail ≤ x.2) && decide (x.2 < next)
  let low := left.foldl (fun m (x : Nat × Nat) => min m x.2) next
  let d := d.set F.LOG_TAIL_OLDEST low
  (d.putNand { d.nand with erase := some j, tailAt := if j == d.nand.tailAt then d.ringNext j 1 else d.nand.tailAt })

/-- A fetch reads a record that starts in block `b`; an erase of the block waits for it (R394). -/
def Dev.fetchingFrom (d : Dev) (b : Nat) : Bool :=
  match d.nand.fetch with
  | some x => (d.firstBricks fun k => k == b).any fun (y : Nat × Nat) => y.2 == x.1
  | none => false

/-- Erasing ahead of the head: two erased blocks lie ahead of it; with RING 0 the store stops instead of reclaiming (R384). -/
def Dev.eraseAhead (d : Dev) : Dev :=
  if d.nandState != 2 || d.nand.pend.isSome || d.nand.erase.isSome || d.nand.ring.length < 3 then d
  else
    match [1, 2].find? fun k => !(d.ringAt (d.ringNext d.nand.headAt k)).erased with
    | none => d
    | some k =>
      let j := d.ringNext d.nand.headAt k
      if !d.on F.NAND_CFG_RING then d.shutStore 3
      else if d.fetchingFrom (d.ringAt j).block then d
      else d.startErase j

/-- The half of the commit in flight becomes FREE, or a half is otherwise freed. -/
def Dev.freeHalf (d : Dev) (h : Nat) : Dev :=
  (((d.putCap { d.cap with half := vset d.cap.half h {} })).set (if h == 0 then F.CAP_STAT_STATE_A else F.CAP_STAT_STATE_B) 0)

/-- A commit in flight ends without its record: its sequence number is used up (R386, R394). -/
def Dev.abandonCommit (d : Dev) : Dev :=
  match d.nand.pend with
  | none => d
  | some c =>
    let d := (d.putNand { d.nand with pend := none })
    ((d.inc F.LOG_SEQ_NEXT).set F.NAND_STAT_COMMIT 0).freeHalf c.half

/-- A block is retired (R385): bitmap, count, EVB5 source 28, fault log; a reserve block takes its ring position over, or the store closes and a commit in
flight is abandoned (R386). -/
def Dev.retire (d : Dev) (block : Nat) : Dev :=
  if d.nand.bad.contains block then d
  else
    let d := (d.putNand { d.nand with bad := block :: d.nand.bad })
    let d := (d.inc F.LOG_CNT_RETIRED).raise 5 28
    let d := d.logFault 5 28 [d.rd R.NAND_STAT, BitVec.ofNat 32 block]
    match d.nand.reserve with
    | [] => (d.shutStore 5).abandonCommit
    | r :: rest =>
      let ring := d.nand.ring.map fun (x : RingBlock) => if x.block == block then { x with next := some r } else x
      (d.putNand { d.nand with reserve := rest, ring := ring }).set F.NAND_STAT_SPARES rest.length

/-- Pages of a commit. -/
def Dev.commitPages (d : Dev) (c : Commit) : Nat := (c.bricks.length + d.bricksPerPage - 1) / d.bricksPerPage

/-- The head lies past a commit's last page. -/
def Dev.headPast (d : Dev) (c : Commit) : Dev :=
  (d.putNand { d.nand with headAt := c.index, headPage := c.page + d.commitPages c })

/-- Step 3 of a commit: the head word is written, the half becomes FREE, EVB5 source 25 (R381). -/
def Dev.commitDone (d : Dev) (c : Commit) : Dev :=
  let d := d.headPast c
  let d := (d.putNand { d.nand with pend := none })
  (((d.inc F.LOG_SEQ_NEXT).set F.NAND_STAT_COMMIT 0).freeHalf c.half).raise 5 25

/-- The bricks of the next page are placed in the store (R381 step 2). -/
def Dev.placePage (d : Dev) (c : Commit) : Dev :=
  let b := d.bricksPerPage
  let base := (d.ringAt c.index).block * b * d.pagesPerBlock + c.page * b + c.placed
  let new := (c.bricks.drop c.placed).take b
  let store := (new.zipIdx).foldl (fun m (x : List Byte × Nat) => Sparse.set (fun _ => ([] : List Byte)) m (base + x.2) x.1) d.nand.store
  let d := d.setRing c.index { d.ringAt c.index with erased := false }
  (d.putNand { d.nand with store := store, pend := some { c with placed := c.placed + b } })

/-- A ring position takes the reserve block that waits for it, before a brick goes there (R385). -/
def Dev.takeReserve (d : Dev) (j : Nat) : Dev :=
  match (d.ringAt j).next with
  | some r => d.setRing j { block := r, erased := true, next := none }
  | none => d

/-- The pages that a commit of `n` bricks needs fit behind the head in its block. -/
def Dev.fitsAtHead (d : Dev) (n : Nat) : Bool :=
  decide (d.nand.headPage + (n + d.bricksPerPage - 1) / d.bricksPerPage ≤ d.pagesPerBlock) &&
  !d.nand.bad.contains (d.ringAt d.nand.headAt).block

/-- A QUEUED half becomes COMMITTING (R381 step 1): the start moves to the next ring block where the rest of the head's cannot hold the
record. It waits while an erase it needs has not ended. -/
def Dev.commitStart (d : Dev) : Dev :=
  match d.cap.queue with
  | [] => d
  | h :: rest =>
    if d.nandState != 2 || d.nand.pend.isSome || d.nand.ring.isEmpty then d
    else
      let d := d.eraseAhead
      let seq := d.f F.LOG_SEQ_NEXT
      let bs := d.bricks (vget d.cap.half h) seq
      let fits := d.fitsAtHead bs.length
      let j := if fits then d.nand.headAt else d.ringNext d.nand.headAt 1
      let page := if fits then d.nand.headPage else 0
      if d.nandState != 2 || d.nand.erase.isSome || (!fits && !(d.ringAt j).erased) then d
      else
        let d := if fits then d else d.takeReserve j
        let d := d.putCap { d.cap with queue := rest }
        let d := d.putNand { d.nand with pend := some { half := h, seq := seq, index := j, page := page, bricks := bs } }
        (d.set (if h == 0 then F.CAP_STAT_STATE_A else F.CAP_STAT_STATE_B) 3).set F.NAND_STAT_COMMIT 1

/-- A commit stands before its first page in a block that is not erased. -/
def Dev.commitBarred (d : Dev) (c : Commit) : Bool := c.page == 0 && c.placed == 0 && !(d.ringAt c.index).erased

/-- The block that a commit has to begin in is erased first; with RING 0 no block is reclaimed: the store is FULL and the commit ends without its record
(R384, assumption 80). -/
def Dev.eraseForCommit (d : Dev) : Dev :=
  match d.nand.pend with
  | none => d
  | some c =>
    if !d.commitBarred c || d.nand.erase.isSome then d
    else if !d.on F.NAND_CFG_RING then (d.shutStore 3).abandonCommit
    else if d.fetchingFrom (d.ringAt c.index).block then d
    else d.startErase c.index

/-- The commit in flight starts again from brick 0 in the next ring block, with the same sequence number (R385). -/
def Dev.restartCommit (d : Dev) : Dev :=
  match d.nand.pend with
  | none => d
  | some c =>
    let j := d.ringNext c.index 1
    let d := d.takeReserve j
    (d.putNand { d.nand with headAt := j, headPage := 0, pend := some { c with index := j, page := 0, placed := 0 } }).eraseForCommit

/-- The block of the commit in flight is retired: it takes no further brick (R385). -/
def Dev.retireUnderCommit (d : Dev) (block : Nat) : Dev :=
  let hit := match d.nand.pend with
    | some c => (d.ringAt c.index).block == block
    | none => false
  (d.retire block).onlyIf hit Dev.restartCommit

/-- A page program has ended (R381, R385): the next page, the end of the commit, or after a failure the retirement of the block and a new start. -/
def Dev.pageProgrammed (d : Dev) (ok : Bool) : Dev :=
  match d.nand.pend with
  | none => d
  | some c =>
    if d.nandState == 1 || d.nandState == 4 || d.commitBarred c then d
    else if ok then
      let d := d.placePage c
      if c.bricks.length ≤ c.placed + d.bricksPerPage then d.commitDone c else d
    else d.retireUnderCommit (d.ringAt c.index).block

/-- An erase has ended (R384, R385): the block is erased, or retired with a reserve block in its place; a commit that waits for an erase of its own has it
next. -/
def Dev.eraseDone (d : Dev) (ok : Bool) : Dev :=
  match d.nand.erase with
  | none => d
  | some j =>
    if d.nandState == 1 then d
    else
      let x := d.ringAt j
      let d := if ok then d else d.retire x.block
      let y := d.ringAt j
      let store := d.nand.store.filter fun (e : Nat × List Byte) => !d.inBlock x.block e.1
      let d := d.setRing j { block := y.next.getD y.block, erased := ok || y.next.isSome, next := none }
      ((d.putNand { d.nand with erase := none, store := store })).eraseAhead.eraseForCommit

/-- A brick of a present record is looked up: its position, in the copy later in ring order (R382, R385, R387). -/
def Dev.findRecord (d : Dev) (seq : Nat) : Option Nat :=
  if !(decide (d.f F.LOG_TAIL_OLDEST ≤ seq) && decide (seq < d.f F.LOG_SEQ_NEXT)) then none
  else
    let n := d.nand.ring.length
    let rank (pos : Nat) : Nat :=
      let b := pos / (d.bricksPerPage * d.pagesPerBlock)
      let j := (d.nand.ring.findIdx? fun (x : RingBlock) => x.block == b).getD 0
      ((j + n - d.nand.tailAt) % max 1 n) * (d.bricksPerPage * d.pagesPerBlock) + pos % (d.bricksPerPage * d.pagesPerBlock)
    let hits := (d.firstBricks fun _ => true).filter fun (x : Nat × Nat) => x.2 == seq
    hits.foldl (fun (m : Option Nat) (x : Nat × Nat) => match m with
      | none => some x.1
      | some y => if rank y < rank x.1 then some x.1 else some y) none

/-- All COUNT bricks of the record that starts at a position are stored and valid (R382). -/
def Dev.recordWhole (d : Dev) (pos seq : Nat) : Bool :=
  let at_ (i : Nat) : List Byte := Sparse.get (fun _ => ([] : List Byte)) d.nand.store (pos + i)
  let n := leAt (at_ 0) 14 2
  (List.range n).all fun i =>
    let b := at_ i
    leAt b 8 4 == seq && leAt b 12 2 == i && leAt b 60 4 == (crc32 (b.take 60 ++ (b.drop 64).take (leAt b 28 2))).toNat

/-! ### Capture windows (R369 to R371) -/

/-- A half's state in CAP_STAT (R371). -/
def Dev.halfState (d : Dev) (h : Nat) : Nat := d.f (if h == 0 then F.CAP_STAT_STATE_A else F.CAP_STAT_STATE_B)

/-- The half with its hidden part changed. -/
def Dev.modHalf (d : Dev) (h : Nat) (g : Half → Half) : Dev := (d.putCap { d.cap with half := vset d.cap.half h (g (vget d.cap.half h)) })

/-- One channel's value in a frame: the mean of the results since the last frame; without one the last value again, with HELD. Where there is no
last value either, the spec states none and a free value stands for it (R370). -/
def Dev.frameValue (d : Dev) (i : Nat) : Int × Bool :=
  let x := vget d.cap.sums i
  if x.2 != 0 then (x.1.tdiv x.2, false)
  else ((d.cap.prev[i]?).getD (ofTwos 16 (Config.freeValue (d.freeCount + i) % 65536)), true)

/-- A frame is written to the filling half (R370). -/
def Dev.takeFrame (d : Dev) : Dev :=
  let vs := (List.range (d.f F.CAP_CFG_CHANNELS)).map d.frameValue
  let fr := vs.map (·.1)
  let stalled := d.on F.PTB_STAT_STALLED
  let d := d.modHalf (d.f F.CAP_STAT_HALF) fun h =>
    { h with frames := h.frames ++ [fr], held := h.held || vs.any (·.2), stalled := h.stalled || stalled }
  let d := d.inc F.CAP_FRAMES_FRAMES
  ((d.putCap { d.cap with sums := Vector.replicate 16 (0, 0), prev := fr }).putFreeCount (d.freeCount + 16))

/-- A window is missed (R371). -/
def Dev.missWindow (d : Dev) : Dev := (d.incSat F.CAP_CNT_MISSED).raise 5 26

/-- A window opens into a FREE half, half A before half B, with its first frame, or is missed (R369 to R371). -/
def Dev.openWindow (d : Dev) (cause : Nat) : Dev :=
  if !d.running || !d.on F.CAP_CTL_EN || d.on F.CAP_STAT_OPEN then d
  else
    let d := d.inc F.CAP_CYCLE_CYCLE
    match [0, 1].find? fun h => d.halfState h == 0 with
    | none => d.missWindow
    | some h =>
      if d.nandState == 3 || d.nandState == 5 then d.missWindow
      else
        let new : Half := { time := d.pw.time, cycle := d.f F.CAP_CYCLE_CYCLE, openCause := cause, ptbOpen := d.ptb.pos }
        let d := ((d.modHalf h fun _ => new).set (if h == 0 then F.CAP_STAT_STATE_A else F.CAP_STAT_STATE_B) 1).set F.CAP_STAT_OPEN 1
        let d := ((d.set F.CAP_STAT_HALF h).set F.CAP_FRAMES_FRAMES 0).inc F.CAP_CNT_WINDOWS
        (d.takeFrame.raise 5 23).eraseAhead

/-- The open window closes and its half is queued; without a usable NAND its record is discarded (R369, R371, R377). -/
def Dev.closeWindow (d : Dev) (cause : Nat) : Dev :=
  if !d.on F.CAP_STAT_OPEN then d
  else
    let h := d.f F.CAP_STAT_HALF
    let pos := d.ptb.pos
    let d := ((d.modHalf h fun x => { x with closeCause := cause, ptbClose := pos }).set F.CAP_STAT_OPEN 0).raise 5 24
    if d.nandState == 0 || d.nandState == 4 then (d.freeHalf h).incSat F.CAP_CNT_MISSED
    else ((d.putCap { d.cap with queue := d.cap.queue ++ [h] })).set (if h == 0 then F.CAP_STAT_STATE_A else F.CAP_STAT_STATE_B) 2

/-- An open or a close is asked for in this command; a later one of the same kind does not replace it (R369). -/
def Dev.askOpen (d : Dev) (cause : Nat) : Dev := (d.putCap { d.cap with wantOpen := some (d.cap.wantOpen.getD cause) })
def Dev.askClose (d : Dev) (cause : Nat) : Dev := (d.putCap { d.cap with wantClose := some (d.cap.wantClose.getD cause) })

/-- What was asked for acts: the close first, then the open (R369). -/
def Dev.windows (d : Dev) : Dev :=
  let c := d.cap.wantClose
  let o := d.cap.wantOpen
  let d := (d.putCap { d.cap with wantOpen := none, wantClose := none })
  let d := match c with
    | some x => d.closeWindow x
    | none => d
  match o with
  | some x => d.openWindow x
  | none => d

end Sys2Proof.Machine
end

