-- ==== Sys2Proof/Machine/Flags.lean ====
section
/-!
DEFINITION. How a command ends: the events it raised are delivered to the pending bits, the FIFO and the DMA channels (R446 to R454), the
fault-log entries it asked for are written (R390), and the fields and balls that follow from the rest of the state are set.
-/
namespace Sys2Proof.Machine

/-! ### Delivery of raises (R446 to R450, R453) -/

/-- A request of DMA channel `n` (R453, R454): dropped and counted while the previous one waits; none while the channel takes none. -/
def Dev.dmaRequest (d : Dev) (n : Nat) : Dev :=
  if !d.on (F.DMA_CTL_EN n) || d.f (F.DMA_CTL_LEN n) == 0 then d
  else if d.ev.dmaWait.contains n then (d.incSat (F.DMA_STAT_OVERRUN n)).raise 0 21
  else (d.putEv { d.ev with dmaWait := d.ev.dmaWait ++ [n] })

/-- The FIFO takes a raise under its mask; a full FIFO loses it and counts it (R449, R450). -/
def Dev.fifoPush (d : Dev) (n time : Nat) : Dev :=
  if !d.fbit (F.EVB_FIFO_EN (n / 32)) (n % 32) then d
  else if d.ev.fifo.length < 64 then
    (d.putEv { d.ev with fifo := d.ev.fifo ++ [⟨n, time, d.ev.gap⟩], gap := false })
  else
    let first := d.f F.EVF_STAT_LOST == 0
    let d := ((d.incSat F.EVF_STAT_LOST).putEv { d.ev with gap := true })
    if first then d.raise 0 16 else d

/-- One raise reaches its pending bit, the core's wake, the FIFO, the DMA channels it triggers (R446, R448, R449, R453). -/
def Dev.deliver (d : Dev) (x : Nat × Nat) : Dev :=
  let n := x.1 % 192
  let d := d.setBit (F.EVB_PEND_PEND (n / 32)) (n % 32) true
  let d := if d.fbit (F.EVB_WAKE_EN (n / 32)) (n % 32) then (d.putPw { d.pw with coreWake := true }) else d
  let d := d.fifoPush n x.2
  d.each 8 fun d k => if d.f (F.DMA_SRC_TRIG k) == n then d.dmaRequest k else d

/-- A raise inserted in ascending event number; a second raise of one source in the same command is the same raise. -/
def insertRaise (x : Nat × Nat) : List (Nat × Nat) → List (Nat × Nat)
  | [] => [x]
  | y :: t => if x.1 < y.1 then x :: y :: t else if x.1 = y.1 then y :: t else y :: insertRaise x t

/-- The raises of a command in ascending event number (R449). -/
def sortRaises (l : List (Nat × Nat)) : List (Nat × Nat) := l.foldl (fun acc x => insertRaise x acc) []

/-- The events named by START_EVT and STOP_EVT ask for a window's open and close (R369). -/
def Dev.windowEvents (d : Dev) (rs : List (Nat × Nat)) : Dev :=
  let d := if rs.any (fun (x : Nat × Nat) => x.1 == d.f F.CAP_EVT_STOP_EVT) then d.askClose 1 else d
  if rs.any (fun (x : Nat × Nat) => x.1 == d.f F.CAP_EVT_START_EVT) then d.askOpen 1 else d

/-- Rounds of delivery: what a delivery itself raises (R370, R450, R454) is delivered in the next round. Raises that are left after the last
round are delivered with the next command. -/
def Dev.deliverAll : Nat → Dev → Dev
  | 0, d => d
  | n + 1, d =>
    if d.raised.isEmpty && d.cap.wantOpen.isNone && d.cap.wantClose.isNone then d
    else
      let rs := sortRaises d.raised
      Dev.deliverAll n ((rs.foldl Dev.deliver (d.putRaised [])).windowEvents rs).windows

/-! ### The fault log (R390) -/

/-- One entry is written: the ring from 1 to 1023, and entry 0 where the log holds no first fault; what the ring position held stays known until the
next entry (R393). -/
def Dev.writeLog (d : Dev) (q : LogReq) : Dev :=
  let n := (d.log.count + 1) % 2 ^ 32
  let e : LogEntry := { time := q.time, event := q.event, number := n, detail := q.words.take 3, crc := 0 }
  let e : LogEntry := { e with crc := crc32 e.body }
  let at_ := d.f F.FLOG_STAT_NEWEST % 1023 + 1
  let d := d.set F.FLOG_STAT_NEWEST at_
  let was := Sparse.get (fun _ => ({} : LogEntry)) d.log.entries at_
  let ents := Sparse.set (fun _ => ({} : LogEntry)) d.log.entries at_ e
  let ents := if d.log.firstHeld then ents else Sparse.set (fun _ => ({} : LogEntry)) ents 0 e
  ((d.set F.FLOG_STAT_FIRST 1).putLog { entries := ents, count := n, firstHeld := true, before := was })

/-- An entry asked for, behind those of the same or a lower event number. -/
def insertLog (q : LogReq) : List LogReq → List LogReq
  | [] => [q]
  | y :: t => if q.event < y.event then q :: y :: t else y :: insertLog q t

/-- The entries a command asked for are written, in ascending event number (R394). -/
def Dev.writeLogs (d : Dev) : Dev := (d.faults.foldl (fun acc q => insertLog q acc) []).foldl Dev.writeLog (d.putFaults [])

/-- Of the fault-log entry in flight only the first `n` of its four words are written: it keeps the rest of what its position held, and is void for want
of its CRC word (R390, R393). -/
def Dev.cutEntry (d : Dev) (n : Nat) : Dev :=
  let at_ := d.f F.FLOG_STAT_NEWEST
  let e := Sparse.get (fun _ => ({} : LogEntry)) d.log.entries at_
  let old := d.log.before
  let cut : LogEntry :=
    { time := if 1 ≤ n then e.time else old.time, event := if 1 ≤ n then e.event else old.event, number := if 2 ≤ n then e.number else old.number
      detail := if 3 ≤ n then e.detail.take 2 ++ [old.detail.getD 2 0#32] else old.detail, crc := old.crc }
  d.putLog { d.log with entries := Sparse.set (fun _ => ({} : LogEntry)) d.log.entries at_ cut }

/-! ### Fields and levels that follow from the rest (R447, R448, R128, R166) -/

/-- Some pending bit is set under the mask registers at `m 0` to `m 5`. -/
def Dev.anyPending (d : Dev) (m : Nat → Nat) : Bool :=
  (List.range 6).any fun k => (d.rd (R.EVB_PEND k) &&& d.rd (m k)) != 0#32

/-- The interrupt balls and the core interrupt: low while a pending bit is unmasked, released while the logic die is absent (R447, R448). -/
def Dev.settleInts (d : Dev) : Dev :=
  let live := d.alive && !d.pw.absent
  (d.putBalls { d.balls with nInt0 := live && d.anyPending R.EVB_INT0, nInt1 := live && d.anyPending R.EVB_INT1 }).putPw
    { d.pw with coreInt := live && d.anyPending R.EVB_CORE }

/-- Cn_STAT's counts and flags of course `c` (R107, R128). -/
def Dev.settleCourse (d : Dev) (c : Nat) : Dev :=
  let h := d.healthy c
  let w := d.workCfg c
  let d := ((d.set (F.C_STAT_HEALTHY c) h).set (F.C_STAT_WORKCFG c) w).set (F.C_STAT_RUNNING c) ((d.tilesOf c).filter fun t => d.tst t == 3).length
  let d := (d.setB (F.C_STAT_LIMIT_CUT c) (decide (h < w))).setB (F.C_STAT_SPARE_ARMING c) (d.sparesArming c)
  let d := (d.setB (F.C_STAT_NO_SPARE c) (d.noSpare c)).setB (F.C_STAT_TEST_ACTIVE c) ((d.tilesOf c).any fun t => d.tst t == 5)
  if decide (0 < h) then d.set (F.C_STAT_COURSE_FAIL c) 0 else d

/-- A limit of the port sets the demand of its course (R174). -/
def Dev.portLimited (d : Dev) (p : Nat) : Bool :=
  match d.courseOf p with
  | some c => d.f (F.C_RSTAT_ACTIVE c) == 3 || d.f (F.C_RSTAT_ACTIVE c) == 4
  | none => false

/-- A lost source is back in its window and waits to qualify (R185). -/
def Dev.returning (d : Dev) (p : Nat) : Bool := (vget d.port (p - 1)).outside && d.inWindow p && d.mayQualify p

/-- What the ports show of the rest of the state: LIMITED, MAIN's own CONTRACT, and a lost source that is back in its window (R174, R185, R214). -/
def Dev.settlePorts (d : Dev) : Dev :=
  let d := d.each 5 fun d p => d.setB (F.PORT_STAT_LIMITED p) (d.portLimited (p + 1))
  let d := d.set (F.PORT_STAT_CONTRACT 0) 1
  d.setB F.PATH_STAT_RETURN_PEND ((List.range 5).any fun p => d.returning (p + 1))

/-- What SYS_STAT shows of the rest of the state (R139, R144). -/
def Dev.settleSys (d : Dev) : Dev :=
  let d := d.setB F.SYS_STAT_CB_ANY ((List.range 6).any fun c => d.on (F.C_PCTL_CB_LATCH c))
  d.setB F.SYS_STAT_BELOW_MIN (d.running && decide (d.sys.vSys < d.f F.SYS_FLOOR_VSYS_MIN))

/-- The fields that follow from the rest of the state are set. -/
def Dev.settle (d : Dev) : Dev :=
  let d := d.set F.EVF_STAT_COUNT d.ev.fifo.length
  if !d.alive then d.settleInts
  else
    let d := d.setB F.SYSCFG_COMPAT (d.on F.SYSCFG_COMPAT_PIN || d.on F.SYSCFG_COMPAT_IMG)
    let d := (d.each 6 Dev.settleCourse).settleSys.settlePorts
    let d := d.setB F.PATH_STAT_HOT d.hot
    (d.setB F.SYSCFG_PWR_DIE_OK (!d.pw.absent)).settleInts

/-- The end of a command. -/
def finish (d : Dev) : Dev := (Dev.deliverAll 8 (d.putPw { d.pw with coreWake := false })).writeLogs.settle

/-- The outcome of a meaning whose effect leaves device `d`: the next state, with the queue as it was. -/
def done (s : State) (d : Dev) : Host.Outcome State Fault Refusal := .next { s with dev := finish d }

end Sys2Proof.Machine
end

