-- ==== Sys2Proof/Machine/Paths.lean ====
section
/-!
DEFINITION. The meanings of the power-path commands (R169 to R186): window edges, qualification, loss, transfer, sharing, assist.
-/
namespace Sys2Proof.Machine

/-! ### Windows (R170, R172, R185) -/

/-- The hysteresis of a port's window edges, 10 mV, by index 0 MAIN to 4 SERV (R170). -/
def windowHyst (p : Nat) : Nat := if p == 0 then 200 else if p == 1 then 50 else if p == 4 then 25 else 100

/-- The comparators of port index `p`, on the power die, follow its voltage (R170, R171). -/
def Dev.compareWindow (d : Dev) (p v : Nat) : Dev :=
  let lo := d.pd (F.PORT_QUAL_QUAL_VMIN p)
  let hi := d.pd (F.PORT_QUAL_QUAL_VMAX p)
  let h := windowHyst p
  let d := if lo ≤ v then d.set (F.PORT_STAT_ABOVE_MIN p) 1 else if v + h < lo then d.set (F.PORT_STAT_ABOVE_MIN p) 0 else d
  if hi ≤ v then d.set (F.PORT_STAT_ABOVE p) 1 else if v + h < hi then d.set (F.PORT_STAT_ABOVE p) 0 else d

/-- R170, R172: the voltage of port index `p` is now that of `v`. An entry into the window starts the debounce, an exit ends it; on a qualified port neither has
an effect until it is lost. -/
def portWindow (d : Dev) (p : Nat) (v : NodeSample) : Dev :=
  if d.pw.mode != .on then d
  else
    let q := p + 1
    let was := d.inWindow q
    let d := d.compareWindow p (d.nodeVolts q v.node v.ain)
    if !d.running || was == d.inWindow q || d.qualified q then d else (d.restartDebounce q).onlyIf (q == 2) Dev.batWake

/-- PORT_WINDOW_CHANGE (R170). -/
def execPortWindowChange (p : Fin 5) (v : NodeSample) (s : State) : Host.Outcome State Fault Refusal := done s (portWindow s.dev p v)

/-! ### Qualification and loss (R169, R172, R173) -/

/-- R172, R173: the insertion debounce of port code `p` has completed: QSTATE, EVB2 source 30, FET closed unless an over-current trip holds
it open, and the power path decides (R175, R186). The end of a release of the reserve is judged (R199). -/
def sourceQualified (d : Dev) (p : Nat) : Dev :=
  if !d.running || !d.inWindow p || !d.mayQualify p || d.f (F.PORT_STAT_QSTATE (p - 1)) != 1 then d
  else
    let d := d.endDischarge p
    let d := ((d.set (F.PORT_STAT_QSTATE (p - 1)) 2).set (F.PORT_STAT_DEB_MS (p - 1)) 100).raise 2 30
    let d := d.modPort p fun x => { x with outside := false }
    let d := if (vget d.port (p - 1)).ocHeld then d else d.setFet p true
    let d := if d.on F.CHG_RESV_E_RELEASED && !d.on F.CHG_RESV_E_AT_FLOOR then d.set F.CHG_RESV_E_RELEASED 0 else d
    d.pathReview

/-- SOURCE_QUALIFIED (R172). -/
def execSourceQualified (p : Fin 5) (s : State) : Host.Outcome State Fault Refusal := done s (sourceQualified s.dev (p + 1))

/-- BAT is out of its window: its debounce is void, its FET opens, and C1 is no longer available (R172, R176). -/
def Dev.batOutside (d : Dev) : Dev :=
  if !(vget d.port 1).debounced && !(d.on F.CHG_RESV_E_HOLD_RX && d.f F.RSTCAUSE_CAUSE == 9) then d
  else
    let d := ((d.modPort 2 fun x => { x with debounced := false }).set (F.PORT_STAT_QSTATE 1) 0).set (F.PORT_STAT_DEB_MS 1) 0
    (d.loseBattery true false).setFet 2 false

/-- The sink transition band of SERV (R257): its connector voltage has been below 0.90 of the lower voltage for 20 µs. Without a contract in force the old
voltage is 5.00 V. -/
def Dev.servDip (d : Dev) (v : Nat) : Bool :=
  match d.serv.pend with
  | some x => !d.on F.PD_STAT_PROLE && d.f F.PD_STAT_PSTATE == 4 &&
      decide (10 * v < 9 * min x.1 (if d.serv.inForce then d.f F.PD_CONTRACT_V else 500))
  | none => false

/-- R172, R257: port code `p` has been out of its window for 20 µs at the voltage of `v`: a qualified source is lost, with the handover, the contract
drop and the discharge that follow. -/
def sourceLostCmd (d : Dev) (p : Nat) (v : NodeSample) : Dev :=
  if !d.running then d
  else
    let v := d.nodeVolts p v.node v.ain
    let dip := p == 5 && d.servDip v
    let d := d.compareWindow (p - 1) v
    if d.inWindow p && !dip then d
    else if p == 2 then d.batOutside
    else if d.qualified p then d.sourceLost p 20
    else if dip then d.servDetach
    else d

/-- SOURCE_LOST (R172). -/
def execSourceLost (p : Fin 5) (v : NodeSample) (s : State) : Host.Outcome State Fault Refusal := done s (sourceLostCmd s.dev (p + 1) v)

/-- R176, R201: BAT has passed its window debounce: its FET closes, presence may be established, C1 may become hot and lead. -/
def batDebounced (d : Dev) : Dev :=
  if !d.running || !d.inWindow 2 || (vget d.port 1).debounced || d.on (F.GUARD_STAT_LATCHED 1) || d.on (F.C_PCTL_CB_LATCH 1) then d
  else
    let d := ((d.modPort 2 fun x => { x with debounced := true }).set (F.PORT_STAT_QSTATE 1) 2).set (F.PORT_STAT_DEB_MS 1) 100
    let d := if (vget d.port 1).ocHeld then d else d.setFet 2 true
    d.checkPresence.pathReview

/-- BAT_WINDOW_DEBOUNCE (R176). -/
def execBatWindowDebounce (s : State) : Host.Outcome State Fault Refusal := done s (batDebounced s.dev)

/-! ### Transfer (R186) -/

/-- An outgoing C1 becomes the assist, or takes the charger's mode (R186). -/
def Dev.releaseC1 (d : Dev) (limited : Bool) : Dev :=
  match d.courseOf 2 with
  | none => d
  | some c =>
    if limited && d.on F.SRC_SHARE_BAT_ASSIST && d.hot then d.startAssist c
    else match d.chargeMode with
      | some (m, final, dr) => d.giveMode c m final dr
      | none => d.hardStop c false

/-- An outgoing source course takes its sharing mode, or NONE (R178, R186). -/
def Dev.releaseSource (d : Dev) (p : Nat) (limited : Bool) : Dev :=
  match d.courseOf p with
  | none => d
  | some c =>
    let n := d.posOf p
    if limited && d.qualified p && decide (n < 4) && d.fbit F.SRC_SHARE_SHARE n then (d.giveMode c 3 0 0).setBit F.PATH_STAT_SHARERS n true
    else d.stopCourse c

/-- R186 step 3: 16 updates of the outgoing lead after step 2 the incoming course takes V_SYS, and the outgoing one is released. -/
def transferComplete (d : Dev) : Dev :=
  if !d.running || d.f F.PATH_STAT_STATE != 4 || !d.path.stepTwo || d.path.stepTwoRun < 16 then d
  else
    let p := d.path.incoming
    let old := d.f F.PATH_STAT_LEAD
    match d.courseOf p with
    | none => d
    | some c =>
      let limited := decide (16 ≤ (vget d.course c).run3)
      let d := (d.giveMode c 1 (d.f F.SYS_TARGET_TARGET) 0).setPath 1 p
      let d := if decide (d.posOf p < 4) then d.setBit F.PATH_STAT_SHARERS (d.posOf p) false else d
      let d := (d.putPath { d.path with incoming := 0, stepTwo := false, stepTwoRun := 0 })
      let d := if old == 2 then d.releaseC1 limited else d.releaseSource old limited
      ((d.inc F.PATH_CNT_TRANSFERS).raise 2 29).pathReview

/-- TRANSFER_COMPLETE (R186). -/
def execTransferComplete (s : State) : Host.Outcome State Fault Refusal := done s (transferComplete s.dev)

/-! ### Sharing and assist (R178, R179) -/

/-- The lead and every engaged sharer have read ACTIVE 3 for 16 updates. -/
def Dev.allLimited (d : Dev) : Bool :=
  (match d.leadCourse with
   | some l => decide (16 ≤ (vget d.course l).run3)
   | none => false) &&
  (List.range 4).all fun n => !d.fbit F.PATH_STAT_SHARERS n || match d.courseOf (d.order.getD n 0) with
    | some c => decide (16 ≤ (vget d.course c).run3)
    | none => true

/-- The next ORDER position that may share: below the lead, SHARE bit set, qualified, FET closed, not sharing yet (R178). -/
def Dev.nextSharer (d : Dev) : Option Nat :=
  let lead := d.posOf (d.f F.PATH_STAT_LEAD)
  (List.range 4).find? fun n => decide (lead < n) && d.fbit F.SRC_SHARE_SHARE n && !d.fbit F.PATH_STAT_SHARERS n &&
    d.qualified (d.order.getD n 0) && d.fetOn (d.order.getD n 0)

/-- R178: the next permitted source starts sharing in I_PORT. -/
def shareStart (d : Dev) : Dev :=
  if !d.running || d.f F.PATH_STAT_STATE != 1 || !d.allLimited then d
  else match d.nextSharer with
    | none => d
    | some n =>
      match d.courseOf (d.order.getD n 0) with
      | none => d
      | some c =>
        let e := d.giveMode c 3 0 0
        if e.f (F.C_MODE_MODE c) == 3 then (e.setBit F.PATH_STAT_SHARERS n true).modCourse c fun k => { k with runF0 := 0 } else d

/-- SHARE_START (R178). -/
def execShareStart (s : State) : Host.Outcome State Fault Refusal := done s (shareStart s.dev)

/-- R178, R179: a sharer, or the assist, whose FINAL has been 0 for 16 updates takes mode NONE. -/
def shareRelease (d : Dev) (pos : Option (Fin 4)) : Dev :=
  if !d.running then d
  else match pos with
    | some n =>
      match d.courseOf (d.order.getD n 0) with
      | some c =>
        if d.fbit F.PATH_STAT_SHARERS n && decide (16 ≤ (vget d.course c).runF0) then (d.stopCourse c).setBit F.PATH_STAT_SHARERS n false else d
      | none => d
    | none =>
      match d.courseOf 2 with
      | some c =>
        if d.on F.PATH_STAT_ASSIST && decide (16 ≤ (vget d.course c).runF0) then ((d.stopCourse c).set F.PATH_STAT_ASSIST 0).applyCharge else d
      | none => d

/-- SHARE_RELEASE (R178); none: the battery assist. -/
def execShareRelease (pos : Option (Fin 4)) (s : State) : Host.Outcome State Fault Refusal := done s (shareRelease s.dev pos)

/-- R179: the sources are at their limits and charging is backed off to 0: C1 assists into SYS, EVB3 source 7, and the phase reads IDLE. -/
def batAssist (d : Dev) : Dev :=
  if !d.running || d.f F.PATH_STAT_STATE != 1 || !d.on F.SRC_SHARE_BAT_ASSIST || !d.hot || !d.allLimited || d.ceiling != 0 || d.on F.PATH_STAT_ASSIST then d
  else match d.courseOf 2 with
    | none => d
    | some c => d.startAssist c

/-- BAT_ASSIST_START (R179). -/
def execBatAssistStart (s : State) : Host.Outcome State Fault Refusal := done s (batAssist s.dev)

end Sys2Proof.Machine
end

