-- ==== Sys2Proof/Machine/ResetOps.lean ====
section
/-!
DEFINITION. The logic-die reset (R22, R337, R393, R400, R406, R465): what survives it, and what starts again from its reset value.
-/
namespace Sys2Proof.Machine

/-- The registers and fields that a logic-die reset leaves (R465), and the window comparators and the trip state of the power die. -/
def keptFields : List Field :=
  [F.RSTCAUSE_RESTARTS, F.RSTCAUSE_PREV, F.RSTCAUSE_CAUSE, F.PWR_STAT_WAKE, F.PWR_STAT_PRESS_10MS, F.PWR_STAT_BTN, F.CHG_RESV_E_HOLD_RX,
   F.CHG_RESV_E_RELEASED, F.CHG_RESV_E_UNCAL, F.HOLD_STAT_ABSENT_MS, F.HOLD_STAT_CB_BLOCK, F.HOLD_STAT_BAT_LOW, F.HOLD_STAT_LAST_CODE,
   F.THERM_HW_PD_SHUT, F.THERM_HW_PD_SEEN, F.THERM_HW_PD_SHUTS, F.THERM_HW_LD_SHUTS, F.THERM_HW_LD_SEEN, F.SYS_OOW_MS, F.AVL_DARK_MS,
   F.WDT_LAST_RESETS, F.WDT_LAST_CAUSE, F.WDT_FUSE_WINDOW, F.WDT_FUSE_NOFREEZE, F.CAP_CYCLE_CYCLE, F.FLOG_STAT_FIRST, F.FLOG_STAT_NEWEST,
   F.MRAM_STAT_SPARE_LEFT, F.IMGSVN_SVN_MIN, F.LC_STAT_CHANGING, F.LC_STAT_PRESENT, F.LC_STAT_REVOKED, F.LC_STAT_STATE, F.LC_NONCE_NONCE,
   F.LC_UID_UID 0, F.LC_UID_UID 1] ++
  (List.range 6).map F.C_PCTL_CB_LATCH ++
  (List.range 5).flatMap fun p =>
    [F.GUARD_STAT_LATCHED p, F.GUARD_STAT_RETRIES p, F.GUARD_STAT_FET_ON p, F.PORT_STAT_ABOVE p, F.PORT_STAT_ABOVE_MIN p]

/-- The registers right after a logic-die reset: reset values, but for what is kept; E_AVAIL takes the value last saved (R197, R465);
in RETURN the log store is CLOSED (R422). -/
def Dev.keptRegs (d : Dev) : List (Nat × Word) :=
  let e : Dev := { regs := [] }
  let e := (keptFields.foldl (fun e x => e.set x (d.f x)) e).set F.CHG_ENERGY_E_AVAIL d.ret.eAvail
  (e.onlyIf (d.f F.LC_STAT_STATE == 3) fun e => e.set F.NAND_STAT_STATE 5).regs

/-- The journal as it stands at a reset: the registers show it once it has been read (R383, R465). -/
def Dev.keptNand (d : Dev) : Nand :=
  let n := { d.nand with fetch := none, buffer := [], offset := 0, read := false }
  if d.alive && d.nand.read then
    { n with jSeq := d.f F.LOG_SEQ_NEXT, jTail := d.f F.LOG_TAIL_OLDEST, jRolls := d.f F.LOG_CNT_ROLLBACKS, jRetired := d.f F.LOG_CNT_RETIRED }
  else n

/-- What the logic die holds after a reset: everything but the power die, the keep-alive domain, the MRAM and the world outside starts again. -/
def Dev.cleared (d : Dev) : Dev :=
  { regs := d.keptRegs, freeCount := d.freeCount, pw := d.pw, balls := { wdoLow := d.balls.wdoLow, node := d.balls.node }
    slots := d.slots, boot := d.boot, live := d.live, keys := d.keys, fmap := d.fmap, ret := d.ret, log := d.log
    tile := d.tile.map fun x => { gates := if x.clamp then x.gates else .off, clamp := x.clamp }
    sys := { vSys := d.sys.vSys, belowSince := d.sys.belowSince, holdMap := d.sys.holdMap, holdRuns := d.sys.holdRuns, holdDid := d.sys.holdDid
             absentUs := d.sys.absentUs, oowUs := d.sys.oowUs, darkUs := d.sys.darkUs }
    port := d.port.map fun x => { retryTimes := x.retryTimes, ocHeld := x.ocHeld, ocAt := x.ocAt, rearmed := x.rearmed, fwd := x.fwd }
    chg := { vBat := d.chg.vBat, iBat := d.chg.iBat, energy := d.ret.eAvail * 360000000000 }
    ring := { passThrough := d.ring.passThrough }
    host := { selected := d.host.selected }
    serv := { rp := d.serv.rp, rejoin := d.serv.rejoin || d.on F.PD_STAT_ATTACHED }
    lens := d.lens.map fun x => { failedMap := x.failedMap }
    nand := d.keptNand
    recov := { d.recov with autoNext := 0, autoCheck := [], scrubUs := 0, slotUs := 0, lcUs := 0 }
    nv := d.nv }

/-- Before a reset takes hold, the events raised so far are delivered, with what they set off, and the log entries asked for are written (R446, R390,
R393). -/
def Dev.beforeReset (d : Dev) : Dev := (Dev.deliverAll 8 d).writeLogs

/-- The logic die is held in reset with a cause of R427: the events raised are delivered, the entries that its fault asked for are in the log,
and the word in flight is complete (R393). While it is held already, the first cause stands, but of two causes in one logic clock the lower code does (R407). -/
def Dev.logicReset (d : Dev) (cause : Nat) : Dev :=
  if d.pw.mode != .on then d
  else if d.pw.inReset then
    d.onlyIf (d.pw.resetAt == some d.pw.clock) fun d => d.putPw { d.pw with resetCause := min d.pw.resetCause cause }
  else
    let e := d.beforeReset.latchForward.cleared
    (e.putPw { e.pw with inReset := true, resetCause := cause, resetAt := some e.pw.clock, engines := false, coreRuns := false, hostReady := false
                         coreInt := false, coreWake := false })

end Sys2Proof.Machine
end

