-- ==== Sys2Proof/Machine/Charging.lean ====
section
/-!
DEFINITION. The meanings of the charger, reserve, battery-presence, button and lamp commands (R187 to R210), and the ways into ship mode,
keep-alive and the power cycle.
-/
namespace Sys2Proof.Machine

/-! ### Charge phases (R189, R190, R194) -/

/-- R189: a condition of the present phase has held for its 1 s or 60 s. -/
def chargeDwell (d : Dev) : Dev :=
  let p := d.f F.CHG_PHASE_PHASE
  let i := d.chg.iBat.natAbs
  let term := d.f F.CHG_ITERM_I_TERM
  if !d.running || d.f F.CHG_CFG_CHEM == 0 then d
  else
    let e :=
      if p == 1 && decide (d.f F.CHG_VTH_V_DEEP ≤ d.vCell) then d.setPhase 2
      else if p == 2 && decide (d.f F.CHG_VTH_V_PRE ≤ d.vCell) then
        (if d.reducedWin then (d.set F.CHG_PHASE_REG 0).setPhase 8 else d.setPhase 3)
      else if p == 5 then d.chargeDone 0
      else if p == 8 && d.on F.CHG_PHASE_REG && decide (100 * i < term * d.winPct) then d.chargeDone 2
      else if p == 6 && decide (d.vCell < d.f F.CHG_VCV_V_RECHG) && d.chargeSource then d.derive
      else d
    e.applyCharge.showTimer

/-- CHARGE_DWELL_EXPIRY (R189). -/
def execChargeDwellExpiry (s : State) : Host.Outcome State Fault Refusal := done s (chargeDwell s.dev)

/-- R190, R194: the safety timer of the phase has expired: T_TRICKLE, T_PRE and T_CC give FAULT, T_CV ends the charge. -/
def chargeTimer (d : Dev) : Dev :=
  if !d.running then d
  else match d.timerOf (d.f F.CHG_PHASE_PHASE) with
    | none => d
    | some i =>
      let d := d.putChg { d.chg with timedOut := some (d.f F.CHG_PHASE_PHASE) }
      (if i < 3 then d.chargeFault (i + 1) else d.chargeDone 1).applyCharge.showTimer

/-- CHARGE_SAFETY_TIMER_EXPIRY (R190). -/
def execChargeSafetyTimerExpiry (s : State) : Host.Outcome State Fault Refusal := done s (chargeTimer s.dev)

/-- The cause of the charger's FAULT is still present (R194). -/
def Dev.causePresent (d : Dev) : Bool :=
  let c := d.f F.CHG_PHASE_CAUSE
  (c == 4 && decide (d.f F.CHG_VCV_V_CV + 100 < d.vCell)) || (c == 5 && d.chg.ntcShort)

/-- R194: CLEAR_FAULT derives the phase and restarts its timer, while the cause is gone; otherwise CLEAR_REJ sets. -/
def chgClearFault (d : Dev) : Dev :=
  if !d.running || d.f F.CHG_PHASE_PHASE != 10 then d
  else if d.causePresent then d.set F.CHG_CTL_CLEAR_REJ 1
  else
    d.derive.applyCharge.showTimer

/-- CHG_CLEAR_FAULT (R194). -/
def execChgClearFault (s : State) : Host.Outcome State Fault Refusal := done s (chgClearFault s.dev)

/-! ### Presence and removal (R201 to R203) -/

/-- A source leads: STATE SOURCE, or a TRANSFER from one source to another (R175). -/
def Dev.sourceLeads (d : Dev) : Bool := d.f F.PATH_STAT_STATE == 1 || (d.f F.PATH_STAT_STATE == 4 && d.f F.PATH_STAT_LEAD != 2)

/-- A presence probe starts while the phase is ABSENT, a source leads and CHEM is not 00h (R201). -/
def Dev.startProbe (d : Dev) : Dev :=
  if !d.running || d.f F.CHG_PHASE_PHASE != 9 || !d.sourceLeads || d.f F.CHG_CFG_CHEM == 0 || d.chg.probe.isSome then d
  else match d.courseOf 2 with
    | none => d
    | some c =>
      let i := if d.f F.CHG_CFG_CHEM == 6 then d.f F.CHG_IPRE_I_PRE else d.f F.CHG_IPRE_I_TRICKLE
      let e := d.giveMode c 3 i 1
      if e.f (F.C_MODE_MODE c) == 3 then (e.putChg { e.chg with probe := some e.chg.vBat }) else d

/-- CHG_PROBE (R201). -/
def execChgProbe (s : State) : Host.Outcome State Fault Refusal := done s s.dev.startProbe

/-- R201: 2 s have passed since the last probe. -/
def probeTimer (d : Dev) : Dev := d.startProbe

/-- PROBE_TIMER (R201). -/
def execProbeTimer (s : State) : Host.Outcome State Fault Refusal := done s (probeTimer s.dev)

/-- R201: the pulse ends at BAT voltage `v`, 10 mV: it passes if the rise is at most 1.0 V and `v` lies inside the BAT window. -/
def probeEnd (d : Dev) (v : Nat) : Dev :=
  match if d.running then d.chg.probe else none with
  | none => d
  | some v0 =>
    let d := (d.putChg { d.chg with probe := none, vBat := v })
    let d := match d.courseOf 2 with
      | some c => d.hardStop c false
      | none => d
    let pass := decide ((v : Int) ≤ v0 + 100) && decide (d.f (F.PORT_QUAL_QUAL_VMIN 1) ≤ v) && decide (v < d.f (F.PORT_QUAL_QUAL_VMAX 1))
    if pass then ((d.putChg { d.chg with removed := false }).checkPresence).applyCharge else d

/-- PROBE_END (R201). -/
def execProbeEnd (v : Nat) (s : State) : Host.Outcome State Fault Refusal := done s (probeEnd s.dev v)

/-- R202, R203: removal detector 0 NTC open, 1 voltage rise, 2 current vanishes, in the phases in which it applies. A phase that a timer has ended in the
same update counts as that phase: ABSENT wins (R211). -/
def removal (d : Dev) (det : Nat) : Dev :=
  let p := d.chg.timedOut.getD (d.f F.CHG_PHASE_PHASE)
  let applies := det == 0 || (det == 1 && chargingPhase p) || (det == 2 && (within 3 5 p || p == 8))
  if !d.running || d.f F.CHG_CFG_CHEM == 0 || !applies then d
  else
    let d := if det == 0 then (d.putChg { d.chg with ntcOpen := true }) else d
    d.batteryRemoved.showTimer

/-- BATTERY_REMOVAL (R203). -/
def execBatteryRemoval (det : Fin 3) (s : State) : Host.Outcome State Fault Refusal := done s (removal s.dev det)

/-! ### The energy account and the reserve (R197 to R199) -/

/-- The exact account after 1 ms at `v` (10 mV) and `i` (10 mA, positive into the device), within 0 and CAPACITY (R197). -/
def Dev.accountAfter (d : Dev) (v : Nat) (i : Int) : Nat :=
  let cap := d.f F.CHG_BAT_CAPACITY * 360000000000
  min cap (if 0 ≤ i then d.chg.energy - v * i.toNat * 100 else d.chg.energy + v * i.natAbs * d.f F.CHG_TADJ_ETA)

/-- R197, R198: 1 ms has passed with BAT at `v` and `i`: the account is updated and the floor judged. -/
def energyTick (d : Dev) (v : Nat) (i : Int) : Dev :=
  if !d.running || d.f F.CHG_CFG_CHEM == 0 then d
  else
    let e := d.accountAfter v i
    ((d.putChg { d.chg with energy := e }).set F.CHG_ENERGY_E_AVAIL (e / 360000000000)).judgeFloor.pathReview

/-- ENERGY_ACCOUNT_TICK (R197). -/
def execEnergyAccountTick (vBat : Nat) (iBat : Int) (s : State) : Host.Outcome State Fault Refusal := done s (energyTick s.dev vBat iBat)

/-- R197: the account is written to the retained region. -/
def energyRetain (d : Dev) : Dev :=
  if d.alive then (d.putRet { d.ret with eAvail := d.f F.CHG_ENERGY_E_AVAIL }) else d

/-- ENERGY_RETAIN (R197). -/
def execEnergyRetain (s : State) : Host.Outcome State Fault Refusal := done s (energyRetain s.dev)

/-- RESERVE_RELEASE (R199): PATH_CTL.RELEASE. -/
def execReserveRelease (s : State) : Host.Outcome State Fault Refusal := done s (if s.dev.running then s.dev.releaseReserve else s.dev)

/-- R199: PATH_CTL.RESTORE ends a release; at the floor C1 gives up SYS again (R198). -/
def reserveRestore (d : Dev) : Dev :=
  if d.running && d.on F.CHG_RESV_E_RELEASED then (d.set F.CHG_RESV_E_RELEASED 0).judgeFloor.pathReview else d

/-- RESERVE_RESTORE (R199). -/
def execReserveRestore (s : State) : Host.Outcome State Fault Refusal := done s (reserveRestore s.dev)

/-! ### Keep-alive, ship mode, the button (R200, R204 to R207) -/

/-- Both dies power down, or are held in reset, in mode `m`: the account is retained, a power-fail save is made, C1 and every course stop,
BATGATE and every port FET open, every gate goes off, those of a crowbar too, the lamps and WDO are released, the CC balls present Rd, and only the
keep-alive domain and the comparators stay (R21, R200, R204, R207, R482, R484). -/
def Dev.powerDown (d : Dev) (m : PowerMode) : Dev :=
  let d := (energyRetain d).powerFailSave
  let nand := d.keptNand
  let d := d.each 6 fun d c => d.hardStop c true
  let d := d.each 5 fun d p => d.set (F.GUARD_STAT_FET_ON p) 0
  let d := d.each 16 fun d t => d.modTile t fun x => { x with gates := .off, clamp := false }
  let d := ((d.set F.STAT_CTL_PAT0 0).set F.STAT_CTL_PAT1 0)
  let d := (d.putServ { d.serv with rp := false }).onlyIf (m != .cycleHeld) fun d => d.putBalls { d.balls with wdoLow := false }
  let d := (d.putLamp (Vector.replicate 2 {})).putNand nand
  let d := (d.putSys { d.sys with holdRuns := false, holdDid := false, holdMap := [], handback := false }).putRing { d.ring with passThrough := true }
  d.putPw { d.pw with mode := m, inReset := true, absent := true, engines := false, coreRuns := false, hostReady := false,
                      kaTicks := 0, kaStart := d.pw.time }

/-- No source is qualified. -/
def Dev.noSource (d : Dev) : Bool := d.bestSource.isNone

/-- R200: RESERVE or DARK has lasted 1 s with no source: keep-alive while a battery remains connected, or ship mode if one is pending. -/
def keepAlive (d : Dev) : Dev :=
  let st := d.f F.PATH_STAT_STATE
  if !d.running || !(st == 5 || st == 6) || !d.noSource then d
  else if d.on F.PWR_STAT_SHIP_PEND then d.powerDown .ship
  else if st == 5 || d.inWindow 2 then d.powerDown .keepAlive
  else d

/-- KEEPALIVE_ENTRY (R200). -/
def execKeepaliveEntry (s : State) : Host.Outcome State Fault Refusal := done s (keepAlive s.dev)

/-- SHIP_ARM (R204). -/
def execShipArm (s : State) : Host.Outcome State Fault Refusal := done s (if s.dev.alive then s.dev.set F.PWR_STAT_SHIP_PEND 1 else s.dev)

/-- SHIP_CANCEL (R204). -/
def execShipCancel (s : State) : Host.Outcome State Fault Refusal := done s (if s.dev.alive then s.dev.set F.PWR_STAT_SHIP_PEND 0 else s.dev)

/-- R204: SHIP_PEND is set and no source has been qualified for 1 s. -/
def shipEntry (d : Dev) : Dev :=
  if d.alive && d.on F.PWR_STAT_SHIP_PEND && d.noSource then d.powerDown .ship else d

/-- SHIP_ENTRY (R204). -/
def execShipEntry (s : State) : Host.Outcome State Fault Refusal := done s (shipEntry s.dev)

/-- The length of a completed press, `ms` milliseconds, in the keep-alive domain (R206), if VKA powers it (R473). -/
def Dev.pressEnds (d : Dev) (ms : Nat) : Dev := if d.pw.vkaLow then d else (d.set F.PWR_STAT_PRESS_10MS (min 65535 (ms / 10))).set F.PWR_STAT_BTN 0

/-- R206: a press of `ms` milliseconds is released: from 50 ms to below 2 s it is a short press, EVB3 source 11. -/
def shortPress (d : Dev) (ms : Nat) : Dev :=
  let d := d.pressEnds ms
  if 50 ≤ ms && ms < 2000 && !d.pw.vkaLow then d.raise 3 11 else d

/-- BTN_SHORT_PRESS (R206). -/
def execBtnShortPress (ms : Nat) (s : State) : Host.Outcome State Fault Refusal := done s (shortPress s.dev ms)

/-- R206: nBTN has been low for 2 s: EVB3 source 12. -/
def longPress (d : Dev) : Dev := if d.pw.vkaLow then d else (d.set F.PWR_STAT_BTN 1).raise 3 12

/-- BTN_LONG_PRESS (R206). -/
def execBtnLongPress (s : State) : Host.Outcome State Fault Refusal := done s (longPress s.dev)

/-- NBTN_RELEASE (R206): the end of a press that is not a short one. -/
def execNbtnRelease (ms : Nat) (s : State) : Host.Outcome State Fault Refusal := done s (s.dev.pressEnds ms)

/-- R207 step 1: nBTN has been low for 12 s: every FET opens, every gate is off, both dies are held in reset. -/
def powerCycle (d : Dev) : Dev := if d.pw.vkaLow then d else (d.set F.PWR_STAT_BTN 1).powerDown .cycleHeld

/-- BTN_POWER_CYCLE (R207). -/
def execBtnPowerCycle (s : State) : Host.Outcome State Fault Refusal := done s (powerCycle s.dev)

/-! ### STAT lamps (R208 to R210) -/

/-- The slots of a pattern, slot 0 first, as the bits of a number (R208). -/
def patternBits (p : Nat) : Nat :=
  if p == 2 then 0xFF else if p == 3 then 0x33 else if p == 4 then 0x55 else if p == 5 then 0x01 else if p == 6 then 0x05 else 0

/-- A crowbar latch, a latched guard: the FAST conditions both patterns share (R209, R210). -/
def Dev.latchedAny (d : Dev) : Bool :=
  ((List.range 6).any fun c => d.on (F.C_PCTL_CB_LATCH c)) || ((List.range 5).any fun p => d.on (F.GUARD_STAT_LATCHED p))

/-- The automatic pattern of STAT0 or STAT1 (R209, R210). -/
def Dev.autoPattern (d : Dev) (i : Nat) : Nat :=
  let p := d.f F.CHG_PHASE_PHASE
  let st := d.f F.PATH_STAT_STATE
  if d.on F.SYSCFG_COMPAT then
    if i == 0 then (if chargingPhase p then 2 else 1)
    else if p == 10 || d.latchedAny then 4 else if p == 7 then 3 else 1
  else if i == 0 then
    if d.latchedAny || (List.range 6).any (fun c => d.on (F.C_STAT_COURSE_FAIL c)) then 4
    else if st == 0 || st == 6 then 1 else if st == 5 then 5 else if st == 2 || st == 3 then 3 else if st == 4 then 6 else 2
  else if p == 10 then 4 else if p == 9 then 5 else if p == 7 then 6 else if chargingPhase p then 3 else if p == 6 then 2 else 1

/-- The pattern wanted on lamp `i`: the forced one, or the automatic one (R208). -/
def Dev.wantPattern (d : Dev) (i : Nat) : Nat :=
  let f := d.f (if i == 0 then F.STAT_CTL_FORCE0 else F.STAT_CTL_FORCE1)
  if within 1 6 f then f else d.autoPattern i

/-- R208: a 250 ms slot of lamp `i` ends. A new pattern starts at slot 0. -/
def Dev.lampSlot (d : Dev) (i : Nat) : Dev :=
  let l := vget d.lamp i
  let w := d.wantPattern i
  let n := if l.pattern == w then (l.slot + 1) % 8 else 0
  (d.putLamp (vset d.lamp i { pattern := w, slot := n, lit := (patternBits w).testBit n })).set
    (if i == 0 then F.STAT_CTL_PAT0 else F.STAT_CTL_PAT1) w

/-- Both lamps at a slot boundary; released while the logic die is absent (R208). -/
def statSlot (d : Dev) : Dev :=
  if d.alive && !d.pw.absent then (d.lampSlot 0).lampSlot 1
  else (d.putLamp (Vector.replicate 2 {}))

/-- STAT_SLOT (R208). -/
def execStatSlot (s : State) : Host.Outcome State Fault Refusal := done s (statSlot s.dev)

end Sys2Proof.Machine
end

