-- ==== Sys2Proof/Machine/LensOps.lean ====
section
/-!
DEFINITION. Lenses: comparators, the presented level and its consumers, covers, stand-ins (Lenses: Window Comparators).
-/
namespace Sys2Proof.Machine

/-- The state with the hidden part of lens `n` changed. -/
def Dev.modLens (d : Dev) (n : Nat) (g : Lens → Lens) : Dev := (d.putLens (vset d.lens n (g (vget d.lens n))))

/-- Lens `n` is assigned a node (R301). -/
def Dev.lensUsed (d : Dev) (n : Nat) : Bool := d.f (F.LENS_CFG_INPUT n) != 0xFF

/-- The fields of LENS_SPARE for spare 22 or 23 (R318). -/
def useField (m : Nat) : Field := if m == 22 then F.LENS_SPARE_USE22 else F.LENS_SPARE_USE23
def servesField (m : Nat) : Field := if m == 22 then F.LENS_SPARE_SERVES22 else F.LENS_SPARE_SERVES23

/-- The spare that covers lens `n` during its check, if one does (R309). -/
def Dev.coverOf (d : Dev) (n : Nat) : Option Nat :=
  [22, 23].find? fun m => d.f (useField m) == 3 && d.f (servesField m) == n

/-- The lens whose node lens `m` watches: the one it serves as stand-in or cover, otherwise itself (R309, R311). -/
def Dev.watches (d : Dev) (m : Nat) : Nat :=
  if (m == 22 || m == 23) && within 2 3 (d.f (useField m)) then d.f (servesField m) else m

/-- The lens whose comparators serve the consumers of lens `n`: its cover, its stand-in, or itself while it works (R305). -/
def Dev.carrier (d : Dev) (n : Nat) : Option Nat :=
  match d.coverOf n with
  | some m => some m
  | none =>
    if d.on (F.LENS_STAT_STANDIN_V n) then some (d.f (F.LENS_STAT_STANDIN n))
    else if d.on (F.LENS_STAT_FAILED n) then none
    else some n

/-- The hysteresis code in microvolts (R317). -/
def hystMicro (c : Nat) : Nat := if c == 0 then 0 else 5000 * 2 ^ c

/-- One comparator with a threshold code and hysteresis on an input, from its present level (R302). -/
def comparator (high : Bool) (code hyst v : Nat) : Bool :=
  if code * 5000 ≤ v then true else if v + hyst < code * 5000 then false else high

/-- An internal node as the lens sees it, in microvolts: clipped to 0 V to 1.275 V (R301). -/
def clipNode (v : Int) : Nat := min v.toNat 1275000

/-- What stands at the lens for INPUT code `c`, in microvolts, from what stands at the node (R301). -/
def Dev.atLens (d : Dev) (c : Nat) : Nat :=
  let x := vget d.balls.node c
  if c < 0x14 then x.toNat
  else if c == 0x40 || c == 0x42 then clipNode (x / 50)
  else if c == 0x41 then clipNode (x / 150)
  else if c == 0x43 then clipNode (x / 10)
  else if within 0x44 0x48 c then clipNode (600000 + 5 * x)
  else clipNode (600000 + 500 * x / (d.rangeMv (c - 0x50) : Nat))

/-- The comparators of lens `m` follow the node it watches (R302); with no node they are low (R301). -/
def Dev.compare (d : Dev) (m : Nat) : Dev :=
  let n := d.watches m
  if !d.lensUsed n then (d.set (F.LENS_STAT_C_LO m) 0).set (F.LENS_STAT_C_HI m) 0
  else
  let v := d.atLens (d.f (F.LENS_CFG_INPUT n))
  let h := hystMicro (d.f (F.LENS_CFG_HYST n))
  (d.setB (F.LENS_STAT_C_LO m) (comparator (d.on (F.LENS_STAT_C_LO m)) (d.f (F.LENS_TH_LO n)) h v)).setB (F.LENS_STAT_C_HI m)
    (comparator (d.on (F.LENS_STAT_C_HI m)) (d.f (F.LENS_TH_HI n)) h v)

/-- The comparators of lens `m` start low, then follow (R303). -/
def Dev.restartLens (d : Dev) (m : Nat) : Dev := ((d.set (F.LENS_STAT_C_LO m) 0).set (F.LENS_STAT_C_HI m) 0).compare m

/-- The output of lens `m` by the mode of the lens it serves (R304). -/
def Dev.lensLevel (d : Dev) (m : Nat) : Bool :=
  let hi := d.on (F.LENS_STAT_C_HI m)
  if d.f (F.LENS_CFG_MODE (d.watches m)) == 0 then hi else d.on (F.LENS_STAT_C_LO m) && !hi

/-- The level that the consumers of lens `n` see (R305, R309, R311, R312). -/
def Dev.presented (d : Dev) (n : Nat) : Bool :=
  if !d.lensUsed n then false
  else match (vget d.lens n).held with
    | some b => b
    | none => match d.carrier n with
      | some m => d.lensLevel m
      | none => d.on (F.LENS_CFG_FAILSAFE n)

/-- Timer `n` captures its count (R291). -/
def Dev.captureTimer (d : Dev) (n : Nat) : Dev :=
  let d := d.set (F.GT_CAP_CAP n) (d.f (F.GT_CNT_COUNT n))
  let d := if d.on (F.GT_CTL_CAPT n) then d.set (F.GT_CTL_CAP_OVR n) 1 else d
  (d.set (F.GT_CTL_CAPT n) 1).raise 5 n

/-- The timers whose capture input is `src`: a lens, 24 QZ, 25 a PTB step (R291). -/
def Dev.capturing (d : Dev) (src : Nat) : List Nat := (List.range 12).filter fun n => d.f (F.GT_CFG_CAPSRC n) == src

/-- An accepted edge of capture input `src`: every timer that it feeds captures (R291). -/
def Dev.captureEdge (d : Dev) (src : Nat) : Dev := if d.running then (d.capturing src).foldl Dev.captureTimer d else d

/-- A course whose STEP_LENS goes high sees a load step (R112, R125). -/
def Dev.stepLens (d : Dev) (n : Nat) : Dev :=
  d.each 6 fun d c =>
    if d.f (F.C_SHED_STEP_LENS c) == n && d.delivers c then
      (d.abortTests c).modCourse c fun k => { k with stepSeen := true, calm := 0 }
    else d

/-- The presented level of lens `n` is brought up to date; an edge reaches LENS_EVTF, the timers, the courses and the
charger, which has no balancing lens with CHEM 00h (R305, R306, R291, R192, R49). -/
def Dev.presentLens (d : Dev) (n : Nat) : Dev :=
  let new := d.presented n
  if d.fbit F.LENS_OUT_OUT n == new then d
  else
    let d := d.setBit F.LENS_OUT_OUT n new
    let e := d.f (F.LENS_CFG_EDGE n)
    let d := if e == 3 || e == (if new then 1 else 2) then (d.setBit F.LENS_EVTF_EDGE n true).raise 5 15 else d
    let d := if new then (d.captureEdge n).stepLens n else d
    if d.f F.CHG_CFG_CHEM != 0 && d.f F.CHG_CFG_BAL_LENS == n then ((d.putChg { d.chg with balLevel := new })).raise 3 8 else d

/-- The node that lens `n` is assigned comes to stand at `x` microvolts (R301); every comparator that watches this node follows, but not those of a lens under
check, and the levels of the lenses assigned it are presented (R302, R305, R308). -/
def Dev.lensNode (d : Dev) (n : Nat) (x : Int) : Dev :=
  let c := d.f (F.LENS_CFG_INPUT n)
  if !d.lensUsed n then d
  else
    let d := (d.putBalls { d.balls with node := vset d.balls.node c x })
    if !d.running then d
    else
      let d := d.each 24 fun d m => if d.f (F.LENS_CFG_INPUT (d.watches m)) == c && !d.on (F.LENS_STAT_TESTING m) then d.compare m else d
      d.each 24 fun d k => if d.f (F.LENS_CFG_INPUT k) == c then d.presentLens k else d

/-- A spare serves no lens any more, in use `u`: it watches its own node again, from low (R303). -/
def Dev.leavesLens (d : Dev) (m u : Nat) : Dev := ((d.set (useField m) u).set (servesField m) 0x1F).restartLens m

/-- A spare becomes free (R309, R314). -/
def Dev.freeSpareLens (d : Dev) (m : Nat) : Dev := d.leavesLens m 0

/-- Spare `m` takes over the node of lens `n`, in use `u`, with its comparators low (R303, R309, R311). -/
def Dev.lensTakes (d : Dev) (m n u : Nat) : Dev := ((d.set (useField m) u).set (servesField m) n).restartLens m

/-- Spare `m` stands in for lens `n`: shown, EVB5 source 16, fault log (R311 step 3). -/
def Dev.lensStandin (d : Dev) (m n : Nat) : Dev :=
  let d := ((d.set (F.LENS_STAT_STANDIN n) m).set (F.LENS_STAT_STANDIN_V n) 1).set (F.LENS_STAT_UNAVAIL n) 0
  d.fault 5 16 [R.LENS_SPARE, R.LENS_STAT n]

/-- The lowest-numbered free spare (R311). -/
def Dev.freeLens (d : Dev) : Option Nat := [22, 23].find? fun m => d.f (useField m) == 0

/-- A failed lens takes a free spare, or becomes unavailable (R311, R312). -/
def Dev.assignLens (d : Dev) (n : Nat) : Dev :=
  if !d.lensUsed n then d
  else match d.freeLens with
    | some m => ((d.lensTakes m n 2).lensStandin m n).presentLens n
    | none => ((d.set (F.LENS_STAT_UNAVAIL n) 1).raise 5 17).presentLens n

/-- Failed lenses wait for their spares up to 1 ms from the first FAIL, so that the spares go in ascending lens number where further lenses fail within
it (R311 step 2, R315). -/
def Dev.lensTick (d : Dev) : Dev :=
  let due := (List.range 24).any fun n => match (vget d.lens n).waits with
    | some t => decide (t + 1000 ≤ d.pw.clock)
    | none => false
  if due then
    d.each 24 fun d n => if (vget d.lens n).waits.isSome then (d.modLens n fun x => { x with waits := none }).assignLens n else d
  else d

/-- Freed spares go to the unavailable lenses, the lowest-numbered first (R314). -/
def Dev.serveUnavail (d : Dev) : Dev :=
  d.each 24 fun d n => if d.on (F.LENS_STAT_UNAVAIL n) && d.freeLens.isSome then d.assignLens n else d

/-- The lens whose consumers a check of lens `m` concerns (R309, R315). -/
def Dev.checkedFor (d : Dev) (m : Nat) : Nat :=
  if (m == 22 || m == 23) && d.f (useField m) == 2 then d.f (servesField m) else m

/-- The cover of a check ends (R309). -/
def Dev.endCover (d : Dev) (m : Nat) : Dev :=
  let n := d.checkedFor m
  let d := d.set (F.LENS_STAT_COVERED m) 0
  match d.coverOf n with
  | some k => d.freeSpareLens k
  | none => d

/-- No automatic check of lens `m` waits or runs any more (R310). -/
def Dev.endAuto (d : Dev) (m : Nat) : Dev := d.putRecov { d.recov with autoCheck := d.recov.autoCheck.filter (· != m) }

/-- Lens `m` is reconfigured after its check; its consumers see it again (R308, R309). -/
def Dev.reconfigure (d : Dev) (m : Nat) : Dev :=
  let n := d.checkedFor m
  let d := ((d.set (F.LENS_STAT_TESTING m) 0).restartLens m).endCover m
  let d := (d.modLens n fun x => { x with held := none }).presentLens n
  (d.endAuto m).serveUnavail

/-- The lenses are configured at image apply: comparators low, failed lenses by the map, stand-ins in ascending number (R303, R313). -/
def Dev.applyLenses (d : Dev) : Dev :=
  let d := d.each 24 fun d n => d.modLens n fun x => { x with held := none, passed := false, waits := none }
  let d := d.each 24 fun d n => if (vget d.lens n).failedMap then d.set (F.LENS_STAT_FAILED n) 1 else d
  let d := [22, 23].foldl (fun d m =>
    d.set (useField m) (if (vget d.lens m).failedMap then 4 else if d.lensUsed m then 1 else 0)) d
  let d := d.each 24 fun d n => d.restartLens n
  let d := d.each 24 fun d n => if d.on (F.LENS_STAT_FAILED n) then d.assignLens n else d
  d.each 24 fun d n => d.presentLens n

end Sys2Proof.Machine
end

