-- ==== Sys2Proof/Machine/LiveOps.lean ====
section
/-!
DEFINITION. Live fields (R74 to R76): bounds, the live record, acceptance and rejection.
-/
namespace Sys2Proof.Machine

/-- A live write is rejected: the field is unchanged, LIVE_REJ sets, EVB0 source 3 (R75). -/
def Dev.liveReject (d : Dev) : Dev := (d.set F.IMGSTAT_LIVE_REJ 1).raise 0 3

/-- The throttle steps as the retained region keeps them (R329). -/
def Dev.keepSteps (d : Dev) : Dev := d.putRet { d.ret with steps := (List.range 4).map fun k => d.f (F.ZONE_STAT_STEP k) }

/-- The digest of the running image, the tag of the live record (R76). -/
def Dev.digestTag (d : Dev) : List Word := (List.range 8).map fun i => d.rd (R.IMGDIGEST i)

/-- The live record takes the value of a field; a record with another tag is begun afresh (R76). -/
def Dev.record (d : Dev) (x : Field) (v : Nat) : Dev :=
  let tag := d.digestTag
  let old := if d.live.tag = tag then d.live.entries else []
  (d.putLive { tag := tag, entries := (old.filter fun (e : LiveEntry) => e.field != x) ++ [⟨x, v⟩] })

/-- An accepted live write: the field takes the value, and the record too (R76). -/
def Dev.liveSet (d : Dev) (x : Field) (v : Nat) : Dev := (d.record x v).set x v

/-- The bound that the image carries for a live field other than a lens threshold or a slot (R74, R327). -/
def Dev.liveBound (d : Dev) (x : Field) (v : Nat) : Bool :=
  if x == F.SYS_SETPT_SETPOINT then within (d.f F.SYS_BOUNDS_SETPOINT_MIN) (d.f F.SYS_BOUNDS_SETPOINT_MAX) v
  else if x == F.SYS_LOADLINE_SLOPE then decide (v ≤ d.f F.SYS_LOADLINE_SLOPE_MAX)
  else if x == F.CHG_ICC_I_CC then decide (v ≤ d.f F.CHG_ICC_I_CC_MAX)
  else if x == F.CHG_RESV_CYC then decide (d.f F.CHG_RESV_CYC_MIN ≤ v)
  else if (List.range 6).any fun c => x == F.C_ILIM_ILIM c then decide (v ≤ d.f ⟨x.addr, 16, 16⟩)
  else if (List.range 5).any fun p => x == F.PORT_ILIM_IN p || x == F.PORT_OLIM_OUT p then decide (v ≤ d.f ⟨x.addr, 16, 16⟩)
  else if (List.range 4).any fun z => x == F.ZONE_CFG_FLOOR z then within 2 (d.f ⟨x.addr, 8, 5⟩) v
  else false

/-- A lower output limit than the current of a SOURCE ring contract, or than the one it changes to, asks for a capped offer (R238). -/
def Dev.capContract (d : Dev) (s : Nat) : Dev :=
  let i := d.f (F.PORT_OLIM_OUT (s + 2))
  let next := match (d.sg s).pend with
    | some x => x.2
    | none => 0
  if d.running && within 2 3 (d.cstate s) && d.crole s == 1 && (decide (i < d.f (F.SEG_CONTRACT_I s)) || decide (i < next)) then
    d.sendOffer s [(d.f (F.SEG_CONTRACT_V s), i)] true
  else d

/-- What an accepted value sets off at once (R74, R198, R238). -/
def Dev.liveEffect (d : Dev) (x : Field) : Dev :=
  if x == F.CHG_RESV_CYC then (if d.running then d.judgeFloor else d)
  else if x == F.PORT_OLIM_OUT 2 then d.capContract 0
  else if x == F.PORT_OLIM_OUT 3 then d.capContract 1
  else d

/-- A write of live field `x` (R74 to R76). -/
def Dev.liveWrite (d : Dev) (x : Field) (v : Nat) : Dev :=
  if d.liveBound x v then (d.liveSet x v).liveEffect x else d.liveReject

/-- The live field of a register that has one, lenses and slots apart (R74). -/
def liveField (a : Nat) : Option Field :=
  let all := [F.SYS_SETPT_SETPOINT, F.SYS_LOADLINE_SLOPE, F.CHG_ICC_I_CC, F.CHG_RESV_CYC] ++
    (List.range 6).map F.C_ILIM_ILIM ++ (List.range 5).map F.PORT_ILIM_IN ++ (List.range 5).map F.PORT_OLIM_OUT ++
    (List.range 4).map F.ZONE_CFG_FLOOR
  all.find? fun x => x.addr == a

/-- A live write of the thresholds of lens `n` (R307, R315). -/
def Dev.lensThWrite (d : Dev) (n lo hi : Nat) : Dev :=
  if !d.lensUsed n || decide (hi < lo) then d.liveReject
  else
    let d := (d.liveSet (F.LENS_TH_LO n) lo).liveSet (F.LENS_TH_HI n) hi
    let d := d.each 24 fun d m => if d.watches m == n && !d.on (F.LENS_STAT_TESTING m) then d.compare m else d
    if d.running then d.presentLens n else d

end Sys2Proof.Machine
end

