-- ==== Sys2Proof/Machine/Tiles.lean ====
section
/-!
DEFINITION. The meanings of the tile and shedding commands (R87 to R125, R411, R414): VDRV, pulse ends, arming, failures, shedding and
self-tests.
-/
namespace Sys2Proof.Machine

/-! ### Gate supply -/

/-- R88, R102: VDRV is below 7.2 V: the gates of every tile are off, armings stop, EVB1 source 31. -/
def vdrvUvlo (d : Dev) : Dev :=
  let d := (d.each 16 fun d t => ((d.set (F.TILE_STAT_VDRV_OK t) 0).setB (F.TILE_STAT_BOOT_OK t) (!d.isDump t && d.on (F.TILE_STAT_BOOT_OK t))).modTile t
    fun x => { x with gates := .off, armRuns := false })
  (d.putPw { d.pw with vdrvOk := false }).raise 1 31

/-- VDRV_UVLO (R88, R102). -/
def execVdrvUvlo (s : State) : Host.Outcome State Fault Refusal := done s (vdrvUvlo s.dev)

/-- R102: VDRV is above 7.6 V: pending armings start from their beginning; switching resumes at the next boundary, and a tile held by the crowbar has
its low side on again (R145). -/
def vdrvRecover (d : Dev) : Dev :=
  let d := d.putPw { d.pw with vdrvOk := true }
  let d := d.each 16 fun d t => ((d.set (F.TILE_STAT_VDRV_OK t) 1).setB (F.TILE_STAT_BOOT_OK t) (d.isDump t || d.on (F.TILE_STAT_BOOT_OK t))).modTile t
    fun x => { x with armRuns := d.on (F.TILE_STAT_ARMING t) && !d.holds t }
  d.each 16 fun d t => d.holdClamp t

/-- VDRV_RECOVER (R88, R102). -/
def execVdrvRecover (s : State) : Host.Outcome State Fault Refusal := done s (vdrvRecover s.dev)

/-! ### Ends of a pulse (R92 to R97) -/

/-- The comparator ends the pulse of a running tile `ton` PWM clocks after its turn-on; the complementary FET takes over (R88, R92, R96). It is blind
while the blanking lasts, and a pulse that ends inside its own dead time was none (R93): it is omitted and not counted. On a tile that the hold loop
drives, it ends a pulse of the loop (R22 step 1, R159). -/
def peakTrip (d : Dev) (t ton : Nat) : Dev :=
  if d.holds t then d.holdPulse t
  else if d.runs t && (vget d.tile t).gates == .active && !d.isDump t && decide (d.blanking t ≤ ton) then
    let omitted := decide (ton ≤ d.deadTime t (d.highActive (d.f (F.TILE_MAP_COURSE t)) t))
    let d := d.modTile t fun x => { x with gates := d.gatesAfter t ton, tripped := true, tOn := ton, pulsed := !omitted }
    if omitted then d.set (F.TILE_CYCLES_COUNT t) (d.f (F.TILE_CYCLES_COUNT t) + (2 ^ 32 - 1)) else d
  else d

/-- PEAK_CURRENT_TRIP (R96). -/
def execPeakCurrentTrip (t : Fin 16) (ton : Nat) (s : State) : Host.Outcome State Fault Refusal := done s (peakTrip s.dev t ton)

/-- The maximum on-time, PERIOD less MIN_OFF, ends the pulse without a trip (R92); the duty ends that of a dump tile (R121, R145). It ends a pulse of
the hold loop too (R159). -/
def maxOn (d : Dev) (t : Nat) : Dev :=
  let ton := d.maxOnTime (d.f (F.TILE_MAP_COURSE t)) t
  if d.holds t then d.holdPulse t
  else if (d.runs t || d.clampLimited t) && (vget d.tile t).gates == .active then
    d.modTile t fun x =>
      if d.isDump t then { x with gates := .off, maxed := true } else { x with gates := d.gatesAfter t ton, maxed := true, tOn := ton }
  else d

/-- MAX_ON_EXPIRY (R92). -/
def execMaxOnExpiry (t : Fin 16) (s : State) : Host.Outcome State Fault Refusal := done s (maxOn s.dev t)

/-- In DCM the zero crossing `tfall` PWM clocks after the active switch turned off ends the synchronous pulse (R94, R97); a suppressed one (R88) has
none to end, and the time is the same. -/
def dcmZero (d : Dev) (t tfall : Nat) : Dev :=
  let x := vget d.tile t
  let coasts := x.gates == .off && (x.tripped || x.maxed) && x.tFall == 0 && !d.isDump t
  if d.runs t && d.dcm t && (x.gates == .sync || coasts) then d.modTile t fun x => { x with gates := .off, tFall := tfall }
  else d

/-- DCM_ZERO_CROSS (R94). -/
def execDcmZeroCross (t : Fin 16) (tfall : Nat) (s : State) : Host.Outcome State Fault Refusal := done s (dcmZero s.dev t tfall)

/-! ### Failures (R100, R115 to R120) -/

/-- The running detectors' limits in cycles, causes 1 to 6 (R115). -/
def detectorCycles (cause : Nat) : Nat := if cause == 4 then 4 else if cause == 6 then 8 else 64

/-- The highest cause whose detector has reached its count (R115). -/
def firedCause (x : Tile) : Nat :=
  (List.range 7).foldl (fun m i => if 1 ≤ i && decide (detectorCycles i ≤ vget x.det i) then i else m) 0

/-- What follows a failure of a tile on its course: the self-tests of the course and a shed in progress are aborted, the shed at once for the `ramping`
tile and at the next boundary for another, HEALTHY falls, a course without a healthy slot stops, the rest is re-staggered where the tile `ran`, and a
stand-in is assigned to the slot that it leaves, if any (R117 steps 2 to 4, R118, R120, R125). -/
def afterFailure (d : Dev) (c : Nat) (slot : Option Nat) (ran ramping : Bool) : Dev :=
  let d := if ramping then ((d.cancelStagger c).endShed c).countAbort c else d
  let d := (d.abortTests c).judgeHealthy c
  let d := if d.delivers c then d.modCourse c fun k => { k with stepSeen := k.stepSeen || k.shedTile.isSome } else d
  let d := if ran && d.delivers c then (d.pendStagger c).modCourse c fun k => { k with failStagger := true } else d
  match slot with
  | some s => if d.portCode c != 6 && d.fbit (F.C_TILES_WORK_MASK c) s && d.slotOpen s then d.assignSpare c s else d
  | none => d

/-- Tile `t` fails with `cause` and `detail`, with all that follows on its course (R117). A forced ramp of its own self-test ends with it (R125). -/
def failTile (d : Dev) (t cause detail : Nat) : Dev :=
  let c := d.f (F.TILE_MAP_COURSE t)
  let slot := if d.tst t == 1 then none else some ((vget d.tile t).assigned.getD (d.slotOf t))
  let ran := d.runs t || d.tst t == 4
  let ramping := decide (c < 6) && (vget d.course c).shedTile == some t
  let d := (d.abortTest t).tileFailed t cause detail
  if c < 6 then afterFailure d c slot ran ramping else d

/-- R117: a detector has reached its count on a RUN tile of a delivering course. The highest cause counts, with its DETAIL. -/
def tileFailDetect (d : Dev) (t : Nat) : Dev :=
  let x := vget d.tile t
  let cause := firedCause x
  if d.running && d.runs t && cause != 0 then failTile d t cause (if cause == 3 then min 255 x.ratio3 else if cause < 3 then min 255 x.ratio else 0) else d

/-- TILE_FAIL_DETECT (R117). -/
def execTileFailDetect (t : Fin 16) (s : State) : Host.Outcome State Fault Refusal := done s (tileFailDetect s.dev t)

/-- R100: FORCE_FAIL takes a RUN, ARMED, SHED or SPARE tile out with cause 8; it is ignored in TEST, and where the tile has failed already. -/
def forceFail (d : Dev) (t : Nat) : Dev :=
  if d.running && within 1 4 (d.tst t) && !(vget d.fmap t).failed then failTile d t 8 0 else d

/-- FORCE_FAIL (R100). -/
def execForceFail (t : Fin 16) (s : State) : Host.Outcome State Fault Refusal := done s (forceFail s.dev t)

/-- A stand-in fills the slot of tile `t`: its arming has ended (R496). -/
def Dev.stoodFor (d : Dev) (t : Nat) : Bool := (List.range 16).any fun u => d.on (F.TILE_STAT_STANDIN_V u) && d.f (F.TILE_STAT_STANDIN u) == t

/-- The stand-in that still arms for slot `s` gives it up: it stays in its state, a spare that fills no slot (assumption 18). -/
def Dev.dismiss (d : Dev) (s : Nat) : Dev :=
  d.each 16 fun d u =>
    if (vget d.tile u).assigned == some s then
      (d.modTile u fun x => { x with assigned := none }).setMap u { vget d.fmap u with slot := none }
    else d

/-- The state that a cleared tile takes (R119): SPARE where a stand-in fills its slot; else its slot back, in SHED if the course delivers and in ARMED if
not, or for a dump tile, which never sheds (R121); a tile without a part in an enabled course is OFF (R41, R100). -/
def Dev.clearedState (d : Dev) (t : Nat) : Nat :=
  let c := d.f (F.TILE_MAP_COURSE t)
  if 6 ≤ c || !d.on (F.TILE_MAP_ROLE t) || !d.on (F.C_MAP_ENABLE c) then 0
  else if d.stoodFor t || !d.fbit (F.C_TILES_WORK_MASK c) t then 1
  else if d.delivers c && !d.isDump t then 4 else 2

/-- R119: an admitted CLEAR_FAIL removes the tile from the failure map, and the tile takes its new state at the next boundary. A refused one sets
CLEAR_REJ; one written while an admitted clear waits for its boundary does nothing (R13). -/
def clearFail (d : Dev) (t : Nat) : Dev :=
  if d.running && d.tst t == 6 && (vget d.tile t).next.isSome then d
  else if d.running && d.tst t == 6 && d.f (F.TILE_TEST_RESULT t) == 2 && (vget d.tile t).passed then
    let dest := d.clearedState t
    let d := if dest == 4 || dest == 2 then d.dismiss t else d
    let d := ((d.setMap t {}).modTile t fun x => { x with passed := false }).sendTo t dest
    d.logFault 1 t [d.rd (R.TILE_FAULT t), d.rd (R.TILE_STAT t)]
  else if d.alive then d.set (F.TILE_STAT_CLEAR_REJ t) 1
  else d

/-- CLEAR_FAIL (R119). -/
def execClearFail (t : Fin 16) (s : State) : Host.Outcome State Fault Refusal := done s (clearFail s.dev t)

/-- R496, R117 step 5, R120: an arming ends. A pass lets the tile fill its slot: it joins at the next boundary if its course delivers, and its entry is
traced there; else it stands in ARMED, and is traced at once. A fail is cause 9: EVB1 source 29 for a stand-in, and the next free spare is tried. -/
def armingDone (d : Dev) (t : Nat) (ok : Bool) : Dev :=
  let x := vget d.tile t
  let c := d.f (F.TILE_MAP_COURSE t)
  if !d.running || !d.on (F.TILE_STAT_ARMING t) || !x.armRuns then d
  else if ok then
    let d := (d.set (F.TILE_STAT_ARMING t) 0).modTile t fun x => { x with armRuns := false, assigned := none }
    match x.assigned with
    | none => if c == 1 then d.sendHoldMap else d
    | some s =>
      let d := ((d.set (F.TILE_STAT_STANDIN_V t) 1).set (F.TILE_STAT_STANDIN t) s).setMap t { vget d.fmap t with slot := some s }
      let d := if c == 1 then d.sendHoldMap else d
      if d.delivers c && !d.on (F.C_PCTL_CB_LATCH c) then d.modTile t fun x => { x with announce := true } else d.traceStandIn c t
  else
    let stand := x.assigned.isSome
    let d := if stand then (d.set (F.C_EVT_SPARE_FAIL c) 1).raise 1 29 else d
    failTile d t 9 0

/-- ARMING_DONE (R496). -/
def execArmingDone (t : Fin 16) (ok : Bool) (s : State) : Host.Outcome State Fault Refusal := done s (armingDone s.dev t ok)

/-! ### Shedding (R108 to R113) -/

/-- The conditions under which a course sheds (R108, R120). -/
def Dev.maySched (d : Dev) (c : Nat) : Bool :=
  d.running && d.on (F.C_MAP_SHED_EN c) && !d.on (F.C_CTL_SHED_HOLD c) && d.delivers c && !d.sparesArming c &&
  !(d.tilesOf c).any (fun t => d.tst t == 5) && decide (d.f (F.C_MAP_MIN_PHASES c) < (d.runTiles c).length) &&
  d.f (F.C_STAT_SHED_ST c) == 0 && !d.on (F.C_PCTL_CB_LATCH c) && d.portCode c != 6

/-- R108, R109: the dwell count has completed; the running tile of highest rank starts a shed ramp. A simultaneous add wins (R113). -/
def shedStart (d : Dev) (c : Nat) : Dev :=
  let k := vget d.course c
  if d.maySched c && decide (16 * d.f (F.C_SHED_DWELL c) ≤ k.dwell) && !k.addAll && !k.stepSeen then
    match (d.ranked c).getLast? with
    | some t => d.startRamp c t
    | none => d
  else d

/-- SHED_START (R108). -/
def execShedStart (c : Fin 6) (s : State) : Host.Outcome State Fault Refusal := done s (shedStart s.dev c)

/-- R109, R110: after N ramp cycles the tile enters SHED with its PWM generator cleared, and the re-stagger for the rest becomes pending. A
forced ramp of a self-test leads to TEST instead (R124). -/
def shedRampEnd (d : Dev) (c : Nat) : Dev :=
  let k := vget d.course c
  match k.shedTile with
  | none => d
  | some t =>
    if d.running && d.f (F.C_STAT_SHED_ST c) == 1 && k.rampOver then
      let off := d.f (F.TILE_PHASE_OFFSET t)
      let d := (d.setTst t 4).modTile t fun x => { x with gates := .off, former := off }
      let d := ((d.set (F.TILE_STAT_SHEDDING t) 0).set (F.TILE_PHASE_OFFSET t) 0).set (F.TILE_IPK_DAC t) 0
      let d := d.courseEvt c (F.C_EVT_SHED_DONE c)
      (d.pendStagger c).set (F.C_STAT_SHED_ST c) 2
    else d

/-- SHED_RAMP_END (R109). -/
def execShedRampEnd (c : Fin 6) (s : State) : Host.Outcome State Fault Refusal := done s (shedRampEnd s.dev c)

/-- Every SHED tile is to return at the next boundary, and a shed in progress is aborted there (R111, R112). The conditions of an add are a load step, which
aborts the self-tests of the course (R125). `mark` notes who asks. -/
def Dev.askAddAll (d : Dev) (c : Nat) (mark : Course → Course) : Dev :=
  let d := d.abortTests c
  let shedding := (vget d.course c).shedTile.isSome
  if (d.shedTiles c).isEmpty && !shedding then d
  else
    let d := d.modCourse c mark
    if shedding then d else d.set (F.C_STAT_SHED_ST c) 3

/-- ADD_ALL returns every SHED tile at the next boundary (R111). Written again before that, it does nothing (R13). -/
def addAll (d : Dev) (c : Nat) : Dev :=
  if d.running && d.delivers c && !(vget d.course c).addAll then d.askAddAll c fun k => { k with addAll := true } else d

/-- ADD_ALL (R111). -/
def execAddAll (c : Fin 6) (s : State) : Host.Outcome State Fault Refusal := done s (addAll s.dev c)

/-- A waiting disable of shedding is cancelled: what it had asked for at the next boundary is not done, and what acted at once stands (R410). -/
def Dev.cancelHold (d : Dev) (c : Nat) : Dev :=
  let k := vget d.course c
  let d := (d.setBit F.FUNC_PEND_SHED c false).modCourse c fun k => { k with holdAll := false }
  d.onlyIf (k.holdAll && !k.addAll && !k.stepSeen && d.f (F.C_STAT_SHED_ST c) == 3) fun d => d.set (F.C_STAT_SHED_ST c) 0

/-- R408 to R411: SHED_HOLD at 1 starts no shed and returns every SHED tile; FUNC_PEND.SHED reads 1 until every SHED tile runs. Written 0, it
cancels a waiting disable. -/
def shedHold (d : Dev) (c : Nat) (v : Bool) : Dev :=
  if !d.alive then d
  else
    let was := d.on (F.C_CTL_SHED_HOLD c)
    let d := d.setB (F.C_CTL_SHED_HOLD c) v
    if v && !was && (!(d.shedTiles c).isEmpty || (vget d.course c).shedTile.isSome) then
      let d := d.setBit F.FUNC_PEND_SHED c true
      if d.delivers c then d.askAddAll c fun k => { k with holdAll := true } else d
    else if v && !was && d.delivers c then d.abortTests c
    else if !v then d.cancelHold c
    else d

/-- SHED_HOLD (R409). -/
def execShedHold (c : Fin 6) (v : Bool) (s : State) : Host.Outcome State Fault Refusal := done s (shedHold s.dev c v)

/-! ### Dump tiles (R122) -/

/-- R122: the energy account has reached E_MAX, which sets the power limit, or has fallen below E_MAX / 2, which lifts it; LOn of a tile that the crowbar
holds follows (R145). The account is in units of 2.5 × 10⁻¹² J. -/
def dumpLimit (d : Dev) (t : Nat) : Dev :=
  let c := d.f (F.TILE_MAP_COURSE t)
  let big := d.f (F.TILE_DUMP_E_MAX t) * 4000000000000
  let e := (vget d.tile t).energy
  if !d.isDump t then d
  else if !d.on (F.TILE_DUMPSTAT_LIMITED t) && decide (big ≤ e) then
    (((d.set (F.TILE_DUMPSTAT_LIMITED t) 1).set (F.C_EVT_DUMP_LIMIT c) 1).raise 1 30).holdClamp t
  else if d.on (F.TILE_DUMPSTAT_LIMITED t) && decide (2 * e < big) then (d.set (F.TILE_DUMPSTAT_LIMITED t) 0).holdClamp t
  else d

/-- DUMP_ENERGY_LIMIT (R122). -/
def execDumpEnergyLimit (t : Fin 16) (s : State) : Host.Outcome State Fault Refusal := done s (dumpLimit s.dev t)

/-! ### Self-tests (R124, R125, R411, R414) -/

/-- R124: TEST_START requests a self-test of the steps of TEST_SEL, which waits for admission. While one waits or runs, it does nothing (R13). -/
def testStart (d : Dev) (t : Nat) : Dev :=
  if d.running && d.f (F.TILE_TEST_RESULT t) != 1 && !d.on (F.TILE_STAT_TEST_PENDING t) then
    ((d.set (F.TILE_STAT_TEST_PENDING t) 1).set (F.TILE_CTL_TEST_START t) 1).modTile t fun x => { x with testSel := d.f (F.TILE_CTL_TEST_SEL t) }
  else d

/-- TILE_TEST_START (R124). -/
def execTileTestStart (t : Fin 16) (s : State) : Host.Outcome State Fault Refusal := done s (testStart s.dev t)

/-- The limit of course `c` with one working tile out: Cn_ILIM × (HEALTHY − 1) / WORKCFG × step / 16, in 10 mA × 16 × WORKCFG (R411). -/
def Dev.calmLoad (d : Dev) (c : Nat) : Bool :=
  let k := vget d.course c
  let n := k.demands.length
  let sum := k.demands.foldl (· + ·) 0
  decide (sum * 100 * d.workCfg c * 16 ≤
    d.f (F.C_ILIM_ILIM c) * (d.healthy c - 1) * d.zoneStep c * (100 - d.f F.ST_CFG_MARGIN) * max 1 n)

/-- The admission conditions of a tile self-test (R411). A tile that the crowbar holds leaves it only when the latch clears (R145), one that the
hold loop drives is taken back first (R160), and one that is on its way out of TEST has to leave it (R100). An OFF, SPARE or FAILED tile, or one of an idle
course, is admitted at once, as R411 says, though a shed or takeover runs, for which R120 has a test wait (assumption 57). -/
def Dev.testAdmitted (d : Dev) (t : Nat) : Bool :=
  let c := d.f (F.TILE_MAP_COURSE t)
  let st := d.tst t
  if (vget d.tile t).clamp || d.holds t || st == 5 then false
  else if st == 0 || st == 1 || st == 6 || 6 ≤ c then true
  else if d.isDump t then d.f F.SYS_STAT_SURP_ST != 3 && (match d.sys.dumpSeen with | some u => decide (u + 1000000 ≤ d.pw.clock) | none => true)
  else if !d.delivers c then true
  else
    let k := vget d.course c
    d.f (F.C_STAT_SHED_ST c) == 0 && !k.addAll && !d.on (F.C_STAT_STAGGER_PEND c) && !d.sparesArming c &&
    !d.on (F.C_PCTL_CB_LATCH c) && !d.on (F.C_PCTL_MM_FAULT c) && decide (16 ≤ k.calm) &&
    (st != 3 || decide (2 ≤ (d.runTiles c).length)) && !(d.tilesOf c).any (fun u => u != t && d.tst u == 5) && d.calmLoad c

/-- R411, R100: the test is admitted. A RUN tile starts a forced shed ramp, in which no step runs yet; any other enters TEST. One that waited for a boundary
to change its state, after a stop of its course or an admitted clear, comes back to the state that it waited for (assumption 18). -/
def testAdmit (d : Dev) (t : Nat) : Dev :=
  let c := d.f (F.TILE_MAP_COURSE t)
  if d.running && d.on (F.TILE_STAT_TEST_PENDING t) && d.testAdmitted t then
    let st := d.tst t
    let d := (d.set (F.TILE_STAT_TEST_PENDING t) 0).set (F.TILE_TEST_RESULT t) 1
    let d := (d.set (F.TILE_TEST_STEP t) 0).set (F.TILE_TEST_MEAS t) 0
    if st == 3 && d.delivers c then
      (d.modTile t fun x => { x with testFrom := 3, testRamp := true }).startRamp c t
    else (d.modTile t fun x => { x with testFrom := x.next.getD st }).enterTest t
  else d

/-- TILE_TEST_ADMIT (R411). -/
def execTileTestAdmit (t : Fin 16) (s : State) : Host.Outcome State Fault Refusal := done s (testAdmit s.dev t)

/-- Step `i` passes with what it measured (R124). The full-scale input spans 5120/3 ADC steps (R301), of which 2 % are the bound of step 3; step 5 runs
only with 12 V across the half-bridge. -/
def stepPasses (r : TestReading) (i : Nat) : Bool :=
  if i == 1 then decide (r.rise ≤ 150) && decide (r.fall ≤ 100)
  else if i == 2 then decide (r.charge ≤ 400) && decide (r.droop ≤ 100)
  else if i == 3 then decide (r.offset.natAbs * 150 ≤ 5120)
  else if i == 4 then decide (r.gain.natAbs ≤ 30) && within 509 515 r.trip
  else decide (r.volts < 1200) || within 75 133 r.ratio

/-- What MEAS reports of step `i`, in the unit of R124. -/
def stepMeas (r : TestReading) (i : Nat) : Nat :=
  if i == 1 then max r.rise r.fall else if i == 2 then r.droop else if i == 3 then toTwos 16 r.offset else if i == 4 then toTwos 16 r.gain
  else if i == 5 then r.ratio else 0

/-- TRIM.GAIN that corrects a gain error in 0.1 %: 1 / (1 + error) in steps of 1/32 768, rounded to nearest (assumption 69). -/
def gainTrim (e : Int) : Nat := divRound 32768000 (1000 + e).toNat

/-- The trims that the steps of a self-test write, each as it passes (R124). -/
def Dev.writeTrims (d : Dev) (t : Nat) (steps : List Nat) (r : TestReading) : Dev :=
  let d := if steps.contains 3 then d.setI (F.TILE_TRIM_OFFSET t) (-r.offset) else d
  if steps.contains 4 then d.set (F.TILE_TRIM_GAIN t) (gainTrim r.gain) else d

/-- R125: a self-test ends with what its steps measured, and those that passed write their trims. On a pass the tile goes back to the state it came
from, RUN through SHED and an add; STEP and MEAS stay those of the last step. On the first step that fails it enters FAILED with cause 7. -/
def testEnd (d : Dev) (t : Nat) (r : TestReading) : Dev :=
  if !(d.running && d.tst t == 5 && d.f (F.TILE_TEST_RESULT t) == 1) then d
  else
    let x := vget d.tile t
    let c := d.f (F.TILE_MAP_COURSE t)
    let steps := d.testSteps t
    let d := ((d.set (F.TILE_CTL_TEST_START t) 0).raise 1 28).writeTrims t (steps.takeWhile (stepPasses r)) r
    match steps.find? fun i => !stepPasses r i with
    | none =>
      let last := steps.getLastD 0
      let d := ((d.set (F.TILE_TEST_RESULT t) 2).set (F.TILE_TEST_STEP t) last).set (F.TILE_TEST_MEAS t) (stepMeas r last)
      (d.modTile t fun x => { x with passed := x.testFrom == 6 }).leaveTest t
    | some step =>
      let slot := if within 2 5 x.testFrom then some (d.slotOf t) else none
      let d := ((d.set (F.TILE_TEST_RESULT t) 3).set (F.TILE_TEST_STEP t) step).set (F.TILE_TEST_MEAS t) (stepMeas r step)
      let d := d.tileFailed t 7 step
      if c < 6 then afterFailure d c slot false false else d

/-- TILE_TEST_END (R125), with what the steps measured (R124). -/
def execTileTestEnd (t : Fin 16) (r : TestReading) (s : State) : Host.Outcome State Fault Refusal := done s (testEnd s.dev t r)

/-- R125, R409: TEST_ABORT drops a pending request, or aborts a running test. A forced ramp ends with it, and the tile's code returns; a forced shed
that has reached SHED completes, and the tile returns at the next add (assumption 18). -/
def testAbort (d : Dev) (t : Nat) : Dev :=
  if !d.running then d
  else if d.on (F.TILE_STAT_TEST_PENDING t) then
    (((d.set (F.TILE_STAT_TEST_PENDING t) 0).set (F.TILE_CTL_TEST_START t) 0).set (F.TILE_TEST_RESULT t) 4).raise 1 28
  else
    let c := d.f (F.TILE_MAP_COURSE t)
    let ramp := (vget d.tile t).testRamp && decide (c < 6) && d.f (F.C_STAT_SHED_ST c) == 1
    let d := (d.set (F.TILE_CTL_TEST_START t) 0).abortTest t
    if ramp then d.endShed c else d

/-- TILE_TEST_ABORT (R125). -/
def execTileTestAbort (t : Fin 16) (s : State) : Host.Outcome State Fault Refusal := done s (testAbort s.dev t)

end Sys2Proof.Machine
end

