-- ==== Sys2Proof/Machine/PositionOps.lean ====
section
/-!
DEFINITION. Actions of slots and timers, the position time base, the slots, and the timers' ticks (Position Time Base and Timers).
-/
namespace Sys2Proof.Machine

/-! ### Timers: shadows and commands (R285 to R289) -/

/-- The shadows of timer `n` become ACTIVE and PEND clears (R289). -/
def Dev.loadShadows (d : Dev) (n : Nat) : Dev :=
  ((d.set (F.GT_PERIOD_ACTIVE n) (d.f (F.GT_PERIOD_PERIOD n))).set (F.GT_CMP_ACTIVE n) (d.f (F.GT_CMP_CMP n))).set (F.GT_CTL_PEND n) 0

/-- START of timer `n` (R288). -/
def Dev.timerStart (d : Dev) (n : Nat) : Dev := d.set (F.GT_CTL_RUNNING n) 1

/-- STOP of timer `n` (R288). -/
def Dev.timerStop (d : Dev) (n : Nat) : Dev := d.set (F.GT_CTL_RUNNING n) 0

/-- RESET of timer `n`: count 0 and shadows loaded, without an overflow (R288). -/
def Dev.timerReset (d : Dev) (n : Nat) : Dev := (d.set (F.GT_CNT_COUNT n) 0).loadShadows n

/-- A PERIOD, or a compare value, written to timer `n`: into the shadow with PEND, or ACTIVE at once (R289). -/
def Dev.timerPeriod (d : Dev) (n v : Nat) : Dev :=
  let d := d.set (F.GT_PERIOD_PERIOD n) v
  if d.on (F.GT_CFG_SHADOW n) then d.set (F.GT_CTL_PEND n) 1 else d.set (F.GT_PERIOD_ACTIVE n) v
def Dev.timerCompare (d : Dev) (n v : Nat) : Dev :=
  let d := d.set (F.GT_CMP_CMP n) v
  if d.on (F.GT_CFG_SHADOW n) then d.set (F.GT_CTL_PEND n) 1 else d.set (F.GT_CMP_ACTIVE n) v

/-- An action sets the count of timer `n`: in that logic clock a tick of the timer is lost (R296). -/
def Dev.actReset (d : Dev) (n : Nat) : Dev := (d.timerReset n).putGtSet (n :: d.gtSet)
def Dev.actLoad (d : Dev) (n v : Nat) : Dev := (d.set (F.GT_CNT_COUNT n) v).putGtSet (n :: d.gtSet)

/-! ### Actions (R283) -/

/-- An action reaches its target (R283); the live-field ones are live writes of the whole argument, which a field's bound rejects if
the field cannot hold it (R282). -/
def Dev.act (d : Dev) (code target arg : Nat) : Dev :=
  if code == 0x01 then (d.putPrism { d.prism with trig := d.prism.trig ++ [target] })
  else if code == 0x02 then (if target < 8 then d.dmaRequest target else d)
  else if code == 0x03 then d.timerStart target
  else if code == 0x04 then d.timerStop target
  else if code == 0x05 then d.actReset target
  else if code == 0x06 then d.loadShadows target
  else if code == 0x07 then d.askOpen 2
  else if code == 0x08 then d.askClose 2
  else if code == 0x09 then d.set F.SYS_SURPLUS_ARM 1
  else if code == 0x0A then d.set F.SYS_SURPLUS_ARM 0
  else if code == 0x0B then shedHold d target true
  else if code == 0x0C then shedHold d target false
  else if code == 0x0D then addAll d target
  else if code == 0x10 then d.liveWrite F.SYS_SETPT_SETPOINT arg
  else if code == 0x11 then d.liveWrite F.SYS_LOADLINE_SLOPE arg
  else if code == 0x12 then d.liveWrite (F.C_ILIM_ILIM target) arg
  else if code == 0x13 then d.liveWrite (F.PORT_ILIM_IN target) arg
  else if code == 0x14 then d.liveWrite F.CHG_ICC_I_CC arg
  else if code == 0x15 then d.actLoad target (arg % 65536)
  else d

/-! ### Ticks of timers (R285, R286, R290, R292, R293) -/

/-- The action of timer `n`, if ACT_ON chooses it: 0 overflow, 1 match, 2 both (R290). -/
def Dev.timerAct (d : Dev) (n on : Nat) : Dev :=
  let a := d.f (F.GT_CFG_ACT_ON n)
  if a == on || a == 2 then d.act (d.f (F.GT_MAP_ACTION n)) (d.f (F.GT_MAP_TARGET n)) 0 else d

/-- A master gives its slaves a level while its count is below its compare value (R292). -/
def Dev.masterLevel (d : Dev) (m : Nat) : Bool := decide (d.f (F.GT_CNT_COUNT m) < d.f (F.GT_CMP_ACTIVE m))

/-- The timer counts a tick that comes now: it runs and, as a gated slave, its master's level is high (R292). -/
def Dev.timerCounts (d : Dev) (n : Nat) : Bool :=
  d.on (F.GT_CTL_RUNNING n) && (d.f (F.GT_CFG_SMODE n) != 1 || d.masterLevel (d.f (F.GT_MAP_MASTER n)))

/-- A tick as its count alone sees it: overflow, match, the new count (R285, R288, R289). -/
def Dev.tickCount (d : Dev) (n : Nat) : Bool × Bool × Dev :=
  let ovf := decide (d.f (F.GT_PERIOD_ACTIVE n) ≤ d.f (F.GT_CNT_COUNT n))
  let d := if ovf then
      let d := ((d.set (F.GT_CNT_COUNT n) 0).set (F.GT_CTL_OVF n) 1).loadShadows n
      if d.on (F.GT_CFG_ONESHOT n) then d.timerStop n else d
    else d.inc (F.GT_CNT_COUNT n)
  let hit := d.f (F.GT_CNT_COUNT n) == d.f (F.GT_CMP_ACTIVE n)
  (ovf, hit, if hit then d.set (F.GT_CTL_MATCH n) 1 else d)

/-- A master's pulse, `p` 0 for an overflow and 1 for a match, names these slaves (R292). -/
def Dev.pulsed (d : Dev) (n p : Nat) : List Nat :=
  if n < 4 && d.f (F.GT_CFG_TRGO n) == p then (List.range 12).filter fun k => k != n && d.f (F.GT_MAP_MASTER k) == n else []

/-- Timer `n` counts a tick of a logic clock before which the device stood at `was`: a gated slave goes by its master's level of the clock before (R292). -/
def Dev.takesTick (was d : Dev) (n : Nat) : Bool :=
  d.on (F.GT_CTL_RUNNING n) && (d.f (F.GT_CFG_SMODE n) != 1 || was.masterLevel (d.f (F.GT_MAP_MASTER n))) && !d.gtSet.contains n

/-- A tick of timer `n`, with the timers that its overflow carries into in the same logic clock, to a depth of `fuel`; each overflow (0) and match (1) is
added to `x.2`. A tick is lost where an action has set the count in its clock (R293, R296). -/
def Dev.clockTick (was : Dev) : Nat → Dev × List (Nat × Nat) → Nat → Dev × List (Nat × Nat)
  | 0, x, _ => x
  | fuel + 1, x, n =>
    if !x.1.takesTick was n then x
    else
      let (ovf, hit, d) := x.1.tickCount n
      let d := if ovf then (d.raise 5 n).timerAct n 0 else d
      let d := if hit then (d.raise 5 n).timerAct n 1 else d
      let ps := x.2 ++ (if ovf then [(n, 0)] else []) ++ (if hit then [(n, 1)] else [])
      if ovf && n < 11 && d.f (F.GT_MAP_CLOCK (n + 1)) == 2 then Dev.clockTick was fuel (d, ps) (n + 1) else (d, ps)

/-- Logic clocks from one in which the timers `ticks` tick and their masters' pulses reset `resets`: every slave acts one clock after its master's tick
(R292), and a slave's own overflow is raised before the reset that ends at 0 (R296). -/
def Dev.clocks : Nat → Dev → List Nat → List Nat → Dev
  | 0, d, _, _ => d
  | fuel + 1, d, ticks, resets =>
    if ticks.isEmpty && resets.isEmpty then d
    else
      let x := ticks.foldl (Dev.clockTick d 12) (d, [])
      let slaves := x.2.flatMap fun p => x.1.pulsed p.1 p.2
      let d := (resets.foldl Dev.timerReset x.1).putGtSet []
      Dev.clocks fuel d (slaves.filter fun k => d.f (F.GT_MAP_CLOCK k) == 3)
        (slaves.filter fun k => d.f (F.GT_MAP_CLOCK k) != 3 && d.f (F.GT_CFG_SMODE k) == 2)

/-- A tick of timer `n` in the present logic clock. -/
def Dev.timerTick (d : Dev) (n : Nat) : Dev := Dev.clocks 16 d [n] []

/-! ### Position (R274 to R276) -/

/-- The interpolated position `t` logic clocks after the last step (R274). From step count 0 in reverse it stays 0: the step there is a jump
(R276). -/
def Dev.posAt (d : Dev) (t : Nat) : Nat :=
  let i := d.ptb.count
  let ivl := d.f F.PTB_IVL_IVL
  if !d.ptb.interp || !d.on F.PTB_CFG_INTERP || ivl == 0 then i * 65536
  else
    let q := 65536 * t / ivl
    if d.on F.PTB_STAT_DIR then
      (if t == 0 || i == 0 then i * 65536 else ((i + 2 ^ 32 - 1) % 2 ^ 32) * 65536 + max 1 (65535 - min q 65534))
    else i * 65536 + min q 65535

/-- The position shown and compared last becomes `p`. -/
def Dev.putPos (d : Dev) (p : Nat) : Dev := (d.putPtb { d.ptb with pos := p }).set F.PTB_FRAC_FRAC (p % 65536)

/-- Slot `k` is enabled. -/
def Dev.slotOn (d : Dev) (k : Nat) : Bool := d.on (F.SLOT_MAP_EN k)

/-- The arming bits of slot `k` at a jump, an image apply or an accepted write (R278). -/
def Dev.armSlot (d : Dev) (k : Nat) : Dev :=
  if !d.slotOn k then d
  else
    let pos := vget d.slotPos k
    (d.setB (F.SLOT_MAP_ARM_F k) (decide (d.ptb.pos ≤ pos))).setB (F.SLOT_MAP_ARM_R k) (decide (pos < d.ptb.pos))

/-- The re-arming of slot `k` at the present position (R278). -/
def Dev.rearmSlot (d : Dev) (k : Nat) : Dev :=
  if !d.slotOn k then d
  else
    let pos := vget d.slotPos k
    let dist := d.f F.PTB_CFG_REARM * 65536
    let d := if d.ptb.pos + dist ≤ pos then d.set (F.SLOT_MAP_ARM_F k) 1 else d
    if pos + dist < d.ptb.pos then d.set (F.SLOT_MAP_ARM_R k) 1 else d

/-- Slot `k` fires in a movement from `p` to `q` (R278, R280): 1 forward, 2 in reverse, 0 not. -/
def Dev.slotFires (d : Dev) (k p q : Nat) : Nat :=
  let pos := vget d.slotPos k
  if !d.slotOn k || (d.on F.PTB_CFG_NEED_HOME && !d.on F.PTB_STAT_HOMED) then 0
  else if decide (p ≤ pos) && decide (pos < q) && d.on (F.SLOT_MAP_ARM_F k) then 1
  else if decide (pos < p) && decide (q ≤ pos) && d.on (F.SLOT_MAP_BOTH k) && d.on (F.SLOT_MAP_ARM_R k) then 2
  else 0

/-- The logic clock after the last step in which the interpolated position passes slot `k`: the first in which the fraction lies beyond it (R274, R278). -/
def Dev.passClock (d : Dev) (k : Nat) : Nat :=
  let frac := vget d.slotPos k % 65536
  let far := if d.on F.PTB_STAT_DIR then 65535 - frac else frac + 1
  max 1 ((far * d.f F.PTB_IVL_IVL + 65535) / 65536)

/-- An entry takes its place by its first number, after the entries that have the same. -/
def insertByFirst (x : Nat × Nat × Nat) : List (Nat × Nat × Nat) → List (Nat × Nat × Nat)
  | [] => [x]
  | y :: t => if y.1 ≤ x.1 then y :: insertByFirst x t else x :: y :: t

/-- The slots that fire in a movement from `p` to `q`: clock, slot and direction, by the clock in which each is passed, and within one clock in ascending
slot number (R279). A step moves the position in one clock. -/
def Dev.firedSlots (d : Dev) (p q : Nat) (inTime : Bool) : List (Nat × Nat × Nat) :=
  (List.range 32).foldl (fun l k =>
    if d.slotFires k p q == 0 then l else insertByFirst (if inTime then d.passClock k else 0, k, d.slotFires k p q) l) []

/-- The position moves to `q`, over some logic clocks or in one: the slots it passes fire with their actions, then every slot re-arms (R278, R279). The prism
sees the integer part (R365). -/
def Dev.movePos (d : Dev) (q : Nat) (inTime : Bool) : Dev :=
  let p := d.ptb.pos
  if p == q then d
  else
    let fired := d.firedSlots p q inTime
    let d := d.putPos q
    let d := (fired.map (·.2)).foldl (fun d (x : Nat × Nat) =>
      let d := d.set (if x.2 == 1 then F.SLOT_MAP_ARM_F x.1 else F.SLOT_MAP_ARM_R x.1) 0
      ((d.setBit F.PTB_HIT_HIT x.1 true).raise 5 12).act (d.f (F.SLOT_MAP_ACTION x.1)) (d.f (F.SLOT_MAP_TARGET x.1)) (d.f (F.SLOT_ARG_ARG x.1))) d
    let d := d.each 32 Dev.rearmSlot
    if p / 65536 == q / 65536 then d else d.result 0x58 (ofTwos 16 (q / 65536 % 65536))

/-- A jump to step count `i`, fraction 0: no slot fires, no timer ticks, the slots take their arming bits (R276, R278). The prism sees a changed
integer part (R365). -/
def Dev.jumpTo (d : Dev) (i : Nat) : Dev :=
  let p := d.ptb.pos
  let d := (d.putPtb { d.ptb with count := i, interp := false }).putPos (i * 65536)
  let d := ((d.set F.PTB_STAT_JUMP 1).raise 5 13).each 32 Dev.armSlot
  if p / 65536 == i then d else d.result 0x58 (ofTwos 16 (i % 65536))

/-- The PTB counts a source now. -/
def Dev.ptbOn (d : Dev) : Bool := d.running && d.on F.PTB_STAT_RUN

/-- `t` logic clocks have passed since the last step: the position interpolates up to then, unless it is stalled (R274, R275). -/
def Dev.ptbTime (d : Dev) (t : Nat) : Dev :=
  if !d.ptbOn || t ≤ d.ptb.since then d
  else
    let d := (d.putPtb { d.ptb with since := t })
    if d.on F.PTB_STAT_STALLED then d else (d.movePos (d.posAt t) true).putGtSet []

/-- Timers that count PTB steps tick (R286). -/
def Dev.ptbTicks (d : Dev) (rev : Bool) : Dev :=
  Dev.clocks 16 d ((List.range 12).filter fun n => d.f (F.GT_MAP_CLOCK n) == 1 && (!rev || d.on (F.GT_CFG_PTB_BOTH n))) []

/-- A step in direction `rev`, `ivl` logic clocks after the last (R274, R276). In its clock the captures of PTB steps take their counts (R291), the slots
fire, and then the timers tick whose count no action has set (R296). -/
def Dev.ptbStep (d : Dev) (rev : Bool) (ivl : Nat) : Dev :=
  let d := (d.ptbTime (ivl - 1)).captureEdge 25
  let i := d.ptb.count
  let j := if rev then (i + 2 ^ 32 - 1) % 2 ^ 32 else (i + 1) % 2 ^ 32
  let wrap := (if rev then i == 0 else j == 0)
  let same := d.ptb.stepped && d.on F.PTB_STAT_DIR == rev
  let d := d.set F.PTB_IVL_IVL (if same then min ivl (2 ^ 32 - 1) else 0)
  let d := (d.setB F.PTB_STAT_DIR rev).set F.PTB_STAT_STALLED 0
  let d := if within 2 3 (d.f F.PTB_MAP_SOURCE) then d.set F.PTB_STAT_HOMED 1 else d
  let d := (d.putPtb { d.ptb with since := 0, stepped := true, counted := true })
  if wrap then
    let d := d.jumpTo j
    (d.putPtb { d.ptb with interp := same })
  else
    let d := (d.putPtb { d.ptb with count := j, interp := same })
    ((d.movePos (j * 65536) false).ptbTicks rev).putGtSet []

/-- A rising edge of the mains lens, `ivl` logic clocks after the last counted one: within BLANK milliseconds it is ignored and counted (R272). -/
def Dev.mainsEdge (d : Dev) (ivl : Nat) : Dev :=
  if d.ptb.counted && decide (ivl < d.f F.PTB_CFG_BLANK * 100000) then d.incSat F.PTB_ERR_BLANKED else d.ptbStep false ivl

/-- The lens that a time base with SOURCE 02h counts has risen since `before` (R272, R305). -/
def Dev.lensCounted (before d : Dev) : Dev :=
  let n := d.f F.PTB_MAP_LENS
  if d.ptbOn && d.f F.PTB_MAP_SOURCE == 2 && d.fbit F.LENS_OUT_OUT n && !before.fbit F.LENS_OUT_OUT n then d.mainsEdge d.ptb.since else d

end Sys2Proof.Machine
end

