-- ==== Sys2Proof/Machine/Position.lean ====
section
/-!
DEFINITION. The meanings of the commands of the position time base, the slots and the timers (R269 to R296).
-/
namespace Sys2Proof.Machine

/-! ### Position time base -/

/-- A level that has held for FILT + 1 samples is accepted (R270). -/
def Dev.accepts (d : Dev) (held : Nat) : Bool := decide (d.f F.PTB_CFG_FILT + 1 ≤ held)

/-- The accepted levels of QA and QB become these. -/
def Dev.putQuad (d : Dev) (qa qb : Bool) : Dev := (d.putPtb { d.ptb with qa := qa, qb := qb })

/-- R270: QA and QB change in the same logic clock, to levels that then hold for `held` samples: no step, counted. -/
def quadError (d : Dev) (held : Nat) : Dev :=
  if d.ptbOn && d.f F.PTB_MAP_SOURCE == 1 && d.accepts held then
    (((d.putQuad (!d.ptb.qa) (!d.ptb.qb)).incSat F.PTB_ERR_QERR).set F.PTB_STAT_QERR 1).raise 5 14
  else d

/-- QUADRATURE_ERROR (R270). -/
def execQuadratureError (held : Nat) (s : State) : Host.Outcome State Fault Refusal := done s (quadError s.dev held)

/-- R270: a sample of QA and QB. A rising edge of QA while QB is low, and of QB while QA is high, is forward; a falling edge has the direction that keeps this
phase of the two (assumption 76). REV exchanges the directions. -/
def Dev.quadStep (d : Dev) (q : QuadSample) (ivl : Nat) : Dev :=
  let a := q.qa != d.ptb.qa
  let b := q.qb != d.ptb.qb
  if !d.accepts q.held || !(a || b) then d
  else if a && b then quadError d q.held
  else
    let fwd := if a then q.qa != q.qb else q.qa == q.qb
    (d.putQuad q.qa q.qb).ptbStep (fwd == d.on F.PTB_MAP_REV) ivl

/-- R269 to R274: an edge of the source, `ivl` logic clocks after the last counted step. A mains edge within BLANK milliseconds of the last counted one is
ignored and counted (R272). Each edge is one command: this one, or the change of the lens's node (R272) or the TELEM (R273) that makes it (assumption 76). -/
def ptbStepCmd (d : Dev) (q : QuadSample) (ivl : Nat) : Dev :=
  if !d.ptbOn then d
  else
    let src := d.f F.PTB_MAP_SOURCE
    if src == 1 then d.quadStep q ivl
    else if src == 2 then d.mainsEdge ivl
    else d.ptbStep false ivl

/-- PTB_STEP (R274). -/
def execPtbStep (q : QuadSample) (ivl : Nat) (s : State) : Host.Outcome State Fault Refusal := done s (ptbStepCmd s.dev q ivl)

/-- R271, R291: a rising edge of QZ whose level then holds for `held` samples, `t` logic clocks after the last step: the timers that it feeds capture, and
with QZ_CLR set it clears the position, whatever the source. -/
def qzClear (d : Dev) (t held : Nat) : Dev :=
  if !(d.running && d.accepts held) then d
  else if !d.on F.PTB_MAP_QZ_CLR then d.captureEdge 24
  else
    let d := (d.ptbTime t).captureEdge 24
    let d := d.set F.PTB_QZ_INT (d.ptb.pos / 65536)
    ((d.jumpTo 0).set F.PTB_STAT_INDEX 1).set F.PTB_STAT_HOMED 1

/-- QZ_CLEAR (R271). -/
def execQzClear (t held : Nat) (s : State) : Host.Outcome State Fault Refusal := done s (qzClear s.dev t held)

/-- R275: no step for STALL × 10 ms. -/
def ptbStall (d : Dev) : Dev :=
  if !d.ptbOn || d.on F.PTB_STAT_STALLED then d
  else
    let d := d.ptbTime (d.f F.PTB_CFG_STALL * 1000000)
    let d := ((d.set F.PTB_STAT_STALLED 1).set F.PTB_IVL_IVL 0).raise 5 14
    (d.putPtb { d.ptb with stepped := false, interp := false })

/-- PTB_STALL (R275). -/
def execPtbStall (s : State) : Host.Outcome State Fault Refusal := done s (ptbStall s.dev)

/-- R276: PTB_CTL.SET loads PTB_SETV as a jump and sets HOMED. -/
def ptbSet (d : Dev) : Dev := if d.running then (d.jumpTo (d.f F.PTB_SETV_VALUE)).set F.PTB_STAT_HOMED 1 else d

/-- PTB_SET (R276). -/
def execPtbSet (s : State) : Host.Outcome State Fault Refusal := done s (ptbSet s.dev)

/-- R277: a read of PTB_FRAC returns the fraction and copies the integer part into PTB_INT. -/
def Dev.readFrac (d : Dev) : Dev :=
  ((d.putReadData (BitVec.ofNat 32 (d.ptb.pos % 65536)))).set F.PTB_INT_INT (d.ptb.pos / 65536)

/-- R277: the read, `t` logic clocks after the last step. -/
def ptbFracRead (d : Dev) (t : Nat) : Dev := if d.alive then (d.ptbTime t).readFrac else d

/-- PTB_FRAC_READ (R277). -/
def execPtbFracRead (t : Nat) (s : State) : Host.Outcome State Fault Refusal := done s (ptbFracRead s.dev t)

/-! ### Slots -/

/-- R278, R279: the position has interpolated for `t` logic clocks since the last step; the slots it passes fire. -/
def slotFire (d : Dev) (t : Nat) : Dev := d.ptbTime t

/-- SLOT_FIRE (R278). -/
def execSlotFire (t : Nat) (s : State) : Host.Outcome State Fault Refusal := done s (slotFire s.dev t)

/-- R281: a write of SLOTk_POSF applies the held integer part and the fraction as one position, a live write; the slot re-arms. -/
def Dev.slotPosf (d : Dev) (k frac : Nat) : Dev :=
  if !d.slotOn k then d.liveReject
  else
    let i := d.f (F.SLOT_POSI_INT k)
    let d := (d.liveSet (F.SLOT_POSI_INT k) i).liveSet (F.SLOT_POSF_FRAC k) frac
    (d.putSlotPos (vset d.slotPos k (i * 65536 + frac))).armSlot k

/-- R281, R75: a write of SLOTk_ARG is a live write of an enabled slot's argument. -/
def Dev.slotArg (d : Dev) (k v : Nat) : Dev := if d.slotOn k then d.liveSet (F.SLOT_ARG_ARG k) v else d.liveReject

/-- R281, R296: the movement up to the write, `t` logic clocks after the last step, is compared with the old position. -/
def slotPosfWrite (d : Dev) (k t : Nat) (frac : BitVec 16) : Dev := if d.alive then (d.ptbTime t).slotPosf k frac.toNat else d

/-- SLOT_POSF_WRITE (R281). -/
def execSlotPosfWrite (k : Fin 32) (t : Nat) (frac : BitVec 16) (s : State) : Host.Outcome State Fault Refusal :=
  done s (slotPosfWrite s.dev k t frac)

/-! ### Timers -/

/-- A timer with CLOCK 00h ticks by its prescaler, after its count has reached `v` by the ticks since the last command. The ticks of the others come with the
steps, overflows and pulses that they count, and with nothing else (R285, R286). -/
def Dev.tickFrom (d : Dev) (n : Nat) (v : Option Nat) : Dev :=
  if !d.running || d.f (F.GT_MAP_CLOCK n) != 0 || !d.timerCounts n then d
  else
    let d := match v with
      | some x => d.set (F.GT_CNT_COUNT n) (max x (d.f (F.GT_CNT_COUNT n)))
      | none => d
    (d.timerTick n).putGtSet []

/-- TIMER_OVERFLOW (R285): the tick at or above PERIOD. -/
def execTimerOverflow (n : Fin 12) (s : State) : Host.Outcome State Fault Refusal :=
  done s (s.dev.tickFrom n (some (s.dev.f (F.GT_PERIOD_ACTIVE n))))

/-- R285: the tick that makes the count equal to the compare value. A compare value above PERIOD never matches; 0 is met by the tick that
overflows. -/
def timerMatch (d : Dev) (n : Nat) : Dev :=
  let c := d.f (F.GT_CMP_ACTIVE n)
  let p := d.f (F.GT_PERIOD_ACTIVE n)
  let now := d.f (F.GT_CNT_COUNT n)
  if c == 0 then d.tickFrom n (some p)
  else if decide (p < c) then d
  else if decide (now < c) then d.tickFrom n (some (c - 1))
  else ((d.tickFrom n (some p)).tickFrom n (some (c - 1)))

/-- TIMER_MATCH (R285). -/
def execTimerMatch (n : Fin 12) (s : State) : Host.Outcome State Fault Refusal := done s (timerMatch s.dev n)

/-- R285: one tick of timer `n`. -/
def timerTickCmd (d : Dev) (n : Nat) : Dev := d.tickFrom n none

/-- TIMER_TICK (R285). -/
def execTimerTick (n : Fin 12) (s : State) : Host.Outcome State Fault Refusal := done s (timerTickCmd s.dev n)

/-- R291: an accepted edge of the timer's capture input that no other command makes (assumption 76). -/
def timerCapture (d : Dev) (n : Nat) : Dev :=
  if !d.running || d.f (F.GT_CFG_CAPSRC n) == 0x1F then d else d.captureTimer n

/-- TIMER_CAPTURE (R291). -/
def execTimerCapture (n : Fin 12) (s : State) : Host.Outcome State Fault Refusal := done s (timerCapture s.dev n)

/-- TIMER_START (R288). -/
def execTimerStart (n : Fin 12) (s : State) : Host.Outcome State Fault Refusal :=
  done s (if s.dev.alive then s.dev.timerStart n else s.dev)

/-- TIMER_STOP (R288). -/
def execTimerStop (n : Fin 12) (s : State) : Host.Outcome State Fault Refusal :=
  done s (if s.dev.alive then s.dev.timerStop n else s.dev)

/-- TIMER_RESET (R288). -/
def execTimerReset (n : Fin 12) (s : State) : Host.Outcome State Fault Refusal :=
  done s (if s.dev.alive then s.dev.timerReset n else s.dev)

/-- TIMER_UPDATE (R288). -/
def execTimerUpdate (n : Fin 12) (s : State) : Host.Outcome State Fault Refusal :=
  done s (if s.dev.alive then s.dev.loadShadows n else s.dev)

/-- TIMER_PERIOD_CMP_WRITE (R289): PERIOD, or with `cmp` CMP. -/
def execTimerPeriodCmpWrite (n : Fin 12) (cmp : Bool) (v : BitVec 16) (s : State) : Host.Outcome State Fault Refusal :=
  done s (if s.dev.alive then (if cmp then s.dev.timerCompare n v.toNat else s.dev.timerPeriod n v.toNat) else s.dev)

/-- TIMER_CNT_WRITE (R287). -/
def execTimerCntWrite (n : Fin 12) (v : BitVec 16) (s : State) : Host.Outcome State Fault Refusal :=
  done s (if s.dev.alive then s.dev.set (F.GT_CNT_COUNT n) v.toNat else s.dev)

end Sys2Proof.Machine
end

