-- ==== Sys2Proof/Machine/Courses.lean ====
section
/-!
DEFINITION. The meanings of the commands of course regulation and protection (R103 to R164): the cycle boundary, crowbar, port guards,
twins, mirror clear, hold-loop battery, SYS window and surplus stages.
-/
namespace Sys2Proof.Machine

/-- The prism results of a course's cycle: the mean of each running tile, the demand, and I_SYS for the lead course (R365, R366). -/
def Dev.courseResults (d : Dev) (c : Nat) : Dev :=
  if !d.running || !d.on (F.C_MAP_ENABLE c) then d
  else
    let d := (d.runTiles c).foldl (fun d t => d.result t (d.fI (F.TILE_IMEAS_AVG t))) d
    let d := if d.leadCourse == some c then d.result 0x1D (d.fI F.SYS_MEAS_I_SYS) else d
    d.result (0x50 + c) (d.f (F.C_DEMAND_D c))

/-- COURSE_CYCLE_BOUNDARY (R103): course `c`'s count wraps; `q` holds what was sampled in the cycle that ends. -/
def execCourseCycleBoundary (c : Fin 6) (q : CycleSample) (s : State) : Host.Outcome State Fault Refusal := done s ((s.dev.boundary c q).courseResults c)

/-! ### The crowbar (R144 to R147) -/

/-- Tile `t` acts when its course latches: it is not OFF, SPARE or FAILED, or the hold loop drives it (R144, R157). A tile in TEST acts wherever it came
from; one of the failure map goes back to FAILED when the latch clears (assumption 18). -/
def Dev.clamps (d : Dev) (t : Nat) : Bool :=
  let st := d.tst t
  !(st == 0 || st == 1 || st == 6) || d.holds t

/-- A tile of a latched course: its gates, and, while the logic die shows it, its CROWBAR bit and ARMED (R144, R145). -/
def Dev.clampTile (d : Dev) (t : Nat) : Dev :=
  if !d.clamps t then d
  else
    let d := if d.alive then (d.set (F.TILE_STAT_CROWBAR t) 1).setTst t 2 else d
    (d.modTile t fun x => { x with clamp := true, next := none, testRamp := false, testBack := false, wantAdd := false }).holdClamp t

/-- The tiles of course `c` as the power die holds the grouping. -/
def Dev.powerTiles (d : Dev) (c : Nat) : List Nat := (List.range 16).filter fun t => d.pd (F.TILE_MAP_COURSE t) == c && d.pd (F.TILE_MAP_ROLE t) != 0

/-- Course `c` latches its crowbar: latch, EVB2 source c, fault log, tests aborted, mode NONE, tiles clamped, FET open (R144). -/
def Dev.latchCrowbar (d : Dev) (c : Nat) : Dev :=
  let d := (d.hardStop c true).abortTests c
  let d := (d.powerTiles c).foldl (fun d t => d.clampTile t) d
  let d := (d.setFet (d.pd (F.C_MAP_PORT c)) false).modCourse c fun k => { k with cbRelease := false }
  d.fault 2 c [R.C_PCTL c, R.SYS_MEAS]

/-- The courses that take part in the crowbar and are not latched: every course with CB_EN (R144). The latch is on the power die, with its own
configuration (R22, R147). -/
def Dev.crowbarCourses (d : Dev) : List Nat := (List.range 6).filter fun c => d.pd (F.C_MODE_CB_EN c) == 1 && !d.on (F.C_PCTL_CB_LATCH c)

/-- A crowbar latch is set on some course. -/
def Dev.anyLatch (d : Dev) : Bool := (List.range 6).any fun c => d.on (F.C_PCTL_CB_LATCH c)

/-- The hold loop runs when it may: logic die absent, hold map not empty, BAT_LOW 0, no crowbar latch, which shows CB_BLOCK (R157, R160, R164). -/
def Dev.startHold (d : Dev) : Dev :=
  if d.pw.mode != .on || !d.pw.absent || d.sys.holdMap.isEmpty then d
  else if d.anyLatch then d.set F.HOLD_STAT_CB_BLOCK 1
  else
    let d := d.set F.HOLD_STAT_CB_BLOCK 0
    if d.on F.HOLD_STAT_BAT_LOW || d.on F.THERM_HW_PD_SHUT || d.sys.holdRuns then d
    else (d.putSys { d.sys with holdRuns := true, holdDid := true }).showHold

/-- The hold loop stops while a latch is set, and shows CB_BLOCK (R157, R164). -/
def Dev.blockHold (d : Dev) : Dev :=
  if d.sys.holdRuns then d.dropHold.set F.HOLD_STAT_CB_BLOCK 1 else if d.pw.absent then d.startHold else d

/-- R144: SYS has risen to `vSys`; above CB_V every taking-part course latches, and the latch makes its port lost as a source (R172, R211). -/
def crowbarTrip (d : Dev) (vSys : Nat) : Dev :=
  let d := d.seeSys vSys
  if vSys ≤ d.pd F.SYS_CB_CB_V || d.pw.mode != .on then d
  else
    let cs := d.crowbarCourses
    let d := cs.foldl (fun d c => d.set (F.C_PCTL_CB_LATCH c) 1) d
    let d := cs.foldl (fun d c => d.latchCrowbar c) d
    let d := if cs.isEmpty then d else d.blockHold
    if !d.running then d
    else cs.foldl (fun d c =>
      if !d.on (F.C_MAP_ENABLE c) then d else if d.portCode c == 2 then d.loseBattery true true else d.sourceLost (d.portCode c) 0) d

/-- CROWBAR_TRIP (R144). -/
def execCrowbarTrip (vSys : Nat) (s : State) : Host.Outcome State Fault Refusal := done s (crowbarTrip s.dev vSys)

/-- A tile that the crowbar holds is released where its course has no boundary: its gates go off, and it is OFF (R67, R145). -/
def Dev.unclamp (d : Dev) (t : Nat) : Dev :=
  if (vget d.tile t).clamp then
    let d := (d.set (F.TILE_STAT_CROWBAR t) 0).modTile t fun x => { x with clamp := false, gates := .off }
    if d.running && d.on (F.C_MAP_ENABLE (d.f (F.TILE_MAP_COURSE t))) then d else d.setTst t 0
  else d

/-- R146: admitted only after 10 ms below CB_REL without a break; then the latch clears and the tiles are released at the next boundary. A course
without boundaries releases them at once, and a hold loop that the last latch blocked may run again (R164). Written again before the release, it does
nothing (R13). -/
def cbClear (d : Dev) (c : Nat) : Dev :=
  if !d.alive || (vget d.course c).cbRelease then d
  else match d.sys.belowSince with
    | some u =>
      if u + 10000 ≤ d.pw.clock then
        if d.on (F.C_PCTL_CB_LATCH c) then
          let d := d.set (F.C_PCTL_CB_LATCH c) 0
          let d := if d.anyLatch then d else d.set F.HOLD_STAT_CB_BLOCK 0
          if !d.running then ((d.powerTiles c).foldl (fun d t => d.unclamp t) d).startHold
          else if !d.on (F.C_MAP_ENABLE c) then (d.powerTiles c).foldl (fun d t => d.unclamp t) d
          else
            let d := d.modCourse c fun k => { k with cbRelease := true }
            let p := d.portCode c
            if within 1 5 p then d.restartDebounce p else d
        else d
      else d.set (F.C_PCTL_CB_REJ c) 1
    | none => d.set (F.C_PCTL_CB_REJ c) 1

/-- CB_CLEAR (R146). -/
def execCbClear (c : Fin 6) (s : State) : Host.Outcome State Fault Refusal := done s (cbClear s.dev c)

/-! ### Port guards (R148 to R153) -/

/-- The port of a guard trip is lost as a source, drops its contract, or takes BAT from C1; in a transition any trip drops the contract (R151, R172,
R211, R239, R262, R265). -/
def Dev.afterTrip (d : Dev) (p : Nat) (disq : Bool) : Dev :=
  if p == 2 then
    ((d.modPort 2 fun x => { x with debounced := false }).loseBattery true true).restartDebounce 2
  else
    let d := if disq || d.inTransition p then d.tripDrop p else d
    let d := (d.sourceLost p 0).modPort p fun x => { x with tripped := x.tripped || disq }
    if d.qualified p then d else d.restartDebounce p

/-- The current `i`, positive into the device, runs against the forward direction of port code `p` by more than RC_TRIP (R148, R149). -/
def Dev.reverse (d : Dev) (p : Nat) (i : Int) : Bool :=
  let rc : Int := d.pd (F.GUARD_TRIP2_RC_TRIP (p - 1))
  (d.forward p == 1 && decide (rc < -i)) || (d.forward p == 2 && decide (rc < i))

/-- The gates of every tile of the course on port code `p`, as the power die holds the grouping, go off: those of the hold loop too, but not the crowbar's
(R22, R150). -/
def Dev.gatesOffOf (d : Dev) (p : Nat) : Dev :=
  d.each 16 fun d t =>
    if d.pd (F.TILE_MAP_ROLE t) != 0 && d.pd (F.C_MAP_PORT (d.pd (F.TILE_MAP_COURSE t))) == p && d.pd (F.TILE_MAP_COURSE t) != 7 then
      d.modTile t fun x => { x with gates := if x.clamp then x.gates else .off }
    else d

/-- The cause bits and TRIPS of a trip of port index `p` (R149, R150). -/
def Dev.guardTrace (d : Dev) (p : Nat) (rc oc ov : Bool) : Dev :=
  let d := if rc then d.set (F.GUARD_STAT_RC p) 1 else d
  let d := if oc then d.set (F.GUARD_STAT_OC p) 1 else d
  let d := if ov then d.set (F.GUARD_STAT_OV p) 1 else d
  d.inc (F.GUARD_STAT_TRIPS p)

/-- The trip falls into the update of a mirror fault that has reset the logic die, on the course of the port (R164). -/
def Dev.mirrorNow (d : Dev) (p : Nat) : Bool :=
  match d.pw.mirrorAt with
  | some x => !d.alive && x.2 == d.pw.clock && d.pd (F.C_MAP_PORT x.1) == p + 1
  | none => false

/-- R149 to R152: port `p` (0 MAIN to 4 SERV) stands at the voltage of `v` and current `i` while its FET is commanded closed; an over-current has lasted
OC_FILT if `filtered`. Where a guard condition holds: FET open, gates off, course stopped, cause bits, TRIPS, event, fault log; an over-current trip beyond
the retries latches. The guard is on the power die; its trace needs the logic die (R22, R465), but for the fault-log entry of a trip in the update of a
mirror fault (R164). -/
def guardTrip (d : Dev) (p : Nat) (v : NodeSample) (i : Int) (filtered : Bool) : Dev :=
  let rc := d.reverse (p + 1) i
  let oc := filtered && decide (d.pd (F.GUARD_TRIP1_OC_TRIP p) < i.natAbs)
  let ov := decide (d.pd (F.GUARD_TRIP1_OV_TRIP p) < d.nodeVolts (p + 1) v.node v.ain)
  if !d.on (F.GUARD_STAT_FET_ON p) || !(rc || oc || ov) || d.pw.mode != .on then d
  else
    let shown := (d.guardTrace p rc oc ov).set (F.GUARD_STAT_FET_ON p) 0
    let d := if d.alive then shown else d.set (F.GUARD_STAT_FET_ON p) 0
    let latch := oc && decide (d.pd (F.GUARD_CFG_OC_RETRY p) ≤ d.f (F.GUARD_STAT_RETRIES p))
    let d := if latch then d.set (F.GUARD_STAT_LATCHED p) 1 else d
    let d := (d.modPort (p + 1) fun x => if oc then { x with ocHeld := true, ocAt := d.pw.clock, rearmed := false } else x).gatesOffOf (p + 1)
    let d := d.fault 2 (12 + p) [R.GUARD_STAT p, R.PORT_STAT p]
    let d := if d.mirrorNow p then d.putFaults (d.faults ++ [⟨2 * 32 + 12 + p, d.pw.time, [shown.rd (R.GUARD_STAT p), shown.rd (R.PORT_STAT p)]⟩]) else d
    if !d.running then d
    else
      let d := match d.courseOf (p + 1) with
        | some c => d.hardStop c true
        | none => d
      d.afterTrip (p + 1) (rc || ov)

/-- GUARD_TRIP (R149). -/
def execGuardTrip (p : Fin 5) (v : NodeSample) (i : Int) (filtered : Bool) (s : State) : Host.Outcome State Fault Refusal :=
  done s (guardTrip s.dev p v i filtered)

/-- The port carries energy out under a SOURCE contract in force (R152). -/
def Dev.sourceContract (d : Dev) (p : Nat) : Bool :=
  (within 3 4 p && d.inForce (p - 3) && d.crole (p - 3) == 1) || (p == 5 && d.serv.inForce && d.on F.PD_STAT_PROLE)

/-- The course of a port under a SOURCE contract regulates the port to the contract's voltage (R235). -/
def Dev.startContract (d : Dev) (p : Nat) : Dev :=
  match d.courseOf p with
  | some c => d.giveMode c 2 (if p == 5 then d.f F.PD_CONTRACT_V else d.f (F.SEG_CONTRACT_V (p - 3))) 1
  | none => d

/-- R152, R173: at least 1 s after an over-current trip, once the closing condition holds, the FET closes and one retry is counted. After a REARM within
that second it is no retry: REARM has cleared RETRIES, and the FET closes because the port has qualified afresh (assumption 22). -/
def guardRetry (d : Dev) (p : Nat) : Dev :=
  let q := p + 1
  let x := vget d.port p
  let ok := if q == 2 then x.debounced else d.qualified q || d.sourceContract q
  if !d.running || !x.ocHeld || d.on (F.GUARD_STAT_LATCHED p) || !ok then d
  else
    let d := (d.modPort q fun y =>
      { y with ocHeld := false, rearmed := false, retryTimes := if y.rearmed then y.retryTimes else d.pw.clock :: y.retryTimes }).setFet q true
    let d := if x.rearmed then d else d.set (F.GUARD_STAT_RETRIES p) (min 7 (d.f (F.GUARD_STAT_RETRIES p) + 1))
    (if d.sourceContract q then d.startContract q else d).pathReview

/-- GUARD_OC_RETRY (R152). -/
def execGuardOcRetry (p : Fin 5) (s : State) : Host.Outcome State Fault Refusal := done s (guardRetry s.dev p)

/-- R152, R173: REARM is admitted only while LATCHED is 1 and no guard condition exists; it clears LATCHED and RETRIES, and the port qualifies
afresh, with its FET open for 1 s after the trip all the same. While the logic die is absent port FETs keep their state, and no port qualifies (R22, R25). -/
def guardRearm (d : Dev) (p : Nat) (clear : Bool) : Dev :=
  if !d.alive then d
  else if d.on (F.GUARD_STAT_LATCHED p) && clear then
    let d := (d.set (F.GUARD_STAT_LATCHED p) 0).set (F.GUARD_STAT_RETRIES p) 0
    let early := (vget d.port p).ocHeld && decide (d.pw.clock < (vget d.port p).ocAt + 1000000)
    let d := d.modPort (p + 1) fun x => { x with ocHeld := early, rearmed := early, retryTimes := [] }
    if !d.running then d
    else if d.sourceContract (p + 1) then (if early then d else (d.setFet (p + 1) true).startContract (p + 1))
    else d.restartDebounce (p + 1)
  else d.set (F.GUARD_STAT_REARM_REJ p) 1

/-- GUARD_REARM (R152); `clear`: the port current and voltage have no guard condition. -/
def execGuardRearm (p : Fin 5) (clear : Bool) (s : State) : Host.Outcome State Fault Refusal := done s (guardRearm s.dev p clear)

/-- R152: the oldest retry is 60 s old and counts no more. -/
def retryExpiry (d : Dev) (p : Nat) : Dev :=
  let x := vget d.port p
  let d := d.modPort (p + 1) fun x => { x with retryTimes := x.retryTimes.dropLast }
  d.set (F.GUARD_STAT_RETRIES p) (min 7 (x.retryTimes.length - 1))

/-- GUARD_RETRY_WINDOW_EXPIRY (R152). -/
def execGuardRetryWindowExpiry (p : Fin 5) (s : State) : Host.Outcome State Fault Refusal := done s (retryExpiry s.dev p)

/-- R148, R94: the guard takes the new direction, which ends the reversal. -/
def guardDirection (d : Dev) (p : Nat) : Dev :=
  match d.courseOf (p + 1) with
  | some c => d.modCourse c fun k => { k with guardPend := false, guardDir := d.dir c }
  | none => d

/-- GUARD_DIRECTION_CHANGE (R148). -/
def execGuardDirectionChange (p : Fin 5) (s : State) : Host.Outcome State Fault Refusal := done s (guardDirection s.dev p)

/-! ### Twins and mirror lanes (R154 to R156) -/

/-- R154: the twins of a port guard, or of the crowbar, disagree for longer than 2 µs; only in the Guard profile. -/
def twinMismatch (d : Dev) (p : Option (Fin 5)) : Dev :=
  if !d.alive || !d.guardProfile then d
  else match p with
    | some p => (d.set (F.GUARD_STAT_TWIN p) 1).fault 2 20 [R.GUARD_STAT p]
    | none => (d.set F.SYS_STAT_TWIN 1).fault 2 20 [R.SYS_STAT]

/-- TWIN_MISMATCH (R154); none: the crowbar comparator. -/
def execTwinMismatch (p : Option (Fin 5)) (s : State) : Host.Outcome State Fault Refusal := done s (twinMismatch s.dev p)

/-- R156: MM_CLEAR is admitted only while the course is stopped; it zeroes both lanes' loop state and clears MM_FAULT. -/
def mmClear (d : Dev) (c : Nat) : Dev :=
  if !d.alive then d
  else if d.regMode c == 0 then
    (d.set (F.C_PCTL_MM_FAULT c) 0).modCourse c fun k => { k with integ := Vector.replicate 5 0, mirror := Vector.replicate 5 0, mmRun := 0 }
  else d.set (F.C_PCTL_MM_REJ c) 1

/-- MM_CLEAR (R156). -/
def execMmClear (c : Fin 6) (s : State) : Host.Outcome State Fault Refusal := done s (mmClear s.dev c)

/-! ### The hold loop's battery floor (R158) -/

/-- R158: BAT has fallen below VBAT_MIN: the hold loop stops with both gates off. -/
def holdBatLow (d : Dev) : Dev :=
  let d := d.set F.HOLD_STAT_BAT_LOW 1
  d.dropHold

/-- HOLD_BAT_LOW (R158). -/
def execHoldBatLow (s : State) : Host.Outcome State Fault Refusal := done s (holdBatLow s.dev)

/-- R158: BAT has risen 0.50 V above VBAT_MIN: the hold loop resumes. -/
def holdBatOk (d : Dev) : Dev := (d.set F.HOLD_STAT_BAT_LOW 0).startHold

/-- HOLD_BAT_OK (R158). -/
def execHoldBatOk (s : State) : Host.Outcome State Fault Refusal := done s (holdBatOk s.dev)

/-! ### The SYS window (R139) -/

/-- R139: SYS leaves its window (LEFT_WIN, EVB2 source 17) or returns to it (source 18), judged on the voltage given. -/
def sysWindow (d : Dev) (vSys : Nat) : Dev :=
  if !d.running || !d.sys.winSeen then d
  else
    let d := d.seeSys vSys
    let was := d.on F.SYS_STAT_IN_WIN
    let now := d.sysInWindow
    if was == now then d
    else if now then (d.set F.SYS_STAT_IN_WIN 1).raise 2 18
    else ((d.set F.SYS_STAT_IN_WIN 0).set F.SYS_STAT_LEFT_WIN 1).raise 2 17

/-- SYS_WINDOW_CHANGE (R139). -/
def execSysWindowChange (vSys : Nat) (s : State) : Host.Outcome State Fault Refusal := done s (sysWindow s.dev vSys)

/-! ### Surplus stages (R161 to R163) -/

/-- The mode another rule gives the course outside SURPLUS (R161): the power path's, the charger's, or the contract's. -/
def Dev.otherMode (d : Dev) (c : Nat) : Option (Nat × Nat × Nat) :=
  let p := d.portCode c
  if d.leadCourse == some c then some (1, d.f F.SYS_TARGET_TARGET, 0)
  else if d.shares c then some (3, 0, 0)
  else if p == 2 then d.chargeMode
  else if within 3 4 p && d.inForce (p - 3) && d.crole (p - 3) == 1 then some (2, d.f (F.SEG_CONTRACT_V (p - 3)), 1)
  else none

/-- The course already carries energy towards its port in another mode, which it keeps (R161). -/
def Dev.carriesOut (d : Dev) (c : Nat) : Bool :=
  d.f (F.C_MODE_MODE c) != 0 && d.f (F.C_MODE_MODE c) != 5 && d.dir c == 1 && d.on (F.C_DEMAND_D c)

/-- R161: SYS has risen to `vSys`; above the stage's threshold its courses take SURPLUS. Entry to stage 3 raises EVB2 source 21. -/
def surplusEnter (d : Dev) (st vSys : Nat) : Dev :=
  if !d.running || !d.sys.winSeen then d
  else
    let d := d.seeSys vSys
    let thr := d.f F.SYS_TARGET_TARGET + d.stageThr st
    if vSys ≤ thr then d
    else
      let cs := (d.stageCourses st).filter fun c => !d.carriesOut c && d.f (F.C_MODE_MODE c) != 5
      let d := cs.foldl (fun d c => d.giveMode c 5 (clamp16 thr) 1) d
      d.showSurplus (max st d.surplusState)

/-- SURPLUS_ENTER (R161); stage 0 to 2 stands for BAT, ring, dump. -/
def execSurplusEnter (st : Fin 3) (vSys : Nat) (s : State) : Host.Outcome State Fault Refusal := done s (surplusEnter s.dev (st + 1) vSys)

/-- R161: the demand of a SURPLUS course has been 0 for 16 updates: it returns to the mode another rule gives it, or stops as for STOP 0. -/
def surplusExit (d : Dev) (c : Nat) : Dev :=
  if !d.running || d.f (F.C_MODE_MODE c) != 5 || (vget d.course c).run0 < 16 then d
  else
    let d := match d.otherMode c with
      | some (m, final, dr) => d.giveMode c m final dr
      | none => d.hardStop c false
    d.showSurplus d.surplusState

/-- SURPLUS_EXIT (R161). -/
def execSurplusExit (c : Fin 6) (s : State) : Host.Outcome State Fault Refusal := done s (surplusExit s.dev c)

end Sys2Proof.Machine
end

