-- ==== Sys2Proof/Machine/ImageFormat.lean ====
section
/-!
DEFINITION. The two image formats of a slot (R33 to R62, R81 to R85): where each part lies, what each field holds, and the register
fields that the image's structural fields and presets set. A GL7208 image is read as the native fields it converts to.
-/
namespace Sys2Proof.Machine

/-- The format that the first four bytes of a slot name (R81). -/
inductive ImageKind where
  | native | gl7208 | other
deriving DecidableEq, Repr

/-- The format of the image in a memory (R81). -/
def imageKind (m : List (Nat × Byte)) : ImageKind :=
  if Mem.le m 0 4 = 0x54524F4D then .native else if Mem.le m 0 4 = 0x3237574D then .gl7208 else .other

/-- An entry of the section directory (R36). -/
structure SecEntry where
  typ  : Nat
  resv : Nat
  off  : Nat
  len  : Nat
  crc  : Nat
deriving DecidableEq, Repr

/-- The section directory: SEC_COUNT entries of 16 bytes from 40h (R34, R36). -/
def directory (m : List (Nat × Byte)) : List SecEntry :=
  (List.range (Mem.le m 0x0C 1)).map fun i =>
    let a := 0x40 + 16 * i
    ⟨Mem.le m a 1, Mem.le m (a + 1) 3, Mem.le m (a + 4) 4, Mem.le m (a + 8) 4, Mem.le m (a + 12) 4⟩

/-- The section of type `typ`, if the directory names one. -/
def findSection (m : List (Nat × Byte)) (typ : Nat) : Option SecEntry := (directory m).find? fun e => e.typ == typ

/-- Where the signature block starts (R34, R81). -/
def signatureAt (m : List (Nat × Byte)) : Nat :=
  if imageKind m = .native then Mem.le m 0x08 4 - 128 else 144

/-- KEY_INDEX and SVN of the image (R35, R81). -/
def imageKey (m : List (Nat × Byte)) : Nat := if imageKind m = .native then Mem.le m 0x0D 1 else Mem.le m 6 1
def imageSvn (m : List (Nat × Byte)) : Nat := if imageKind m = .native then Mem.le m 0x10 2 else Mem.le m 8 2

/-- RAISE_SVN of the image (R35); a GL7208 image carries none (R81). -/
def imageRaisesSvn (m : List (Nat × Byte)) : Bool := imageKind m = .native && (Mem.le m 0x0E 2).testBit 0

/-- The digest of the image bytes before the signature block (R62, R81). -/
def imageDigest (m : List (Nat × Byte)) : List Word := Config.sha256 (Mem.bytes m 0 (signatureAt m))

/-! ### Fields by section -/

/-- What an image says: `v typ off n` is the little-endian number in `n` bytes at `off` of section `typ`. -/
abbrev View := Nat → Nat → Nat → Nat

/-- The view of a native image. -/
def nativeView (m : List (Nat × Byte)) : View := fun typ off n =>
  match findSection m typ with
  | some e => Mem.le m (e.off + off) n
  | none => 0

/-- A tile entry's byte (R41), a course entry's field (R42). -/
def tileV (v : View) (t o : Nat) : Nat := v 2 (4 * t + o) 1
def courseV (v : View) (c o n : Nat) : Nat := v 2 (0x40 + 16 * c + o) n

/-- A port entry's field (R44), the SYS block's (R45). -/
def portV (v : View) (p o n : Nat) : Nat := v 3 (24 * p + o) n
def sysV (v : View) (o n : Nat) : Nat := v 3 (0x78 + o) n

/-- A lens entry's, sensor entry's, zone entry's byte (R50). -/
def lensV (v : View) (l o : Nat) : Nat := v 6 (4 * l + o) 1
def sensorV (v : View) (t o : Nat) : Nat := v 6 (0x60 + 2 * t + o) 1
def zoneV (v : View) (z o : Nat) : Nat := v 6 (0x78 + 4 * z + o) 1

/-- A timer entry's field (R52), a slot entry's (R53). -/
def timerV (v : View) (t o n : Nat) : Nat := v 7 (4 + 8 * t + o) n
def slotV (v : View) (k o n : Nat) : Nat := v 7 (0x64 + 16 * k + o) n

/-- A watchdog task entry's field (R57), a firmware task entry's (R60). -/
def taskV (v : View) (k o n : Nat) : Nat := v 9 (8 + 4 * k + o) n
def fwTaskV (v : View) (k o n : Nat) : Nat := v 0xB (0x10 + 8 * k + o) n

/-- A course entry binds a port or SYS (R42). -/
def boundV (v : View) (c : Nat) : Bool := courseV v c 0 1 != 0

/-- The courses bound to port code `p`. -/
def coursesOnV (v : View) (p : Nat) : List Nat := (List.range 6).filter fun c => courseV v c 0 1 == p

/-- A course entry is enabled (R42). -/
def enabledV (v : View) (c : Nat) : Bool := boundV v c && (courseV v c 9 1).testBit 0

/-- The tiles of a mask. -/
def maskTiles (w : Nat) : List Nat := (List.range 16).filter fun t => w.testBit t

/-- The tiles of a course: working and spare. -/
def tilesV (v : View) (c : Nat) : List Nat := maskTiles (courseV v c 4 2) ++ maskTiles (courseV v c 6 2)

/-! ### The GL7208 payload (R82 to R85) -/

/-- The number in `n` bytes at offset `o` of the payload, which follows the wrapper (R81). -/
def payload (m : List (Nat × Byte)) (o n : Nat) : Nat := Mem.le m (16 + o) n

/-- The native tile grouping a payload gives (R84, R85): entry (type, offset) and value. C1 is bound to BAT whatever CHEM is, and not enabled with
CHEM 00h (assumption 41). -/
def compatTiles (m : List (Nat × Byte)) : List ((Nat × Nat) × Nat) :=
  ((List.range 16).flatMap fun t =>
    let c := if t < 4 then some 0 else if t < 8 then some 1 else none
    [((2, 4 * t), c.getD 0xFF), ((2, 4 * t + 1), if c.isSome then 1 else 0)]) ++
  [((2, 0x40), 1), ((2, 0x41), payload m 0x09 1), ((2, 0x42), 4 * payload m 0x0A 2), ((2, 0x44), 0x000F), ((2, 0x48), payload m 0x0F 1),
   ((2, 0x49), payload m 0x0E 1), ((2, 0x50), 2), ((2, 0x51), payload m 0x11 1), ((2, 0x52), 4 * payload m 0x12 2), ((2, 0x54), 0x00F0),
   ((2, 0x58), payload m 0x17 1), ((2, 0x59), payload m 0x16 1)]

/-- The native port roles and limits a payload gives (R84). -/
def compatPorts (m : List (Nat × Byte)) : List ((Nat × Nat) × Nat) :=
  let port (p a role : Nat) : List ((Nat × Nat) × Nat) :=
    [((3, 24 * p), role), ((3, 24 * p + 2), payload m (a + 2) 2), ((3, 24 * p + 4), payload m (a + 4) 2), ((3, 24 * p + 6), payload m (a + 6) 2),
     ((3, 24 * p + 8), payload m (a + 6) 2), ((3, 24 * p + 10), payload m (a + 8) 2), ((3, 24 * p + 12), payload m (a + 10) 2),
     ((3, 24 * p + 14), payload m (a + 12) 2), ((3, 24 * p + 16), payload m (a + 14) 2)]
  port 0 0x18 1 ++ port 1 0x30 3 ++
  [((3, 0x78), payload m 0x48 2), ((3, 0x7A), payload m 0x48 2), ((3, 0x7C), payload m 0x48 2), ((3, 0x7E), payload m 0x4A 1),
   ((3, 0x7F), payload m 0x4A 1), ((3, 0x80), payload m 0x4C 2), ((3, 0x82), payload m 0x4E 2), ((3, 0x84), payload m 0x50 1),
   ((3, 0x85), payload m 0x51 1), ((4, 0), 1), ((4, 1), 0xFF), ((4, 2), 0xFF), ((4, 3), 0xFF)]

/-- The native charger profile a payload gives (R84); edges and hysteresis take the defaults of R195. -/
def compatCharger (m : List (Nat × Byte)) : List ((Nat × Nat) × Nat) :=
  [((5, 0x00), payload m 0x58 1), ((5, 0x01), payload m 0x59 1), ((5, 0x02), payload m 0x5A 2), ((5, 0x04), payload m 0x5C 2),
   ((5, 0x06), payload m 0x5E 2), ((5, 0x08), payload m 0x60 2), ((5, 0x0A), payload m 0x62 2), ((5, 0x0C), payload m 0x64 2),
   ((5, 0x0E), payload m 0x66 2), ((5, 0x10), payload m 0x66 2), ((5, 0x12), payload m 0x68 2), ((5, 0x14), 60), ((5, 0x16), 60),
   ((5, 0x18), payload m 0x6A 2), ((5, 0x1A), payload m 0x6C 2), ((5, 0x1C), 0), ((5, 0x1E), 100), ((5, 0x20), 450), ((5, 0x22), 550),
   ((5, 0x24), 20), ((5, 0x25), 20), ((5, 0x26), 20), ((5, 0x27), 20), ((5, 0x28), payload m 0x6E 1), ((5, 0x29), 0xFF), ((5, 0x2A), 0),
   ((5, 0x2C), 1)]

/-- The native wiring of lenses, sensors, timers, capture and watchdog that every payload gets (R85, R361). -/
def compatWiring (m : List (Nat × Byte)) : List ((Nat × Nat) × Nat) :=
  ((List.range 24).map fun l => ((6, 4 * l), 0xFF)) ++
  ((List.range 12).flatMap fun t => [((6, 0x60 + 2 * t), if t < 4 then 0 else 0xFF), ((6, 0x61 + 2 * t), 0xFF)]) ++
  [((6, 0x78), 3), ((6, 0x79), 4), ((7, 1), 0xFF)] ++
  ((List.range 12).flatMap fun t => [((7, 5 + 8 * t), 0xFF), ((7, 6 + 8 * t), 0xFFFF)]) ++
  [((8, 0), 8), ((8, 2), 20), ((8, 4), 8000), ((8, 6), 0xFFFF), ((8, 8), 0xFFFF), ((8, 0x10), 0x10), ((8, 0x11), 0x1D), ((8, 0x12), 0x11),
   ((8, 0x13), 0x18), ((8, 0x14), 0x12), ((8, 0x15), 0x19), ((8, 0x16), 0x40), ((8, 0x17), 0x44)] ++
  ((List.range 8).map fun i => ((8, 0x18 + i), 0xFF)) ++
  [((9, 0), payload m 0x70 2), ((9, 2), 20), ((9, 3), payload m 0x72 1 % 2), ((0xA, 1), 1)]

/-- Every native field a GL7208 image gives a value other than 0. -/
def compatTable (m : List (Nat × Byte)) : List ((Nat × Nat) × Nat) :=
  compatTiles m ++ compatPorts m ++ compatCharger m ++ compatWiring m

/-- The view of a GL7208 image: the native fields it converts to. -/
def compatView (m : List (Nat × Byte)) : View := fun typ off _ =>
  match (compatTable m).find? fun (x : (Nat × Nat) × Nat) => x.1 == (typ, off) with
  | some x => x.2
  | none => 0

/-- The register fields a payload sets beside the native structural ones (R84): SPAN, current limits, sense inputs, crowbar, hold loop, floors. -/
def compatFields (m : List (Nat × Byte)) : List (Field × Nat) :=
  ((List.range 4).map fun t => (F.TILE_CFG_SPAN t, if payload m 0x09 1 == 0 then 1 else 0)) ++
  ((List.range 4).map fun t => (F.TILE_CFG_SPAN (t + 4), 0)) ++
  [(F.C_ILIM_ILIM 0, payload m 0x0C 2), (F.GUARD_CFG_ISNS 0, payload m 0x19 1), (F.GUARD_TRIP2_RSH 0, payload m 0x28 2),
   (F.GUARD_CFG_ISNS 1, payload m 0x31 1), (F.GUARD_TRIP2_RSH 1, payload m 0x40 2), (F.SYS_CB_CB_V, payload m 0x52 2),
   (F.SYS_CB_CB_REL, payload m 0x48 2 - 10 * payload m 0x50 1 - 100), (F.C_ILIM_ILIM 1, payload m 0x14 2),
   (F.HOLD_CFG_VBAT_MIN, payload m 0x59 1 * payload m 0x5C 2 / 10), (F.CHG_VFLOOR_V_DISCH, payload m 0x5C 2), (F.CHG_VFLOOR_V_RES, payload m 0x5C 2)]

/-- The view of the image in a memory. -/
def viewOf (m : List (Nat × Byte)) : View := if imageKind m = .gl7208 then compatView m else nativeView m

/-! ### Structural fields (R41 to R59): the register field each one sets -/

/-- Tile grouping (R41 to R43, R127, R128). A course that is not bound reads 0 in Cn_MAP. -/
def structTiles (v : View) : List (Field × Nat) :=
  ((List.range 16).flatMap fun t =>
    [(F.TILE_MAP_COURSE t, tileV v t 0), (F.TILE_MAP_ROLE t, tileV v t 1), (F.TILE_MAP_SENSE t, tileV v t 2)]) ++
  ((List.range 6).flatMap fun c =>
    let g (o n : Nat) : Nat := if boundV v c then courseV v c o n else 0
    [(F.C_MAP_PORT c, g 0 1), (F.C_MAP_TOPOLOGY c, g 1 1), (F.C_MAP_PERIOD c, g 2 2), (F.C_MAP_MIN_PHASES c, g 8 1),
     (F.C_MAP_ENABLE c, g 9 1 % 2), (F.C_MAP_SHED_EN c, g 9 1 / 2), (F.C_TILES_WORK_MASK c, g 4 2), (F.C_TILES_SPARE_MASK c, g 6 2)])

/-- Ports and SYS (R44, R45). -/
def structPorts (v : View) : List (Field × Nat) :=
  ((List.range 5).flatMap fun p =>
    [(F.PORT_QUAL_QUAL_VMIN p, portV v p 2 2), (F.PORT_QUAL_QUAL_VMAX p, portV v p 4 2), (F.PORT_ILIM_IN p, portV v p 6 2),
     (F.PORT_ILIM_IN_MAX p, portV v p 8 2), (F.PORT_OLIM_OUT p, portV v p 10 2), (F.PORT_OLIM_OUT_CEIL p, portV v p 10 2),
     (F.GUARD_TRIP1_OV_TRIP p, portV v p 12 2), (F.GUARD_TRIP1_OC_TRIP p, portV v p 14 2), (F.GUARD_TRIP2_RC_TRIP p, portV v p 16 2)]) ++
  [(F.SYS_SETPT_SETPOINT, sysV v 0 2), (F.SYS_BOUNDS_SETPOINT_MIN, sysV v 2 2), (F.SYS_BOUNDS_SETPOINT_MAX, sysV v 4 2),
   (F.SYS_LOADLINE_SLOPE, sysV v 6 1), (F.SYS_LOADLINE_SLOPE_MAX, sysV v 7 1), (F.SYS_FLOOR_VSYS_MIN, sysV v 8 2),
   (F.SYS_FLOOR_HOLD_V, sysV v 10 2), (F.SYS_WIN_WIN_LO, sysV v 12 1), (F.SYS_WIN_WIN_HI, sysV v 13 1)]

/-- Source priority and charger (R47, R48). -/
def structCharger (v : View) : List (Field × Nat) :=
  [(F.SRC_ORDER_POS0, v 4 0 1), (F.SRC_ORDER_POS1, v 4 1 1), (F.SRC_ORDER_POS2, v 4 2 1), (F.SRC_ORDER_POS3, v 4 3 1),
   (F.SRC_SHARE_SHARE, v 4 4 1), (F.SRC_SHARE_BAT_ASSIST, v 4 5 1),
   (F.CHG_CFG_CHEM, v 5 0 1), (F.CHG_CFG_CELLS, v 5 1 1), (F.CHG_VTH_V_DEEP, v 5 2 2), (F.CHG_VTH_V_PRE, v 5 4 2), (F.CHG_VCV_V_CV, v 5 6 2),
   (F.CHG_VCV_V_RECHG, v 5 8 2), (F.CHG_IPRE_I_TRICKLE, v 5 10 2), (F.CHG_IPRE_I_PRE, v 5 12 2), (F.CHG_ICC_I_CC, v 5 14 2),
   (F.CHG_ICC_I_CC_MAX, v 5 16 2), (F.CHG_ITERM_I_TERM, v 5 18 2), (F.CHG_TMR1_T_TRICKLE, v 5 20 2), (F.CHG_TMR1_T_PRE, v 5 22 2),
   (F.CHG_TMR2_T_CC, v 5 24 2), (F.CHG_TMR2_T_CV, v 5 26 2)] ++
  [(F.CHG_TEDGE_A_COLD_COOL, v 5 0x1C 2), (F.CHG_TEDGE_A_COOL_NORMAL, v 5 0x1E 2), (F.CHG_TEDGE_B_NORMAL_WARM, v 5 0x20 2),
   (F.CHG_TEDGE_B_WARM_HOT, v 5 0x22 2), (F.CHG_THYST_H_COLD_COOL, v 5 0x24 1), (F.CHG_THYST_H_COOL_NORMAL, v 5 0x25 1),
   (F.CHG_THYST_H_NORMAL_WARM, v 5 0x26 1), (F.CHG_THYST_H_WARM_HOT, v 5 0x27 1), (F.CHG_CFG_NTC_SEL, v 5 0x28 1),
   (F.CHG_CFG_BAL_LENS, v 5 0x29 1), (F.CHG_RESV_CYC, v 5 0x2A 2), (F.CHG_RESV_CYC_MIN, v 5 0x2A 2), (F.CHG_RESV_E_RESERVE_E, v 5 0x2C 2)]

/-- Lenses, sensors and zones (R50, R51): a zone without courses takes FLOOR 16. -/
def structLenses (v : View) : List (Field × Nat) :=
  ((List.range 24).flatMap fun l =>
    [(F.LENS_CFG_INPUT l, lensV v l 0), (F.LENS_CFG_HYST l, lensV v l 1), (F.LENS_TH_LO l, lensV v l 2), (F.LENS_TH_HI l, lensV v l 3)]) ++
  ((List.range 12).flatMap fun t => [(F.TS_MAP_ZONE t, sensorV v t 0), (F.TS_MAP_SPARE_FOR t, sensorV v t 1)]) ++
  ((List.range 4).flatMap fun z =>
    let fl := if zoneV v z 0 == 0 then 16 else zoneV v z 1
    [(F.ZONE_CFG_COURSES z, zoneV v z 0), (F.ZONE_CFG_FLOOR_MAX z, fl), (F.ZONE_CFG_FLOOR z, fl)])

/-- Position time base, timers and slots (R52, R53). -/
def structWiring (v : View) : List (Field × Nat) :=
  [(F.PTB_MAP_SOURCE, v 7 0 1), (F.PTB_MAP_LENS, v 7 1 1), (F.PTB_MAP_REV, v 7 2 1 % 2), (F.PTB_MAP_QZ_CLR, v 7 2 1 / 2)] ++
  ((List.range 12).flatMap fun t =>
    [(F.GT_MAP_CLOCK t, timerV v t 0 1), (F.GT_MAP_MASTER t, timerV v t 1 1), (F.GT_INIT_PERIOD t, timerV v t 2 2),
     (F.GT_MAP_ACTION t, timerV v t 4 1), (F.GT_MAP_TARGET t, timerV v t 5 1)]) ++
  ((List.range 32).flatMap fun k =>
    [(F.SLOT_POSF_FRAC k, slotV v k 0 2), (F.SLOT_POSI_INT k, slotV v k 2 4), (F.SLOT_MAP_ACTION k, slotV v k 6 1),
     (F.SLOT_MAP_TARGET k, slotV v k 7 1), (F.SLOT_ARG_ARG k, slotV v k 8 4), (F.SLOT_MAP_EN k, slotV v k 12 1 % 2),
     (F.SLOT_MAP_BOTH k, slotV v k 12 1 / 2)])

/-- Capture set, watchdog and profile (R55, R57, R59). -/
def structCapture (v : View) : List (Field × Nat) :=
  [(F.CAP_CFG_CHANNELS, v 8 0 1), (F.CAP_CFG_RATE, v 8 2 2), (F.CAP_CFG_WINDOW_MAX, v 8 4 2), (F.CAP_EVT_START_EVT, v 8 6 2),
   (F.CAP_EVT_STOP_EVT, v 8 8 2)] ++
  ((List.range 16).map fun i => ((⟨R.CAP_CH (i / 4), 8 * (i % 4), 8⟩ : Field), v 8 (0x10 + i) 1)) ++
  [(F.WDT_CFG_PERIOD, v 9 0 2), (F.WDT_CFG_WDO_MS, v 9 2 1), (F.WDT_CFG_RESET_EN, v 9 3 1 % 2), (F.WDT_CFG_HOST_REQ, v 9 3 1 / 2),
   (F.WDT_CFG_TASKS, v 9 4 1)] ++
  ((List.range 16).flatMap fun k =>
    [(F.WDT_TASK_TASK_ID k, taskV v k 0 1), (F.WDT_TASK_OWNER k, taskV v k 1 1), (F.WDT_TASK_SIGNATURE k, taskV v k 2 2)]) ++
  [(F.SYSCFG_PROFILE, v 0xA 0 1), (F.SYSCFG_COMPAT_IMG, v 0xA 1 1)]

/-- Every register field that the structural fields of the image in a memory set, with its value. -/
def structural (m : List (Nat × Byte)) : List (Field × Nat) :=
  let v := viewOf m
  structTiles v ++ structPorts v ++ structCharger v ++ structLenses v ++ structWiring v ++ structCapture v ++
  if imageKind m = .gl7208 then compatFields m else []

/-! ### Presets (R38) -/

/-- A preset: the section whose list holds it, its address and its value. -/
structure Preset where
  sec   : Nat
  addr  : Nat
  value : Nat
deriving DecidableEq, Repr

/-- The offset of the preset list of a section (R38 to R59). -/
def presetAt (typ : Nat) : Nat :=
  if typ = 2 then 0xA0 else if typ = 3 then 0x88 else if typ = 4 then 0x10 else if typ = 5 then 0x40 else if typ = 6 then 0x88
  else if typ = 7 then 0x264 else if typ = 8 then 0x20 else if typ = 9 then 0x48 else 0x08

/-- The presets of section `typ`, in list order. -/
def presetsOf (v : View) (typ : Nat) : List Preset :=
  (List.range (v typ (presetAt typ) 2)).map fun i =>
    let a := presetAt typ + 4 + 8 * i
    ⟨typ, v typ a 2, v typ (a + 4) 4⟩

/-- The presets of an image, section by section in type order; a GL7208 image has none. -/
def presets (m : List (Nat × Byte)) : List Preset :=
  if imageKind m = .gl7208 then [] else (List.range 9).flatMap fun i => presetsOf (viewOf m) (i + 2)

/-- The registers with the structural fields of an image set. -/
def setFields (d : Dev) (l : List (Field × Nat)) : Dev := l.foldl (fun d (x : Field × Nat) => d.set x.1 x.2) d

/-- A preset writes the RW, LK and IMG fields of its register (R38). -/
def applyPreset (d : Dev) (p : Preset) : Dev :=
  match regAt p.addr with
  | some r =>
    let m := r.mask fun a => a == .rw || a == .lk || a == .img
    d.wr p.addr ((d.rd p.addr &&& ~~~m) ||| (BitVec.ofNat 32 p.value &&& m))
  | none => d

/-- The image's structural fields and then its presets applied to a device (R38, R65 step 5). -/
def applyFields (d : Dev) (m : List (Nat × Byte)) : Dev := (presets m).foldl applyPreset (setFields d (structural m))

end Sys2Proof.Machine
end

