-- ==== Sys2Proof/Machine/ImageCheck.lean ====
section
/-!
DEFINITION. The check of an image slot (R66, R69, R81): its steps in order, each with the code and the section it reports.
-/
namespace Sys2Proof.Machine

/-- A failing check reports its code and section. -/
def failIf (c : Bool) (code sec : Nat) : Option (Nat × Nat) := if c then some (code, sec) else none

/-- Every bit of the `n` bytes at `a` is 0. -/
def zeroAt (m : List (Nat × Byte)) (a n : Nat) : Bool := Mem.le m a n == 0

/-- Word numbers in `sp` that meet the bytes from `a` (R391: they cannot be read). -/
def spoiltIn (sp : List Nat) (a n : Nat) : Bool := sp.any fun w => decide (8 * w < a + n) && decide (a < 8 * w + 8)

/-! ### Header, directory, CRCs (R35, R36, R66 steps 1 to 4) -/

/-- Step 1: the header. -/
def checkHeader (m : List (Nat × Byte)) (sp : List Nat) : Option (Nat × Nat) :=
  failIf (imageKind m != .native) 0x01 0 <|>
  failIf (Mem.le m 0x04 2 != 0x0200) 0x03 0 <|>
  failIf (spoiltIn sp 0 64 || (crc32 (Mem.bytes m 0 0x3C)).toNat != Mem.le m 0x3C 4) 0x02 0 <|>
  failIf (Mem.le m 0x06 2 != 0x40 || !within 11 32 (Mem.le m 0x0C 1) || decide (3 < Mem.le m 0x0D 1) || decide (1 < Mem.le m 0x0E 2) ||
    !zeroAt m 0x12 2 || !zeroAt m 0x28 20) 0x01 0

/-- Step 2: the length (R34). It leaves room for the header, the directory's start and the signature block. -/
def checkLength (m : List (Nat × Byte)) : Option (Nat × Nat) :=
  let n := Mem.le m 0x08 4
  failIf (n % 16 != 0 || decide (1572864 < n) || decide (n < 192)) 0x04 0

/-- Two sections do not share a byte. -/
def apart (a b : SecEntry) : Bool := a.len == 0 || b.len == 0 || decide (a.off + a.len ≤ b.off) || decide (b.off + b.len ≤ a.off)

/-- No two sections of a list overlap. -/
def allApart : List SecEntry → Bool
  | [] => true
  | e :: t => t.all (apart e) && allApart t

/-- Step 3: the directory (R33, R36). -/
def checkDirectory (m : List (Nat × Byte)) : Option (Nat × Nat) :=
  let es := directory m
  let start := 0x40 + 16 * Mem.le m 0x0C 1
  let bad := es.any fun e =>
    e.resv != 0 || e.off % 16 != 0 || decide (e.off < start) || decide (signatureAt m < e.off + e.len) || !(within 1 0x0B e.typ || decide (0x80 ≤ e.typ))
  let once := (List.range 11).all fun i => (es.filter fun (e : SecEntry) => e.typ == i + 1).length == 1
  failIf (decide (signatureAt m < start) || bad || !once || !allApart es) 0x05 0

/-- Step 4: the section CRCs in directory order (R36, R391). -/
def checkCrcs (m : List (Nat × Byte)) (sp : List Nat) : Option (Nat × Nat) :=
  (directory m).findSome? fun e =>
    failIf (spoiltIn sp e.off e.len || (crc32 (Mem.bytes m e.off e.len)).toNat != e.crc) 0x06 e.typ

/-! ### Digest, signature, key, SVN, board (R40, R62 to R64, R66 steps 5 to 8 and 10) -/

/-- Step 5: the digest. -/
def checkDigest (m : List (Nat × Byte)) (sp : List Nat) : Option (Nat × Nat) :=
  let s := signatureAt m
  failIf (spoiltIn sp 0 (s + 128) || decide (imageDigest m ≠ (List.range 8).map fun i => Mem.word m (s + 8 + 4 * i))) 0x07 0

/-- The key slot of an image holds a key and is not revoked (R63). -/
def Dev.keyHeld (d : Dev) (k : Nat) : Bool := decide (k < 4) && d.fbit F.LC_STAT_PRESENT k && !d.fbit F.LC_STAT_REVOKED k

/-- The public key words of key slot `k`. -/
def Dev.keyWords (d : Dev) (k : Nat) : List Word := (vget d.keys k).key.getD []

/-- Step 6: the signature block. -/
def Dev.checkSignature (d : Dev) (m : List (Nat × Byte)) : Option (Nat × Nat) :=
  let s := signatureAt m
  let words (o n : Nat) : List Word := (List.range n).map fun i => Mem.word m (s + o + 4 * i)
  failIf (Mem.le m s 4 != 0x4749534D || !zeroAt m (s + 5) 3 || !zeroAt m (s + 0x68) 24) 0x08 0 <|>
  failIf (Mem.le m (s + 4) 1 != imageKey m || !d.keyHeld (imageKey m)) 0x09 0 <|>
  failIf (!Config.ecdsaVerify (d.keyWords (imageKey m)) (words 8 8) (words 0x28 16)) 0x08 0

/-- A key slot is accepted in a life-cycle state (R63). -/
def keyAccepted (k lc : Nat) : Bool := if k = 0 then decide (lc ≤ 1) else lc == 1 || lc == 2

/-- Steps 7 and 8: key acceptance and SVN. -/
def Dev.checkKey (d : Dev) (m : List (Nat × Byte)) : Option (Nat × Nat) :=
  failIf (!keyAccepted (imageKey m) (d.f F.LC_STAT_STATE)) 0x09 0 <|> failIf (decide (imageSvn m < d.f F.IMGSVN_SVN_MIN)) 0x0A 0

/-- Step 10: the board signature, BID_VALUE and BID_MASK (R40). -/
def Dev.checkBoard (d : Dev) (value mask sec : Nat) : Option (Nat × Nat) :=
  failIf (d.f F.SYSCFG_BID &&& mask != value &&& mask || (mask % 16 == 0 && decide (1 < d.f F.LC_STAT_STATE))) 0x0B sec

/-! ### Section layouts (R66 step 9) -/

/-- The reserved bytes of a section's structural part: offset, and the bits that are reserved. -/
def reservedOf (typ : Nat) : List (Nat × Nat) :=
  let all (lo hi : Nat) : List (Nat × Nat) := (List.range (hi - lo)).map fun i => (lo + i, 0xFF)
  match typ with
  | 1 => [(0, 0xF0), (1, 0xF0)] ++ all 6 8
  | 2 => ((List.range 16).map fun t => (4 * t + 3, 0xFF)) ++
         (List.range 6).flatMap fun c => (0x49 + 16 * c, 0xFC) :: all (0x4A + 16 * c) (0x50 + 16 * c)
  | 3 => ((List.range 5).flatMap fun p => (24 * p + 1, 0xFF) :: all (24 * p + 18) (24 * p + 24)) ++ all 0x86 0x88
  | 4 => [(4, 0xF0), (5, 0xFE)] ++ all 6 16
  | 5 => all 0x2E 0x40
  | 6 => (List.range 4).flatMap fun z => (0x78 + 4 * z, 0xC0) :: all (0x7A + 4 * z) (0x7C + 4 * z)
  | 7 => [(2, 0xFC), (3, 0xFF)] ++ ((List.range 12).flatMap fun t => all (10 + 8 * t) (12 + 8 * t)) ++
         (List.range 32).flatMap fun k => (0x70 + 16 * k, 0xFC) :: all (0x71 + 16 * k) (0x74 + 16 * k)
  | 8 => (1, 0xFF) :: all 10 16
  | 9 => (3, 0xFC) :: all 5 8
  | 10 => [(2, 0xFC), (3, 0xFF), (6, 0xFF), (7, 0xFF)]
  | _ => all 13 16

/-- The length of the structural part and, where the section has a preset list, whether its LENGTH is what its layout gives. -/
def layoutLength (v : View) (typ len : Nat) : Bool :=
  if typ = 1 then len == 32
  else if typ = 0x0B then decide (0x50 ≤ len) && len == 0x50 + v 0xB 4 4
  else decide (presetAt typ + 4 ≤ len) && len == presetAt typ + 4 + 8 * v typ (presetAt typ) 2

/-- The reserved bytes of a section's preset list are 0 (R38). -/
def presetsReserved (v : View) (typ : Nat) : Bool :=
  v typ (presetAt typ + 2) 2 == 0 && (List.range (v typ (presetAt typ) 2)).all fun i => v typ (presetAt typ + 6 + 8 * i) 2 == 0

/-- Step 9: one section's layout. -/
def layoutOk (m : List (Nat × Byte)) (typ : Nat) : Bool :=
  let v := nativeView m
  match findSection m typ with
  | none => false
  | some e =>
    layoutLength v typ e.len && (reservedOf typ).all (fun (x : Nat × Nat) => v typ x.1 1 &&& x.2 == 0) &&
    (typ == 1 || typ == 0x0B || presetsReserved v typ)

/-- Step 9: the section layouts, in type order. -/
def checkLayouts (m : List (Nat × Byte)) : Option (Nat × Nat) :=
  (List.range 11).findSome? fun i => failIf (!layoutOk m (i + 1)) 0x0C (i + 1)

/-! ### Section contents (R66 step 11) -/

/-- Tile `t` agrees with the masks of the courses (R43). -/
def tileAgrees (v : View) (t : Nat) : Bool :=
  let co := tileV v t 0
  let role := tileV v t 1
  decide (role ≤ 3) && decide (tileV v t 2 ≤ 1) && (decide (co ≤ 5) || (co == 0xFF && role == 0)) &&
  (List.range 6).all fun c =>
    (courseV v c 4 2).testBit t == (co == c && (role == 1 || role == 3)) && (courseV v c 6 2).testBit t == (co == c && role == 2)

/-- PORT and TOPOLOGY pair as R43 states. -/
def topologyOk (port top : Nat) : Bool :=
  if port = 1 then decide (top ≤ 1) else if port = 6 then top == 3 else within 2 5 port && top == 2

/-- A course entry passes (R42, R43). -/
def courseOk (v : View) (c : Nat) : Bool :=
  let port := courseV v c 0 1
  let work := maskTiles (courseV v c 4 2)
  if port == 0 then courseV v c 4 2 == 0 && courseV v c 6 2 == 0 && courseV v c 9 1 == 0
  else
    topologyOk port (courseV v c 1 1) && within 500 5000 (courseV v c 2 2) && (port != 2 || c == 1) &&
    (work.all fun t => (tileV v t 1 == 3) == (port == 6)) && (port != 6 || courseV v c 6 2 == 0) &&
    (!enabledV v c || (within 1 8 (tilesV v c).length && within 1 work.length (courseV v c 8 1)))

/-- Section 02h (R24, R43). -/
def tilesOk (v : View) : Bool :=
  (List.range 16).all (tileAgrees v) && (List.range 6).all (courseOk v) && (List.range 5).all fun p => decide ((coursesOnV v (p + 1)).length ≤ 1)

/-- The ranges of a port (R153, R170): qualification, its H, input limits, output limits, OV_TRIP, OC_TRIP, RC_TRIP, as (lowest, highest). -/
def portRanges (p : Nat) : List (Nat × Nat) × Nat :=
  match p with
  | 0 => ([(1800, 16500), (10, 15000), (0, 0), (2500, 17000), (100, 20000), (10, 5000)], 200)
  | 1 => ([(100, 6200), (10, 25000), (10, 25000), (500, 6500), (100, 30000), (10, 5000)], 50)
  | 4 => ([(450, 5200), (10, 500), (10, 500), (550, 5500), (50, 700), (10, 500)], 25)
  | _ => ([(3000, 6200), (10, 4000), (10, 4000), (3800, 6500), (100, 5000), (10, 2000)], 100)

/-- The value lies in range number `i` of port `p`. -/
def inPortRange (p i v : Nat) : Bool := within ((portRanges p).1.getD i (0, 0)).1 ((portRanges p).1.getD i (0, 0)).2 v

/-- A port entry passes (R46, R153, R170). -/
def portOk (v : View) (p : Nat) : Bool :=
  let role := portV v p 0 1
  let lo := portV v p 2 2
  let hi := portV v p 4 2
  let oc := portV v p 14 2
  decide (role ≤ 3) && (p != 0 || decide (role ≤ 1)) && (p != 1 || role == 0 || role == 3) && ((role == 0) == (coursesOnV v (p + 1)).isEmpty) &&
  (role == 0 ||
    (inPortRange p 0 lo && inPortRange p 0 hi && inPortRange p 1 (portV v p 6 2) && inPortRange p 1 (portV v p 8 2) &&
     inPortRange p 2 (portV v p 10 2) && inPortRange p 3 (portV v p 12 2) && inPortRange p 4 oc && inPortRange p 5 (portV v p 16 2) &&
     decide (lo + 2 * (portRanges p).2 < hi) && decide (hi < portV v p 12 2) && decide (portV v p 6 2 ≤ portV v p 8 2) &&
     decide (portV v p 8 2 < oc) && decide (portV v p 10 2 < oc)))

/-- Section 03h (R46, R140). -/
def portsOk (v : View) : Bool :=
  let sp := sysV v 0 2
  let lo := sysV v 2 2
  let hi := sysV v 4 2
  (List.range 5).all (portOk v) && [sp, lo, hi].all (within 1200 6000) && decide (lo ≤ sp) && decide (sp ≤ hi) && decide (sysV v 6 1 ≤ sysV v 7 1) &&
  decide (sysV v 7 1 ≤ 250) && within 1100 5900 (sysV v 8 2) && within 1000 5800 (sysV v 10 2) && within 1 50 (sysV v 12 1) &&
  within 1 50 (sysV v 13 1) && decide (sysV v 10 2 < sysV v 8 2) && decide (sysV v 8 2 ≤ lo)

/-- Section 04h (R47): used positions first, each port once, and only ports that may source. -/
def priorityOk (v : View) : Bool :=
  let order := (List.range 4).map fun i => v 4 i 1
  let used := order.takeWhile fun x => x != 0xFF
  (order.drop used.length).all (fun x => x == 0xFF) && used.Nodup &&
  used.all fun x => (x == 1 || within 3 5 x) && (portV v (x - 1) 0 1 == 1 || portV v (x - 1) 0 1 == 3)

/-- A temperature edge. -/
def edgeV (v : View) (i : Nat) : Int := ofTwos 16 (v 5 (0x1C + 2 * i) 2)

/-- Section 05h (R49, R191). -/
def chargerOk (v : View) : Bool :=
  let chem := v 5 0 1
  let f (o : Nat) : Nat := v 5 o 2
  if chem == 0 then (coursesOnV v 2).isEmpty
  else
    decide (chem ≤ 6) && coursesOnV v 2 == [1] && within 1 24 (v 5 1 1) && within 0 3500 (f 2) && within 500 4000 (f 4) && within 1000 4500 (f 6) &&
    within 800 4450 (f 8) && decide (f 2 < f 4) && decide (f 4 < f 8) && decide (f 8 < f 6) && decide (v 5 1 1 * f 6 ≤ 60000) &&
    (if chem == 6 then f 10 == 0 && f 0x14 == 0 && v 5 0x29 1 != 0xFF else within 2 20 (f 10) && within 1 240 (f 0x14)) &&
    within 5 2000 (f 0x0C) && within 10 10000 (f 0x0E) && within 10 10000 (f 0x10) && within 1 2000 (f 0x12) && decide (f 0x0E ≤ f 0x10) &&
    decide (f 0x0C ≤ f 0x0E) && decide (f 0x12 < f 0x0E) && within 1 240 (f 0x16) && within 10 1440 (f 0x18) && within 10 1440 (f 0x1A) &&
    (List.range 4).all (fun i => decide (-400 ≤ edgeV v i) && decide (edgeV v i ≤ 850) && decide (v 5 (0x24 + i) 1 ≤ 100)) &&
    (List.range 3).all (fun i => decide (edgeV v i < edgeV v (i + 1))) && decide (v 5 0x28 1 ≤ 7) &&
    (v 5 0x29 1 == 0xFF || decide (v 5 0x29 1 ≤ 23)) && decide (f 0x2A ≤ 1000) && within 1 1000 (f 0x2C)

/-- A lens INPUT that R301 lists. -/
def lensInput (x : Nat) : Bool := decide (x ≤ 0x13) || within 0x40 0x48 x || within 0x50 0x5F x || x == 0xFF

/-- Section 06h (R51, R301). -/
def lensesOk (v : View) : Bool :=
  (List.range 24).all (fun l => lensInput (lensV v l 0) && decide (lensV v l 1 ≤ 3) &&
    (lensV v l 0 == 0xFF || decide (lensV v l 2 ≤ lensV v l 3))) &&
  (List.range 12).all (fun t =>
    let z := sensorV v t 0
    let s := sensorV v t 1
    (decide (z ≤ 3) || z == 0xFF) &&
    (s == 0xFF || (decide (s ≤ 11) && sensorV v s 1 == 0xFF && sensorV v s 0 == z &&
      ((List.range 12).filter fun u => sensorV v u 1 == s).length == 1))) &&
  (List.range 4).all fun z => zoneV v z 0 == 0 ||
    (within 2 16 (zoneV v z 1) && (List.range 12).any fun t => sensorV v t 0 == z && sensorV v t 1 == 0xFF)

/-- A prism source number that R365 lists, and one that ADC_TRIG accepts. -/
def prismListed (n : Nat) : Bool := decide (n ≤ 0x15) || within 0x18 0x1D n || within 0x20 0x33 n || within 0x40 0x4B n || within 0x50 0x55 n || n == 0x58
def prismConvertible (n : Nat) : Bool := within 0x10 0x15 n || within 0x18 0x1C n || within 0x20 0x33 n

/-- A TARGET lies in the column of its ACTION (R283); an ACTION that R283 does not list has none. -/
def targetOk (act tgt : Nat) : Bool :=
  if act == 1 then prismConvertible tgt else if act == 2 then decide (tgt ≤ 7)
  else if within 3 6 act || act == 0x15 then decide (tgt ≤ 11)
  else if within 0x0B 0x0D act || act == 0x12 then decide (tgt ≤ 5)
  else if act == 0x13 then decide (tgt ≤ 4)
  else (act == 0 || within 7 0x0A act || act == 0x10 || act == 0x11 || act == 0x14) && tgt == 0

/-- The ARG of an enabled slot lies in the range of the field its action writes (R54, R140, R170, R191, R283; assumption 42). -/
def argOk (v : View) (act tgt arg : Nat) : Bool :=
  if act == 0x10 then within 1200 6000 arg
  else if act == 0x11 then decide (arg ≤ 250)
  else if act == 0x13 then (if portV v tgt 0 1 == 0 then decide (arg ≤ 0xFFFF) else inPortRange tgt 1 arg)
  else if act == 0x14 then (if v 5 0 1 == 0 then decide (arg ≤ 0xFFFF) else within 10 10000 arg)
  else if act == 0x12 || act == 0x15 then decide (arg ≤ 0xFFFF)
  else arg == 0

/-- A timer entry passes (R54, R284). -/
def timerOk (v : View) (t : Nat) : Bool :=
  let clock := timerV v t 0 1
  let master := timerV v t 1 1
  decide (clock ≤ 3) && (decide (master ≤ 3) || master == 0xFF) && !(t == 0 && clock == 2) && (clock != 3 || (decide (master ≤ 3) && master != t)) &&
  (clock != 1 || v 7 0 1 != 0) && decide (timerV v t 4 1 ≤ 0x0D) && targetOk (timerV v t 4 1) (timerV v t 5 1)

/-- A slot entry passes (R54, R284). -/
def slotOk (v : View) (k : Nat) : Bool :=
  let act := slotV v k 6 1
  let tgt := slotV v k 7 1
  targetOk act tgt && (!(slotV v k 12 1).testBit 0 || (v 7 0 1 != 0 && argOk v act tgt (slotV v k 8 4)))

/-- Section 07h (R52, R54, R284). -/
def wiringOk (v : View) : Bool :=
  let src := v 7 0 1
  let l := v 7 1 1
  decide (src ≤ 3) && (if src == 2 then decide (l ≤ 23) && lensV v l 0 != 0xFF else l == 0xFF) && (List.range 12).all (timerOk v) &&
  (List.range 32).all (slotOk v)

/-- Section 08h (R55, R56, R365). -/
def captureOk (v : View) : Bool :=
  let n := v 8 0 1
  let evt (o : Nat) : Bool := decide (v 8 o 2 ≤ 191) || v 8 o 2 == 0xFFFF
  within 1 16 n && within 1 100 (v 8 2 2) && (List.range 16).all (fun i =>
    let x := v 8 (0x10 + i) 1
    prismListed x || (x == 0xFF && decide (n ≤ i))) &&
  decide (n * 2 * v 8 2 2 * 100 * v 8 4 2 ≤ 2097152000) && evt 6 && evt 8

/-- Section 09h (R57, R58). TASK_ID, OWNER and SIGNATURE are judged for the first TASKS entries: R58 does not say what the unused ones hold
(assumption 41). -/
def tasksOk (v : View) : Bool :=
  let n := v 9 4 1
  let ids := (List.range n).map fun k => taskV v k 0 1
  let sigs := (List.range n).map fun k => taskV v k 2 2
  within 1 16000 (v 9 0 2) && within 1 100 (v 9 2 1) && decide (n ≤ 16) && ids.Nodup && sigs.Nodup && sigs.all (fun x => x != 0) &&
  (List.range n).all fun k =>
    let o := taskV v k 1 1
    o == 0 || o == 0x80 || (within 1 8 o && decide (o ≤ v 0xB 0x0C 1))

/-- Section 0Ah (R59). -/
def profileOk (v : View) : Bool := decide (v 0xA 0 1 ≤ 1) && decide (v 0xA 1 1 ≤ 1) && within 10 600 (v 0xA 4 2)

/-- Section 0Bh (R60, R61). STACK, ENTRY, PRIO and WDT_ID are judged for the first TASKS entries: R61 does not say what the unused ones hold
(assumption 41). -/
def firmwareOk (v : View) : Bool :=
  let n := v 0xB 0x0C 1
  let code := v 0xB 4 4
  let ids := (List.range (v 9 4 1)).map fun k => taskV v k 0 1
  decide (n ≤ 8) && code % 4 == 0 && decide (code ≤ 393216) && decide (code + ((List.range n).map fun k => fwTaskV v k 4 2).sum ≤ 491520) &&
  decide (v 0xB 8 4 < code) && (List.range n).all fun k =>
    decide (fwTaskV v k 0 4 < code) && decide (fwTaskV v k 6 1 ≤ 7) && (fwTaskV v k 7 1 == 0xFF || ids.contains (fwTaskV v k 7 1))

/-- Step 11: the contents of one section. -/
def contentsOk (v : View) (typ : Nat) : Bool :=
  match typ with
  | 2 => tilesOk v
  | 3 => portsOk v
  | 4 => priorityOk v
  | 5 => chargerOk v
  | 6 => lensesOk v
  | 7 => wiringOk v
  | 8 => captureOk v
  | 9 => tasksOk v
  | 10 => profileOk v
  | 11 => firmwareOk v
  | _ => true

/-- Step 11: the contents of the sections of a list, in type order. -/
def checkContents (v : View) (typs : List Nat) : Option (Nat × Nat) := typs.findSome? fun t => failIf (!contentsOk v t) 0x0C t

/-! ### Presets (R38, R66 step 12) -/

/-- The regions open to the preset list of a section (R37). -/
def regionOpen (sec a : Nat) : Bool :=
  match sec with
  | 2 => within 0x800 0x13FF a
  | 3 => within 0x1000 0x17FF a
  | 4 | 5 => within 0x1800 0x1BFF a
  | 6 => within 0x1C00 0x1FFF a || within 0x2400 0x27FF a
  | 7 => within 0x2000 0x23FF a || within 0x2C00 0x2FFF a
  | 8 => within 0x3000 0x37FF a
  | 9 => within 0x2800 0x2BFF a
  | _ => decide (a ≤ 0x3FF) || within 0x2C00 0x2FFF a || within 0x3800 0x3BFF a

/-- The registers whose write is an action, so that they accept no preset (R38). -/
def actionRegister (a : Nat) : Bool :=
  [R.TIME_SETH, R.TIME_SETL, R.DBG_CTL, R.PTB_CTL, R.PTB_SETV, R.WDT_CHECKIN, R.WDT_SERVICE, R.NVADDR, R.NVDATA, R.REC_SEL, R.REC_CTL,
   R.FLOG_SEL, R.FLOW_SEL, R.EV_SW, R.EVF_CTL].contains a || (List.range 12).any fun n => a == R.GT_CNT n

/-- A preset is accepted (R38, R268). -/
def presetOk (st : List (Field × Nat)) (p : Preset) : Bool :=
  let w : Word := BitVec.ofNat 32 p.value
  regionOpen p.sec p.addr && p.addr % 4 == 0 && !actionRegister p.addr &&
  match regAt p.addr with
  | none => false
  | some r =>
    let m := r.mask fun a => a == .rw || a == .lk || a == .img
    m != 0#32 && w &&& ~~~m == 0#32 && !(p.addr == R.PDIS_CFG && w.getLsbD 1) &&
    (r.fields.all fun (x : FieldMap) => !x.resv.contains ((⟨p.addr, x.lo, x.width⟩ : Field).read w)) &&
    st.all fun (x : Field × Nat) => x.1.addr != p.addr || x.1.read w == x.2 % 2 ^ x.1.width

/-- The lowest section type whose preset region holds an address (R495). -/
def lowestSection (a : Nat) : Nat := (((List.range 9).map (· + 2)).find? fun s => regionOpen s a).getD 0

/-- SECTION for a failed rule over the registers at `as`: the section of the last preset that wrote one of them, else the lowest section type
whose region holds one (R495). -/
def ruleSection (ps : List Preset) (as : List Nat) : Nat :=
  match ps.reverse.find? fun (p : Preset) => as.contains p.addr with
  | some p => p.sec
  | none => (as.map lowestSection).foldl min 0xFF

/-- A rule on final values: the registers it concerns and whether they break it. -/
abbrev Rule := List Nat × Bool

/-- A field of a register outside a range. -/
def rangeRule (d : Dev) (x : Field) (lo hi : Nat) : Rule := ([x.addr], !within lo hi (d.f x))

/-- The members of the chain of links from `x`, at most `n` of them. -/
def chainOf (next : Nat → Option Nat) : Nat → Nat → List Nat
  | 0, _ => []
  | n + 1, x =>
    match next x with
    | none => [x]
    | some z => x :: chainOf next n z

/-- A chain of links from `x` that comes back to `x` within `n` steps. -/
def comesBack (next : Nat → Option Nat) (x : Nat) : Nat → Nat → Bool
  | 0, _ => false
  | n + 1, y =>
    match next y with
    | none => false
    | some z => z == x || comesBack next x n z

/-- The rules of tiles and courses (R89, R90, R114, R123, R128, R142), each with the registers that it reads. `d` holds the final values.
TILEn_DUMP.RES is judged, with P_CONT, for the tiles of a course bound to SYS only, as R123 says: elsewhere its reset value 0 stands, though its field map gives 1 to 255 (assumption 68). -/
def courseRules (d : Dev) : List Rule :=
  let bound (c : Nat) : Bool := d.f (F.C_MAP_PORT c) != 0
  let on (c : Nat) : Bool := bound c && d.on (F.C_MAP_ENABLE c)
  let members (c : Nat) : List Nat := maskTiles (d.f (F.C_TILES_WORK_MASK c)) ++ maskTiles (d.f (F.C_TILES_SPARE_MASK c))
  let master (c : Nat) : Option Nat := if d.f (F.C_TRACK_MASTER c) ≤ 5 then some (d.f (F.C_TRACK_MASTER c)) else none
  ((List.range 16).flatMap fun t =>
    [rangeRule d (F.TILE_CFG_REFRESH t) 4 255, rangeRule d (F.TILE_TIMING_MIN_OFF t) 4 255, rangeRule d (F.TILE_SCALE_RSENSE t) 50 65535]) ++
  (List.range 6).flatMap fun c =>
    [rangeRule d (F.C_SHED_DWELL c) 1 255, rangeRule d (F.C_TRACK_RATE c) 1 255, rangeRule d (F.C_MIRROR_COUNT c) 1 255,
     ([R.C_SHED c], !(decide (d.f (F.C_SHED_STEP_LENS c) ≤ 23) || d.f (F.C_SHED_STEP_LENS c) == 31)),
     ([R.C_SHED c, R.C_MAP c],
       on c && decide (d.f (F.C_SHED_ADD_TH c) * d.f (F.C_MAP_MIN_PHASES c) < d.f (F.C_SHED_SHED_TH c) * (d.f (F.C_MAP_MIN_PHASES c) + 1))),
     ([R.C_OFFSET c, R.C_MAP c], on c && decide (d.f (F.C_MAP_PERIOD c) ≤ d.f (F.C_OFFSET_SHIFT c))),
     ((chainOf master 6 c).map R.C_TRACK, comesBack master c 6 c)] ++
    ((members c).flatMap fun t =>
      [([R.TILE_CFG t, R.C_MAP c, R.C_TILES c], on c && decide (d.f (F.C_MAP_TOPOLOGY c) ≤ 1) && (d.f (F.TILE_CFG_SPAN t) == d.f (F.C_MAP_TOPOLOGY c))),
       ([R.TILE_DUMP t, R.C_MAP c, R.C_TILES c], d.f (F.C_MAP_PORT c) == 6 && (!d.on (F.TILE_DUMP_RES t) || !d.on (F.TILE_DUMP_P_CONT t)))])

/-- The rules of SYS, the hold loop and the guards (R140, R153, R158). `roles` are the image's port roles. HOLD_V is judged only with C1 on BAT and CHEM
other than 00h: without a battery there is no hold map that could break R90, and R158 does not say so (assumption 41). -/
def sysRules (d : Dev) (roles : List Nat) : List Rule :=
  let sd := d.f F.SYS_SURPLUS_SURP_DUMP
  let chem := d.on F.CHG_CFG_CHEM
  [([R.SYS_SURPLUS], !(decide (1 ≤ d.f F.SYS_SURPLUS_SURP_BAT) && decide (d.f F.SYS_SURPLUS_SURP_BAT < d.f F.SYS_SURPLUS_SURP_RING) &&
      decide (d.f F.SYS_SURPLUS_SURP_RING < sd) && decide (sd ≤ 100))),
   rangeRule d F.SYS_CB_CB_V 1400 6600, rangeRule d F.SYS_CB_CB_REL 100 5800,
   ([R.SYS_CB, R.SYS_SURPLUS, R.SYS_BOUNDS], decide (d.f F.SYS_CB_CB_V < d.f F.SYS_BOUNDS_SETPOINT_MAX + 10 * sd + 100)),
   ([R.SYS_CB, R.SYS_WIN, R.SYS_BOUNDS], decide (d.f F.SYS_BOUNDS_SETPOINT_MIN ≤ d.f F.SYS_CB_CB_REL + 10 * d.f F.SYS_WIN_WIN_LO)),
   rangeRule d F.HOLD_CFG_ILIM_T 1 60] ++
  ((maskTiles (d.f (F.C_TILES_WORK_MASK 1))).map fun t =>
    ([R.SYS_FLOOR, R.HOLD_CFG, R.TILE_CFG t, R.CHG_CFG, R.CHG_VCV, R.C_MAP 1, R.C_TILES 1], chem && d.f (F.C_MAP_PORT 1) == 2 &&
      (if d.on (F.TILE_CFG_SPAN t) then decide (d.f F.HOLD_CFG_VBAT_MIN ≤ d.f F.SYS_FLOOR_HOLD_V)
       else decide (10 * d.f F.SYS_FLOOR_HOLD_V ≤ d.f F.CHG_CFG_CELLS * d.f F.CHG_VCV_V_CV)))) ++
  (List.range 5).flatMap fun p =>
    let isns := d.f (F.GUARD_CFG_ISNS p)
    let vsns := d.f (F.GUARD_CFG_VSNS p)
    let used := roles.getD p 0 != 0
    [rangeRule d (F.GUARD_TRIP2_RSH p) 50 65535,
     ([R.GUARD_CFG p], !((isns % 2 == 0 && decide (isns ≤ 18)) || isns == 31) || !(decide (vsns ≤ 19) || vsns == 31) ||
       (used && (isns == 31 || (decide (2 ≤ p) && vsns == 31))))]

/-- The rules of sources, charging and the energy ports (R181, R216, R253, R267, R268). -/
def portRules (d : Dev) (roles : List Nat) : List Rule :=
  let pdo (n : Nat) : Rule :=
    let v := d.f (F.PD_PDO_V n)
    let kind := if n < 4 then [500, 900, 1500, 2000].contains v else [2800, 3600, 4800].contains v
    ([R.PD_PDO n], (d.on (F.PD_PDO_EN n) && (!kind || decide (500 < d.f (F.PD_PDO_I n)))) || (n == 0 && !(d.on (F.PD_PDO_EN 0) && v == 500)))
  [([R.CHG_VFLOOR, R.CHG_VTH, R.CHG_VCV, R.CHG_CFG], d.on F.CHG_CFG_CHEM && !(decide (d.f F.CHG_VTH_V_DEEP ≤ d.f F.CHG_VFLOOR_V_DISCH) &&
      decide (d.f F.CHG_VFLOOR_V_DISCH ≤ d.f F.CHG_VFLOOR_V_RES) && decide (d.f F.CHG_VFLOOR_V_RES < d.f F.CHG_VCV_V_CV))),
   rangeRule d F.CHG_TADJ_ETA 50 100, rangeRule d F.CHG_TADJ_WARM_PCT 0 100, rangeRule d F.CHG_TADJ_COOL_PCT 0 100,
   rangeRule d F.RING_CFG_FLOW_AGE 10 255, rangeRule d F.RING_CFG_BUDGET 1 255, rangeRule d (F.SEG_POLICY_VOFFER 0) 3600 6000,
   rangeRule d (F.SEG_POLICY_VOFFER 1) 3600 6000, rangeRule d F.PDIS_CFG_I_DIS 1 50,
   ([R.PD_CFG], !(decide (d.f F.PD_CFG_DSNS ≤ 19) || d.f F.PD_CFG_DSNS == 31) || (roles.getD 4 0 != 0 && d.f F.PD_CFG_DSNS == 31))] ++
  (List.range 7).map pdo

/-- A timer's slave mode and its master's output agree (R292). -/
def slaveOk (d : Dev) (n : Nat) : Bool :=
  let sm := d.f (F.GT_CFG_SMODE n)
  let master := d.f (F.GT_MAP_MASTER n)
  let trgo := d.f (F.GT_CFG_TRGO master)
  if d.f (F.GT_MAP_CLOCK n) == 3 then sm == 0 && decide (master ≤ 3) && decide (trgo ≤ 1)
  else if sm == 0 then master == 7
  else if sm == 1 then decide (master ≤ 3) && trgo == 2
  else sm == 2 && decide (master ≤ 3) && decide (trgo ≤ 1)

/-- The rules of time base, timers, sensors, storage and background (R273, R284, R322, R397, R443, R428). -/
def timeRules (d : Dev) : List Rule :=
  let master (n : Nat) : Option Nat := if d.f (F.GT_MAP_MASTER n) ≤ 3 then some (d.f (F.GT_MAP_MASTER n)) else none
  [rangeRule d F.PTB_CFG_STALL 1 255, rangeRule d F.PTB_CFG_BLANK 1 255, ([R.RING_CFG, R.PTB_MAP], d.f F.PTB_MAP_SOURCE == 3 && d.f F.RING_CFG_CLK_SRC == 0),
   rangeRule d F.NAND_CFG_RETIRE 1 40, rangeRule d F.NAND_CFG_TMODE 0 5, ([R.NAND_CFG], d.on F.NAND_CFG_PSLC && !d.on F.NAND_CFG_PSLC_SEQ),
   rangeRule d F.ST_CFG_MARGIN 0 75] ++
  ((List.range 12).flatMap fun n =>
    [([R.GT_CFG n], !(decide (d.f (F.GT_CFG_CAPSRC n) ≤ 25) || d.f (F.GT_CFG_CAPSRC n) == 31)),
     ([R.GT_CFG n, R.GT_MAP n] ++ if d.f (F.GT_MAP_MASTER n) ≤ 3 then [R.GT_CFG (d.f (F.GT_MAP_MASTER n))] else [], !slaveOk d n),
     ((chainOf master 4 n).map R.GT_MAP, comesBack master n 4 n)]) ++
  ((List.range 12).flatMap fun n =>
    [([R.TS_TH n], !(decide (d.f (F.TS_TH_WARN n) < d.f (F.TS_TH_THROTTLE n)) && decide (d.f (F.TS_TH_THROTTLE n) < d.f (F.TS_TH_SHUTDOWN n)) &&
        decide (d.f (F.TS_TH_SHUTDOWN n) ≤ 200)))] ++
     if n < 4 then [] else [rangeRule d (F.TS_NTC_B n) 2000 6000, rangeRule d (F.TS_NTC_R25 n) 100 20000]) ++
  (List.range 8).map fun n =>
    ([R.DMA_CTL n, R.DMA_DST n], d.on (F.DMA_CTL_EN n) && decide (0x78000 < d.f (F.DMA_DST_ADDR n) + 4 * min (d.f (F.DMA_CTL_LEN n)) 4096))

/-- Every rule on the final values (R495), judged in one order that the spec leaves open (assumption 43). -/
def finalRules (d : Dev) (roles : List Nat) : List Rule := courseRules d ++ sysRules d roles ++ portRules d roles ++ timeRules d

/-- A preset that breaks a rule by itself: code 0Dh where it cannot be applied, 0Ch where it selects for telemetry a number that is no
prism source (R365). DESIGN CHOICE, log 57: that number is judged at its preset, in the presets step, whatever a later preset selects. -/
def presetFault (st : List (Field × Nat)) (p : Preset) : Option (Nat × Nat) :=
  failIf (!presetOk st p) 0x0D p.sec <|>
  failIf (p.addr == R.PRISM_TSEL && !prismListed (F.PRISM_TSEL_SOURCE.read (BitVec.ofNat 32 p.value))) 0x0C p.sec

/-- Step 12: the presets in order, then the final values. -/
def checkPresets (m : List (Nat × Byte)) : Option (Nat × Nat) :=
  let st := structural m
  let ps := presets m
  let final := applyFields {} m
  let roles := (List.range 5).map fun p => portV (viewOf m) p 0 1
  (ps.findSome? (presetFault st)) <|>
  ((finalRules final roles).findSome? fun (r : Rule) => failIf r.2 0x0D (ruleSection ps r.1))

/-- Step 13: the profile limits of R26: channels and rate of the capture set. -/
def checkProfile (v : View) : Option (Nat × Nat) :=
  failIf (v 0xA 0 1 == 0 && (decide (8 < v 8 0 1) || decide (50 < v 8 2 2))) 0x0E 8

/-! ### The checks -/

/-- The check of a native image (R66). Its last step, compatibility, concerns no native image. -/
def Dev.checkNative (d : Dev) (m : List (Nat × Byte)) (sp : List Nat) : Option (Nat × Nat) :=
  let v := nativeView m
  checkHeader m sp <|> checkLength m <|> checkDirectory m <|> checkCrcs m sp <|> checkDigest m sp <|> d.checkSignature m <|> d.checkKey m <|>
  checkLayouts m <|> d.checkBoard (v 1 0 1) (v 1 1 1) 1 <|> checkContents v [2, 3, 4, 5, 6, 7, 8, 9, 10, 11] <|> checkPresets m <|> checkProfile v

/-- The payload's own contents rules (R84). -/
def payloadOk (m : List (Nat × Byte)) : Bool :=
  let p := payload m
  p 0x08 1 == 1 && p 0x18 1 == 1 && p 0x10 1 == 2 && p 0x30 1 == 2 && decide (p 0x09 1 ≤ 1) && (p 0x0E 1).testBit 0 && p 0x11 1 == 2 &&
  ((p 0x16 1).testBit 0 == (p 0x58 1 != 0)) && within 125 1250 (p 0x0A 2) && within 125 1250 (p 0x12 2) && within 1 4 (p 0x0F 1) &&
  within 1 4 (p 0x17 1) && decide (p 0x58 1 ≤ 5) && p 0x19 1 % 2 == 0 && decide (p 0x19 1 ≤ 18) && p 0x31 1 % 2 == 0 && decide (p 0x31 1 ≤ 18)

/-- The 32 words of the payload sum to 0 (R82). -/
def payloadSum (m : List (Nat × Byte)) : Word := (List.range 32).foldl (fun acc i => acc + Mem.word m (16 + 4 * i)) 0#32

/-- The charger of a payload (R84, R49). With CHEM 00h the battery converter is bound but not enabled: the one condition that R49 then judges, no
course on BAT, is taken as no enabled one (assumption 41). -/
def compatChargerOk (v : View) : Bool := v 5 0 1 == 0 || chargerOk v

/-- The check of a GL7208 image (R81, R84). -/
def Dev.checkGl7208 (d : Dev) (m : List (Nat × Byte)) (sp : List Nat) : Option (Nat × Nat) :=
  let v := compatView m
  failIf (!d.on F.SYSCFG_COMPAT_PIN) 0x0F 0 <|> failIf (Mem.le m 0x0C 4 != 128) 0x04 0 <|>
  failIf (payload m 0 4 != 0x32374C47 || payload m 4 1 != 2 || payload m 6 2 != 0x80 || payloadSum m != 0#32) 0x06 0 <|>
  checkDigest m sp <|> d.checkSignature m <|> d.checkKey m <|> d.checkBoard (Mem.le m 4 1) (Mem.le m 5 1) 0 <|>
  failIf (!payloadOk m) 0x0C 0 <|> checkContents v [2, 3, 4] <|> failIf (!compatChargerOk v) 0x0C 5 <|> checkContents v [6, 7, 8, 9] <|>
  checkPresets m <|> checkProfile v

/-- The check of slot `k` (R66, R81): none where it passes, else the code and section of the first failure. -/
def Dev.checkSlot (d : Dev) (k : Nat) : Option (Nat × Nat) :=
  let s := vget d.slots k
  match imageKind s.bytes with
  | .native => d.checkNative s.bytes s.spoilt
  | .gl7208 => d.checkGl7208 s.bytes s.spoilt
  | .other => some (0x01, 0)

/-- The section CRCs alone, as the background check of R80 reads them; a GL7208 image has its payload's sum (R82). A slot that starts with neither
format has no section whose CRC could fail, but a valid fallback that reads so has lost its sections (assumption 68). -/
def Dev.sectionsGood (d : Dev) (k : Nat) : Bool :=
  let s := vget d.slots k
  match imageKind s.bytes with
  | .native => (checkLength s.bytes <|> checkDirectory s.bytes <|> checkCrcs s.bytes s.spoilt).isNone
  | .gl7208 => payloadSum s.bytes == 0#32 && !spoiltIn s.spoilt 0 272
  | .other => !d.boot.altValid

end Sys2Proof.Machine
end

