-- ==== Sys2Proof/Machine/WatchdogOps.lean ====
section
/-!
DEFINITION. The watchdog (R344 to R362): period, challenge, check-ins, token and expiry.
-/
namespace Sys2Proof.Machine

/-- The watchdog runs. -/
def Dev.wdtArmed (d : Dev) : Bool := d.alive && d.on F.WDT_STAT_ARMED

/-- One step of the challenge generator (R349). -/
def lfsrStep (s : Nat) : Nat := if s % 2 == 1 then (s / 2) ^^^ 0xB400 else s / 2

/-- A new period: count 0, next challenge, accumulator and task counts 0 (R348, R349); a GL7208 image has no challenge (R361). -/
def Dev.newPeriod (d : Dev) : Dev :=
  let d := (d.set F.WDT_COUNT_C 0).set F.WDT_STAT_WINDOW 0
  let d := if d.on F.WDT_STAT_MODE then d else d.set F.WDT_CHAL_CHALLENGE (lfsrStep (d.f F.WDT_CHAL_CHALLENGE))
  (d.putWdt { d.wdt with acc := 0, counts := Vector.replicate 16 0 })

/-- Bit i set for each table entry i whose count in the period satisfies `p` (R351). -/
def Dev.taskMask (d : Dev) (p : Nat → Bool) : Nat :=
  (List.range (min 16 (d.f F.WDT_CFG_TASKS))).foldl (fun m i => if p (vget d.wdt.counts i) then m + 2 ^ i else m) 0

/-- Steps 1 and 2 of an expiry with `cause` (R355): the masks for causes 3 and 4, WDT_LAST, EXPIRED, WDO low, EVB5 source 18, a fault-log entry with the
cause, the challenge and the masks. `resets`: the logic die is to be reset. -/
def Dev.expiryTrace (d : Dev) (cause : Nat) (resets : Bool) : Dev :=
  let masks := cause == 3 || cause == 4
  let d := if masks then
      (d.set F.WDT_FAULT_MISS (d.taskMask (· == 0))).set F.WDT_FAULT_EXCESS (d.taskMask (fun n => decide (2 ≤ n)))
    else d
  let d := (d.set F.WDT_LAST_CAUSE cause).set F.WDT_STAT_EXPIRED 1
  let d := if resets then d.incSat F.WDT_LAST_RESETS else d
  let d := (d.putBalls { d.balls with wdoLow := true })
  let words := [BitVec.ofNat 32 cause, BitVec.ofNat 32 (d.f F.WDT_CHAL_CHALLENGE)] ++ (if masks then [d.rd R.WDT_FAULT] else [])
  (d.raise 5 18).logFault 5 18 words

/-- An expiry with `cause` (R355): its trace, then the logic-die reset, or a new period. -/
def Dev.expire (d : Dev) (cause : Nat) (mustReset : Bool) : Dev :=
  let resets := d.on F.WDT_CFG_RESET_EN || mustReset
  let d := d.expiryTrace cause resets
  if resets then d.logicReset 3 else d.newPeriod

/-- The device's token: ((ROTL16(C, 5) XOR A) + C) mod 65 536 (R352). -/
def token (c a : BitVec 16) : BitVec 16 := (c.rotateLeft 5 ^^^ a) + c

/-- The entry of the task table that a TASK_ID names (R350). -/
def Dev.taskEntry (d : Dev) (id : Nat) : Option Nat :=
  (List.range (min 16 (d.f F.WDT_CFG_TASKS))).find? fun i => d.f (F.WDT_TASK_TASK_ID i) == id

/-- A check-in by `o` as a tick takes it (R350): from the host for an OWNER of 80h and from the core for any other, or BAD_ID or BAD_ORIGIN with EVB5
source 21. -/
def Dev.takeCheckin (d : Dev) (id : Nat) (o : Origin) : Dev :=
  match d.taskEntry (id % 256) with
  | none => (d.set F.WDT_STAT_BAD_ID 1).raise 5 21
  | some i =>
    let owner := d.f (F.WDT_TASK_OWNER i)
    if o == (if owner == 0x80 then .host else .core) then
      (d.putWdt { d.wdt with acc := d.wdt.acc ^^^ BitVec.ofNat 16 (d.f (F.WDT_TASK_SIGNATURE i)),
                             counts := vset d.wdt.counts i (min 3 (vget d.wdt.counts i + 1)) })
    else (d.set F.WDT_STAT_BAD_ORIGIN 1).raise 5 21

/-- The waiting check-ins are taken, in arrival order (step 3 of R347). -/
def Dev.takeCheckins (d : Dev) : Dev :=
  d.wdt.checkins.foldl (fun d x => d.takeCheckin x.1 x.2) (d.putWdt { d.wdt with checkins := [] })

/-- The cause with which a service taken at this tick ends in a fault, none where it is accepted (R347, R352, R361). -/
def Dev.serviceFault (d : Dev) (x : WdtAnswer) : Option Nat :=
  let c := BitVec.ofNat 16 (d.f F.WDT_CHAL_CHALLENGE)
  if d.f F.WDT_COUNT_C < d.f F.WDT_OPEN_T_TICKS then some 2
  else if d.on F.WDT_STAT_MODE then (if x.tok == 0x5AA5#16 then none else some 3)
  else if x.echo != c then some 4
  else if x.tok != token c d.wdt.acc then some 3
  else none

/-- The services of a tick in turn, up to the first fault: an accepted one begins a new period, for which a further one is early (R348, R353). -/
def Dev.takeServices : List WdtAnswer → Dev → Option Nat × Dev
  | [], d => (none, d)
  | x :: xs, d =>
    match d.serviceFault x with
    | some c => (some c, d)
    | none => Dev.takeServices xs (d.inc F.WDT_CHAL_PERIODS).newPeriod

/-- The waiting services, the host's before the core's (R353). -/
def Dev.waitingServices (d : Dev) : List WdtAnswer :=
  d.wdt.services.filter (fun x => x.by_ == .host) ++ d.wdt.services.filter fun x => x.by_ != .host

/-- The window opens when c has reached OPEN_T: WINDOW, EVB5 source 19 (R347). -/
def Dev.openWdtWindow (d : Dev) : Dev :=
  if decide (d.f F.WDT_OPEN_T_TICKS ≤ d.f F.WDT_COUNT_C) && !d.on F.WDT_STAT_WINDOW then (d.set F.WDT_STAT_WINDOW 1).raise 5 19 else d

/-- How a tick ends (R355, R360, R362): with the fault that it recognised, or with that of a waiting FORCE. A FORCE that meets a fault makes a second expiry
at the next tick: before the reset takes hold where the first one resets the logic die, else with the next tick. -/
def Dev.endTick (d : Dev) (fault : Option Nat) : Dev :=
  match fault, d.wdt.force with
  | none, false => d
  | none, true => (d.putWdt { d.wdt with force := false }).expire 6 false
  | some c, false => d.expire c false
  | some c, true => if d.on F.WDT_CFG_RESET_EN then (d.expiryTrace c true).expire 6 false else d.expire c false

/-- A tick (R347): the count, unless a debugger has frozen it (R359); the check-ins, which belong to the expiring period where c has reached PERIOD_T;
then that expiry, or the opening of the window and the services. -/
def Dev.wdtTick (d : Dev) : Dev :=
  if !d.wdtArmed then d
  else
    let frozen := d.on F.WDT_STAT_FROZEN
    let d := if frozen then d else d.inc F.WDT_COUNT_C
    let services := d.waitingServices
    let d := (d.putWdt { d.wdt with services := [] }).takeCheckins
    if !frozen && decide (d.f F.WDT_PERIOD_T_TICKS ≤ d.f F.WDT_COUNT_C) then d.endTick (some 1)
    else
      let r := Dev.takeServices services d.openWdtWindow
      r.2.endTick r.1

/-- The tick at which c reaches `n`, if it has not passed it (R347). -/
def Dev.tickTo (d : Dev) (n : Nat) : Dev :=
  if !d.wdtArmed || d.on F.WDT_STAT_FROZEN || decide (n ≤ d.f F.WDT_COUNT_C) then d else (d.set F.WDT_COUNT_C (n - 1)).wdtTick

/-- A write of WDT_CHECKIN by `o`, taken at the next tick (R347, R350). -/
def Dev.checkIn (d : Dev) (id : Nat) (o : Origin) : Dev :=
  let d := d.set F.WDT_CHECKIN_ID id
  if !d.wdtArmed then d else d.putWdt { d.wdt with checkins := d.wdt.checkins ++ [(id, o)] }

/-- A write of WDT_SERVICE by `o`, judged at the next tick (R347, R352), or ignored for its origin (R353); a debugger is neither the host nor the core
(assumption 58). -/
def Dev.service (d : Dev) (echo tok : BitVec 16) (o : Origin) : Dev :=
  let d := (d.set F.WDT_SERVICE_ECHO echo.toNat).set F.WDT_SERVICE_TOKEN tok.toNat
  if !d.wdtArmed then d
  else if o == .debugger || (d.on F.WDT_CFG_HOST_REQ && o != .host) then (d.set F.WDT_STAT_BAD_ORIGIN 1).raise 5 21
  else d.putWdt { d.wdt with services := d.wdt.services ++ [⟨o, echo, tok⟩] }

/-- A write of WDT_CTL.FORCE (R360): an expiry with cause 6 at the next tick in BLANK or COMMISSION, else FORCE_REJ. -/
def Dev.forceWdt (d : Dev) : Dev :=
  if 2 ≤ d.f F.LC_STAT_STATE then d.set F.WDT_STAT_FORCE_REJ 1
  else if d.wdtArmed then d.putWdt { d.wdt with force := true }
  else d

/-- WDT_OPEN_T shows the opening of the window for the period and the fuse in force (R346). -/
def Dev.showOpenT (d : Dev) : Dev :=
  d.set F.WDT_OPEN_T_TICKS (d.f F.WDT_PERIOD_T_TICKS * (min 5 (d.f F.WDT_FUSE_WINDOW) + 1) / 8)

/-- The fuses are programmed (R346, R347, R359): the opening follows WINDOW at once, and NOFREEZE ends a freeze. -/
def Dev.fusesChanged (d : Dev) : Dev :=
  if !d.wdtArmed then d
  else
    let d := d.showOpenT
    let d := d.setB F.WDT_STAT_WINDOW (d.on F.WDT_STAT_WINDOW && decide (d.f F.WDT_OPEN_T_TICKS ≤ d.f F.WDT_COUNT_C))
    d.onlyIf (d.on F.WDT_FUSE_NOFREEZE) fun d => d.set F.WDT_STAT_FROZEN 0

/-- The watchdog is armed when the core starts at ENTRY (R344, R346, R349, R358, R361): `crystal` says that the declared crystal runs. -/
def Dev.armWdt (d : Dev) (crystal gl7208 : Bool) : Dev :=
  let t := d.f F.WDT_CFG_PERIOD * 4096 / 125
  let d := (d.set F.WDT_PERIOD_T_TICKS t).showOpenT
  let d := ((d.setB F.WDT_STAT_CLK crystal).setB F.WDT_STAT_MODE gl7208).set F.WDT_STAT_ARMED 1
  let d := ((d.set F.WDT_COUNT_C 0).putWdt {})
  if gl7208 then d.set F.WDT_CHAL_CHALLENGE 0
  else let x := d.fresh; x.2.set F.WDT_CHAL_CHALLENGE (1 + x.1 % 65535)

end Sys2Proof.Machine
end

