-- ==== Sys2Proof/Machine/LifeCycle.lean ====
section
/-!
DEFINITION. The life cycle (R419 to R423): signatures, the commands of LC_CTL, and what a change of state wipes.
-/
namespace Sys2Proof.Machine

/-- LC_BUF or LC_SIG as words. -/
def Dev.lcBuf (d : Dev) : List Word := (List.range 16).map fun i => d.rd (R.LC_BUF i)
def Dev.lcSig (d : Dev) : List Word := (List.range 16).map fun i => d.rd (R.LC_SIG i)

/-- The 78 bytes a life-cycle signature covers (R420). -/
def Dev.lcMessage (d : Dev) (op arg : Nat) : List Byte :=
  leBytes (d.rd (R.LC_UID 0)) ++ leBytes (d.rd (R.LC_UID 1)) ++ leBytes (d.rd R.LC_NONCE) ++ [BitVec.ofNat 8 op, BitVec.ofNat 8 arg] ++
  d.lcBuf.flatMap leBytes

/-- Why a signature by key slot `key` is refused: RESULT 3 or 2 (R420, R429). -/
def Dev.lcUnsigned (d : Dev) (op key arg : Nat) : Option Nat :=
  if !d.keyHeld key || !keyAccepted key (d.f F.LC_STAT_STATE) then some 3
  else if !Config.ecdsaVerify (d.keyWords key) (Config.sha256 (d.lcMessage op arg)) d.lcSig then some 2
  else none

/-- The owner keys that are present and not revoked. -/
def Dev.ownerKeys (d : Dev) : List Nat := [1, 2, 3].filter d.keyHeld

/-- Why ADVANCE is refused, its signature apart (R419, R420). -/
def Dev.advanceBar (d : Dev) (target : Nat) : Option Nat :=
  let st := d.f F.LC_STAT_STATE
  if !((target == 1 && st == 0) || (target == 2 && st == 1) || (target == 3 && decide (st ≤ 2))) then some 1
  else if target == 2 && d.ownerKeys.isEmpty then some 7
  else none

/-- Why WRITE_KEY, REVOKE_KEY or FUSE is refused, its signature apart (R420). -/
def Dev.writeKeyBar (d : Dev) (slot : Nat) : Option Nat :=
  if decide (1 < d.f F.LC_STAT_STATE) || !within 1 3 slot then some 1
  else if d.fbit F.LC_STAT_PRESENT slot then some 4
  else if !Config.validPoint d.lcBuf then some 8
  else none
def Dev.revokeKeyBar (d : Dev) (slot : Nat) : Option Nat :=
  if !within 1 2 (d.f F.LC_STAT_STATE) || decide (3 < slot) then some 1
  else if d.f F.LC_STAT_STATE == 2 && d.ownerKeys == [slot] then some 5
  else none
def Dev.fuseBar (d : Dev) (arg : Nat) : Option Nat :=
  if decide (1 < d.f F.LC_STAT_STATE) then some 1
  else if (arg % 8 != 0 && d.recov.fuseWindow) || (arg / 8 % 2 != 0 && d.recov.fuseFreeze) then some 9
  else none

/-- A command refused with RESULT `r`: nothing else changes, EVB0 source 12 (R420). -/
def Dev.lcRefuse (d : Dev) (r : Nat) : Dev := (d.set F.LC_STAT_RESULT r).raise 0 12

/-- A command admitted: RESULT 0, and LC_NONCE increments (R420). -/
def Dev.lcAdmit (d : Dev) : Dev := (d.set F.LC_STAT_RESULT 0).inc F.LC_NONCE_NONCE

/-- An admitted command runs for a time that the spec bounds for ADVANCE alone, so a free one: BUSY reads 1 meanwhile (R421, R429, assumption 59). -/
def Dev.lcRun (d : Dev) : Dev :=
  let x := d.fresh
  if x.1 = 0 then x.2 else (x.2.set F.LC_STAT_BUSY 1).putRecov { x.2.recov with lcUs := x.1 }

/-- LC_CTL takes OP, ARG and KEY as the GO write gives them (R429). -/
def Dev.lcCtl (d : Dev) (op key arg : Nat) : Dev := ((d.set F.LC_CTL_OP op).set F.LC_CTL_KEY key).set F.LC_CTL_ARG arg

/-- Judged against `bar`, while no command runs, and against the signature where one is needed, a command is refused or goes on with `act`. -/
def Dev.lcJudge (d : Dev) (op key arg : Nat) (bar : Option Nat) (signed : Bool) (act : Dev → Dev) : Dev :=
  let d := d.lcCtl op key arg
  match if d.on F.LC_STAT_BUSY then some 6 else bar with
  | some r => d.lcRefuse r
  | none =>
    match if signed then d.lcUnsigned op key arg else none with
    | some r => d.lcRefuse r
    | none => act d.lcAdmit.lcRun

/-! ### What a change wipes (R421, R422) -/

/-- The digest of a slot for the return record; a slot that holds no image has none that the spec states, so free words stand for it. -/
def Dev.returnDigest (d : Dev) (k : Nat) : List Word × Dev :=
  let m := (vget d.slots k).bytes
  if imageKind m = .other then
    ((List.range 8).map fun i => BitVec.ofNat 32 (Config.freeValue (d.freeCount + i)), (d.putFreeCount (d.freeCount + 8)))
  else (imageDigest m, d)

/-- Entering RETURN (R421 step 2): return record, keys, slots, XTS pair. -/
def Dev.enterReturn (d : Dev) : Dev :=
  let a := d.returnDigest 0
  let b := a.2.returnDigest 1
  let svns := (List.range 2).map fun k => BitVec.ofNat 32 (imageSvn (vget d.slots k).bytes)
  let d := b.2.set F.LC_STAT_REVOKED 15
  let d := (d.putSlots (Vector.replicate 2 {})).putBoot { d.boot with noneActive := true, trial := false, booted := false, altValid := false }
  d.putRecov { d.recov with returned := a.1 ++ b.1 ++ svns }

/-- The fields of the retained region that registers show and a change of state zeroes (R422). -/
def wipedFields : List Field :=
  [F.SYS_OOW_MS, F.AVL_DARK_MS, F.WDT_LAST_RESETS, F.WDT_LAST_CAUSE, F.CAP_CYCLE_CYCLE, F.THERM_HW_LD_SHUTS, F.THERM_HW_LD_SEEN,
   F.FLOG_STAT_FIRST, F.FLOG_STAT_NEWEST, F.CHG_RESV_E_RELEASED, F.CHG_ENERGY_E_AVAIL]

/-- Steps 2 to 4 of a change to state `t`, on a logic die held in reset (R421, R422, R423): a field of the retained region takes its reset value (R465). -/
def Dev.lcFinish (d : Dev) (t : Nat) : Dev :=
  let d := if t == 3 then d.enterReturn else d
  let d := ((wipedFields.foldl (fun d x => d.set x 0) d).set F.CHG_RESV_E_UNCAL 1).set F.MRAM_STAT_SPARE_LEFT 704
  let d := ((d.set F.LC_STAT_STATE t).set F.LC_STAT_CHANGING 0).onlyIf (t == 3) fun d => d.set F.NAND_STAT_STATE 5
  let kept := d.nand
  let nand := { kept with format := t != 3, store := [], pend := none, erase := none, jTail := kept.jSeq, jRolls := 0, jRetired := 0,
                          shut := if t == 3 then 5 else 0 }
  let d := (((d.putLive {}).putFmap (Vector.replicate 16 {})).putRet {}).putNv []
  let d := d.putLog { entries := d.log.entries.filter fun (x : Nat × LogEntry) => x.1 == 0 }
  let d := (d.putLens (d.lens.map fun x => { x with failedMap := false })).putChg { d.chg with energy := 0 }
  let d := d.putSys { d.sys with oowUs := 0, darkUs := 0 }
  (d.putNand nand).putRecov { d.recov with lcTarget := none, xts := if t == 3 then none else d.recov.xts.map Config.newKeyPair }

/-- An admitted ADVANCE (R421): the life-cycle word reads CHANGING; a reset before step 4, with cause `cut`, leaves it so (R423); otherwise the
change runs to its end and the logic die is reset with cause 10. -/
def Dev.lcChange (d : Dev) (t : Nat) (cut : Option (Fin 8)) : Dev :=
  let d := ((d.set F.LC_STAT_CHANGING 1).putRecov { d.recov with lcTarget := some t })
  match cut with
  | some c => d.logicReset c.val
  | none => (d.logicReset 10).lcFinish t

/-- ADVANCE (R420, R421). -/
def Dev.lcAdvance (d : Dev) (key arg : Nat) (cut : Option (Fin 8)) : Dev :=
  let free := arg == 1 || (arg == 3 && d.f F.LC_STAT_STATE == 0)
  d.lcJudge 1 key arg (d.advanceBar arg) (!free) fun d => d.lcChange arg cut

/-- WRITE_KEY (R420): the slot takes the coordinates in LC_BUF. -/
def Dev.lcWriteKey (d : Dev) (key arg : Nat) : Dev :=
  d.lcJudge 2 key arg (d.writeKeyBar arg) false fun d =>
    ((d.setBit F.LC_STAT_PRESENT arg true).putKeys (vset d.keys arg { key := some d.lcBuf }))

/-- REVOKE_KEY (R420): never by the key that is revoked. -/
def Dev.lcRevokeKey (d : Dev) (key arg : Nat) : Dev :=
  let bar := match d.revokeKeyBar arg with
    | some r => some r
    | none => if key == arg then some 3 else none
  d.lcJudge 3 key arg bar true fun d => d.setBit F.LC_STAT_REVOKED arg true

/-- FUSE (R346, R359, R360, R420): a field that is not 0 programs its fuse, once. -/
def Dev.lcFuse (d : Dev) (key arg : Nat) : Dev :=
  d.lcJudge 4 key arg (d.fuseBar arg) (d.f F.LC_STAT_STATE == 1) fun d =>
    let d := if arg % 8 == 0 then d
      else ((d.set F.WDT_FUSE_WINDOW (arg % 8)).putRecov { d.recov with fuseWindow := true })
    let d := if arg / 8 % 2 == 0 then d
      else ((d.set F.WDT_FUSE_NOFREEZE 1).putRecov { d.recov with fuseFreeze := true })
    d.fusesChanged

/-- A write of GO (R420): the command that OP names. -/
def Dev.lcGo (d : Dev) (op key arg : Nat) (cut : Option (Fin 8)) : Dev :=
  if op == 1 then d.lcAdvance key arg cut
  else if op == 2 then d.lcWriteKey key arg
  else if op == 3 then d.lcRevokeKey key arg
  else if op == 4 then d.lcFuse key arg
  else d.lcJudge op key arg (some 1) false id

/-! ### Commands -/

/-- LC_ADVANCE (R421). `cut`: the cause of a reset that falls before step 4. -/
def lcAdvanceRow (d : Dev) (key arg : Nat) (cut : Option (Fin 8)) : Dev := if d.alive then d.lcAdvance key arg cut else d
def execLcAdvance (key : BitVec 2) (target : BitVec 8) (cut : Option (Fin 8)) (s : State) : Host.Outcome State Fault Refusal :=
  done s (lcAdvanceRow s.dev key.toNat target.toNat cut)

/-- LC_WRITE_KEY (R420). -/
def lcWriteKeyRow (d : Dev) (key arg : Nat) : Dev := if d.alive then d.lcWriteKey key arg else d
def execLcWriteKey (key : BitVec 2) (slot : BitVec 8) (s : State) : Host.Outcome State Fault Refusal :=
  done s (lcWriteKeyRow s.dev key.toNat slot.toNat)

/-- LC_REVOKE_KEY (R420). -/
def lcRevokeKeyRow (d : Dev) (key arg : Nat) : Dev := if d.alive then d.lcRevokeKey key arg else d
def execLcRevokeKey (key : BitVec 2) (slot : BitVec 8) (s : State) : Host.Outcome State Fault Refusal :=
  done s (lcRevokeKeyRow s.dev key.toNat slot.toNat)

/-- LC_FUSE (R360, R420). -/
def lcFuseRow (d : Dev) (key arg : Nat) : Dev := if d.alive then d.lcFuse key arg else d
def execLcFuse (key : BitVec 2) (arg : BitVec 8) (s : State) : Host.Outcome State Fault Refusal :=
  done s (lcFuseRow s.dev key.toNat arg.toNat)

/-- LC_INVALID_OP (R429): an OP other than 1 to 4 is refused with RESULT 1; the command names one of those 12 values. -/
def lcInvalidOp (d : Dev) (op key arg : Nat) : Dev := if d.alive && !within 1 4 op then d.lcJudge op key arg (some 1) false id else d
def execLcInvalidOp (op : BitVec 4) (key : BitVec 2) (arg : BitVec 8) (s : State) : Host.Outcome State Fault Refusal :=
  done s (lcInvalidOp s.dev op.toNat key.toNat arg.toNat)

end Sys2Proof.Machine
end

