-- ==== Sys2Proof/Machine/PowerOps.lean ====
section
/-!
DEFINITION. What the power die does when the logic die is absent (R21, R22, R157, R159), and what a reset of the power die itself clears.
-/
namespace Sys2Proof.Machine

/-- The watchdog is in reset while the logic die is absent (R25). -/
def Dev.wdtReset (d : Dev) : Dev :=
  ([F.WDT_STAT_ARMED, F.WDT_STAT_WINDOW, F.WDT_STAT_FROZEN, F.WDT_COUNT_C, F.WDT_CHAL_CHALLENGE, F.WDT_CHAL_PERIODS].foldl (fun d x => d.set x 0) d).putWdt
    {}

/-- A capture window in progress is abandoned, without a record (R25). -/
def Dev.dropWindow (d : Dev) : Dev :=
  let d := d.putCap { d.cap with wantOpen := none, wantClose := none }
  if d.on F.CAP_STAT_OPEN then (d.set F.CAP_STAT_OPEN 0).freeHalf (d.f F.CAP_STAT_HALF) else d

/-- What the logic die loses with its heartbeat when it is not in reset: its courses stop and their tiles change state at once, since no boundary
follows; the path, the core, the watchdog and the capture window end (R25). -/
def Dev.heartbeatLost (d : Dev) : Dev :=
  let d := d.latchForward.each 6 fun d c => (d.abortTests c).hardStop c true
  (((d.each 16 fun d t => d.enterNext t).setPath 0 0).wdtReset).dropWindow

/-- The power die declares the logic die absent (R22): gates off, pass-through, lamps released; an absence begins with LAST_CODE 0 (R159), and the
hold loop takes the hold map if it may run (R157). A logic die that is not in reset has lost its course engines. -/
def Dev.logicAbsent (d : Dev) : Dev :=
  if d.pw.mode != .on || d.pw.absent then d
  else
    let d := if d.pw.inReset then d else d.heartbeatLost
    let d := ((d.gatesOff.set F.STAT_CTL_PAT0 0).set F.STAT_CTL_PAT1 0).set F.HOLD_STAT_LAST_CODE 0
    let d := (d.set F.HOLD_STAT_ABSENT_MS 0).putPw { d.pw with absent := true, engines := false, coreRuns := false }
    let d := (d.putRing { d.ring with passThrough := true }).putLamp (Vector.replicate 2 {})
    let d := d.putSys { d.sys with absentUs := 0, handback := false, holdDid := d.sys.holdRuns }
    d.startHold

/-- The state after a power-on reset of both dies (R147, R168, R171, R205, R207, R406, R427): as after a logic-die reset, and the power die's own latches,
comparators, hold map and RSTCAUSE start again; the logic die is held in reset and absent. -/
def Dev.powerDieReset (d : Dev) (cause : Nat) : Dev :=
  let e := d.beforeReset.cleared
  let e := [F.HOLD_STAT_ABSENT_MS, F.HOLD_STAT_CB_BLOCK, F.HOLD_STAT_BAT_LOW, F.HOLD_STAT_LAST_CODE, F.THERM_HW_PD_SHUT, F.THERM_HW_PD_SEEN,
    F.THERM_HW_PD_SHUTS,
    F.RSTCAUSE_RESTARTS, F.RSTCAUSE_PREV, F.RSTCAUSE_CAUSE].foldl (fun e x => e.set x 0) e
  let e := e.each 6 fun e c => e.set (F.C_PCTL_CB_LATCH c) 0
  let e := e.each 5 fun e p => [F.GUARD_STAT_LATCHED p, F.GUARD_STAT_RETRIES p, F.GUARD_STAT_FET_ON p, F.PORT_STAT_ABOVE p, F.PORT_STAT_ABOVE_MIN p].foldl
    (fun e x => e.set x 0) e
  let e := e.putPw { e.pw with mode := .on, inReset := true, resetCause := cause, resetAt := none, absent := true, ldTripped := false, engines := false
                               conf := [], coreRuns := false, hostReady := false, coreInt := false, coreWake := false }
  let e := e.putServ { e.serv with rp := false }
  ((((e.putBalls { node := e.balls.node }).putTile (Vector.replicate 16 {})).putSys { vSys := e.sys.vSys }).putPort (Vector.replicate 5 {})).putRing {}

/-- The keep-alive domain starts again too: device time, wake record, button (R204, R444, R427). -/
def Dev.keepAliveReset (d : Dev) : Dev :=
  let d := [F.PWR_STAT_WAKE, F.PWR_STAT_PRESS_10MS, F.PWR_STAT_BTN, F.CHG_RESV_E_HOLD_RX].foldl (fun d x => d.set x 0) d
  (d.putPw { d.pw with time := 0, kaTicks := 0, kaStart := 0, vkaLow := false })

end Sys2Proof.Machine
end

