-- ==== Sys2Proof/Machine/Images.lean ====
section
/-!
DEFINITION. The load of an image at a reset release (R65 to R67, R72, R76, R101, R303, R407, R423), and the image commands (R68 to R80).
-/
namespace Sys2Proof.Machine

/-! ### Reset release (R65 step 1, R405, R407, R31) -/

/-- The most recent non-zero result (R86). -/
def Dev.imgResult (d : Dev) (origin slot code sec : Nat) : Dev :=
  (((d.set F.IMGRESULT_ORIGIN origin).set F.IMGRESULT_SLOT slot).set F.IMGRESULT_SECTION sec).set F.IMGRESULT_CODE code

/-- IMGSTAT shows the boot record (R86, R465). -/
def Dev.showBoot (d : Dev) : Dev :=
  (((d.set F.IMGSTAT_GENERATION d.boot.generation).setB F.IMGSTAT_ALT_VALID d.boot.altValid).setB F.IMGSTAT_TRIAL d.boot.trial).set F.IMGSTAT_ACTIVE
    (if d.boot.noneActive then 0 else d.boot.active)

/-- The reset is released with `cause` (R31, R405, R407): straps sampled, RSTCAUSE recorded, the host port ready (R430, R439), VDRV shown (R88),
TIME_HI at the device time (R465, assumption 78). In RETURN, LC_BUF shows the return record (R423). -/
def Dev.released (d : Dev) (i : LoadInput) (cause : Nat) : Dev :=
  let d := ((d.set F.RSTCAUSE_PREV (d.f F.RSTCAUSE_CAUSE)).set F.RSTCAUSE_CAUSE cause).inc F.RSTCAUSE_RESTARTS
  let d := (d.setB F.RSTCAUSE_PFS d.pw.pfsDone).setB F.RSTCAUSE_PFS_MISS d.pw.pfsMissed
  let d := ((d.putPw { d.pw with inReset := false, hostReady := true, pfsDone := false, pfsMissed := false }).putHost {})
  let d := ((d.setB F.SYSCFG_COMPAT_PIN i.compat).set F.SYSCFG_BID i.bid.toNat).set F.TIME_HI_TIME (d.pw.time / 2 ^ 32)
  let d := if d.f F.LC_STAT_STATE == 3 then (List.range 16).foldl (fun d n => d.wr (R.LC_BUF n) (d.recov.returned.getD n 0#32)) d else d
  let d := d.each 16 fun d t => d.setB (F.TILE_STAT_VDRV_OK t) d.pw.vdrvOk
  d.showBoot

/-- An interrupted life-cycle change is completed before the load (R423): its own reset follows, with cause 10. -/
def Dev.lcResume (d : Dev) (i : LoadInput) : Dev :=
  match d.recov.lcTarget with
  | some t => ((d.logicReset 10).lcFinish t).released i 10
  | none => d

/-! ### Slot choice (R65 steps 2 to 4, R66, R72) -/

/-- A failure at boot: its result, EVB0 source 1, a fault-log entry (R66). -/
def Dev.bootFail (d : Dev) (origin slot code sec : Nat) : Dev := (d.imgResult origin slot code sec).fault 0 1 [R.IMGRESULT]

/-- The boot record after a fallback to the other slot (R65, R66, R86). -/
def Dev.fellBack (d : Dev) (altValid : Bool) : Dev :=
  let b := d.boot
  ((d.putBoot { b with active := 1 - b.active, trial := false, booted := false, altValid := altValid, generation := b.generation + 1 }).showBoot).set
    F.IMGSTAT_FALLBACK 1

/-- The slot to load, with what the choice leaves; none where no slot passes. A trial that has booted once is marked failed, and its slot is not
tried again in this load (assumption 44). -/
def Dev.chooseSlot (d : Dev) : Dev × Option Nat :=
  let b := d.boot
  let failed := b.trial && b.booted
  let d := if failed then
      let t := b.active
      ((d.bootFail 0 t 0x15 0).fellBack (vget d.slots t).sealed)
    else if b.trial then (d.putBoot { b with booted := true })
    else d
  let k := d.boot.active
  match d.checkSlot k with
  | none => (d, some k)
  | some x =>
    let d := d.bootFail 0 k x.1 x.2
    if failed || !d.boot.altValid then (d, none)
    else
      match d.checkSlot (1 - k) with
      | none => (d.fellBack false, some (1 - k))
      | some y => (d.bootFail 1 (1 - k) y.1 y.2, none)

/-! ### Image apply (R65 step 5) -/

/-- Structural fields, presets and what follows from them: ceilings, flow capacity, timer periods (R26, R74, R166, R288, R289). The copy of
GTn_INIT.PERIOD to GTn_PERIOD.PERIOD (R287) comes after the presets, and so replaces a preset of GTn_PERIOD (assumption 68). -/
def Dev.applyImage (d : Dev) (m : List (Nat × Byte)) (i : LoadInput) : Dev :=
  let v := viewOf m
  let d := applyFields d m
  let d := d.each 6 fun d c => d.set (F.C_ILIM_CEIL c) (d.f (F.C_ILIM_ILIM c))
  let d := d.set F.FLOW_STAT_CAPACITY (if d.on F.SYSCFG_PROFILE then 256 else 128)
  let d := d.each 12 fun d n => (d.set (F.GT_PERIOD_PERIOD n) (d.f (F.GT_INIT_PERIOD n))).timerReset n
  let d := d.each 12 fun d n => d.set (F.GT_CTL_RUNNING n) (d.f (F.GT_CFG_AUTORUN n))
  let d := (d.setB F.SYSCFG_XTAL25 ((v 0xA 2 1).testBit 0 && i.xtal25)).setB F.SYSCFG_XTAL32 ((v 0xA 2 1).testBit 1 && i.xtal32)
  let d := ((d.setB F.IMGINFO_FORMAT (imageKind m == .gl7208)).set F.IMGINFO_KEY (imageKey m)).set F.IMGINFO_SVN (imageSvn m)
  let digest := imageDigest m
  let d := d.each 8 fun d n => d.wr (R.IMGDIGEST n) (digest.getD n 0#32)
  let d := (d.putImg { d.img with raiseSvn := imageRaisesSvn m })
  d.each 5 fun d p => (d.putPort (vset d.port p { vget d.port p with role := portV v p 0 1 }))

/-- The live record is restored if its tag is the image's digest, and discarded otherwise (R76); the slots take their positions (R278). -/
def Dev.restoreLive (d : Dev) : Dev :=
  let d := if d.live.tag = d.digestTag then d.live.entries.foldl (fun d (e : LiveEntry) => d.set e.field e.value) d else (d.putLive {})
  (d.putSlotPos ((Vector.range 32).map fun k => d.f (F.SLOT_POSI_INT k) * 65536 + d.f (F.SLOT_POSF_FRAC k)))

/-- A tile marked in the failure map enters FAILED again, whatever its role: CAUSE and DETAIL of the map, TILE_FAIL of its course, EVB1 source t (R101,
R128). One that the crowbar holds reads ARMED until the latch clears (R145, assumption 18). -/
def Dev.applyFailed (d : Dev) (t : Nat) : Dev :=
  let m := vget d.fmap t
  let c := d.f (F.TILE_MAP_COURSE t)
  let d := if (vget d.tile t).clamp then ((d.setTst t 2).set (F.TILE_STAT_CROWBAR t) 1).holdClamp t
    else (d.setTst t 6).modTile t fun x => { x with gates := .off }
  let d := ((d.set (F.TILE_FAULT_CAUSE t) m.cause).set (F.TILE_FAULT_DETAIL t) m.detail).raise 1 t
  if c < 6 then d.set (F.C_EVT_TILE_FAIL c) 1 else d

/-- Tile `t` takes its state (R100, R101, R102). One that the hold loop drives reads RUN until the loop releases it, and arms only then (R99, R160); one
that the crowbar holds stands in ARMED, with the gates that the latch gives it (R145). -/
def Dev.applyTile (d : Dev) (t : Nat) : Dev :=
  let d := if d.f (F.TILE_MAP_ROLE t) == 3 then d.setB (F.TILE_STAT_BOOT_OK t) d.pw.vdrvOk else d
  if (vget d.fmap t).failed then d.applyFailed t
  else if (vget d.tile t).clamp then ((d.setTst t 2).set (F.TILE_STAT_CROWBAR t) 1).holdClamp t
  else if d.holds t then d.setTst t 3
  else d.takeRole t

/-- The tiles, then stand-ins for the failed slots in ascending number, and the courses without a healthy tile (R101, R118). -/
def Dev.applyTiles (d : Dev) : Dev :=
  let d := (d.putFmap (d.fmap.map fun (e : FailEntry) => { e with slot := none }))
  let d := d.each 16 fun d t => d.applyTile t
  let on (d : Dev) (c : Nat) : Bool := d.on (F.C_MAP_ENABLE c)
  let d := d.each 6 fun d c => if on d c then ((d.slotsOf c).filter d.slotOpen).foldl (fun d s => d.assignSpare c s) d else d
  d.each 6 fun d c => if on d c && d.healthy c == 0 then (d.set (F.C_STAT_COURSE_FAIL c) 1).raise 1 29 else d

/-- The ports at an image apply: ring and service contracts are void and a disabled port is held open; MAIN and BAT keep their FETs; every debounce
starts afresh (R44, R171, R261). -/
def Dev.applyPorts (d : Dev) : Dev :=
  let d := d.each 5 fun d p => if decide (2 ≤ p) || (vget d.port p).role == 0 then d.setFet (p + 1) false else d
  d.each 5 fun d p => d.restartDebounce (p + 1)

/-- The firmware in core SRAM from address 0 (R61). -/
def firmwareOf (m : List (Nat × Byte)) : List (Nat × Byte) :=
  let n := if imageKind m = .gl7208 then 0 else nativeView m 0xB 4 4
  (List.range n).foldl (fun r a => Mem.setByte r a (BitVec.ofNat 8 (nativeView m 0xB (0x50 + a) 1))) []

/-- Step 5 of R65, with the wiring of the time base, the lenses and the zones (R270, R278, R303, R329). While the hold loop runs, it keeps its map until the
handback ends: R65 does not say when it takes the new one (assumption 23). -/
def Dev.commitImage (d : Dev) (k : Nat) (i : LoadInput) : Dev :=
  let m := (vget d.slots k).bytes
  let d := (d.applyImage m i).restoreLive
  let d := d.putPw { d.pw with conf := d.regs.filter fun (x : Nat × Word) => powerWords.contains x.1 }
  let d := d.applyTiles.applyPorts
  let d := if d.sys.holdRuns then d else d.sendHoldMap
  let d := d.applyLenses
  let keep := d.live.tag = d.digestTag
  let d := (d.each 4 fun d z => d.set (F.ZONE_STAT_STEP z) (if keep then d.ret.steps.getD z 16 else 16)).keepSteps
  let d := d.setB F.PTB_STAT_RUN (d.on F.PTB_MAP_SOURCE)
  let d := d.each 32 fun d n => d.armSlot n
  ((d.set F.IMGSTAT_STATE 1).putSram (firmwareOf m))

/-! ### The start (R65 step 6, R160, R199, R232, R344) -/

/-- The events that a completed load raises (R65, R205, R355, R405, R407, R421, R59). -/
def Dev.loadEvents (d : Dev) (declared : Nat) : Dev :=
  let c := d.f F.RSTCAUSE_CAUSE
  let d := (d.raise 0 0).raise 0 7
  let d := if d.on F.RSTCAUSE_PFS then d.raise 0 8 else d
  let d := if (declared.testBit 0 && !d.on F.SYSCFG_XTAL25) || (declared.testBit 1 && !d.on F.SYSCFG_XTAL32) then d.raise 0 6 else d
  let d := if c == 9 then d.raise 3 13 else d
  if c == 3 then d.raise 5 22 else d

/-- The hold loop does not carry SYS when the engines start: it releases every tile, the absence counts as out of window, and the power path starts
from OFF (R160). -/
def Dev.coldStart (d : Dev) : Dev :=
  (((d.putSys { d.sys with holdDid := false }).set F.SYSCFG_HOLD_ACTIVE 0).addSat F.SYS_OOW_MS (d.f F.HOLD_STAT_ABSENT_MS)).pathReview

/-- The working tiles of C1 that can be driven now: in RUN from the hold loop, or ARMED with their arming over. -/
def Dev.handbackTiles (d : Dev) : List Nat :=
  (d.fillers 1).filter fun t => d.tst t == 3 || (d.tst t == 2 && !d.on (F.TILE_STAT_ARMING t) && !(vget d.tile t).clamp)

/-- The first demand of C1 after the hold loop: that of LAST_CODE on every one of `ts` (R160). -/
def Dev.backFirst (d : Dev) (ts : List Nat) : Nat := d.codeAmps (ts.headD 0) (d.f F.HOLD_STAT_LAST_CODE) * ts.length

/-- Step 1 of a handback: C1 takes V_SYS towards SYS with REF at the measured SYS voltage, its first demand that of LAST_CODE, while the hold loop still
drives the tiles (R160). -/
def Dev.startHandback (d : Dev) : Dev :=
  if !d.canTake 1 then d
  else
    let first := d.backFirst d.handbackTiles
    let d := (d.set F.SYS_TARGET_REF (clamp16 d.sys.vSys)).putSys { d.sys with refFrac := 0 }
    let d := d.set F.SYS_TARGET_TARGET d.sysTarget
    let d := ((d.set (F.C_MODE_MODE 1) 1).set (F.C_RSTAT_DIR 1) 0).set (F.C_RSTAT_START_ST 1) 2
    ((d.set (F.C_REF_REF 1) (d.f F.SYS_TARGET_REF)).set (F.C_REF_FINAL 1) (d.f F.SYS_TARGET_TARGET)).modCourse 1 fun k =>
      { k with preload := some first, guardDir := 0, guardPend := false }

/-- The engines and the core start (R65 step 6): the logic die is present; a hold loop that runs waits for its handback, whose first step is now (R160).
After the wake by an EMERG HOLD, BAT counts as debounced (R176, R200). -/
def Dev.startEngines (d : Dev) (declared : Nat) (i : LoadInput) : Dev :=
  let held := d.sys.holdRuns
  let d := d.putPw { d.pw with engines := true, coreRuns := true, absent := false }
  let ends := (if i.openEast then [0] else []) ++ if i.openWest then [1] else []
  let d := (d.putRing { d.ring with passThrough := false, ends := ends }).putSys { d.sys with handback := held }
  let d := (d.armWdt (d.on F.SYSCFG_XTAL32) (d.on F.IMGINFO_FORMAT)).showHold
  let d := (d.enterHello 0).enterHello 1
  let d := (if held then d.startHandback else d.coldStart).onlyIf (d.on F.CHG_RESV_E_HOLD_RX) Dev.batWake
  let d := if d.on F.CHG_RESV_E_HOLD_RX && d.f F.RSTCAUSE_CAUSE == 9 then d.releaseReserve else d
  d.loadEvents declared

/-- The tiles without an image: every tile is OFF but those that the hold loop drives, which read RUN with HOLD 1, and those that the crowbar holds
(R67, R99, R145). -/
def Dev.noImageTiles (d : Dev) : Dev :=
  (d.each 16 fun d t => if (vget d.tile t).clamp then ((d.setTst t 2).set (F.TILE_STAT_CROWBAR t) 1).holdClamp t
    else if d.holds t then d.setTst t 3 else d).showHold

/-- The load (R65), after which EVB3 source 27 reports a trip of the logic-die comparator (R336). With no slot that passes, the logic die runs without an
image and stays declared absent (R67). -/
def Dev.load (d : Dev) (i : LoadInput) : Dev :=
  let d := ((d.logicAbsent).released i d.pw.resetCause).lcResume i
  let x := d.chooseSlot
  let d := match x.2 with
    | none => ((x.1.set F.IMGSTAT_STATE 2).set F.IMGSTAT_TRIAL 0).noImageTiles
    | some k => (x.1.commitImage k i).startEngines (viewOf (vget x.1.slots k).bytes 0xA 2 1) i
  let d := d.onlyIf d.pw.ldRaise fun d => (d.raise 3 27).putPw { d.pw with ldRaise := false }
  if d.f F.RSTCAUSE_CAUSE == 10 then d.fault 0 11 [R.LC_STAT] else d

/-- R65: the reset is released where both dies are powered and the logic-die comparator is not tripped (R336). -/
def imageLoad (d : Dev) (i : LoadInput) : Dev := if d.pw.mode == .on && d.pw.inReset && !d.pw.ldTripped then d.load i else d

/-- IMAGE_LOAD (R65). -/
def execImageLoad (i : LoadInput) (s : State) : Host.Outcome State Fault Refusal := done s (imageLoad s.dev i)

/-! ### Image commands (R68 to R73) -/

/-- The inactive slot. -/
def Dev.inactive (d : Dev) : Nat := 1 - d.boot.active

/-- A refused image command (R73, R86). -/
def Dev.imgRefuse (d : Dev) (code sec : Nat) : Dev := d.imgResult 3 d.inactive code sec

/-- Another image command runs (R73): a CHECK, or a COMMIT that waits for its restart. The wait of an expired trial is no command. -/
def Dev.imgBusy (d : Dev) : Bool := d.img.checking || (d.on F.IMGSTAT_COMMIT_PENDING && !d.img.expiry)

/-- The valid-fallback mark of the boot record, with IMGSTAT.ALT_VALID. -/
def Dev.setAlt (d : Dev) (b : Bool) : Dev := ((d.setB F.IMGSTAT_ALT_VALID b).putBoot { d.boot with altValid := b })

/-- The inactive slot with its seal word. -/
def Dev.sealSlot (d : Dev) (b : Bool) : Dev := (d.putSlots (vset d.slots d.inactive { vget d.slots d.inactive with sealed := b }))

/-- OPEN (R68, R73). -/
def Dev.imgOpen (d : Dev) : Dev :=
  if d.imgBusy then d.imgRefuse 0x11 0
  else if d.on F.IMGSTAT_TRIAL then d.imgRefuse 0x13 0
  else (((d.sealSlot false).setAlt false).putImg { d.img with slotOpen := true })

/-- CHECK (R69). Written again while it runs, it is told 11h as any command but ABORT is: R73 is taken before R13 (assumption 46). -/
def Dev.imgCheck (d : Dev) : Dev := if d.imgBusy then d.imgRefuse 0x11 0 else (d.putImg { d.img with checking := true })

/-- The hold loop can carry SYS (R70). -/
def Dev.holdCan (d : Dev) : Bool :=
  !d.sys.holdMap.isEmpty && decide (((d.f F.HOLD_CFG_VBAT_MIN + 50 : Nat) : Int) ≤ d.chg.vBat) && !((List.range 6).any fun c => d.on (F.C_PCTL_CB_LATCH c)) &&
  !d.zoneShut 1

/-- COMMIT (R70, R71 step 1, R73). Written again while it waits, it is told 11h (R73, assumption 46). -/
def Dev.imgCommit (d : Dev) : Dev :=
  if d.imgBusy then d.imgRefuse 0x11 0
  else if d.on F.IMGSTAT_TRIAL then d.imgRefuse 0x13 0
  else if !(vget d.slots d.inactive).sealed then d.imgRefuse 0x10 0
  else
    match d.checkSlot d.inactive with
    | some x => d.imgRefuse x.1 x.2
    | none =>
      if d.f F.IMGSTAT_STATE == 2 || d.on F.IMGCTL_FORCE || d.holdCan then d.set F.IMGSTAT_COMMIT_PENDING 1
      else d.imgRefuse 0x14 0

/-- CONFIRM (R64, R72, R73). -/
def Dev.imgConfirm (d : Dev) : Dev :=
  if d.imgBusy then d.imgRefuse 0x11 0
  else if !d.on F.IMGSTAT_TRIAL || d.img.expiry then d.imgRefuse 0x13 0
  else
    let d := ((d.set F.IMGSTAT_TRIAL 0).putBoot { d.boot with trial := false, booted := false })
    let svn := d.f F.IMGINFO_SVN
    let d := if d.img.raiseSvn && decide (d.f F.IMGSVN_SVN_MIN < svn) then
        let e := d.set F.IMGSVN_SVN_MIN svn
        if decide (imageSvn (vget d.slots d.inactive).bytes < svn) then e.setAlt false else e
      else d
    d.raise 0 2

/-- ABORT (R73): only a COMMIT that waits for its restart is abandoned (assumption 45: not the wait of an expired trial). -/
def Dev.imgAbort (d : Dev) : Dev := if d.img.expiry then d else d.set F.IMGSTAT_COMMIT_PENDING 0

/-- A write of IMGCTL with FORCE and the command bits ABORT, CONFIRM, COMMIT, CHECK, OPEN in [5:1] (R73, R86). -/
def Dev.imgCtl (d : Dev) (force : Bool) (bits : Nat) : Dev :=
  let d := d.setB F.IMGCTL_FORCE force
  let bits := bits / 2 % 32
  if bits == 1 then d.imgOpen else if bits == 2 then d.imgCheck else if bits == 4 then d.imgCommit else if bits == 8 then d.imgConfirm
  else if bits == 16 then d.imgAbort else if bits == 0 then d else d.imgRefuse 0x12 0

/-- IMG_OPEN (R68); FORCE is written with every command bit. -/
def imgOpenRow (d : Dev) (force : Bool) : Dev := if d.alive then d.imgCtl force 2 else d
def execImgOpen (force : Bool) (s : State) : Host.Outcome State Fault Refusal := done s (imgOpenRow s.dev force)

/-- IMG_CHECK (R69). -/
def imgCheckRow (d : Dev) (force : Bool) : Dev := if d.alive then d.imgCtl force 4 else d
def execImgCheck (force : Bool) (s : State) : Host.Outcome State Fault Refusal := done s (imgCheckRow s.dev force)

/-- The check completes (R69): a pass seals and closes the slot; a failure reports its reason and leaves an open slot open. -/
def imgCheckDone (d : Dev) : Dev :=
  if !d.alive || !d.img.checking then d
  else
    let d := (d.putImg { d.img with checking := false })
    match d.checkSlot d.inactive with
    | none => (((d.sealSlot true).setAlt true).putImg { d.img with slotOpen := false })
    | some x => (d.setAlt false).imgResult 2 d.inactive x.1 x.2

/-- IMG_CHECK_DONE (R69). -/
def execImgCheckDone (s : State) : Host.Outcome State Fault Refusal := done s (imgCheckDone s.dev)

/-- IMG_COMMIT (R70, R71). `vBat`: the BAT voltage that the admission test reads, 10 mV. -/
def imgCommitRow (d : Dev) (force : Bool) (vBat : Nat) : Dev :=
  if d.alive then (d.putChg { d.chg with vBat := (vBat : Int) }).imgCtl force 8 else d
def execImgCommit (force : Bool) (vBat : Nat) (s : State) : Host.Outcome State Fault Refusal := done s (imgCommitRow s.dev force vBat)

/-- Step 3 of R71, or of an expired trial (R72), once no brick commit is in flight. -/
def commitRestart (d : Dev) : Dev :=
  if !d.alive || !d.on F.IMGSTAT_COMMIT_PENDING || d.on F.NAND_STAT_COMMIT then d
  else
    let b := d.boot
    let d := if d.img.expiry then d
      else (d.putBoot { active := 1 - b.active, trial := true, booted := false, altValid := true, generation := b.generation + 1 })
    d.logicReset 4

/-- COMMIT_RESTART (R71). -/
def execCommitRestart (s : State) : Host.Outcome State Fault Refusal := done s (commitRestart s.dev)

/-- IMG_CONFIRM (R72). -/
def imgConfirmRow (d : Dev) (force : Bool) : Dev := if d.alive then d.imgCtl force 16 else d
def execImgConfirm (force : Bool) (s : State) : Host.Outcome State Fault Refusal := done s (imgConfirmRow s.dev force)

/-- CONFIRM_S passes without CONFIRM (R72). -/
def trialExpiry (d : Dev) : Dev :=
  if d.running && d.on F.IMGSTAT_TRIAL && !d.on F.IMGSTAT_COMMIT_PENDING then
    ((d.set F.IMGSTAT_COMMIT_PENDING 1).putImg { d.img with expiry := true })
  else d

/-- TRIAL_EXPIRY (R72). -/
def execTrialExpiry (s : State) : Host.Outcome State Fault Refusal := done s (trialExpiry s.dev)

/-- IMG_ABORT (R73). -/
def imgAbortRow (d : Dev) (force : Bool) : Dev := if d.alive then d.imgCtl force 32 else d
def execImgAbort (force : Bool) (s : State) : Host.Outcome State Fault Refusal := done s (imgAbortRow s.dev force)

/-! ### IMGADDR and IMGDATA (R68, R86) -/

/-- The largest offset of a slot. -/
def lastOffset : Nat := 0x17FFFC

/-- IMGADDR moves on by 4, and wraps from 17_FFFCh to 0 (R68). -/
def Dev.imgStep (d : Dev) : Dev :=
  let a := d.f F.IMGADDR_OFFSET
  d.set F.IMGADDR_OFFSET (if a == lastOffset then 0 else a + 4)

/-- A write of IMGDATA (R68): into the open inactive slot; a word written whole can be read again. -/
def Dev.imgDataWrite (d : Dev) (w : Word) : Dev :=
  if !d.img.slotOpen then d.imgRefuse 0x13 0
  else
    let a := d.f F.IMGADDR_OFFSET
    let s := vget d.slots d.inactive
    let s := { s with bytes := Mem.setWord s.bytes a w, spoilt := s.spoilt.filter fun x => x != a / 8 }
    (d.imgStep.putSlots (vset d.slots d.inactive s))

/-- IMGDATA_WRITE (R68). -/
def imgDataWriteRow (d : Dev) (w : Word) : Dev := if d.alive then d.imgDataWrite w else d
def execImgdataWrite (w : BitVec 32) (s : State) : Host.Outcome State Fault Refusal := done s (imgDataWriteRow s.dev w)

/-- A read of IMGDATA (R86): the word at IMGADDR, and IMGADDR moves on. -/
def Dev.imgDataRead (d : Dev) : Word × Dev := (Mem.word (vget d.slots d.inactive).bytes (d.f F.IMGADDR_OFFSET), d.imgStep)

/-- IMGDATA_READ (R86). -/
def imgDataReadRow (d : Dev) : Dev :=
  if d.alive then
    let x := d.imgDataRead
    (x.2.putReadData x.1)
  else d
def execImgdataRead (s : State) : Host.Outcome State Fault Refusal := done s (imgDataReadRow s.dev)

/-- A write of IMGADDR (R68): a larger offset leaves it unchanged; bits [1:0] read 0. -/
def Dev.imgAddr (d : Dev) (w : Word) : Dev :=
  let a := w.toNat % 2 ^ 21
  if lastOffset < a then d else d.set F.IMGADDR_OFFSET (a / 4 * 4)

/-- IMGADDR_WRITE (R68). -/
def imgAddrRow (d : Dev) (w : Word) : Dev := if d.alive then d.imgAddr w else d
def execImgaddrWrite (w : BitVec 32) (s : State) : Host.Outcome State Fault Refusal := done s (imgAddrRow s.dev w)

/-! ### Live fields, configuration scrub, inactive slot (R74 to R80) -/

/-- A write of a live field's register other than a lens threshold, a slot position or a zone floor, which have rows of their own (R74, R75). -/
def liveWriteRow (d : Dev) (a : Nat) (w : Word) : Dev :=
  if !d.alive then d
  else if let some k := (List.range 32).find? fun k => a == R.SLOT_ARG k then d.slotArg k w.toNat
  else match liveField a with
    | some x => d.liveWrite x (x.read w)
    | none => d

/-- LIVE_WRITE (R75). -/
def execLiveWrite (addr : BitVec 16) (w : BitVec 32) (s : State) : Host.Outcome State Fault Refusal := done s (liveWriteRow s.dev addr.toNat w)

/-- The configuration scrubber finds an error (R77, R78): one bit is corrected; a word with two is reloaded, or its source fails and the logic die is
reset with 16h reported. -/
def scrubError (d : Dev) (double sourceFails : Bool) : Dev :=
  if !d.alive then d
  else if !double then d.incSat F.SCRUBSTAT_CORRECTED
  else if sourceFails then
    let d := d.imgResult 0 d.boot.active 0x16 0
    (d.logFault 0 4 [d.rd R.IMGRESULT, d.rd R.SCRUBSTAT]).logicReset 7
  else ((d.incSat F.SCRUBSTAT_RELOADED).set F.IMGSTAT_SCRUB_RELOAD 1).raise 0 4

/-- CONFIG_SCRUB_ERROR (R77). -/
def execConfigScrubError (double sourceFails : Bool) (s : State) : Host.Outcome State Fault Refusal := done s (scrubError s.dev double sourceFails)

/-- The 24 h check of the inactive slot (R80, R410): it runs while BG_CTL.SLOT_CHK is 1, or to its safe point. -/
def inactiveCheck (d : Dev) : Dev :=
  if !d.alive || !(d.on F.BG_CTL_SLOT_CHK || d.on F.FUNC_PEND_SLOT) then d
  else
    let d := ((d.set F.BG_STAT_SLOT_AGE_H 0).putRecov { d.recov with slotUs := 0 })
    if d.sectionsGood d.inactive then d else (d.setAlt false).fault 0 5 [R.IMGSTAT]

/-- INACTIVE_SLOT_CHECK (R80). -/
def execInactiveSlotCheck (s : State) : Host.Outcome State Fault Refusal := done s (inactiveCheck s.dev)

end Sys2Proof.Machine
end

