-- ==== Sys2Proof/Machine/Power.lean ====
section
/-!
DEFINITION. The meanings of the commands of absence, handback, mirror fault, wake, resets and brown-out (R21, R22, R156, R159, R160, R205, R207,
R404 to R407).
-/
namespace Sys2Proof.Machine

/-- LOGIC_DIE_ABSENT (R22). -/
def execLogicDieAbsent (s : State) : Host.Outcome State Fault Refusal := done s s.dev.logicAbsent

/-! ### Handback (R160) -/

/-- A tile that the hold loop drove is released (R160): a working tile of C1 is taken over by the course engine, if that takes SYS back (`keep`); any
other takes its state in the loaded image, through its arming. -/
def Dev.releaseHeld (d : Dev) (keep : Bool) (t : Nat) : Dev :=
  if d.tst t != 3 || (keep && (d.slotsOf 1).contains t) then d else d.takeRole t

/-- The handback ends, whichever way: the hold loop is done, HOLD_ACTIVE clears, and the absence counts as out of window. -/
def Dev.endHandback (d : Dev) (keep : Bool) : Dev :=
  let ts := d.heldTiles
  let d := (d.putSys { d.sys with handback := false, holdRuns := false, holdDid := false }).showHold.set F.SYSCFG_HOLD_ACTIVE 0
  ((ts.foldl (fun d t => d.releaseHeld keep t) d).addSat F.SYS_OOW_MS (d.f F.HOLD_STAT_ABSENT_MS)).sendHoldMap

/-- Step 2: C1 takes SYS from the hold loop, its REF at the measured voltage and its first codes at LAST_CODE. -/
def Dev.takeBack (d : Dev) (vSys : Nat) : Dev :=
  let ts := d.handbackTiles
  let code := d.f F.HOLD_STAT_LAST_CODE
  let first := d.backFirst ts
  let d := ((d.seeSys vSys).startHandback).endHandback true
  let d := ts.foldl (fun d t => ((d.setTst t 3).set (F.TILE_IPK_DAC t) code).set (F.TILE_IPK_DIR t) 0) d
  let d := (d.set (F.C_RSTAT_DELIVER 1) 1).putSys { d.sys with backRef := true }
  let d := (d.set (F.C_DEMAND_D 1) (min 65535 first)).set (F.C_DEMAND_CODE 1) code
  let d := (d.modCourse 1 fun k => { k with preload := some first }).applyOffsets 1
  (((d.raise 2 19).raise 2 29).setPath 3 2).pathReview

/-- R160 at a boundary of C1: `vSys` is the measured SYS voltage, `code` the last code of the hold loop. A hold loop that has stopped meanwhile
releases its tiles and the device cold-starts; while no working tile of C1 can be driven, the hold loop carries on. -/
def handback (d : Dev) (vSys code : Nat) : Dev :=
  if !d.running || !d.sys.handback then d
  else if !d.sys.holdRuns then ((d.endHandback false).haltCourse 1 false).pathReview
  else if !d.canTake 1 || d.handbackTiles.isEmpty then d
  else (d.set F.HOLD_STAT_LAST_CODE code).takeBack vSys

/-- HANDBACK (R160). -/
def execHandback (vSys : Nat) (code : BitVec 10) (s : State) : Host.Outcome State Fault Refusal := done s (handback s.dev vSys code.toNat)

/-! ### Mirror fault (R155, R156) -/

/-- R156: COUNT consecutive cycles of a delivering course have mismatched. A course that has stopped in the same update is recorded, and stops once
(R164); with ACTION 1 its instant is kept, for a guard trip of the same update. -/
def mirrorFault (d : Dev) (c : Nat) : Dev :=
  if !d.running || !d.guardProfile || !(vget d.course c).mmDue then d
  else
    let d := d.modCourse c fun k => { k with mmDue := false }
    let d := (d.set (F.C_PCTL_MM_FAULT c) 1).fault 2 (6 + c) [R.C_PCTL c, R.C_MIRROR c]
    if d.on (F.C_MIRROR_ACTION c) then
      let d := d.logicReset 5
      d.putPw { d.pw with mirrorAt := some (c, d.pw.clock) }
    else d.courseLost c

/-- MIRROR_FAULT (R156). -/
def execMirrorFault (c : Fin 6) (s : State) : Host.Outcome State Fault Refusal := done s (mirrorFault s.dev c)

/-! ### Wake, power cycle, power-on (R205, R207, R406, R427, R444) -/

/-- The wake cause as PWR_STAT.WAKE codes it, from ship mode or keep-alive; the ring wakes from keep-alive only (R205). -/
def wakeCode (ship : Bool) : WakeBy → Option Nat
  | .button => some (if ship then 1 else 4)
  | .source => some (if ship then 2 else 5)
  | .ring _ => if ship then none else some 6

/-- The frame that woke the device was an EMERG HOLD (R200). -/
def wakeHold : WakeBy → Bool
  | .ring h => h
  | _ => false

/-- R205: a wake powers on both dies; the load is the command IMAGE_LOAD. Ship mode had also stopped the keep-alive domain's count (R444). With VKA too low,
only a source wakes the device: the ports supply their comparators (R205, R473). -/
def wake (d : Dev) (by_ : WakeBy) : Dev :=
  if (d.pw.mode != .ship && d.pw.mode != .keepAlive) || (d.pw.vkaLow && by_ != .source) then d
  else
    let ship := d.pw.mode == .ship
    match wakeCode ship by_ with
    | none => d
    | some k =>
      let d := (if ship then d.keepAliveReset else d).onlyIf (by_ == .button) fun d => d.set F.PWR_STAT_BTN 1
      ((d.powerDieReset 9).set F.PWR_STAT_WAKE k).setB F.CHG_RESV_E_HOLD_RX (wakeHold by_)

/-- WAKE (R205). -/
def execWake (by_ : WakeBy) (s : State) : Host.Outcome State Fault Refusal := done s (wake s.dev by_)

/-- R207 step 2: the power die takes a power-on reset. -/
def powerCycleRelease (d : Dev) : Dev :=
  if d.pw.mode == .cycleHeld then ((d.powerDieReset 8).set F.PWR_STAT_WAKE 3).set F.CHG_RESV_E_HOLD_RX 0 else d

/-- POWER_CYCLE_RELEASE (R207). -/
def execPowerCycleRelease (s : State) : Host.Outcome State Fault Refusal := done s (powerCycleRelease s.dev)

/-- POWER_ON (R406, R427, R444): both dies and the keep-alive domain power up. -/
def execPowerOn (s : State) : Host.Outcome State Fault Refusal := done s (s.dev.keepAliveReset.powerDieReset 0)

/-! ### Brown-out and nRST (R404 to R407) -/

/-- R404: VLOGIC falls below the warning threshold: EVB0 source 15, and a power-fail save. -/
def brownoutWarn (d : Dev) : Dev := if d.alive then (d.raise 0 15).powerFailSave else d

/-- VLOGIC_BROWNOUT_WARN (R404). -/
def execVlogicBrownoutWarn (s : State) : Host.Outcome State Fault Refusal := done s (brownoutWarn s.dev)

/-- A power-fail save is cut short (R405): one that the running device began, or the one at the entry to keep-alive, ship mode or the power cycle (R404).
The spec does not say which of E_AVAIL's old and new value a cut save leaves: a free value chooses. -/
def Dev.cutSave (d : Dev) : Dev :=
  if (d.alive || d.pw.mode != .on) && d.pw.pfsDone then
    let x := d.fresh
    let kept := if x.1 % 2 = 0 then d.pw.pfsOld else d.ret.eAvail
    (x.2.putPw { d.pw with pfsDone := false, pfsMissed := true }).putRet { d.ret with eAvail := kept }
  else d

/-- R393, R405, R406, R473: VLOGIC falls below its brown-out reset threshold. -/
def brownoutReset (d : Dev) (q : SupplyDrop) : Dev :=
  let d := d.putPw { d.pw with vkaLow := q.vkaLow }
  let d := d.onlyIf q.save Dev.cutSave
  let d := match q.entry with
    | some n => if d.alive && d.on F.FLOG_STAT_FIRST then d.cutEntry n.val else d
    | none => d
  d.logicReset 1

/-- VLOGIC_BROWNOUT_RESET (R406). -/
def execVlogicBrownoutReset (cut : SupplyDrop) (s : State) : Host.Outcome State Fault Refusal := done s (brownoutReset s.dev cut)

/-- NRST (R406): a pulse of at least 1 µs. -/
def execNrst (s : State) : Host.Outcome State Fault Refusal := done s (s.dev.logicReset 2)

end Sys2Proof.Machine
end

