-- ==== Sys2Proof/Machine/Lenses.lean ====
section
/-!
DEFINITION. The meanings of the lens commands (R301 to R316, R412).
-/
namespace Sys2Proof.Machine

/-- LENS_OUTPUT_CHANGE (R302, R305): the node that lens `n` is assigned stands at `uv` microvolts. -/
def execLensOutputChange (n : Fin 24) (uv : Int) (s : State) : Host.Outcome State Fault Refusal := done s (s.dev.lensCounted (s.dev.lensNode n uv))

/-- LENS_TH_WRITE (R307). -/
def execLensThWrite (n : Fin 24) (lo hi : Byte) (s : State) : Host.Outcome State Fault Refusal :=
  done s (s.dev.lensCounted (if s.dev.alive then s.dev.lensThWrite n lo.toNat hi.toNat else s.dev))

/-- R309: a check is requested; it waits for admission and its turn. -/
def Dev.lensRequest (d : Dev) (n : Nat) : Dev :=
  if !d.running || d.on (F.LENS_STAT_TESTING n) || d.on (F.LENS_STAT_PENDING n) then d else d.set (F.LENS_STAT_PENDING n) 1

/-- LENS_CHECK_REQUEST (R309). -/
def execLensCheckRequest (n : Fin 24) (s : State) : Host.Outcome State Fault Refusal := done s (s.dev.lensRequest n)

/-- Every consumer of lens `n` is idle (R412). -/
def Dev.lensIdle (d : Dev) (n : Nat) : Bool :=
  let p := d.f F.CHG_PHASE_PHASE
  ((List.range 6).all fun c => d.f (F.C_SHED_STEP_LENS c) != n || !d.delivers c) &&
  (d.f F.CHG_CFG_BAL_LENS != n || !(within 3 5 p || p == 8)) &&
  (d.f F.PTB_MAP_SOURCE != 2 || d.f F.PTB_MAP_LENS != n || d.on F.PTB_STAT_STALLED) &&
  ((List.range 12).all fun k => d.f (F.GT_CFG_CAPSRC k) != n || !d.on (F.GT_CTL_RUNNING k))

/-- A check of lens `m` will be covered by this spare (R309, R315). -/
def Dev.coverFor (d : Dev) (m : Nat) : Option Nat :=
  if d.on (F.LENS_STAT_FAILED m) || !d.on (F.LENS_CFG_COVER m) || !d.lensUsed (d.checkedFor m) then none
  else [22, 23].find? fun k => k != m && d.f (useField k) == 0

/-- R309, R412: a waiting check is admitted when it will be covered or its consumers are idle, one check at a time. -/
def lensAdmit (d : Dev) (m : Nat) : Dev :=
  if !d.running || !d.on (F.LENS_STAT_PENDING m) || (List.range 24).any (fun k => d.on (F.LENS_STAT_TESTING k)) then d
  else
    let n := d.checkedFor m
    let start (d : Dev) : Dev :=
      (((d.set (F.LENS_STAT_PENDING m) 0).set (F.LENS_STAT_TESTING m) 1).set (F.LENS_STAT_RESULT m) 1).set (F.LENS_STAT_FSTEP m) 0
    match d.coverFor m with
    | some k => (((start d).lensTakes k n 3).set (F.LENS_STAT_COVERED m) 1).presentLens n
    | none =>
      if d.on (F.LENS_STAT_FAILED m) then start d
      else if d.lensIdle n then
        let b := d.fbit F.LENS_OUT_OUT n
        (start d).modLens n fun x => { x with held := some b }
      else d

/-- LENS_CHECK_ADMIT (R412). -/
def execLensCheckAdmit (n : Fin 24) (s : State) : Host.Outcome State Fault Refusal := done s (s.dev.lensCounted (lensAdmit s.dev n))

/-- Lens `m` fails its check: failure map, EVB5 source 17, fault log; it is reconfigured (R308). Its cover stands in for the lens whose node it watched, or
that lens waits for a spare, with its FAILSAFE level meanwhile (R311, R315, assumption 79). -/
def Dev.lensFails (d : Dev) (m : Nat) : Dev :=
  let n := d.checkedFor m
  let cover := d.coverOf n
  let d := ((d.set (F.LENS_STAT_FAILED m) 1).modLens m fun x => { x with failedMap := true, passed := false }).fault 5 17 [R.LENS_STAT m]
  let d := (d.set (F.LENS_STAT_TESTING m) 0).set (F.LENS_STAT_COVERED m) 0
  let d := d.endAuto m
  let d := if m == 22 || m == 23 then
      let stood := d.f (useField m) == 2
      let d := d.leavesLens m 4
      if stood then (d.set (F.LENS_STAT_STANDIN_V n) 0).raise 5 16 else d
    else d.restartLens m
  let d := d.modLens n fun x => { x with held := none }
  if !d.lensUsed n then d
  else match cover with
    | some k => (((d.set (useField k) 2).lensStandin k n).presentLens n)
    | none => (d.modLens n fun x => { x with waits := some d.pw.clock }).presentLens n

/-- What the ten readings of a check give where the lens works: high, low, low, high, low, of the lower and then of the upper comparator (R308). -/
def lensExpected : List Bool := [true, false, false, true, false, true, false, false, true, false]

/-- FSTEP: the first of the ten readings that differed, numbered from 1, or 0 where every reading matched (R308). -/
def lensStep (rs : Vector Bool 10) : Nat :=
  let k := (List.zipWith (fun a b => a == b) rs.toList lensExpected).findIdx not
  if k < 10 then k + 1 else 0

/-- R308, R311: the check of lens `m` ends after the readings `rs`, high as true: PASS where every one matches, or FAIL with the first that differed. -/
def lensCheckEnd (d : Dev) (m : Nat) (rs : Vector Bool 10) : Dev :=
  let step := lensStep rs
  if !d.running || !d.on (F.LENS_STAT_TESTING m) then d
  else if step == 0 then
    let d := (d.set (F.LENS_STAT_RESULT m) 2).set (F.LENS_STAT_FSTEP m) 0
    let d := if d.on (F.LENS_STAT_FAILED m) then d.modLens m fun x => { x with passed := true } else d
    d.reconfigure m
  else
    let d := (d.set (F.LENS_STAT_RESULT m) 3).set (F.LENS_STAT_FSTEP m) step
    if d.on (F.LENS_STAT_FAILED m) then
      ((d.modLens m fun x => { x with passed := false }).fault 5 17 [R.LENS_STAT m]).reconfigure m
    else d.lensFails m

/-- LENS_CHECK_END (R308). -/
def execLensCheckEnd (n : Fin 24) (rs : Vector Bool 10) (s : State) : Host.Outcome State Fault Refusal := done s (s.dev.lensCounted (lensCheckEnd s.dev n rs))

/-- R309: ABORT ends a waiting or running check. -/
def Dev.lensAbort (d : Dev) (m : Nat) : Dev :=
  if !d.running then d
  else if d.on (F.LENS_STAT_TESTING m) then (d.set (F.LENS_STAT_RESULT m) 4).reconfigure m
  else if d.on (F.LENS_STAT_PENDING m) then
    ((d.endAuto m).set (F.LENS_STAT_PENDING m) 0).set (F.LENS_STAT_RESULT m) 4
  else d

/-- LENS_CHECK_ABORT (R309). -/
def execLensCheckAbort (n : Fin 24) (s : State) : Host.Outcome State Fault Refusal := done s (s.dev.lensCounted (s.dev.lensAbort n))

/-- The lenses that automatic checks take: assigned lenses, stand-ins and free spares (R310). -/
def Dev.autoLens (d : Dev) (n : Nat) : Bool :=
  (d.lensUsed n && n < 22) || ((n == 22 || n == 23) && (d.lensUsed n || d.f (useField n) == 0 || d.f (useField n) == 2))

/-- R310: INTERVAL seconds have passed: a check of the next lens is requested, in ascending number. -/
def lensAuto (d : Dev) : Dev :=
  if !d.running || d.f F.LENS_AUTO_INTERVAL == 0 || !d.on F.BG_CTL_LENS_AUTO then d
  else
    let p := d.recov.autoNext
    match ((List.range 24).map fun i => (p + i) % 24).find? d.autoLens with
    | none => d
    | some n =>
      let busy := d.on (F.LENS_STAT_TESTING n) || d.on (F.LENS_STAT_PENDING n)
      let d := (d.putRecov { d.recov with autoNext := (n + 1) % 24, autoCheck := if busy then d.recov.autoCheck else d.recov.autoCheck ++ [n] })
      d.lensRequest n

/-- LENS_AUTO_CHECK (R310). -/
def execLensAutoCheck (s : State) : Host.Outcome State Fault Refusal := done s (lensAuto s.dev)

/-- R314: RESTORE returns a failed lens whose last check passed, and frees its stand-in; any other is refused with RESTORE_REJ. -/
def Dev.lensRestore (d : Dev) (n : Nat) : Dev :=
  if !d.running then d
  else if !d.on (F.LENS_STAT_FAILED n) || !(vget d.lens n).passed || d.f (F.LENS_STAT_RESULT n) != 2 then d.set (F.LENS_STAT_RESTORE_REJ n) 1
  else
    let stood := d.on (F.LENS_STAT_STANDIN_V n)
    let m := d.f (F.LENS_STAT_STANDIN n)
    let d := ((d.set (F.LENS_STAT_FAILED n) 0).set (F.LENS_STAT_UNAVAIL n) 0).modLens n fun x => { x with failedMap := false, passed := false, waits := none }
    let d := if n == 22 || n == 23 then d.set (useField n) (if d.lensUsed n then 1 else 0) else d
    let d := (d.modLens n fun x => { x with held := none }).restartLens n
    let d := match d.coverOf n with
      | some k => (d.freeSpareLens k).set (F.LENS_STAT_COVERED m) 0
      | none => d
    let d := if stood then ((d.set (F.LENS_STAT_STANDIN_V n) 0).freeSpareLens m).raise 5 16 else d
    (d.presentLens n).serveUnavail

/-- LENS_RESTORE (R314). -/
def execLensRestore (n : Fin 24) (s : State) : Host.Outcome State Fault Refusal := done s (s.dev.lensCounted (s.dev.lensRestore n))

end Sys2Proof.Machine
end

