-- ==== Sys2Proof/Machine/Pins.lean ====
section
/-!
DEFINITION. What the balls carry that follows from the rest of the state (R430, R447, R468, R482, R484); the levels held on their own are in Balls.
-/
namespace Sys2Proof.Machine

/-- What the ring balls do (R484). -/
inductive RingPins where
  | hiZ | passThrough | link
deriving DecidableEq, Repr

/-- The balls between commands (R468, R484). TDO is driven only while a scan shifts, and the NAND balls only while a NAND operation transfers: each lies
within one command. -/
structure Pins where
  /-- MAINGATE, BATGATE, EASTGATE, WESTGATE and SERVGATE drive their FETs on (R469) -/
  portGate : List Bool
  /-- STAT0 and STAT1, and nINT0 and nINT1, are driven low -/
  stat : List Bool
  nInt : List Bool
  wdoLow : Bool
  /-- SDO is high-impedance -/
  sdoHiZ : Bool
  ring : RingPins
  /-- CC1 and CC2 present the dead-battery Rd -/
  ccDead : Bool
  /-- the NTC pull-ups and the dividers of SYSS and BATS are connected -/
  sense : Bool
deriving DecidableEq, Repr

/-- The logic die runs in the power die's sight and VDRV stands above its lockout: the open-drain balls may be driven (R484). -/
def Dev.pinsLive (d : Dev) : Bool := d.alive && !d.pw.absent && d.pw.vdrvOk

/-- R484 (assumption 67): its first column, below the VDRV lockout, goes before the others. -/
def Dev.pins (d : Dev) : Pins :=
  { portGate := (List.range 5).map fun p => d.pw.vdrvOk && d.on (F.GUARD_STAT_FET_ON p)
    stat := (List.range 2).map fun i => d.pinsLive && (vget d.lamp i).lit
    nInt := [d.pinsLive && d.balls.nInt0, d.pinsLive && d.balls.nInt1]
    wdoLow := d.balls.wdoLow
    sdoHiZ := !d.host.selected || !d.alive || !d.pw.hostReady || !d.pw.vdrvOk
    ring := if !d.pw.vdrvOk then .hiZ else if d.ring.passThrough then .passThrough else .link
    ccDead := d.pw.mode == .ship || d.pw.mode == .keepAlive || !d.pw.vdrvOk
    sense := (d.pw.mode == .on || d.pw.mode == .cycleHeld) && d.pw.vdrvOk }

/-- `n` free bits, the lowest of a free value first (assumption 3). -/
def Dev.freeBits (d : Dev) (n : Nat) : List Bool × Dev :=
  let x := d.fresh
  ((List.range n).map fun i => x.1.testBit i, x.2)

/-- The levels that SAMPLE observes (R455): the digital balls of R468 in its order, nBTN to QZ. What drives SCK, SDI, the NAND data, NRB and QZ is not this
block's, and so is the level of a driven SDO: free (assumption 77). -/
def Dev.sampled (d : Dev) : List Bool × Dev :=
  let p := d.pins
  let x := d.freeBits 13
  let b (i : Nat) : Bool := x.1.getD i false
  let bid := (List.range 4).map fun i => d.fbit F.SYSCFG_BID i
  let low := [!d.on F.PWR_STAT_BTN] ++ p.stat.map (!·) ++ [!p.wdoLow, true] ++ p.nInt.map (!·) ++ [d.on F.SYSCFG_COMPAT_PIN] ++ bid
  let spi := [b 0, b 1, b 2, !d.host.selected]
  let nand := (List.range 8).map (fun i => b (3 + i)) ++ [false, false, true, true, true, true, b 11]
  (low ++ spi ++ nand ++ [d.ptb.qa, d.ptb.qb, b 12], x.2)

end Sys2Proof.Machine
end

