-- ==== Sys2Proof/Machine/StorageOps.lean ====
section
/-!
DEFINITION. The log store's attach, recovery and reading, user NV, the fault log's and the flow store's windows, and metering (R365 to R392).
-/
namespace Sys2Proof.Machine

/-! ### Attach and recovery (R377, R383, R384) -/

/-- Bricks of the largest record that the running capture set can make (R370, R375): the frames of a window of WINDOW_MAX. -/
def Dev.largestRecord (d : Dev) : Nat :=
  let frames := max 1 ((d.f F.CAP_CFG_WINDOW_MAX * d.f F.CAP_CFG_RATE + 9) / 10)
  brickCount (frames * d.f F.CAP_CFG_CHANNELS * 2)

/-- The geometry fails (R377): a block holds no record of the largest size, or its commit can take longer than 1999 ms. -/
def Dev.geomFails (d : Dev) (q : NandInfo) : Bool :=
  let b := 2 ^ q.bpp
  let pages := (d.largestRecord + b - 1) / b
  decide (2 ^ q.ppb < pages) || decide (1999000 < pages * (q.tProg + 100 * b))

/-- The NAND as NAND_CFG uses it: without CE1 the target behind NCE1 has no part (R376). -/
def Dev.nandSeen (d : Dev) (q : NandInfo) : NandInfo :=
  { q with blocks := if d.on F.NAND_CFG_CE1 then q.blocks + q.second else q.blocks, second := 0 }

/-- The NAND is of a kind that R376 supports. -/
def nandSupported (q : NandInfo) : Bool :=
  within 6 11 q.ppb && decide (72 ≤ q.spare) && decide (q.bpp ≤ 2) && within 1 65536 q.blocks && decide (q.blocks * 2 ^ q.ppb * 2 ^ q.bpp * 4096 ≤ 2 ^ 35)

/-- The store is formatted: bitmap from the marks, 4 % of the good blocks in reserve, the rest an erased ring, an empty journal (R384). -/
def Dev.formatNand (d : Dev) (q : NandInfo) : Dev :=
  let old := if d.nand.ident == some q.ident then d.nand.bad else []
  let bad := (List.range q.blocks).filter fun b => q.marked.contains b || old.contains b
  let good := (List.range q.blocks).filter fun b => !bad.contains b
  let spares := (good.length * 4 + 99) / 100
  (d.putNand { d.nand with
      ident := some q.ident, bad := bad, reserve := good.drop (good.length - spares)
      ring := (good.take (good.length - spares)).map fun b => { block := b }
      headAt := 0, headPage := 0, tailAt := 0, pend := none, erase := none, shut := 0, format := false, store := [], jTail := d.nand.jSeq })

/-- The NAND has been reset and read: GEOM_ERR, or RECOVERING until the journal has been read, which needs the course engines; after RETURN the store is CLOSED
(R377, R383, R422). -/
def Dev.attachNand (d : Dev) (q : NandInfo) : Dev :=
  let d := ((d.set F.NAND_GEOM_BLOCKS (q.blocks - 1)).set F.NAND_GEOM_PPB q.ppb).set F.NAND_GEOM_BPP q.bpp
  let d := (d.putNand { d.nand with tProg := q.tProg })
  if d.recov.xts.isNone then d.set F.NAND_STAT_STATE 5
  else if d.geomFails q then d.set F.NAND_STAT_STATE 4
  else
    let d := if d.nand.format || d.nand.ident != some q.ident then d.formatNand q else d
    (d.set F.NAND_STAT_STATE 1).set F.NAND_STAT_SPARES d.nand.reserve.length

/-- A commit that the reset cut short is completed: its last page holds, and step 3 of R381 follows. The half is long lost (R372, R383). -/
def Dev.rollForward (d : Dev) (c : Commit) : Dev :=
  let d := (if c.placed < c.bricks.length then d.placePage c else d).headPast c
  ((d.putNand { d.nand with pend := none }).inc F.LOG_SEQ_NEXT).raise 5 25

/-- A commit that the reset cut short is rolled back: the head moves past its range and its number is used up (R383). -/
def Dev.rollBack (d : Dev) (c : Commit) : Dev :=
  let b := (d.ringAt c.index).block * d.bricksPerPage * d.pagesPerBlock + c.page * d.bricksPerPage
  let store := d.nand.store.filter fun (x : Nat × List Byte) => !(decide (b ≤ x.1) && decide (x.1 < b + c.bricks.length))
  let d := (d.setRing c.index { d.ringAt c.index with erased := false }).headPast c
  let d := (d.putNand { d.nand with pend := none, store := store })
  ((d.inc F.LOG_SEQ_NEXT).inc F.LOG_CNT_ROLLBACKS).fault 5 27 [R.LOG_CNT, R.LOG_SEQ]

/-- The journal has been read (R383): the counters read its values; a pending commit is completed if every brick of its range is valid, which
`whole` says of the page whose program was cut, and rolled back otherwise; a pending erase is made again. Bricks at `lost` do not read any more
(R379, native MLC or TLC). A store whose geometry fails stays in GEOM_ERR. -/
def Dev.recoverLog (d : Dev) (q : RecoveryRead) (lost : List Nat) : Dev :=
  let geom := d.nandState == 4
  let d := (d.set F.LOG_SEQ_NEXT d.nand.jSeq).set F.LOG_TAIL_OLDEST d.nand.jTail
  let d := (d.set F.LOG_CNT_ROLLBACKS d.nand.jRolls).set F.LOG_CNT_RETIRED d.nand.jRetired
  let d := if d.nand.pend.isSome && !d.on F.NAND_CFG_PSLC then
      (d.putNand { d.nand with store := d.nand.store.filter fun (x : Nat × List Byte) => !lost.contains x.1 })
    else d
  let shut := if d.nand.shut == 3 && d.on F.NAND_CFG_RING then 0 else d.nand.shut
  let d := (d.putNand { d.nand with shut := shut, read := true }).set F.NAND_STAT_STATE (if shut == 0 then 2 else shut)
  let d := match d.nand.pend with
    | none => d
    | some c => if q.whole && decide (c.bricks.length ≤ c.placed + d.bricksPerPage) then d.rollForward c else d.rollBack c
  (if d.nand.erase.isSome then d.eraseDone q.erased else d).onlyIf geom fun d => d.set F.NAND_STAT_STATE 4

/-! ### Reading records (R382, R385, R387) -/

/-- A read that corrects more than NAND_CFG.RETIRE bits in 1 KiB retires the block (R385). -/
def Dev.retireIfWorn (d : Dev) (block corr : Nat) : Dev :=
  if decide (d.f F.NAND_CFG_RETIRE < corr) && d.nand.ring.any fun (x : RingBlock) => x.block == block then d.retireUnderCommit block else d

/-- A fetch of brick `i` of record REC_SEL.SEQ starts (R387). While one runs, a further FETCH does nothing (DESIGN CHOICE, assumption 60). -/
def Dev.startFetch (d : Dev) (i : Nat) : Dev :=
  let d := d.set F.REC_CTL_INDEX i
  if d.nand.fetch.isSome then d
  else
  let d := (d.set F.REC_CTL_FETCH 1).set F.REC_CTL_RESULT 1
  (d.putNand { d.nand with fetch := some (d.f F.REC_SEL_SEQ, i) })

/-- The brick's position, if its record is present (R382): every brick whole but the one at `i`, whose read the command reports. -/
def Dev.brickAt (d : Dev) (seq i : Nat) : Option Nat :=
  if d.nandState == 0 || d.nandState == 1 || d.nandState == 4 then none
  else match d.findRecord seq with
    | none => none
    | some p =>
      let n := leAt (Sparse.get (fun _ => ([] : List Byte)) d.nand.store p) 14 2
      if decide (i < n) && d.recordWhole p seq then some (p + i) else none

/-- A fetch ends (R387). -/
def Dev.fetchDone (d : Dev) (corr : Nat) (r : BrickRead) : Dev :=
  match d.nand.fetch with
  | none => d
  | some x =>
    let d := (d.putNand { d.nand with fetch := none, offset := 0, buffer := [] }).set F.REC_CTL_FETCH 0
    match d.brickAt x.1 x.2 with
    | none => (d.set F.REC_CTL_RESULT 3).set F.REC_CTL_CORR 0
    | some p =>
      let d := d.set F.REC_CTL_CORR corr
      let d := match r with
        | .good =>
          (d.putNand { d.nand with buffer := Sparse.get (fun _ => ([] : List Byte)) d.nand.store p }).set F.REC_CTL_RESULT 2
        | .uncorrectable => (d.set F.REC_CTL_RESULT 4).raise 5 31
        | .crcFailed => d.set F.REC_CTL_RESULT 5
      d.retireIfWorn (p / (d.bricksPerPage * d.pagesPerBlock)) corr

/-- The next 4 bytes of the fetched brick; before any fetch the reset value, and without a good brick a free value (R387). -/
def Dev.readRecData (d : Dev) : Dev :=
  if d.f F.REC_CTL_RESULT == 0 then (d.putReadData 0)
  else if d.f F.REC_CTL_RESULT == 2 then
    let o := d.nand.offset
    ((d.putReadData (BitVec.ofNat 32 (leAt d.nand.buffer o 4))).putNand { d.nand with offset := (o + 4) % 4096 })
  else let x := d.fresh; (x.2.putReadData (BitVec.ofNat 32 x.1))

/-! ### User NV (R392) -/

/-- NVADDR moves on by 4. -/
def Dev.nvNext (d : Dev) : Dev := d.set F.NVADDR_OFFSET (d.f F.NVADDR_OFFSET + 4)

/-- 4 bytes are stored at NVADDR. -/
def Dev.nvWrite (d : Dev) (w : Word) : Dev :=
  (d.putNv (Mem.setWord d.nv (d.f F.NVADDR_OFFSET) w)).nvNext

/-- 4 bytes are read at NVADDR. -/
def Dev.nvRead (d : Dev) : Dev := (d.putReadData (Mem.word d.nv (d.f F.NVADDR_OFFSET))).nvNext

/-! ### The MRAM scrub (R391) -/

/-- One row of the scrub, with the bits corrected in each of its words: a weak row moves to a spare row. -/
def Dev.scrubRow (d : Dev) (bits : List Nat) : Dev :=
  let hit := bits.filter fun b => b != 0
  let d := d.addSat F.MRAM_STAT_CORRECTED hit.length
  if (hit.any fun b => decide (2 ≤ b)) || decide (4 ≤ hit.length) then
    if d.f F.MRAM_STAT_SPARE_LEFT == 0 then d
    else (d.set F.MRAM_STAT_SPARE_LEFT (d.f F.MRAM_STAT_SPARE_LEFT - 1)).fault 5 30 [R.MRAM_STAT]
  else d

/-- Counts that the retained region keeps and registers show (R422, R465). -/
def keptCounts : List Field :=
  [F.SYS_OOW_MS, F.AVL_DARK_MS, F.WDT_LAST_RESETS, F.WDT_LAST_CAUSE, F.CAP_CYCLE_CYCLE, F.THERM_HW_LD_SHUTS, F.CHG_RESV_E_RELEASED, F.CHG_RESV_E_UNCAL,
   F.CHG_ENERGY_E_AVAIL]

/-- A word of the kept counters reads free: which of them lies in it, and what it reads, the spec does not say (R389, R391, assumption 56). -/
def Dev.spoilCount (d : Dev) : Dev :=
  let x := d.fresh
  let y := x.2.fresh
  y.2.set (keptCounts.getD (x.1 % keptCounts.length) F.SYS_OOW_MS) y.1

/-- A word of the bad-block bitmap reads free: the marks of its 64 blocks (R389, R391, assumption 56). -/
def Dev.spoilBitmap (d : Dev) (w : Nat) : Dev :=
  let x := d.fresh
  let other := d.nand.bad.filter fun b => b / 64 != w
  x.2.putNand { d.nand with bad := ((List.range 64).filter fun i => x.1.testBit i).map (fun i => 64 * w + i) ++ other }

/-- A word of the identity and keys region fails (R391): a seal, and its slot is not sealed (R68); a key, whose words read free (R63); or the boot record,
which reads free. Which of them lies where the spec does not say (assumption 56). -/
def Dev.spoilIdentity (d : Dev) : Dev :=
  let x := d.fresh
  let y := x.2.fresh
  let d := y.2
  let k := x.1 % 7
  if k < 2 then d.putSlots (vset d.slots k { vget d.slots k with sealed := false })
  else if k < 6 then
    let old := vget d.keys (k - 2)
    let word (w : Word × Nat) : Word := if w.2 / 2 == 0 then BitVec.ofNat 32 (y.1 / 2 ^ (32 * w.2)) else w.1
    d.putKeys (vset d.keys (k - 2) { key := old.key.map fun ws => ws.zipIdx.map word })
  else
    d.putBoot { active := y.1 % 2, trial := y.1.testBit 1, booted := y.1.testBit 2, altValid := y.1.testBit 3, generation := y.1 / 16 }

/-- An uncorrectable word at MRAM offset `a` (R388, R389, R391): UNCORR, EVB5 source 30, and the item that holds it fails its own check. A word of an image
slot fails its section's CRC, one of the fault log its entry's CRC, and one of the live record its tag, so that the record is discarded (R76); without its
journal the log store has no recorded identity, and is formatted at the next attach (R384, assumption 56); a word of user NV reads free values. -/
def Dev.spoilWord (d : Dev) (a : Nat) : Dev :=
  let d := (d.set F.MRAM_STAT_UNCORR 1).raise 5 30
  if a < 0x300000 then
    let s := a / 0x180000
    (d.putSlots (vset d.slots s { vget d.slots s with spoilt := (a % 0x180000) / 8 :: (vget d.slots s).spoilt }))
  else if a < 0x308000 then
    let n := (a - 0x300000) / 32
    let e := Sparse.get (fun _ => ({} : LogEntry)) d.log.entries n
    if e == {} then d
    else (d.putLog { d.log with entries := Sparse.set (fun _ => ({} : LogEntry)) d.log.entries n { e with crc := crc32 e.body ^^^ 1#32 } })
  else if 0x340000 ≤ a && a < 0x740000 then
    let o := (a - 0x340000) / 8 * 8
    let x := d.fresh
    let y := x.2.fresh
    (y.2.putNv (Mem.setWord (Mem.setWord d.nv o (BitVec.ofNat 32 x.1)) (o + 4) (BitVec.ofNat 32 y.1)))
  else if a < 0x309000 then d.spoilCount
  else if a < 0x30C000 then d.putLive {}
  else if a < 0x30C100 then d.putNand { d.nand with ident := none }
  else if a < 0x30E100 then d.spoilBitmap ((a - 0x30C100) / 8)
  else if 0x740000 ≤ a && a < 0x750000 then d.spoilIdentity
  else d

/-! ### Selected entries (R267, R398) -/

/-- The fault-log entry shown in FLOG_DATA0 to FLOG_DATA7 (R390). -/
def Dev.showLog (d : Dev) (n : Nat) : Dev :=
  let e := Sparse.get (fun _ => ({} : LogEntry)) d.log.entries n
  let d := d.set F.FLOG_SEL_ENTRY n
  let empty := e == {}
  let d := (e.words.zipIdx).foldl (fun d (x : Word × Nat) => d.wr (R.FLOG_DATA x.2) (if empty then 0#32 else x.1)) d
  d.setB F.FLOG_STAT_SEL_VOID (empty || !e.valid)

/-- The flow context shown in FLOW_CTX0 to FLOW_CTX3; at or above CAPACITY a FREE one (R267). -/
def Dev.showFlow (d : Dev) (i : Nat) : Dev :=
  let x : FlowCtx := if i < d.f F.FLOW_STAT_CAPACITY then Sparse.get (fun _ => ({} : FlowCtx)) d.ring.flows i else {}
  let d := d.set F.FLOW_SEL_INDEX i
  let d := (((d.set F.FLOW_CTX0_CONSUMER x.consumer).set F.FLOW_CTX0_ROLE x.role).set F.FLOW_CTX0_STATE x.state).set F.FLOW_CTX0_FLOW_ID x.flowId
  let d := ((d.set F.FLOW_CTX1_RATE_MAX x.rateMax).set F.FLOW_CTX1_RATE x.rate).set F.FLOW_CTX2_ALLOW x.allow
  ((((d.set F.FLOW_CTX3_AGE (min 65535 x.age)).set F.FLOW_CTX3_FSEQ x.fseq).set F.FLOW_CTX3_IN x.inp).set F.FLOW_CTX3_OUT x.outp)

/-! ### Conversions and metering (R365, R366, R368) -/

/-- The meters of port `p` take 10 µs of `v` × `i`, in units of 1e-9 J (R368). -/
def Dev.meterPort (d : Dev) (p : Nat) (v : Nat) (i : Int) : Dev :=
  let e := v * i.natAbs
  if 0 ≤ i then
    let r := vget d.prism.resIn p + e
    let d := d.set (F.METER_IN_E p) (d.f (F.METER_IN_E p) + r / 1000000000)
    (d.putPrism { d.prism with resIn := vset d.prism.resIn p (r % 1000000000) })
  else
    let r := vget d.prism.resOut p + e
    let d := d.set (F.METER_OUT_E p) (d.f (F.METER_OUT_E p) + r / 1000000000)
    (d.putPrism { d.prism with resOut := vset d.prism.resOut p (r % 1000000000) })

/-- What a conversion of prism source `n` gives in these 10 µs; none for an AIN that is not converted now (R365). -/
def Dev.converted (d : Dev) (q : Conversions) (n : Nat) : Option Int :=
  if n == 0x10 then some q.vSys
  else if within 0x11 0x15 n then some (d.nodeVolts (n - 0x10) (vget q.v (min (n - 0x11) 1)) q.balls : Nat)
  else if within 0x18 0x1C n then some (vget q.i (n - 0x18))
  else (q.ain.find? fun (x : Nat × Int) => 0x20 + x.1 == n).map (·.2)

/-- Each conversion that ADC_TRIG has asked for gives a result of its own; one of an AIN waits until that AIN can be converted (R283). -/
def Dev.serveTrig (d : Dev) (q : Conversions) : Dev :=
  let d := d.prism.trig.foldl (fun d n => match d.converted q n with
    | some v => d.result n v
    | none => d) d
  (d.putPrism { d.prism with trig := d.prism.trig.filter fun n => (d.converted q n).isNone })

/-- An ADC calibration runs: the other ADC carries every foreground conversion, and the background gets none (R413, R415). -/
def Dev.adcBusy (d : Dev) : Bool := d.f F.ST_ADC_RESULT0 == 1 || d.f F.ST_ADC_RESULT1 == 1

/-- The conversions of 10 µs: results to their consumers, energies to the meters; asked-for conversions are served. -/
def Dev.convert (d : Dev) (q : Conversions) : Dev :=
  let d := d.result 0x10 q.vSys
  let v (p : Nat) : Nat := d.nodeVolts (p + 1) (vget q.v (min p 1)) q.balls
  let d := d.each 5 fun d p => (d.result (0x11 + p) (v p : Nat)).result (0x18 + p) (vget q.i p)
  let d := (if d.adcBusy then [] else q.ain).foldl (fun d (x : Nat × Int) => d.result (0x20 + x.1) x.2) d
  (d.each 5 fun d p => d.meterPort p (v p) (vget q.i p)).serveTrig q

end Sys2Proof.Machine
end

