-- ==== Sys2Proof/Machine/Storage.lean ====
section
/-!
DEFINITION. The meanings of the capture and storage family (R365 to R399) and of the flow-store window (R267).
-/
namespace Sys2Proof.Machine

/-- R369: an open by START_EVT (1), an action (2) or CAP_CTL.OPEN (3). -/
def capOpen (d : Dev) (cause : Nat) : Dev := if d.alive then d.askOpen (cause + 1) else d

/-- CAP_OPEN (R369). -/
def execCapOpen (cause : Fin 3) (s : State) : Host.Outcome State Fault Refusal := done s (capOpen s.dev cause)

/-- R369: a close by STOP_EVT (1), an action (2) or CAP_CTL.CLOSE (3). -/
def capClose (d : Dev) (cause : Nat) : Dev := if d.alive then d.askClose (cause + 1) else d

/-- CAP_CLOSE (R369). -/
def execCapClose (cause : Fin 3) (s : State) : Host.Outcome State Fault Refusal := done s (capClose s.dev cause)

/-- CAPTURE_WINDOW_MAX (R369): close cause 4. -/
def execCaptureWindowMax (s : State) : Host.Outcome State Fault Refusal := done s (if s.dev.alive then s.dev.askClose 4 else s.dev)

/-- CAPTURE_FRAME (R370). -/
def execCaptureFrame (s : State) : Host.Outcome State Fault Refusal :=
  done s (if s.dev.running && s.dev.on F.CAP_STAT_OPEN then s.dev.takeFrame else s.dev)

/-- R394, R409, R410: CAP_CTL.EN at 0 closes the window as CAP_CTL.CLOSE does and waits for its safe point; at 1 it cancels the wait. -/
def Dev.capEn (d : Dev) (en : Bool) : Dev :=
  let d := d.setB F.CAP_CTL_EN en
  if en then d.set F.FUNC_PEND_CAP 0
  else
    let d := d.closeWindow 3
    d.setB F.FUNC_PEND_CAP (d.halfState 0 != 0 || d.halfState 1 != 0)

/-- CAP_EN_WRITE (R409). -/
def execCapEnWrite (en : Bool) (s : State) : Host.Outcome State Fault Refusal := done s (if s.dev.alive then s.dev.capEn en else s.dev)

/-- R381, R71: a QUEUED half starts to commit; none starts while an image restart waits for the commits in flight. -/
def startCommit (d : Dev) : Dev := if d.running && !d.on F.IMGSTAT_COMMIT_PENDING then d.commitStart else d

/-- COMMIT_START (R381). -/
def execCommitStart (s : State) : Host.Outcome State Fault Refusal := done s (startCommit s.dev)

/-- NAND_PAGE_PROGRAMMED (R381, R385). -/
def execNandPageProgrammed (ok : Bool) (s : State) : Host.Outcome State Fault Refusal :=
  done s (if s.dev.running then s.dev.pageProgrammed ok else s.dev)

/-- NAND_ERASE_DONE (R384, R385). -/
def execNandEraseDone (ok : Bool) (s : State) : Host.Outcome State Fault Refusal :=
  done s (if s.dev.running then s.dev.eraseDone ok else s.dev)

/-- R377, R384: once after a logic-die reset, in NO_IMAGE too, a NAND that R376 supports is read; in RETURN it stays CLOSED. -/
def nandAttach (d : Dev) (q : NandInfo) : Dev :=
  let q := d.nandSeen q
  let first := d.nandState == 0 || (d.recov.xts.isNone && d.nandState == 5)
  if d.alive && first && nandSupported q then d.attachNand q else d

/-- NAND_ATTACH (R377, R384). -/
def execNandAttach (q : NandInfo) (s : State) : Host.Outcome State Fault Refusal := done s (nandAttach s.dev q)

/-- LOG_RECOVERY (R383): the course engines run and STATE has left ABSENT; the journal is read once. -/
def execLogRecovery (q : RecoveryRead) (lost : List Nat) (s : State) : Host.Outcome State Fault Refusal :=
  done s (if s.dev.running && !s.dev.nand.read && (s.dev.nandState == 1 || s.dev.nandState == 4) then s.dev.recoverLog q lost else s.dev)

/-- R385, R386: the patrol reads a page of `block`; it never starts while a half is QUEUED or COMMITTING (R416). -/
def patrol (d : Dev) (block corr : Nat) (uncorr last : Bool) : Dev :=
  let busy := within 2 3 (d.halfState 0) || within 2 3 (d.halfState 1)
  if !d.running || busy || !(d.nandState == 2 || d.nandState == 3 || d.nandState == 5) ||
      d.f F.NAND_CFG_PATROL == 0 || !(d.on F.BG_CTL_PATROL || d.on F.FUNC_PEND_PATROL) then d
  else
    let d := d.setB F.NAND_STAT_PATROL (!last)
    let d := if uncorr then d.raise 5 31 else d
    d.retireIfWorn block corr

/-- NAND_PATROL (R385). -/
def execNandPatrol (block corr : Nat) (uncorr last : Bool) (s : State) : Host.Outcome State Fault Refusal :=
  done s (patrol s.dev block corr uncorr last)

/-- REC_FETCH (R387). -/
def execRecFetch (i : BitVec 10) (s : State) : Host.Outcome State Fault Refusal :=
  done s (if s.dev.alive then s.dev.startFetch i.toNat else s.dev)

/-- REC_FETCH_DONE (R387). -/
def execRecFetchDone (corr : Byte) (r : BrickRead) (s : State) : Host.Outcome State Fault Refusal :=
  done s (if s.dev.alive then s.dev.fetchDone corr.toNat r else s.dev)

/-- REC_DATA_READ (R387). -/
def execRecDataRead (s : State) : Host.Outcome State Fault Refusal := done s (if s.dev.alive then s.dev.readRecData else s.dev)

/-- NVDATA_WRITE (R392). -/
def execNvdataWrite (w : Word) (s : State) : Host.Outcome State Fault Refusal := done s (if s.dev.alive then s.dev.nvWrite w else s.dev)

/-- NVDATA_READ (R392). -/
def execNvdataRead (s : State) : Host.Outcome State Fault Refusal := done s (if s.dev.alive then s.dev.nvRead else s.dev)

/-- R391: rows of the scrub, with the corrected bits of each word; an uncorrectable word; the end of the pass, which restarts its age (R410). -/
def mramScrub (d : Dev) (rows : List (List Nat)) (uncorr : Option Nat) (last : Bool) : Dev :=
  if !d.alive || !(d.on F.BG_CTL_MSCRUB || d.on F.FUNC_PEND_MSCRUB) then d
  else
    let d := rows.foldl Dev.scrubRow d
    let d := match uncorr with
      | some a => d.spoilWord a
      | none => d
    if last then ((d.set F.BG_STAT_SCRUB_AGE_H 0).putRecov { d.recov with scrubUs := 0 }) else d

/-- MRAM_SCRUB (R391). -/
def execMramScrub (rows : List (List Nat)) (uncorr : Option Nat) (last : Bool) (s : State) : Host.Outcome State Fault Refusal :=
  done s (mramScrub s.dev rows uncorr last)

/-- FLOG_SELECT (R398). -/
def execFlogSelect (n : BitVec 10) (s : State) : Host.Outcome State Fault Refusal := done s (if s.dev.alive then s.dev.showLog n.toNat else s.dev)

/-- FLOW_SELECT (R267). -/
def execFlowSelect (i : Byte) (s : State) : Host.Outcome State Fault Refusal := done s (if s.dev.alive then s.dev.showFlow i.toNat else s.dev)

/-- PRISM_TSEL_WRITE (R367). -/
def execPrismTselWrite (src : Byte) (s : State) : Host.Outcome State Fault Refusal :=
  done s (if s.dev.alive then (s.dev.set F.PRISM_TSEL_SOURCE src.toNat).startTelemetry else s.dev)

/-- A read of PRISM_TMEAN: the mean and count, and the counters start afresh (R367). -/
def Dev.readMean (d : Dev) : Dev := (d.putReadData (d.rd R.PRISM_TMEAN)).startTelemetry

/-- PRISM_TMEAN_READ (R367). -/
def execPrismTmeanRead (s : State) : Host.Outcome State Fault Refusal := done s (if s.dev.alive then s.dev.readMean else s.dev)

/-- METER_TICK (R368). -/
def execMeterTick (q : Conversions) (s : State) : Host.Outcome State Fault Refusal := done s (if s.dev.alive then s.dev.convert q else s.dev)

end Sys2Proof.Machine
end

