-- ==== Sys2Proof/Machine/Watchdog.lean ====
section
/-!
DEFINITION. The meanings of the watchdog family (R344 to R362).
-/
namespace Sys2Proof.Machine

/-- R347: the tick at which c reaches OPEN_T. -/
def wdtWindowOpen (d : Dev) : Dev := d.tickTo (d.f F.WDT_OPEN_T_TICKS)

/-- WDT_WINDOW_OPEN (R347). -/
def execWdtWindowOpen (s : State) : Host.Outcome State Fault Refusal := done s (wdtWindowOpen s.dev)

/-- R354: the tick at which c reaches PERIOD_T without an accepted service; c has passed OPEN_T by then. -/
def wdtTimeout (d : Dev) : Dev :=
  let d := wdtWindowOpen d
  d.tickTo (d.f F.WDT_PERIOD_T_TICKS)

/-- WDT_TIMEOUT (R354). -/
def execWdtTimeout (s : State) : Host.Outcome State Fault Refusal := done s (wdtTimeout s.dev)

/-- WDT_CHECKIN (R350). -/
def execWdtCheckin (id : Byte) (o : Origin) (s : State) : Host.Outcome State Fault Refusal :=
  done s (if s.dev.alive then s.dev.checkIn id.toNat o else s.dev)

/-- WDT_SERVICE (R352). -/
def execWdtService (echo tok : BitVec 16) (o : Origin) (s : State) : Host.Outcome State Fault Refusal :=
  done s (if s.dev.alive then s.dev.service echo tok o else s.dev)

/-- R345: no edge of the watchdog clock for 122 µs. The crystal gives way to the RC; with the RC stopped the logic die is reset. The watchdog is in reset
while the logic die is absent (R25). -/
def wdtClockStop (d : Dev) : Dev :=
  if !d.alive || d.pw.absent then d
  else
    let crystal := d.on F.WDT_STAT_CLK
    let d := (d.set F.WDT_STAT_CLK_STOP 1).raise 5 20
    let d := if crystal then (d.set F.WDT_STAT_CLK 0).set F.SYSCFG_XTAL32 0 else d
    d.expire 5 (!crystal)

/-- WDT_CLOCK_STOP (R345). -/
def execWdtClockStop (s : State) : Host.Outcome State Fault Refusal := done s (wdtClockStop s.dev)

/-- WDT_FORCE (R360). -/
def execWdtForce (s : State) : Host.Outcome State Fault Refusal := done s (if s.dev.alive then s.dev.forceWdt else s.dev)

/-- WDO_PULSE_END (R356): WDO_MS after the last expiry, whatever the state of the logic die. -/
def execWdoPulseEnd (s : State) : Host.Outcome State Fault Refusal := done s (s.dev.putBalls { s.dev.balls with wdoLow := false })

/-- WDT_TICK (R347). -/
def execWdtTick (s : State) : Host.Outcome State Fault Refusal := done s s.dev.wdtTick

end Sys2Proof.Machine
end

