-- ==== Sys2Proof/Machine/Recovery.lean ====
section
/-!
DEFINITION. The meanings of the background, calibration and debug commands (R359, R408 to R414, R443, R456).
-/
namespace Sys2Proof.Machine

/-! ### Requests that are not admitted (R414) -/

/-- ST_ADC's fields of ADC `u`. -/
def adcPending (u : Nat) : Field := if u = 0 then F.ST_ADC_PENDING0 else F.ST_ADC_PENDING1
def adcResult (u : Nat) : Field := if u = 0 then F.ST_ADC_RESULT0 else F.ST_ADC_RESULT1
def adcCal (u : Nat) : Field := if u = 0 then F.ST_ADC_CAL0 else F.ST_ADC_CAL1

/-- R414: the request has waited 60 s: RESULT 5, its pending bit clears, EVB0 source 9; a tile's self-test has ended with it, which is EVB1 source 28 too
(R126). -/
def deferred (d : Dev) : Waiting → Dev
  | .tile t =>
    if d.running && d.on (F.TILE_STAT_TEST_PENDING t) then
      (((d.set (F.TILE_STAT_TEST_PENDING t) 0).set (F.TILE_CTL_TEST_START t) 0).set (F.TILE_TEST_RESULT t) 5).raise 0 9 |>.raise 1 28
    else d
  | .lens n =>
    if d.running && d.on (F.LENS_STAT_PENDING n) then
      (((d.endAuto n).set (F.LENS_STAT_PENDING n) 0).set (F.LENS_STAT_RESULT n) 5).raise 0 9
    else d
  | .adc u =>
    if d.alive && d.on (adcPending u) then (((d.set (adcPending u) 0).set (adcCal u) 0).set (adcResult u) 5).raise 0 9 else d

/-- DEFERRED_TIMEOUT (R414). -/
def execDeferredTimeout (w : Waiting) (s : State) : Host.Outcome State Fault Refusal := done s (deferred s.dev w)

/-! ### Calibration of an ADC (R413) -/

/-- R413: CALu requests a calibration; while one waits or runs, a request changes nothing. -/
def Dev.adcRequest (d : Dev) (u : Nat) : Dev :=
  if d.on (adcPending u) || d.f (adcResult u) == 1 then d else (d.set (adcPending u) 1).set (adcCal u) 1

/-- ADC_CAL_REQUEST (R413). -/
def execAdcCalRequest (u : Fin 2) (s : State) : Host.Outcome State Fault Refusal := done s (if s.dev.alive then s.dev.adcRequest u else s.dev)

/-- R413: the foreground conversions of the last 1 ms, `load`, are at most (100 − MARGIN) % of 20 MS/s, and no calibration runs. -/
def adcAdmit (d : Dev) (u load : Nat) : Dev :=
  if d.alive && d.on (adcPending u) && decide (load ≤ (100 - d.f F.ST_CFG_MARGIN) * 200) && d.f F.ST_ADC_RESULT0 != 1 && d.f F.ST_ADC_RESULT1 != 1 then
    (d.set (adcPending u) 0).set (adcResult u) 1
  else d

/-- ADC_CAL_ADMIT (R413). -/
def execAdcCalAdmit (u : Fin 2) (load : Nat) (s : State) : Host.Outcome State Fault Refusal := done s (adcAdmit s.dev u load)

/-- R413: the calibration ends in PASS or FAIL: EVB0 source 14, and a fault-log entry on FAIL. -/
def adcEnd (d : Dev) (u : Nat) (pass : Bool) : Dev :=
  if d.alive && d.f (adcResult u) == 1 then
    let d := ((d.set (adcCal u) 0).set (adcResult u) (if pass then 2 else 3)).raise 0 14
    if pass then d else d.logFault 0 14 [d.rd R.ST_ADC]
  else d

/-- ADC_CAL_END (R413). -/
def execAdcCalEnd (u : Fin 2) (pass : Bool) (s : State) : Host.Outcome State Fault Refusal := done s (adcEnd s.dev u pass)

/-! ### Disabling and enabling background functions (R408 to R410) -/

/-- The function has left its work in flight: the safe point of R409 is reached. Charging has one only at an update of C1, so while the course engines run
(R25). -/
def Dev.atSafePoint (d : Dev) : Func → Bool
  | .cap => d.halfState 0 == 0 && d.halfState 1 == 0
  | .chg => d.running
  | .shed c => (d.shedTiles c).isEmpty && (vget d.course c).shedTile.isNone
  | .lens => d.recov.autoCheck.all fun n => !d.on (F.LENS_STAT_TESTING n)
  | _ => true

/-- The function's bit in FUNC_PEND: the field and the bit in it. -/
def pendBit : Func → Field × Nat
  | .chg => (F.FUNC_PEND_CHG, 0)
  | .cap => (F.FUNC_PEND_CAP, 0)
  | .patrol => (F.FUNC_PEND_PATROL, 0)
  | .slot => (F.FUNC_PEND_SLOT, 0)
  | .mscrub => (F.FUNC_PEND_MSCRUB, 0)
  | .lens => (F.FUNC_PEND_LENS, 0)
  | .shed c => (F.FUNC_PEND_SHED, c)

/-- R408, R409: a disabled function reaches its safe point: charging is IDLE, a patrol's page read is over; its bit clears, EVB0 source 10. -/
def safePoint (d : Dev) (f : Func) : Dev :=
  let x := pendBit f
  if !d.alive || !d.fbit x.1 x.2 || !d.atSafePoint f then d
  else
    let d := match f with
      | .chg => if chargingPhase (d.f F.CHG_PHASE_PHASE) then (d.setPhase 0).applyCharge.showTimer else d
      | .patrol => d.set F.NAND_STAT_PATROL 0
      | _ => d
    (d.setBit x.1 x.2 false).raise 0 10

/-- FUNC_SAFE_POINT (R408). -/
def execFuncSafePoint (f : Func) (s : State) : Host.Outcome State Fault Refusal := done s (safePoint s.dev f)

/-- A bit of BG_CTL is written: cleared with work in flight, its FUNC_PEND bit sets; set, a waiting disable is cancelled (R408, R410). -/
def Dev.bgBit (d : Dev) (ctl pend : Field) (en busy : Bool) : Dev :=
  let was := d.on ctl
  let d := d.setB ctl en
  if en then d.set pend 0 else if was && busy then d.set pend 1 else d

/-- Automatic checks that only wait are not started (R408, R409). -/
def Dev.dropAuto (d : Dev) : Dev :=
  d.recov.autoCheck.foldl (fun d n =>
    if d.on (F.LENS_STAT_PENDING n) && !d.on (F.LENS_STAT_TESTING n) then (d.set (F.LENS_STAT_PENDING n) 0).endAuto n else d) d

/-- R409, R410: BG_CTL is written. `slotBusy` and `scrubBusy`: the CRC of a section, or a row of the MRAM scrub, is in progress. -/
def Dev.bgCtl (d : Dev) (w : Word) (slotBusy scrubBusy : Bool) : Dev :=
  let d := d.bgBit F.BG_CTL_PATROL F.FUNC_PEND_PATROL (w.getLsbD 0) (d.on F.NAND_STAT_PATROL)
  let d := d.bgBit F.BG_CTL_SLOT_CHK F.FUNC_PEND_SLOT (w.getLsbD 1) slotBusy
  let d := d.bgBit F.BG_CTL_MSCRUB F.FUNC_PEND_MSCRUB (w.getLsbD 2) scrubBusy
  let d := if w.getLsbD 3 then d else d.dropAuto
  d.bgBit F.BG_CTL_LENS_AUTO F.FUNC_PEND_LENS (w.getLsbD 3) (!d.recov.autoCheck.isEmpty)

/-- BG_CTL_WRITE (R409). -/
def execBgCtlWrite (w : Word) (slotBusy scrubBusy : Bool) (s : State) : Host.Outcome State Fault Refusal :=
  done s (if s.dev.alive then s.dev.bgCtl w slotBusy scrubBusy else s.dev)

/-- R410: an age reaches `h` hours; one that passes 24 raises EVB0 source 13. -/
def Dev.ageTo (d : Dev) (x : Field) (h : Nat) : Dev :=
  let was := d.f x
  let d := d.set x (min h 65535)
  if was ≤ 24 && 24 < h then d.raise 0 13 else d

/-- BG_AGE_ALARM (R410): the age of the MRAM scrub, or of the inactive-slot check, passes 24 h. -/
def bgAgeAlarm (d : Dev) (scrub : Bool) : Dev :=
  let x := if scrub then F.BG_STAT_SCRUB_AGE_H else F.BG_STAT_SLOT_AGE_H
  if d.alive && d.f x ≤ 24 then d.ageTo x 25 else d
def execBgAgeAlarm (scrub : Bool) (s : State) : Host.Outcome State Fault Refusal := done s (bgAgeAlarm s.dev scrub)

/-! ### The JTAG port (R455), debug access (R359, R456) and the core (R443) -/

/-- The data registers of the JTAG port. -/
inductive TapReg where
  | bypass | sample | dtmcs | dmi
deriving DecidableEq, Repr

/-- The data register that the instruction register selects: DTMCS and DMI act as BYPASS until debug access is open, and so does a code that R455 does not list
(assumption 77). -/
def Dev.tapReg (d : Dev) : TapReg :=
  if d.tap.ir == 0x01 then .sample
  else if d.tap.ir == 0x10 && d.on F.DBG_CTL_OPENED then .dtmcs
  else if d.tap.ir == 0x11 && d.on F.DBG_CTL_OPENED then .dmi
  else .bypass

/-- What a data register captures: BYPASS a 0, SAMPLE the levels of the digital balls; what the debug module gives, 32 bits of DTMCS and the 41 of DMI, is
not this block's and free (R455, assumption 77). -/
def Dev.capture (d : Dev) : List Bool × Dev :=
  match d.tapReg with
  | .bypass => ([false], d)
  | .sample => d.sampled
  | .dtmcs => d.freeBits 32
  | .dmi => d.freeBits 41

/-- An instruction is shifted in and its data register scanned (R455). -/
def Dev.scan (d : Dev) (ir : Nat) : Dev :=
  let d := d.putTap { ir := ir }
  let x := d.capture
  x.2.putTap { ir := ir, captured := x.1 }

/-- What a debugger does, it does by DMI: nothing where that acts as BYPASS (R455, R456). -/
def Dev.byDmi (d : Dev) (act : Dev → Dev) : Dev :=
  if !d.alive then d
  else
    let d := d.scan 0x11
    if d.tapReg = .dmi then act d else d

/-- R456: a write of DBG_CTL.OPEN. -/
def Dev.dbgOpen (d : Dev) : Dev :=
  if d.f F.LC_STAT_STATE == 2 then d.set F.DBG_CTL_REJ 1 else if d.on F.DBG_CTL_OPENED then d else (d.set F.DBG_CTL_OPENED 1).raise 0 22

/-- DBG_OPEN (R456). -/
def execDbgOpen (s : State) : Host.Outcome State Fault Refusal := done s (if s.dev.alive then s.dev.dbgOpen else s.dev)

/-- R456, R359: an open debugger halts the core: EVB0 source 23; the watchdog count freezes unless NOFREEZE is programmed. -/
def debugHalt (d : Dev) : Dev :=
  d.byDmi fun d =>
    if d.on F.DBG_CTL_HALTED then d
    else ((d.set F.DBG_CTL_HALTED 1).setB F.WDT_STAT_FROZEN (!d.on F.WDT_FUSE_NOFREEZE)).raise 0 23

/-- DEBUG_HALT (R359). -/
def execDebugHalt (s : State) : Host.Outcome State Fault Refusal := done s (debugHalt s.dev)

/-- R359: the core resumes. -/
def debugResume (d : Dev) : Dev :=
  d.byDmi fun d => if d.on F.DBG_CTL_HALTED then (d.set F.DBG_CTL_HALTED 0).set F.WDT_STAT_FROZEN 0 else d

/-- DEBUG_RESUME (R359). -/
def execDebugResume (s : State) : Host.Outcome State Fault Refusal := done s (debugResume s.dev)

/-- R443: the supervisor ends a customer task after a fault: EVB0 source 25 and a fault-log entry. -/
def customerTaskFault (d : Dev) : Dev := if d.supervisor then d.fault 0 25 [] else d

/-- CUSTOMER_TASK_FAULT (R443). -/
def execCustomerTaskFault (s : State) : Host.Outcome State Fault Refusal := done s (customerTaskFault s.dev)

end Sys2Proof.Machine
end

