-- ==== Sys2Proof/Machine/RingLink.lean ====
section
/-!
DEFINITION. The meanings of the Ring Link commands (R217 to R252): frames received, answers and time limits, link states, contracts,
role swaps, flows and emergency frames.
-/
namespace Sys2Proof.Machine

/-! ### Receiving a frame (R226 to R230) -/

/-- The frame with its type. -/
def rxFrame (f : RxFrame) (typ : Nat) : Frame := { dst := f.dst, src := f.src, typ := typ, prio := f.prio, seq := f.seq, data := f.data }

/-- The unit takes frames on segment `s`: in HELLO and UP (R232). -/
def Dev.listens (d : Dev) (s : Nat) : Bool := d.running && within 1 2 (d.lstate s)

/-- The SEQ last accepted from a SRC on segment `s` is remembered, for up to 64 SRCs (R230). -/
def Dev.remember (d : Dev) (s src seq : Nat) : Dev :=
  d.modSeg s fun g => { g with seen := ((src, seq) :: g.seen.filter fun (x : Nat × Nat) => x.1 != src).take 64 }

/-- The frame repeats the remembered SEQ of its SRC (R230). -/
def Dev.repeats (d : Dev) (s : Nat) (f : Frame) : Bool := (d.sg s).seen.contains (f.src, f.seq)

/-- The route table learns from an accepted frame (R227). -/
def Dev.learn (d : Dev) (s src : Nat) : Dev :=
  (d.putRing { d.ring with routes := ((src, s) :: d.ring.routes.filter fun (r : Nat × Nat) => r.1 != src).take 64 })

/-- The frame is accepted: remembered, learnt from and acknowledged (R227, R228, R230). -/
def Dev.acceptFrame (d : Dev) (s : Nat) (f : Frame) : Dev := ((d.remember s f.src f.seq).learn s f.src).ack s f

/-- The frame is to be forwarded on the other segment (R226): not a HELLO or PING, not for this unit, not its own, and a broadcast TELEM only
from WEST. -/
def Dev.forwards (d : Dev) (s : Nat) (f : Frame) : Bool :=
  decide (3 < f.typ) && f.dst != d.addr && !(f.src == d.addr && d.addr != 0) && !(f.typ == 4 && f.dst == 0xFFF && s == 0)

/-- The forwarding queue of the other segment is full (R226). -/
def Dev.queueFull (d : Dev) (s : Nat) : Bool := decide (8 ≤ (d.sg (otherSeg s)).queue.length)

/-- The frame joins the forwarding queue of the other segment; an accepted frame for a segment that is not UP goes no further (R226, R227). -/
def Dev.forwardFrame (d : Dev) (s : Nat) (f : Frame) : Dev :=
  let o := otherSeg s
  if d.lstate o == 2 then (d.modSeg o fun g => { g with queue := g.queue ++ [f] }).segStart o else d

/-- The frame reaches this unit: its own address, a broadcast TELEM, or a HELLO or PING of the segment (R226). -/
def Dev.delivered (d : Dev) (f : Frame) : Bool :=
  decide (f.typ ≤ 3) || (f.dst == d.addr && !(f.src == d.addr && d.addr != 0)) || (f.typ == 4 && f.dst == 0xFFF && f.src != d.addr)

/-- The frame has crossed the whole ring and is dropped: its SRC is this unit's own address, and it does not concern the segment alone (R226). -/
def Dev.crossedRing (d : Dev) (f : Frame) : Bool := decide (3 < f.typ) && f.src == d.addr && d.addr != 0

/-- Something is heard on segment `s`: in pass-through the power die repeats it (R22, R234); a unit whose engines run finds the line busy, and `act` is
what it does (R219). -/
def Dev.heard (d : Dev) (s : Nat) (f : Option Frame) (bytes : List Byte) (act : Dev → Dev) : Dev :=
  if d.running then act (d.modSeg s fun g => { g with idle := false }) else d.passOn s f bytes

/-- A frame with a good CRC arrives on segment `s` (R226 to R230): NAK 02h for a wrong payload length, NAK 01h where it needs forwarding and
the queue is full, an ACK alone for a repeated SEQ; otherwise it is accepted, `act` is what this unit does with it, and it is forwarded. -/
def Dev.receive (d : Dev) (s : Nat) (f : Frame) (lenOk : Bool) (act : Dev → Dev) : Dev :=
  d.heard s (some f) f.bytes fun d =>
    if !d.listens s then d
    else if !lenOk then d.nak s f 2
    else if d.repeats s f then d.ack s f
    else if d.forwards s f && d.queueFull s then d.nak s f 1
    else
      let fwd := d.forwards s f
      let d := d.acceptFrame s f
      if d.crossedRing f then d else act (if fwd then d.forwardFrame s f else d)

/-! ### HELLO, PING, ACK, NAK (R228 to R232) -/

/-- R232, R225: a HELLO is accepted. -/
def helloRx (d : Dev) (s : Nat) (f : RxFrame) : Dev :=
  d.receive s (rxFrame f 0) (f.data.length == 8) fun d =>
    let d := if f.src == d.addr && d.addr != 0 then (d.set F.RING_ADDR_DUP 1).raise 4 16 else d
    if d.lstate s == 1 then
      let d := (d.set (F.SEG_STAT_NEIGH s) f.src).modSeg s fun g => { g with helloHeard := true }
      if (d.sg s).helloAcked then d.linkUp s f.src else d
    else if d.f (F.SEG_STAT_NEIGH s) != f.src then (d.linkLossEffects s).linkUp s f.src
    else d

/-- RING_HELLO_RX (R232). -/
def execRingHelloRx (sg : Fin 2) (f : RxFrame) (s : State) : Host.Outcome State Fault Refusal := done s (helloRx s.dev sg f)

/-- R228: a PING is accepted and acknowledged. -/
def pingRx (d : Dev) (s : Nat) (f : RxFrame) : Dev := d.receive s (rxFrame f 1) (f.data.length == 0) fun d => d

/-- RING_PING_RX (R228). -/
def execRingPingRx (sg : Fin 2) (f : RxFrame) (s : State) : Host.Outcome State Fault Refusal := done s (pingRx s.dev sg f)

/-- The outstanding frame of segment `s` is answered by an ACK or NAK with this DST and SEQ (R228). -/
def Dev.answered (d : Dev) (s dst seq : Nat) : Option Outgoing :=
  match (d.sg s).out with
  | some o => if o.sent && o.frame.src == dst && o.frame.seq == seq then some o else none
  | none => none

/-- An ACK or NAK of `n` payload bytes is heard (R223, R228): one of another length is answered NAK 02h; one that answers the outstanding frame is taken,
and `act` is what it does. -/
def Dev.takeAnswer (d : Dev) (s : Nat) (f : Frame) (n : Nat) (act : Outgoing → Dev → Dev) : Dev :=
  d.heard s (some f) f.bytes fun d =>
    if !d.listens s then d
    else if f.data.length != n then d.nak s f 2
    else match d.answered s f.dst f.seq with
      | none => d
      | some o => act o d

/-- R228: an ACK that matches releases the outstanding frame; an acknowledged HELLO may bring the link UP (R232). -/
def ackRx (d : Dev) (s : Nat) (f : RxFrame) : Dev :=
  d.takeAnswer s (rxFrame f 2) 0 fun o d =>
    let d := d.modSeg s fun g => { g with out := none }
    if o.frame.typ == 0 && d.lstate s == 1 then
      let d := d.modSeg s fun g => { g with helloAcked := true }
      if (d.sg s).helloHeard then d.linkUp s (d.f (F.SEG_STAT_NEIGH s)) else d
    else d

/-- RING_ACK_RX (R228). -/
def execRingAckRx (sg : Fin 2) (f : RxFrame) (s : State) : Host.Outcome State Fault Refusal := done s (ackRx s.dev sg f)

/-- R229: a NAK that matches: 01h sends again after 100 µs, the eighth counts as a failed attempt; 02h and 03h discard the frame and raise EVB4
source 17. -/
def nakRx (d : Dev) (s : Nat) (f : RxFrame) : Dev :=
  d.takeAnswer s (rxFrame f 3) 1 fun o d =>
    let reason := beAt f.data 0 1
    if reason == 1 then
      if 7 ≤ o.busy then d.attemptFailed s
      else d.modSeg s fun g => { g with out := some { o with busy := o.busy + 1, waitBusy := true, sent := false } }
    else if reason == 2 || reason == 3 then (d.modSeg s fun g => { g with out := none }).raise 4 17
    else d

/-- RING_NAK_RX (R229). -/
def execRingNakRx (sg : Fin 2) (f : RxFrame) (s : State) : Host.Outcome State Fault Refusal := done s (nakRx s.dev sg f)

/-- R229: neither ACK nor NAK has started within 20 µs. -/
def ackTimeout (d : Dev) (s : Nat) : Dev :=
  match (d.sg s).out with
  | some o => if d.running && o.sent then d.attemptFailed s else d
  | none => d

/-- RING_ACK_TIMEOUT (R229). -/
def execRingAckTimeout (sg : Fin 2) (s : State) : Host.Outcome State Fault Refusal := done s (ackTimeout s.dev sg)

/-- R229: 100 µs after a NAK 01h the frame is sent again. -/
def busyRetry (d : Dev) (s : Nat) : Dev :=
  match (d.sg s).out with
  | some o => if d.running && o.waitBusy then (d.modSeg s fun g => { g with out := some { o with waitBusy := false } }).segStart s else d
  | none => d

/-- RING_BUSY_RETRY (R229). -/
def execRingBusyRetry (sg : Fin 2) (s : State) : Host.Outcome State Fault Refusal := done s (busyRetry s.dev sg)

/-- R231: the readback differs: the unit stops driving, counts the collision and backs off; the sixteenth is a failed attempt. -/
def collision (d : Dev) (s : Nat) : Dev := if d.running then d.collide s else d

/-- RING_COLLISION (R231). -/
def execRingCollision (sg : Fin 2) (s : State) : Host.Outcome State Fault Refusal := done s (collision s.dev sg)

/-- R231: the back-off has ended; the frame is sent again if the line is idle, and otherwise defers. -/
def backoffEnd (d : Dev) (s : Nat) (idle : Bool) : Dev :=
  if d.running && (d.sg s).aside.any (fun o => o.backoff.isSome) then
    (d.modSeg s fun g => { g with aside := g.aside.map fun o => { o with backoff := none }, idle := idle }).segStart s
  else match (d.sg s).out with
  | some o =>
    if d.running && o.backoff.isSome then (d.modSeg s fun g => { g with out := some { o with backoff := none }, idle := idle }).segStart s else d
  | none => d

/-- RING_BACKOFF_END (R231). -/
def execRingBackoffEnd (sg : Fin 2) (idle : Bool) (s : State) : Host.Outcome State Fault Refusal := done s (backoffEnd s.dev sg idle)

/-- R219: the line has been idle for 2 µs, or the hold has ended: what waits starts. -/
def lineIdle (d : Dev) (s : Nat) : Dev :=
  if d.running then (d.modSeg s fun g => { g with idle := true, aside := g.aside.filter fun o => !o.sent }).segStart s else d

/-- RING_LINE_IDLE (R219). -/
def execRingLineIdle (sg : Fin 2) (s : State) : Host.Outcome State Fault Refusal := done s (lineIdle s.dev sg)

/-- R221: what was received after a SYNC, `bytes` from DST to CRC, is dropped and counted if it holds a code violation, its LEN is above 64 or its CRC
fails. -/
def frameDrop (d : Dev) (s : Nat) (bytes : List Byte) (violation : Bool) : Dev :=
  d.heard s none (beBytes 2 0x2DD4 ++ bytes) fun d => if violation || !frameGood bytes then d.incSat (F.SEG_CNT_CRC_ERR s) else d

/-- RING_FRAME_DROP (R221). -/
def execRingFrameDrop (sg : Fin 2) (bytes : List Byte) (violation : Bool) (s : State) : Host.Outcome State Fault Refusal :=
  done s (frameDrop s.dev sg bytes violation)

/-- R222: a frame whose type is not listed is answered with NAK reason 03h. -/
def unknownType (d : Dev) (s : Nat) (f : RxFrame) (typ : Nat) : Dev :=
  let fr := rxFrame f typ
  d.heard s (some fr) fr.bytes fun d => if d.listens s && !listedTypes.contains typ then d.nak s fr 3 else d

/-- RING_UNKNOWN_TYPE_RX (R222). -/
def execRingUnknownTypeRx (sg : Fin 2) (f : RxFrame) (typ : BitVec 6) (s : State) : Host.Outcome State Fault Refusal :=
  done s (unknownType s.dev sg f typ.toNat)

/-! ### Link timers and commands (R227, R232) -/

/-- The payload of a HELLO: ROLES, FREE_CTX, VMAX (R223). -/
def Dev.helloData (d : Dev) (s : Nat) : List Byte :=
  let r := (d.maySource (s + 3)).toNat + 2 * (d.maySink (s + 3)).toNat
  beBytes 1 r ++ beBytes 2 (d.flowCap - d.f F.FLOW_STAT_IN_USE) ++ beBytes 2 (if d.maySource (s + 3) then d.f (F.SEG_POLICY_VOFFER s) else 0) ++ beBytes 3 0

/-- R232: in HELLO a HELLO is sent. -/
def helloTimer (d : Dev) (s : Nat) : Dev :=
  if d.running && d.lstate s == 1 && !d.hasOwn s 0 then d.sendNeigh s 0 (d.helloData s) else d

/-- RING_HELLO_TIMER (R232). -/
def execRingHelloTimer (sg : Fin 2) (s : State) : Host.Outcome State Fault Refusal := done s (helloTimer s.dev sg)

/-- R232: 100 ms after LOST the segment enters HELLO. -/
def lostHoldEnd (d : Dev) (s : Nat) : Dev := if d.running && d.lstate s == 3 then d.enterHello s else d

/-- RING_LOST_HOLD_END (R232). -/
def execRingLostHoldEnd (sg : Fin 2) (s : State) : Host.Outcome State Fault Refusal := done s (lostHoldEnd s.dev sg)

/-- R232: in UP a PING is sent. -/
def pingTimer (d : Dev) (s : Nat) : Dev := if d.running && d.lstate s == 2 && !d.hasOwn s 1 then d.sendNeigh s 1 [] else d

/-- RING_PING_TIMER (R232). -/
def execRingPingTimer (sg : Fin 2) (s : State) : Host.Outcome State Fault Refusal := done s (pingTimer s.dev sg)

/-- R227: an entry 10 s unused is forgotten. -/
def routeExpiry (d : Dev) (a : Nat) : Dev :=
  if d.running then (d.putRing { d.ring with routes := d.ring.routes.filter fun (r : Nat × Nat) => r.1 != a }) else d

/-- ROUTE_ENTRY_EXPIRY (R227). -/
def execRouteEntryExpiry (a : BitVec 12) (s : State) : Host.Outcome State Fault Refusal := done s (routeExpiry s.dev a.toNat)

/-- R232: RING_CTL.RELINK_E or RELINK_W puts the segment into HELLO. -/
def relink (d : Dev) (s : Nat) : Dev := if d.running then d.enterHello s else d

/-- RING_RELINK (R232). -/
def execRingRelink (sg : Fin 2) (s : State) : Host.Outcome State Fault Refusal := done s (relink s.dev sg)

/-- R239: RING_CTL.HARDCLOSE_E or HARDCLOSE_W drops the segment's contract with reason 0Bh. -/
def hardcloseCmd (d : Dev) (s : Nat) : Dev :=
  if d.running && d.cstate s != 0 then (d.sendHardclose s 11).dropContract s 11 false else d

/-- RING_HARDCLOSE_CMD (R239). -/
def execRingHardcloseCmd (sg : Fin 2) (s : State) : Host.Outcome State Fault Refusal := done s (hardcloseCmd s.dev sg)

/-! ### TELEM and the frame clock (R226, R252) -/

/-- A frame-clock instant (R252): with SOURCE 03h it is a forward step of the time base, after the logic clocks that have passed since the last (R273). -/
def Dev.frameInstant (d : Dev) : Dev :=
  let d := (d.putRing { d.ring with clockAt := some d.pw.clock })
  if d.ptbOn && d.f F.PTB_MAP_SOURCE == 3 then d.ptbStep false d.ptb.since else d

/-- R226, R252: a TELEM is delivered or forwarded; one from another unit that CLK_SRC names marks a frame-clock instant. The named unit counts those that
it sends (R273). -/
def telemRx (d : Dev) (s : Nat) (f : RxFrame) : Dev :=
  let clk := d.f F.RING_CFG_CLK_SRC
  let d := if d.running && clk != 0 && f.src == clk && clk != d.addr then d.frameInstant else d
  d.receive s (rxFrame f 4) (within 16 64 f.data.length) fun d => d

/-- RING_TELEM_RX (R226). -/
def execRingTelemRx (sg : Fin 2) (f : RxFrame) (s : State) : Host.Outcome State Fault Refusal := done s (telemRx s.dev sg f)

/-- An energy of 0.1 Wh steps in the 1 J steps of a payload: 0.1 Wh is 360 J. What two bytes show of one above 65 535 J is not stated: a free value
(R223, assumption 75). -/
def energyField (v free : Nat) : Nat := if 360 * v < 65536 then 360 * v else free % 65536

/-- `n` free bytes. -/
def Dev.freeBytes (d : Dev) (n : Nat) : List Byte × Dev :=
  (List.range n).foldl (fun r _ => (BitVec.ofNat 8 (r.2.fresh).1 :: r.1, (r.2.fresh).2)) ([], d)

/-- The payload of a TELEM (R223): 16 bytes of the hardware, then up to 48 of the firmware while the supervisor runs. The spec gives FLAGS no bits, and what
the firmware says is its own: free values (assumption 75). -/
def Dev.telemData (d : Dev) : List Byte × Dev :=
  let a := d.fresh
  let b := a.2.fresh
  let c := b.2.fresh
  let n := c.2.fresh
  let w := n.2.freeBytes (if d.supervisor then n.1 % 49 else 0)
  (beBytes 2 (d.f F.SYS_MEAS_V_SYS) ++ beBytes 2 (d.f F.SYS_MEAS_I_SYS) ++ beBytes 1 (d.f F.PATH_STAT_STATE) ++ beBytes 1 (d.f F.CHG_PHASE_PHASE) ++
    beBytes 2 (energyField (d.f F.CHG_ENERGY_E_AVAIL) a.1) ++ beBytes 2 (energyField (d.f F.CHG_ENERGY_E_RES) b.1) ++ beBytes 2 (d.f F.THERM_MAX_TEMP) ++
    beBytes 2 (c.1 % 65536) ++ beBytes 2 0 ++ w.1, w.2)

/-- The unit named in CLK_SRC sends TELEM at PRIO 3 every 1 ms, broadcast on EAST, and counts its own SYNC (R227, R252, R273). -/
def Dev.sendClock (d : Dev) : Dev :=
  if d.running && d.addr != 0 && d.f F.RING_CFG_CLK_SRC == d.addr && d.lstate 0 == 2 && !d.hasOwn 0 4 then
    (d.telemData.2.originate 0 4 0xFFF 3 d.telemData.1).frameInstant
  else d

/-- R252: no frame-clock instant for 10 ms raises EVB4 source 19. -/
def clockAbsent (d : Dev) : Dev := if d.running then d.raise 4 19 else d

/-- FRAME_CLOCK_ABSENT (R252). -/
def execFrameClockAbsent (s : State) : Host.Outcome State Fault Refusal := done s (clockAbsent s.dev)

/-! ### Contracts (R235 to R239) -/

/-- The points of an OFFER payload. -/
def offerPoints (l : List Byte) : List (Nat × Nat) :=
  (List.range (beAt l 0 1)).map fun k => (beAt l (1 + 4 * k) 2, beAt l (3 + 4 * k) 2)

/-- The unit makes no contract: address 000h, or DUP (R225). -/
def Dev.noContracts (d : Dev) : Bool := d.addr == 0 || d.on F.RING_ADDR_DUP

/-- The index of the highest offered point inside the port's qualification window (R237). -/
def Dev.bestPoint (d : Dev) (p : Nat) (pts : List (Nat × Nat)) : Option (Nat × Nat × Nat) :=
  (pts.zipIdx).foldl (fun b x =>
    let ok := decide (d.f (F.PORT_QUAL_QUAL_VMIN (p - 1)) ≤ x.1.1) && decide (x.1.1 < d.f (F.PORT_QUAL_QUAL_VMAX (p - 1)))
    match b with
    | none => if ok then some (x.2, x.1) else none
    | some y => if ok && decide (y.2.1 < x.1.1) then some (x.2, x.1) else b) none

/-- The sink's supervisor sends a REQUEST to `dst` for the highest offered point in its window, with the lower of the offered current and PORTp_ILIM.IN
(R236, R237). -/
def Dev.sendRequest (d : Dev) (s dst : Nat) : Dev :=
  match d.bestPoint (s + 3) (d.sg s).offer with
  | some (k, v, i) =>
    if d.supervisor then
      let i := min i (d.f (F.PORT_ILIM_IN (s + 2)))
      (d.sendRouted 9 dst 0 (beBytes 1 k ++ beBytes 1 0 ++ beBytes 2 i)).modSeg s fun g => { g with asked := some (v, i), waitUntil := none }
    else d
  | none => d

/-- The milliseconds of a WAIT have passed: the sink asks again (R236). -/
def Dev.askAgain (d : Dev) (s : Nat) : Dev :=
  match (d.sg s).waitUntil with
  | some t => if d.pw.clock < t || (d.sg s).offerOwn || d.noContracts then d else d.sendRequest s (d.f (F.SEG_STAT_NEIGH s))
  | none => d

/-- R236, R237: an OFFER is received, and the sink's supervisor may ask for one of its points. -/
def offerRx (d : Dev) (s : Nat) (f : RxFrame) : Dev :=
  let n := beAt f.data 0 1
  d.receive s (rxFrame f 8) (within 1 4 n && f.data.length == 1 + 4 * n) fun d =>
    let p := s + 3
    let pts := offerPoints f.data
    if !d.delivered (rxFrame f 8) then d
    else if d.noContracts then (if d.supervisor then d.reply 0x0B f.src 8 f.seq 11 else d)
    else if !d.maySink p || (d.inForce s && d.crole s == 1) then (if d.supervisor then d.reply 0x0B f.src 8 f.seq 1 else d)
    else
      let d := d.modSeg s fun g => { g with offer := pts, offerOwn := false, offerSeq := f.seq, asked := none, waitUntil := none }
      (if d.cstate s == 0 then d.set (F.SEG_STAT_CSTATE s) 1 else d).sendRequest s f.src

/-- RING_OFFER_RX (R236). -/
def execRingOfferRx (sg : Fin 2) (f : RxFrame) (s : State) : Host.Outcome State Fault Refusal := done s (offerRx s.dev sg f)

/-- The FET of a port that carries energy out is closed by the contract engine, unless its guard holds it open (R173, R152). -/
def Dev.closeOut (d : Dev) (p : Nat) : Dev :=
  if d.on (F.GUARD_STAT_LATCHED (p - 1)) || (vget d.port (p - 1)).ocHeld then d else d.setFet p true

/-- The source accepts a point: FET closed, course in V_PORT to its voltage, READY to follow; over a contract in force, the lower limits hold
(R236 steps 2 and 3, R238). A discharge of the port ends at once (R264). -/
def Dev.acceptPoint (d : Dev) (s v i : Nat) : Dev :=
  let p := s + 3
  let d := d.endDischarge p
  let d := if d.inForce s then d.lowerContract s v i else d.closeOut p
  let d := d.modSeg s fun g => { g with pend := some (v, i), pendSource := true, offer := [], capped := false, waitUntil := none }
  match d.courseOf p with
  | some c => d.giveMode c 2 v 1
  | none => d

/-- R236, R235: a REQUEST is received; the source answers ACCEPT, REJECT or WAIT as its supervisor decides, within what the rules
refuse; one that crosses a HARDCLOSE of this unit is ignored (R265). -/
def requestRx (d : Dev) (s : Nat) (f : RxFrame) (ans : Decision) : Dev :=
  d.receive s (rxFrame f 9) (f.data.length == 4) fun d =>
    let g := d.sg s
    let k := beAt f.data 0 1
    let i := beAt f.data 2 2
    if !d.delivered (rxFrame f 9) || !d.supervisor || d.hasOwn s 14 then d
    else if d.noContracts then d.reply 0x0B f.src 9 f.seq 11
    else if !d.maySource (s + 3) then d.reply 0x0B f.src 9 f.seq 1
    else if !g.offerOwn || g.offer.isEmpty then d.reply 0x0B f.src 9 f.seq 11
    else match g.offer[k]? with
      | none => d.reply 0x0B f.src 9 f.seq 2
      | some (v, imax) =>
        if imax < i then d.reply 0x0B f.src 9 f.seq 2
        else match ans with
          | .accept => (d.reply 0x0A f.src 9 f.seq 0).acceptPoint s v i
          | .reject r =>
            let d := (d.reply 0x0B f.src 9 f.seq r).modSeg s fun g => { g with offer := [], capped := false }
            if d.cstate s == 1 then d.set (F.SEG_STAT_CSTATE s) 0 else d
          | .wait ms => (d.reply 0x0C f.src 9 f.seq ms).modSeg s fun g => { g with capped := false, waitUntil := some (d.pw.clock + 1000 * ms) }

/-- RING_REQUEST_RX (R236). -/
def execRingRequestRx (sg : Fin 2) (f : RxFrame) (ans : Decision) (s : State) : Host.Outcome State Fault Refusal :=
  done s (requestRx s.dev sg f ans)

/-- The RESERVED context of the flow that an ACCEPT names enters OPEN (R244). -/
def Dev.openFlow (d : Dev) (consumer id : Nat) : Dev :=
  match d.findFlow consumer id with
  | some (i, x) => if x.state == 1 then ((d.setFlow i { x with state := 2, residue := 0, age := 0 }).raise 4 10).flowModes else d
  | none => d

/-- R236, R238, R244: an ACCEPT is received: a sink's point waits for READY, or a unit on a flow's path marks its context OPEN. A halted unit makes no new
contract (R265). -/
def acceptRx (d : Dev) (s : Nat) (f : RxFrame) : Dev :=
  d.receive s (rxFrame f 10) (f.data.length == 4) fun d =>
    let ref := beAt f.data 0 1
    if ref == 0x18 then d.openFlow f.dst (beAt f.data 2 2)
    else if ref == 9 && d.delivered (rxFrame f 10) && !d.noContracts && d.supervisor then
      match (d.sg s).asked with
      | some (v, i) =>
        let d := d.modSeg s fun g => { g with asked := none, pend := some (v, i), pendSource := false, offer := [] }
        if d.inForce s then d.lowerContract s v i else d
      | none => d
    else d

/-- RING_ACCEPT_RX (R236). -/
def execRingAcceptRx (sg : Fin 2) (f : RxFrame) (s : State) : Host.Outcome State Fault Refusal := done s (acceptRx s.dev sg f)

/-- The RESERVED context whose FLOW_OPEN had this SEQ and consumer is freed (R244). -/
def Dev.freeReserved (d : Dev) (consumer seq : Nat) : Dev :=
  match d.ring.flows.find? (fun x => x.2.consumer == consumer && x.2.seq == seq && x.2.state == 1) with
  | some x => d.freeCtx x.1
  | none => d

/-- R244, R241, R236: a REJECT is received: it frees reserved flow contexts along the path, withdraws a swap, or ends a negotiation. -/
def rejectRx (d : Dev) (s : Nat) (f : RxFrame) : Dev :=
  d.receive s (rxFrame f 11) (f.data.length == 4) fun d =>
    let ref := beAt f.data 0 1
    if ref == 0x18 then d.freeReserved f.dst (beAt f.data 1 1)
    else if !d.delivered (rxFrame f 11) then d
    else if ref == 0x10 then d.modSeg s fun g => { g with swapOut := g.swapOut.filter fun o => o.seq != beAt f.data 1 1 }
    else if ref == 9 || ref == 8 then
      let d := d.modSeg s fun g => { g with asked := none, offer := [], capped := false, waitUntil := none }
      if d.cstate s == 1 && (d.sg s).pend.isNone then d.set (F.SEG_STAT_CSTATE s) 0 else d
    else d

/-- RING_REJECT_RX (R244). -/
def execRingRejectRx (sg : Fin 2) (f : RxFrame) (s : State) : Host.Outcome State Fault Refusal := done s (rejectRx s.dev sg f)

/-- R236: a WAIT is received: the sink may ask again after ARG milliseconds. -/
def waitRx (d : Dev) (s : Nat) (f : RxFrame) : Dev :=
  d.receive s (rxFrame f 12) (f.data.length == 4) fun d =>
    if d.delivered (rxFrame f 12) && beAt f.data 0 1 == 9 && (d.sg s).asked.isSome then
      d.modSeg s fun g => { g with asked := none, waitUntil := some (d.pw.clock + 1000 * beAt f.data 2 2) }
    else d

/-- RING_WAIT_RX (R236). -/
def execRingWaitRx (sg : Fin 2) (f : RxFrame) (s : State) : Host.Outcome State Fault Refusal := done s (waitRx s.dev sg f)

/-- The contract that waited for READY comes into force; a completed swap raises EVB4 source 8 (R235, R236, R242). -/
def Dev.ready (d : Dev) (s v i : Nat) (source : Bool) : Dev :=
  let swap := d.cstate s == 4
  let d := d.contractInForce s v i source
  if swap then d.raise 4 8 else d

/-- R236, R242: a READY is received: the contract it states is in force at the sink. -/
def readyRx (d : Dev) (s : Nat) (f : RxFrame) : Dev :=
  d.receive s (rxFrame f 13) (f.data.length == 4) fun d =>
    if d.delivered (rxFrame f 13) && (d.sg s).pend.isSome && !(d.sg s).pendSource && !d.noContracts then
      d.ready s (beAt f.data 0 2) (beAt f.data 2 2) false
    else d

/-- RING_READY_RX (R236). -/
def execRingReadyRx (sg : Fin 2) (f : RxFrame) (s : State) : Host.Outcome State Fault Refusal := done s (readyRx s.dev sg f)

/-- R239: a HARDCLOSE is accepted: the contract on the segment is dropped. -/
def hardcloseRx (d : Dev) (s : Nat) (f : RxFrame) : Dev :=
  d.receive s (rxFrame f 14) (f.data.length == 1) fun d =>
    if d.delivered (rxFrame f 14) then d.dropContract s (beAt f.data 0 1) false else d

/-- RING_HARDCLOSE_RX (R239). -/
def execRingHardcloseRx (sg : Fin 2) (f : RxFrame) (s : State) : Host.Outcome State Fault Refusal := done s (hardcloseRx s.dev sg f)

/-- The policy condition of R237 holds on segment `s`. -/
def Dev.policyHolds (d : Dev) (s : Nat) : Bool :=
  let m := d.f (F.SEG_POLICY_MODE s)
  let st := d.f F.PATH_STAT_STATE
  d.lstate s == 2 && d.maySource (s + 3) && (st == 1 && within 1 2 m || st == 3 && m == 2)

/-- This unit offers on segment `s`, or is the source of its contract (R237). -/
def Dev.offering (d : Dev) (s : Nat) : Bool :=
  ((d.sg s).offerOwn && !(d.sg s).offer.isEmpty) || (d.sg s).pendSource || d.crole s == 1

/-- Points are withdrawn with HARDCLOSE 0Bh (R237). -/
def Dev.withdraw (d : Dev) (s : Nat) : Dev := if d.offering s then (d.sendHardclose s 11).dropContract s 11 false else d

/-- This unit sends SWAP_REQ, while a contract is in force and none of its requests is outstanding (R241). -/
def Dev.sendSwapReq (d : Dev) (s : Nat) (a : SwapAsk) : Dev :=
  if d.lstate s == 2 && d.cstate s == 2 && (d.sg s).swapOut.isNone && !d.noContracts then
    let seq := d.ring.seq
    (d.sendNeigh s 0x10 (beBytes 2 a.v ++ beBytes 2 a.i ++ beBytes 1 a.force.toNat)).modSeg s fun g =>
      { g with swapOut := some { v := a.v, i := a.i, force := a.force, seq := seq } }
  else d

/-- This unit asks for a flow as the consumer, over the segment that the route table names for the provider, with a FLOW_ID of its own that no context has
(R227, R243, R244). -/
def Dev.askFlow (d : Dev) (a : FlowAsk) : Dev :=
  let s := d.route a.provider
  if !d.mayOpen s a.rateMax || (d.findFlow d.addr a.flowId).isSome || d.addr == 0 then d
  else match d.freeFlow with
    | none => d
    | some i => d.openOn i s { consumer := d.addr, provider := a.provider, flowId := a.flowId, rate := a.rate, rateMax := a.rateMax
                               allow := a.allow, reroute := a.reroute }

/-- R237: the supervisor offers VOFFER and PORTp_OLIM.OUT while its condition holds, and withdraws with HARDCLOSE 0Bh when it ends. -/
def Dev.followPolicy (d : Dev) (s : Nat) : Dev :=
  if d.policyHolds s then
    (if d.cstate s == 0 && (d.sg s).offer.isEmpty then d.sendOffer s [(d.f (F.SEG_POLICY_VOFFER s), d.f (F.PORT_OLIM_OUT (s + 2)))] false else d)
  else d.withdraw s

/-- The policy of segment `s` acts in the core: as SEGs_POLICY says (R237), or as a customer task says, which may also change a contract by a new offer (R238),
ask for a role swap (R241) or for a flow (R244). -/
def policyOffer (d : Dev) (s : Nat) (act : PolicyAct) : Dev :=
  if !d.supervisor then d
  else match act with
    | .follow => d.followPolicy s
    | .offer pts => if d.lstate s == 2 && d.maySource (s + 3) && d.crole s != 2 && d.cstate s != 4 then d.sendOffer s pts false else d
    | .withdraw => d.withdraw s
    | .swap a => d.sendSwapReq s a
    | .openFlow a => d.askFlow a

/-- POLICY_OFFER (R237). -/
def execPolicyOffer (sg : Fin 2) (act : PolicyAct) (s : State) : Host.Outcome State Fault Refusal := done s (policyOffer s.dev sg act)

/-- R236 step 4: the port has been within ±2 % of the new voltage for 1 ms at `v`: the source sends READY, and the contract is in force. -/
def readySend (d : Dev) (s v : Nat) : Dev :=
  match (d.sg s).pend with
  | some (cv, ci) =>
    if d.running && !d.noContracts && (d.sg s).pendSource && decide (50 * v ≤ 51 * cv) && decide (49 * cv ≤ 50 * v) then
      (d.sendNeigh s 13 (beBytes 2 cv ++ beBytes 2 ci)).ready s cv ci true
    else d
  | none => d

/-- CONTRACT_READY_SEND (R236). -/
def execContractReadySend (sg : Fin 2) (v : Nat) (s : State) : Host.Outcome State Fault Refusal := done s (readySend s.dev sg v)

/-- R236: no REQUEST within 100 ms of an OFFER: the offer lapses. -/
def offerLapse (d : Dev) (s : Nat) : Dev :=
  let g := d.sg s
  if !d.running || g.offer.isEmpty || g.asked.isSome || g.capped || g.waitUntil.isSome then d
  else
    let d := d.modSeg s fun g => { g with offer := [], offerOwn := false }
    if d.cstate s == 1 && g.pend.isNone then d.set (F.SEG_STAT_CSTATE s) 0 else d

/-- OFFER_LAPSE (R236). -/
def execOfferLapse (sg : Fin 2) (s : State) : Host.Outcome State Fault Refusal := done s (offerLapse s.dev sg)

/-- R236 step 5, R242 step 4: no READY in time: HARDCLOSE with reason 0Fh. -/
def readyTimeout (d : Dev) (s : Nat) : Dev :=
  let g := d.sg s
  if d.running && g.pend.isSome && (g.pendSource || d.cstate s == 4) then (d.sendHardclose s 15).dropContract s 15 false else d

/-- READY_TIMEOUT (R236). -/
def execReadyTimeout (sg : Fin 2) (s : State) : Host.Outcome State Fault Refusal := done s (readyTimeout s.dev sg)

/-- R238: the capped OFFER got no REQUEST within 100 ms: HARDCLOSE with reason 02h. -/
def reofferTimeout (d : Dev) (s : Nat) : Dev :=
  if d.running && (d.sg s).capped then (d.sendHardclose s 2).dropContract s 2 false else d

/-- REOFFER_TIMEOUT (R238). -/
def execReofferTimeout (sg : Fin 2) (s : State) : Host.Outcome State Fault Refusal := done s (reofferTimeout s.dev sg)

/-! ### Role swap (R241, R242) -/

/-- Some OPEN flow crosses segment `s`. -/
def Dev.flowsCross (d : Dev) (s : Nat) : Bool :=
  d.ring.flows.any fun x => x.2.state == 2 && (x.2.inp == s + 1 || x.2.outp == s + 1)

/-- R242 steps 1 and 2: the roles are exchanged with the V and I of the SWAP_REQ; the old source's course stops with its FET closed; the old
sink's port is lost as a source, and its course starts in V_PORT. -/
def Dev.beginSwap (d : Dev) (s v i : Nat) (force : Bool) : Dev :=
  let p := s + 3
  let source := d.crole s == 2
  let d := if force then d.endFlowsOn s 14 false else d
  let d := (d.clearNego s).set (F.PORT_STAT_CONTRACT (p - 1)) 0
  let d := ((d.set (F.SEG_STAT_CROLE s) (if source then 1 else 2)).set (F.SEG_CONTRACT_V s) v).set (F.SEG_CONTRACT_I s) i
  let d := (d.set (F.SEG_STAT_CSTATE s) 4).modSeg s fun g => { g with pend := some (v, i), pendSource := source }
  if source then
    let d := (d.loseSource p 0).closeOut p
    match d.courseOf p with
    | some c => d.giveMode c 2 v 1
    | none => d
  else match d.courseOf p with
    | some c => d.hardStop c false
    | none => d

/-- R241: a SWAP_REQ is received, refused or acknowledged; `ok` is what the supervisor decides. Crossing requests are resolved by address in hardware; one
that crosses a HARDCLOSE of this unit is ignored (R265). -/
def swapReqRx (d : Dev) (s : Nat) (f : RxFrame) (ok : Bool) : Dev :=
  d.receive s (rxFrame f 16) (f.data.length == 5) fun d =>
    let v := beAt f.data 0 2
    let i := beAt f.data 2 2
    let force := (beAt f.data 4 1).testBit 0
    let cs := d.cstate s
    let rej (r : Nat) : Dev := d.reply 0x0B f.src 16 f.seq r
    let ack : Dev := d.sendRouted 17 f.src 0 (beBytes 1 f.seq)
    let crossing := (d.sg s).swapOut.isSome
    if !d.delivered (rxFrame f 16) || d.hasOwn s 14 then d
    else if cs == 3 || cs == 4 then rej 15
    else if cs != 2 then (if d.supervisor then rej 11 else d)
    else if !(if d.crole s == 1 then d.maySink (s + 3) else d.maySource (s + 3)) then (if d.supervisor || crossing then rej 1 else d)
    else if d.flowsCross s && !force then (if d.supervisor || crossing then rej 6 else d)
    else if crossing then
      (if d.addr < f.src then rej 5
       else ((ack.set (F.SEG_STAT_SWAP_LOST s) 1).raise 4 9).beginSwap s v i force)
    else if !d.supervisor then d
    else if ok then ack.beginSwap s v i force
    else rej 11

/-- RING_SWAP_REQ_RX (R241). -/
def execRingSwapReqRx (sg : Fin 2) (f : RxFrame) (ok : Bool) (s : State) : Host.Outcome State Fault Refusal := done s (swapReqRx s.dev sg f ok)

/-- R241, R242: a SWAP_ACK that answers this unit's outstanding request: the swap proceeds. -/
def swapAckRx (d : Dev) (s : Nat) (f : RxFrame) : Dev :=
  d.receive s (rxFrame f 17) (f.data.length == 1) fun d =>
    match (d.sg s).swapOut with
    | some o => if d.delivered (rxFrame f 17) && d.cstate s == 2 && beAt f.data 0 1 == o.seq then d.beginSwap s o.v o.i o.force else d
    | none => d

/-- RING_SWAP_ACK_RX (R242). -/
def execRingSwapAckRx (sg : Fin 2) (f : RxFrame) (s : State) : Host.Outcome State Fault Refusal := done s (swapAckRx s.dev sg f)

/-- R241: an outstanding SWAP_REQ without an answer for 500 ms lapses. -/
def swapTimeout (d : Dev) (s : Nat) : Dev := if d.running then d.modSeg s fun g => { g with swapOut := none } else d

/-- SWAP_REQ_TIMEOUT (R241). -/
def execSwapReqTimeout (sg : Fin 2) (s : State) : Host.Outcome State Fault Refusal := done s (swapTimeout s.dev sg)

/-! ### Flows (R243 to R248) -/

/-- The sum of the RATE_MAX values of the flows that enter through segment `s`, W (R244). -/
def Dev.rateSum (d : Dev) (s : Nat) : Nat :=
  d.ring.flows.foldl (fun a x => if x.2.state != 0 && x.2.inp == s + 1 then a + x.2.rateMax else a) 0

/-- The reason a FLOW_OPEN cannot be admitted here, 0 if it can (R244, R245): a free context, contracts on the path, room at a relay, the reserve
floor at the provider, which C1 feeds or has given up feeding there (R198). -/
def Dev.openRefusal (d : Dev) (s rateMax : Nat) (provider : Bool) : Nat :=
  let o := otherSeg s
  if d.freeFlow.isNone then 3
  else if !(d.inForce s && d.crole s == 1) then 4
  else if !provider && !(d.inForce o && d.crole o == 2) then 4
  else if !provider && decide (d.contractPower o < (d.rateSum o + rateMax) * 10000) then 2
  else if provider && (d.f F.PATH_STAT_STATE == 3 || d.f F.PATH_STAT_STATE == 5) && d.on F.CHG_RESV_E_AT_FLOOR && !d.on F.CHG_RESV_E_RELEASED then 7
  else 0

/-- A FLOW_OPEN is refused: REJECT towards the consumer; a lack of contexts counts and raises EVB4 source 12 (R244, R245). -/
def Dev.refuseOpen (d : Dev) (f : RxFrame) (reason : Nat) : Dev :=
  let d := if reason == 3 then (d.incSat F.FLOW_STAT_REFUSED).raise 4 12 else d
  d.reply 0x0B f.src 0x18 f.seq reason

/-- R244, R245: a FLOW_OPEN arrives from the consumer's side: admitted in hardware at a relay, answered by the provider's supervisor. -/
def flowOpenRx (d : Dev) (s : Nat) (f : RxFrame) (ans : FlowAnswer) : Dev :=
  let fr := rxFrame f 0x18
  let o := otherSeg s
  let rmax := beAt f.data 6 2
  let mk (role : Nat) (st : Nat) (inp : Nat) : FlowCtx :=
    { role := role, state := st, consumer := f.src, provider := f.dst, flowId := beAt f.data 0 2, rate := beAt f.data 4 2, rateMax := rmax
      allow := beAt f.data 8 4, inp := inp, outp := s + 1, reroute := (beAt f.data 2 2).testBit 15, seq := f.seq }
  d.heard s (some fr) fr.bytes fun d =>
    if !d.listens s then d
    else if f.data.length != 12 then d.nak s fr 2
    else if d.repeats s fr then d.ack s fr
    else if d.forwards s fr && d.queueFull s then d.nak s fr 1
    else
      let d := d.acceptFrame s fr
      if f.src == d.addr && d.addr != 0 then d
      else
        let prov := f.dst == d.addr
        let r := d.openRefusal s rmax prov
        if prov && !d.supervisor then d
        else if r != 0 then d.refuseOpen f r
        else match d.freeFlow with
          | none => d
          | some i =>
            if prov then
              match ans with
              | .accept => (((d.setFlow i (mk 0 2 0)).reply 0x0A f.src 0x18 f.seq (beAt f.data 0 2)).raise 4 10).flowModes
              | .reject q => d.refuseOpen f q
            else (d.setFlow i (mk 1 1 (o + 1))).forwardFrame s fr

/-- RING_FLOW_OPEN_RX (R244). -/
def execRingFlowOpenRx (sg : Fin 2) (f : RxFrame) (ans : FlowAnswer) (s : State) : Host.Outcome State Fault Refusal :=
  done s (flowOpenRx s.dev sg f ans)

/-- R246: a FLOW_UPDATE is adopted by each unit on the path; a RATE above RATE_MAX is answered REJECT 02h and not adopted. -/
def flowUpdateRx (d : Dev) (s : Nat) (f : RxFrame) : Dev :=
  let rate := beAt f.data 4 2
  d.receive s (rxFrame f 0x19) (f.data.length == 10) fun d =>
    match d.findFlow f.src (beAt f.data 0 2) with
    | some (i, x) =>
      if x.rateMax < rate then d.reply 0x0B f.src 0x19 f.seq 2
      else if x.state == 2 then
        (d.setFlow i { x with rate := rate, allow := beAt f.data 6 4, fseq := beAt f.data 2 1, age := 0, residue := 0 }).flowModes
      else d
    | none => if d.delivered (rxFrame f 0x19) then d.reply 0x0B f.src 0x19 f.seq 8 else d

/-- RING_FLOW_UPDATE_RX (R246). -/
def execRingFlowUpdateRx (sg : Fin 2) (f : RxFrame) (s : State) : Host.Outcome State Fault Refusal := done s (flowUpdateRx s.dev sg f)

/-- R246, R248: a FLOW_CLOSE frees the context it names and is forwarded; a consumer may reroute. -/
def flowCloseRx (d : Dev) (s : Nat) (f : RxFrame) : Dev :=
  d.receive s (rxFrame f 0x1A) (f.data.length == 5) fun d =>
    match d.findFlow (beAt f.data 2 2 % 4096) (beAt f.data 0 2) with
    | some (i, x) =>
      let d := d.freeCtx i
      (if x.state == 2 then d.reroute i x (beAt f.data 4 1) else d).flowModes
    | none => d

/-- RING_FLOW_CLOSE_RX (R246). -/
def execRingFlowCloseRx (sg : Fin 2) (f : RxFrame) (s : State) : Host.Outcome State Fault Refusal := done s (flowCloseRx s.dev sg f)

/-- One context over 1 ms (R246): its residue takes RATE mJ, each whole joule lowers ALLOW, and its AGE grows. A consumer sends FLOW_UPDATE at
100 ms while the core runs. -/
def Dev.tickFlow (d : Dev) (i : Nat) : Dev :=
  let x := d.flow i
  if x.state != 2 then d
  else
    let res := x.residue + x.rate
    let x := { x with residue := res % 1000, allow := x.allow - res / 1000, age := min 65535 (x.age + 1) }
    let d := d.setFlow i x
    if x.allow == 0 then d.endFlow i 12 none
    else if 10 * d.f F.RING_CFG_FLOW_AGE < x.age then (d.raise 4 13).endFlow i 13 none
    else if x.role == 2 && decide (100 ≤ x.age) && d.supervisor && x.inp != 0 then
      let y := { x with fseq := (x.fseq + 1) % 256, age := 0, residue := 0 }
      (d.setFlow i y).sendRouted 0x19 x.provider 0 (beBytes 2 y.flowId ++ beBytes 1 y.fseq ++ beBytes 1 0 ++ beBytes 2 y.rate ++ beBytes 4 y.allow)
    else d

/-- R246: 1 ms of flow accounting. -/
def flowTick (d : Dev) : Dev := if d.running then ((d.ring.flows.map (·.1)).foldl Dev.tickFlow d).flowModes else d

/-- FLOW_TICK (R246). -/
def execFlowTick (s : State) : Host.Outcome State Fault Refusal := done s (flowTick s.dev)

/-- R244: a context still RESERVED 200 ms after it was reserved is freed. -/
def reserveTimeout (d : Dev) (i : Nat) : Dev := if d.running && (d.flow i).state == 1 then d.freeCtx i else d

/-- FLOW_RESERVE_TIMEOUT (R244). -/
def execFlowReserveTimeout (i : BitVec 8) (s : State) : Host.Outcome State Fault Refusal := done s (reserveTimeout s.dev i.toNat)

/-! ### Emergency frames (R249 to R251) -/

/-- An EMERG is forwarded at once on segment `s`, whatever uses it (R250): a frame of this unit is ended as by a collision; a neighbour's is stopped by a code
violation, and what was heard of it is dropped and counted (R221). -/
def Dev.sendEmerg (d : Dev) (s : Nat) (f : Frame) (use : LineUse) : Dev :=
  if d.lstate s != 2 then d
  else
    let d := match use with
      | .free => d
      | .own => d.collide s
      | .neighbour => d.incSat (F.SEG_CNT_CRC_ERR s)
    if d.lstate s == 2 then (d.drive1 s f).onLine s { frame := f } else d

/-- An EMERG of this unit is sent on segment `s` as soon as the line is free for it (R219, R249). -/
def Dev.queueEmerg (d : Dev) (s : Nat) (f : Frame) : Dev :=
  if d.lstate s == 2 then (d.modSeg s fun g => { g with own := g.own ++ [f] }).segStart s else d

/-- The EMERG frame of a code and ESN that this unit originates. -/
def Dev.emergFrame (d : Dev) (code esn : Nat) : Frame :=
  { dst := 0xFFF, src := d.addr, typ := 0x3F, prio := 3, seq := d.ring.seq, data := beBytes 1 code ++ beBytes 1 esn ++ beBytes 2 0 }

/-- One transmission of an originated EMERG on both segments (R249). -/
def Dev.emitEmerg (d : Dev) (code esn : Nat) : Dev :=
  let f := d.emergFrame code esn
  let d := (d.putRing { d.ring with seq := (d.ring.seq + 1) % 256 })
  (d.queueEmerg 0 f).queueEmerg 1 f

/-- A code that EMERG_SEND sends: 01h, or 10h to FFh (R251). -/
def emergCode (c : Nat) : Bool := c == 1 || decide (16 ≤ c)

/-- R249, R251: RING_CTL.EMERG_SEND originates an EMERG with the next ESN, or sets SEND_REJ; while an EMERG of this unit has repeats to come, the bit still
reads 1 and a further 1 does nothing (R13). -/
def emergSend (d : Dev) : Dev :=
  let code := d.f F.RING_CTL_EMERG_CODE
  if !d.running || d.ring.emergOut.isSome then d
  else if !emergCode code || d.addr == 0 then d.set F.RING_EMERG_SEND_REJ 1
  else
    let esn := d.ring.esn
    ((d.putRing { d.ring with esn := (esn + 1) % 256, emergOut := some (code, esn, 2) })).emitEmerg code esn

/-- EMERG_SEND (R249). -/
def execEmergSend (s : State) : Host.Outcome State Fault Refusal := done s (emergSend s.dev)

/-- R249: 1 ms later the originator repeats its EMERG, three times in all. -/
def emergRepeat (d : Dev) : Dev :=
  match d.ring.emergOut with
  | some (code, esn, n) =>
    if !d.running || n == 0 then d
    else ((d.putRing { d.ring with emergOut := if n == 1 then none else some (code, esn, n - 1) })).emitEmerg code esn
  | none => d

/-- EMERG_REPEAT (R249). -/
def execEmergRepeat (s : State) : Host.Outcome State Fault Refusal := done s (emergRepeat s.dev)

/-- What an EMERG does here (R251): HOLD releases the reserve, EVB4 source 14; 10h to FFh raise source 15; other codes are ignored. -/
def Dev.actEmerg (d : Dev) (src esn code : Nat) : Dev :=
  if !emergCode code then d
  else
    let d := (((d.set F.RING_EMERG_RX 1).set F.RING_EMERG_SRC src).set F.RING_EMERG_ESN esn).set F.RING_EMERG_CODE code
    if code == 1 then (d.raise 4 14).releaseReserve else d.raise 4 15

/-- R249, R250: an EMERG arrives on segment `s`: forwarded cut-through on the other segment unless it is this unit's own or has been seen within
2 × BUDGET, and acted on once, at its first arrival with a good CRC. One of a wrong length is answered NAK 02h and not acted on (R223). -/
def emergRx (d : Dev) (s : Nat) (f : RxFrame) (crcOk : Bool) (use : LineUse) : Dev :=
  let code := beAt f.data 0 1
  let esn := beAt f.data 1 1
  let fr := rxFrame f 0x3F
  d.heard s (some fr) fr.bytes fun d =>
    if !d.listens s then d
    else if crcOk && f.data.length != 4 then d.nak s fr 2
    else
      let d := if crcOk then d.learn s f.src else d.incSat (F.SEG_CNT_CRC_ERR s)
      if f.src == d.addr && d.addr != 0 then d
      else
        let live := d.ring.emergSeen.filter fun x => decide (d.pw.clock < x.time + 2000 * d.f F.RING_CFG_BUDGET)
        let old := live.find? fun x => x.src == f.src && x.esn == esn
        let acted := match old with
          | some x => x.acted
          | none => false
        let d := if old.isNone then d.sendEmerg (otherSeg s) fr use else d
        let me : EmergSeen := { src := f.src, esn := esn, time := (old.map (·.time)).getD d.pw.clock, acted := acted || crcOk }
        let d := (d.putRing { d.ring with emergSeen := me :: live.filter fun x => !(x.src == f.src && x.esn == esn) })
        if crcOk && !acted then d.actEmerg f.src esn code else d

/-- RING_EMERG_RX (R249); `crcOk`: its CRC proved good; `use`: what used the other segment. -/
def execRingEmergRx (sg : Fin 2) (f : RxFrame) (crcOk : Bool) (use : LineUse) (s : State) : Host.Outcome State Fault Refusal :=
  done s (emergRx s.dev sg f crcOk use)

end Sys2Proof.Machine
end

