-- ==== Sys2Proof/Machine/ServicePort.lean ====
section
/-!
DEFINITION. The meanings of the service-port commands (R253 to R264): attach and detach, USB PD messages, swaps, VCONN, Hard Reset, and the
end of a port discharge.
-/
namespace Sys2Proof.Machine

/-! ### EPR mode exit and Hard Reset (R259, R260) -/

/-- EPR mode is exited: EVB4 source 26 (R259). -/
def Dev.leaveEpr (d : Dev) (own : Bool) : Dev :=
  if d.on F.PD_STAT_EPR then ((if own then d.sendPd .eprExit else d).set F.PD_STAT_EPR 0).raise 4 26 else d

/-- R260, R253: a Hard Reset is sent or received: counted, EVB4 source 27, contract and EPR mode over. As Source, C4 takes the device side to 0 V
and back to 5.00 V with the FET closed, and its sequence is over; as Sink, SERV is no source, and in compatibility mode is discharged (R264). -/
def hardReset (d : Dev) (own : Bool) : Dev :=
  if !d.running || !d.on F.PD_STAT_ATTACHED then d
  else
    let d := (d.incSat F.PD_CNT_HARD_RESETS).raise 4 27
    let d := (if own then d.sendPd .hardReset else d).cancelSeq
    let d := (d.leaveEpr false).modServ fun x => { x with tx := none, msgId := 0, keepUs := 0 }
    if d.pdSource then
      let d := ((d.dropPd true).set F.PD_STAT_PSTATE 6).set F.PD_STAT_SINKTX 1
      match d.servCourse with
      | some c => (d.giveMode c 2 0 1).modServ fun x => { x with falling := true }
      | none => d
    else
      let e := (d.dropPd false).set F.PD_STAT_PSTATE 6
      if d.fetOn 5 then e.startDischarge 5 else e

/-- PD_HARD_RESET (R260). -/
def execPdHardReset (own : Bool) (s : State) : Host.Outcome State Fault Refusal := done s (hardReset s.dev own)

/-! ### Attach and detach (R254, R255) -/

/-- C4 brings the device side to `v` with the FET open, in V_PORT (R255). -/
def Dev.startPrebias (d : Dev) (v : Nat) : Dev :=
  let d := (d.setFet 5 false).modServ fun x => { x with prebias := some v }
  match d.servCourse with
  | some c => (d.hardStop c false).giveModeOpen c 2 v 1
  | none => d

/-- The power role taken at an attach: by the image ROLE, or, for a dual-role port, the one presented, and with Try.SNK or Try.SRC the one that
the partner lets it take (R253). -/
def Dev.attachRole (d : Dev) (wish : Bool) : Bool :=
  if d.role 5 == 2 then true else if d.role 5 == 1 then false
  else if d.f F.PD_CFG_TRY == 0 then d.serv.rp else wish

/-- R254, R255: the CC levels have been attached for 150 ms on CC pin `cc`, with the connector at `v` (10 mV). At an
attach over a restart the device as Sink sends Hard Reset to restart the negotiation (R261). -/
def servAttach (d : Dev) (cc : Nat) (v : Nat) (wish : Bool) : Dev :=
  if !d.running || d.role 5 == 0 || d.servCourse.isNone || d.on F.PD_STAT_ATTACHED then d
  else
    let src := d.attachRole wish
    let again := d.serv.rejoin
    let d := d.endDischarge 5
    let d := ((d.set F.PD_STAT_ATTACHED 1).set F.PD_STAT_CC cc).set F.PD_STAT_PSTATE 1
    let d := ((d.setB F.PD_STAT_PROLE src).setB F.PD_STAT_DROLE src).setB F.PD_STAT_VCONN_ON (src && d.on F.PD_CFG_VCONN_EN)
    let d := (d.setB F.PD_STAT_SINKTX src).modServ fun x =>
      { x with vconnHeld := false, waiting := none, swapping := false, falling := false, msg := .none, tx := none, msgId := 0, keepUs := 0, goodCrcs := 0,
               discovered := false, rejoin := false }
    let d := (d.raise 4 20).startPrebias (if src then 500 else v)
    if again && !src then (hardReset d true).startPrebias v else d

/-- SERV_ATTACH (R254): the CC pin, the connector voltage, and the role that Try.SNK or Try.SRC leads to. -/
def execServAttach (cc2 : Bool) (v : Nat) (wish : Bool) (s : State) : Host.Outcome State Fault Refusal :=
  done s (servAttach s.dev (if cc2 then 2 else 1) v wish)

/-- R255: the device side has not reached its target within 100 ms: the attach is abandoned, and the port waits for a new one. -/
def prebiasTimeout (d : Dev) : Dev :=
  if !d.running || d.serv.prebias.isNone then d
  else
    let d := d.modServ fun x => { x with prebias := none, swapping := false }
    let d := match d.servCourse with
      | some c => d.hardStop c false
      | none => d
    let d := (d.setFet 5 false).set F.PD_STAT_PSTATE 0
    ((d.set F.PD_STAT_ATTACHED 0).set F.PD_STAT_CC 0).set F.PD_STAT_VCONN_ON 0

/-- SERV_PREBIAS_TIMEOUT (R255). -/
def execServPrebiasTimeout (s : State) : Host.Outcome State Fault Refusal := done s (prebiasTimeout s.dev)

/-- SERV_DETACH (R254). -/
def execServDetach (s : State) : Host.Outcome State Fault Refusal := done s (if s.dev.running then s.dev.servDetach else s.dev)

/-- R253: a dual-role port without a partner toggles between Source and Sink. -/
def drpToggle (d : Dev) : Dev :=
  if d.running && d.role 5 == 3 && !d.on F.PD_STAT_ATTACHED then d.modServ fun x => { x with rp := !x.rp } else d

/-- PD_DRP_TOGGLE (R253). -/
def execPdDrpToggle (s : State) : Host.Outcome State Fault Refusal := done s (drpToggle s.dev)

/-! ### Contracts (R256, R257) -/

/-- The supply a Sink asks for: the highest fixed one at most PD_SNK.VMAX, inside the SERV window, and at most 20 V outside EPR mode (R256). -/
def Dev.bestSupply (d : Dev) (caps : List (Nat × Nat)) : Option (Nat × Nat) :=
  caps.foldl (fun b x =>
    let ok := decide (x.1 ≤ d.f F.PD_SNK_VMAX) && decide (d.f (F.PORT_QUAL_QUAL_VMIN 4) ≤ x.1) && decide (x.1 < d.f (F.PORT_QUAL_QUAL_VMAX 4)) &&
      (d.on F.PD_STAT_EPR || decide (x.1 ≤ 2000))
    match b with
    | none => if ok then some x else none
    | some y => if ok && decide (y.1 < x.1) then some x else b) none

/-- A transition to (V, I) starts: the lower limits hold over a contract in force (R238, R257). -/
def Dev.startTransition (d : Dev) (v i : Nat) : Dev :=
  let d := if d.serv.inForce then
      (d.set F.PD_CONTRACT_V (min v (d.f F.PD_CONTRACT_V))).set F.PD_CONTRACT_I (min i (d.f F.PD_CONTRACT_I))
    else d
  (d.set F.PD_STAT_PSTATE 4).modServ fun x => { x with pend := some (v, i) }

/-- R256: as Sink the device receives source capabilities, (V, I) pairs of fixed supplies, and requests one with the lower of PD_SNK.I_OP and
PORT4_ILIM.IN; a halted core makes no contract (R265). -/
def sourceCapsRx (d : Dev) (caps : List (Nat × Nat)) : Dev :=
  if !d.running || !d.on F.PD_STAT_ATTACHED || d.pdSource then d
  else
    let d := d.heardPd
    if !d.supervisor then d
    else match d.bestSupply caps with
    | none => d
    | some (v, _) =>
      let i := min (d.f F.PD_SNK_I_OP) (d.f (F.PORT_ILIM_IN 4))
      (d.sendPd (.request v i)).startTransition v i

/-- PD_SOURCE_CAPS_RX (R256). -/
def execPdSourceCapsRx (caps : List (Nat × Nat)) (s : State) : Host.Outcome State Fault Refusal := done s (sourceCapsRx s.dev caps)

/-- R257: as Source the device receives a request for PD_PDOn at `i`: it moves C4 to the new voltage, or rejects; a halted
core makes no contract (R265). -/
def pdRequestRx (d : Dev) (n i : Nat) : Dev :=
  if !d.running || !d.on F.PD_STAT_ATTACHED || !d.pdSource || !d.fetOn 5 then d
  else
    let d := d.heardPd
    if !d.supervisor then d
    else match d.offeredPdo n with
    | none => (d.sendPd .reject).set F.PD_STAT_SINKTX 1
    | some (v, imax) =>
      if imax < i then (d.sendPd .reject).set F.PD_STAT_SINKTX 1
      else
        let d := ((d.sendPd .accept).startTransition v i).set F.PD_STAT_SINKTX 0
        match d.servCourse with
        | some c => d.giveMode c 2 v 1
        | none => d

/-- PD_REQUEST_RX (R257). -/
def execPdRequestRx (n : Fin 7) (i : Nat) (s : State) : Host.Outcome State Fault Refusal := done s (pdRequestRx s.dev n i)

/-- A PD contract comes into force: PD_CONTRACT, EVB4 source 22; a SINK contract qualifies SERV (R235, R257). -/
def Dev.pdInForce (d : Dev) (v i : Nat) (source : Bool) : Dev :=
  let was := d.serv.inForce
  let d := ((d.set F.PD_CONTRACT_V v).set F.PD_CONTRACT_I i).set F.PD_STAT_PSTATE 3
  let d := (d.modServ fun x => { x with pend := none, inForce := true, swapping := false }).setB (F.PORT_STAT_CONTRACT 4) (!source)
  let d := d.raise 4 22
  if !source && !was then d.restartDebounce 5 else d

/-- R257: the device side has been within ±5 % of the new voltage for 1 ms at `v`: the Source sends PS_RDY, and its Rp reads SinkTxOK again
unless a further sequence of its own waits (R258). -/
def psRdySend (d : Dev) (v : Nat) : Dev :=
  match d.serv.pend with
  | some (cv, ci) =>
    if d.running && d.pdSource && d.f F.PD_STAT_PSTATE == 4 && decide (20 * v ≤ 21 * cv) && decide (19 * cv ≤ 20 * v) then
      ((d.sendPd .psRdy).setB F.PD_STAT_SINKTX d.serv.waiting.isNone).pdInForce cv ci true
    else d
  | none => d

/-- PD_PS_RDY_SEND (R257). -/
def execPdPsRdySend (v : Nat) (s : State) : Host.Outcome State Fault Refusal := done s (psRdySend s.dev v)

/-- R235: as Sink the device receives PS_RDY, and the contract is in force. -/
def psRdyRx (d : Dev) : Dev :=
  match d.serv.pend with
  | some (cv, ci) => if d.running && !d.pdSource && d.f F.PD_STAT_PSTATE == 4 then d.heardPd.pdInForce cv ci false else d
  | none => d

/-- PD_PS_RDY_RX (R235). -/
def execPdPsRdyRx (s : State) : Host.Outcome State Fault Refusal := done s (psRdyRx s.dev)

/-- R253, R256: an e-marker answers Discover Identity on SOP' while the device is the VCONN Source; the message is the cable's, so it shows nothing of what the
partner has received. -/
def cableFound (d : Dev) (vMax iMax : Nat) (eprOk : Bool) : Dev :=
  if !d.running || !d.on F.PD_STAT_ATTACHED || !d.on F.PD_STAT_VCONN_ON then d
  else
    let d := ((d.cancelOwn.goodCrc.set F.PD_CABLE_VALID 1).set F.PD_CABLE_V_MAX vMax).set F.PD_CABLE_I_MAX iMax
    (d.setB F.PD_CABLE_EPR_OK eprOk).raise 4 28

/-- CABLE_IDENTITY_DISCOVERED (R256). -/
def execCableIdentityDiscovered (vMax : Fin 4) (iMax : Fin 3) (eprOk : Bool) (s : State) : Host.Outcome State Fault Refusal :=
  done s (cableFound s.dev vMax iMax eprOk)

/-! ### EPR mode and swaps (R256, R258, R259) -/

/-- EPR mode entry is admitted: EPR_EN, and a cable of 5 A, 50 V and EPR capability (R256). -/
def Dev.eprAdmitted (d : Dev) : Bool :=
  d.on F.PD_CFG_EPR_EN && d.on F.PD_CABLE_VALID && d.f F.PD_CABLE_I_MAX == 2 && d.f F.PD_CABLE_V_MAX == 3 && d.on F.PD_CABLE_EPR_OK

/-- EPR mode is entered (R256): EVB4 source 26, and a Source then offers its EPR supplies. A Sink that has to discover the cable first makes itself VCONN
Source. -/
def Dev.enterEpr (d : Dev) (own : Bool) : Dev :=
  if d.eprAdmitted then
    if d.on F.PD_STAT_EPR then d
    else
      let d := (((if own then d.sendPd .eprEnter else d.sendPd .accept).set F.PD_STAT_EPR 1).raise 4 26).modServ fun x => { x with keepUs := 0 }
      d.offerCaps
  else if own && !d.pdSource && !d.on F.PD_CABLE_VALID && d.on F.PD_CFG_VCONN_EN && d.on F.PD_CFG_EPR_EN && !d.serv.vconnHeld then
    ((d.sendPd .vconnSwap).set F.PD_STAT_VCONN_ON 1).modServ fun x => { x with discovered := false }
  else if own then d
  else d.sendPd .reject

/-- A PR_Swap is permitted: PR_SWAP_EN and image ROLE 03h; one received as Sink not while SERV is the lead, unless C1 is hot or another source
is qualified (R259). -/
def Dev.prSwapOk (d : Dev) (own : Bool) : Bool :=
  d.on F.PD_CFG_PR_SWAP_EN && d.role 5 == 3 &&
  (own || d.pdSource || d.f F.PATH_STAT_LEAD != 5 || d.hot || d.order.any fun p => p != 5 && d.qualified p)

/-- The roles are swapped (R255, R259): a former Sink loses SERV as a source and brings the device side to 5.00 V with the FET open; a former
Source stops, its contract is over, and the swap is complete: EVB4 source 24; its device side is discharged in compatibility mode (R264). -/
def Dev.doPrSwap (d : Dev) : Dev :=
  if d.pdSource then
    let d := (d.dropPd false).set F.PD_STAT_PROLE 0
    ((d.set F.PD_STAT_PSTATE 2).raise 4 24).startDischarge 5
  else
    let d := (d.dropPd false).set F.PD_STAT_PROLE 1
    ((d.set F.PD_STAT_PSTATE 5).modServ fun x => { x with swapping := true }).startPrebias 500

/-- A PR_Swap sent or received (R259). EPR mode is exited before one of the device's own; one received in EPR mode is rejected. -/
def Dev.prSwap (d : Dev) (own partner : Bool) : Dev :=
  if own then
    if !d.prSwapOk true then d
    else
      let d := (d.leaveEpr true).sendPd .prSwap
      if partner then d.doPrSwap else d
  else if d.on F.PD_STAT_EPR || !d.prSwapOk false then d.sendPd .reject
  else (d.sendPd .accept).doPrSwap

/-- A DR_Swap sent or received with DR_SWAP_EN: the data role turns, EVB4 source 25 (R259). -/
def Dev.drSwap (d : Dev) (own partner : Bool) : Dev :=
  if !d.on F.PD_CFG_DR_SWAP_EN then (if own then d else d.sendPd .reject)
  else
    let d := d.sendPd (if own then .drSwap else .accept)
    if partner || !own then (d.setB F.PD_STAT_DROLE (!d.on F.PD_STAT_DROLE)).raise 4 25 else d

/-- A VCONN_Swap sent or received with VCONN_EN: the device becomes, or ceases to be, the VCONN Source (R259); after an over-current VCONN stays
off (R260). -/
def Dev.vconnSwap (d : Dev) (own partner : Bool) : Dev :=
  if !d.on F.PD_CFG_VCONN_EN then (if own then d else d.sendPd .reject)
  else
    let d := d.sendPd (if own then .vconnSwap else .accept)
    if partner || !own then
      (d.setB F.PD_STAT_VCONN_ON (!d.on F.PD_STAT_VCONN_ON && !d.serv.vconnHeld)).modServ fun x => { x with discovered := false }
    else d

/-- The device's own sequence `q` runs; `partner` is whether the partner accepts it. -/
def Dev.runSeq (d : Dev) (q : PdSeq) (partner : Bool) : Dev :=
  match q with
  | .eprEntry => d.enterEpr true
  | .eprExit => d.leaveEpr true
  | .prSwap => d.prSwap true partner
  | .drSwap => d.drSwap true partner
  | .vconnSwap => d.vconnSwap true partner
  | .caps => d.sendCaps

/-- The device begins a sequence of its own (R258): as Source it sets SinkTxNG and waits the time the standard prescribes; as Sink it starts at once
while Rp reads SinkTxOK, and otherwise waits. -/
def Dev.ownSeq (d : Dev) (q : PdSeq) (partner : Bool) : Dev :=
  if d.pdSource then d.sourceWaits q partner
  else if d.on F.PD_STAT_SINKTX then d.runSeq q partner
  else d.waitSeq q partner 0

/-- The partner's sequence is handled; EPR mode is exited whatever the core does, and all else needs the supervisor (R256, R259, R265). -/
def Dev.partnerSeq (d : Dev) (q : PdSeq) : Dev :=
  match q with
  | .eprExit => d.leaveEpr false
  | .eprEntry => if d.supervisor then d.enterEpr false else d
  | .prSwap => if d.supervisor then d.prSwap false true else d
  | .drSwap => if d.supervisor then d.drSwap false true else d
  | .vconnSwap => if d.supervisor then d.vconnSwap false true else d
  | .caps => d

/-- As Source the time after SinkTxNG has passed: the sequence runs, if the core that began it is not halted (R265), and Rp returns to SinkTxOK at its end
(R258): an offer's end comes with PS_RDY or Reject. -/
def Dev.sourceSeq (d : Dev) : Dev :=
  match d.serv.waiting with
  | some w =>
    if d.pdSource && d.supervisor && d.serv.pend.isNone && decide (w.due ≤ d.pw.clock) then
      let d := (d.modServ fun x => { x with waiting := none }).runSeq w.seq w.partner
      d.onlyIf (d.serv.waiting.isNone && w.seq != .caps) fun d => d.set F.PD_STAT_SINKTX 1
    else d
  | none => d

/-- A sequence of the device's own begins, if its core runs; one of the partner's is handled, and cancels one of the device's own that
waits (R258, R265). -/
def pdSequence (d : Dev) (q : PdSeq) (own partner : Bool) : Dev :=
  if !d.running || !d.on F.PD_STAT_ATTACHED || d.serv.prebias.isSome then d
  else if own then (if d.supervisor then d.ownSeq q partner else d)
  else
    d.heardPd.partnerSeq q

/-- PD_EPR_ENTRY (R256); `own`: requested by the device. -/
def execPdEprEntry (own : Bool) (s : State) : Host.Outcome State Fault Refusal := done s (pdSequence s.dev .eprEntry own true)

/-- PD_EPR_EXIT (R259); `own`: begun by the device. -/
def execPdEprExit (own : Bool) (s : State) : Host.Outcome State Fault Refusal := done s (pdSequence s.dev .eprExit own true)

/-- PD_PR_SWAP (R259); `own`: sent by the device; `partner`: the partner accepts. -/
def execPdPrSwap (own partner : Bool) (s : State) : Host.Outcome State Fault Refusal := done s (pdSequence s.dev .prSwap own partner)

/-- PD_DR_SWAP (R259). -/
def execPdDrSwap (own partner : Bool) (s : State) : Host.Outcome State Fault Refusal := done s (pdSequence s.dev .drSwap own partner)

/-- PD_VCONN_SWAP (R259). -/
def execPdVconnSwap (own partner : Bool) (s : State) : Host.Outcome State Fault Refusal := done s (pdSequence s.dev .vconnSwap own partner)

/-- R258: Rp changes between SinkTxOK and SinkTxNG; SinkTxOK releases a sequence that waits, unless the core is halted
(R265). -/
def sinkTx (d : Dev) (ok : Bool) : Dev :=
  if !d.running || !d.on F.PD_STAT_ATTACHED then d
  else
    let d := d.setB F.PD_STAT_SINKTX ok
    match d.serv.waiting with
    | some w => if ok && !d.pdSource && d.supervisor then (d.modServ fun x => { x with waiting := none }).runSeq w.seq w.partner else d
    | none => d

/-- SINKTX_CHANGE (R258). -/
def execSinktxChange (ok : Bool) (s : State) : Host.Outcome State Fault Refusal := done s (sinkTx s.dev ok)

/-- R253: a message the device does not support is answered Not_Supported. -/
def notSupported (d : Dev) : Dev := if d.running && d.on F.PD_STAT_ATTACHED then d.heardPd.sendPd .notSupported else d

/-- PD_FR_SWAP_RX (R253). -/
def execPdFrSwapRx (s : State) : Host.Outcome State Fault Refusal := done s (notSupported s.dev)

/-- R253: a structured VDM other than cable discovery. -/
def unsupportedVdm (d : Dev) : Dev := notSupported d

/-- PD_UNSUPPORTED_VDM_RX (R253). -/
def execPdUnsupportedVdmRx (s : State) : Host.Outcome State Fault Refusal := done s (unsupportedVdm s.dev)

/-! ### Hard Reset, VCONN, discharge (R260, R264) -/

/-- R260: VCONN has been above 200 mA for 10 µs: it turns off until the next attach. -/
def vconnOver (d : Dev) : Dev :=
  if d.running && d.on F.PD_STAT_VCONN_ON then
    (((d.set F.PD_STAT_VCONN_ON 0).set F.PD_STAT_VCONN_OC 1).modServ fun x => { x with vconnHeld := true }).raise 4 29
  else d

/-- VCONN_OVERCURRENT (R260). -/
def execVconnOvercurrent (s : State) : Host.Outcome State Fault Refusal := done s (vconnOver s.dev)

/-! ### Messages and time (R253) -/

/-- No GoodCRC for the last message within CRCReceiveTimer: it is sent again with the same MessageID; after all retries RETRY_FAIL counts and Soft Reset is
sent, and after those of a Soft Reset Hard Reset (R253, assumption 73). -/
def Dev.noGoodCrc (d : Dev) (x : PdTx) : Dev :=
  if x.retries < Config.pdRetries then d.modServ fun y => { y with tx := some { sentAt := d.pw.clock, retries := x.retries + 1 } }
  else
    let d := (d.incSat F.PD_CNT_RETRY_FAIL).modServ fun y => { y with tx := none }
    if d.serv.msg = .softReset then hardReset d true
    else ((d.incSat F.PD_CNT_SOFT_RESETS).modServ fun y => { y with msgId := 0 }).sendPd .softReset

/-- CRCReceiveTimer: whether the GoodCRC of the last message has come is the partner's to say, a free value (R253, assumption 73). -/
def Dev.goodCrcTick (d : Dev) : Dev :=
  match d.serv.tx with
  | none => d
  | some x =>
    if d.pw.clock < x.sentAt + Config.crcReceiveUs then d
    else if (d.fresh).1 % 2 == 0 then (d.fresh).2.modServ Serv.acknowledged
    else (d.fresh).2.noGoodCrc x

/-- In EPR mode, whatever the core does (R253, R265): the Sink sends EPR_KeepAlive at its period, once Rp reads SinkTxOK (R258); the Source answers one of the
partner's, whose coming is the partner's to say, a free value (assumption 73). -/
def Dev.keepAliveTick (d : Dev) : Dev :=
  if !d.on F.PD_STAT_EPR then d
  else if d.pdSource then
    let x := d.fresh
    if x.1 % 2 = 0 then x.2 else x.2.heardPd.sendPd .eprKeepAliveAck
  else if d.serv.keepUs + 1 < Config.keepAliveUs then d.modServ fun x => { x with keepUs := x.keepUs + 1 }
  else if !d.on F.PD_STAT_SINKTX then d
  else (d.modServ fun x => { x with keepUs := 0 }).sendPd .eprKeepAlive

/-- As VCONN Source the supervisor discovers the cable: Discover Identity on SOP', once; it concerns the cable's plug, so no GoodCRC of the partner is awaited
(R253, R256, assumption 73). -/
def Dev.discoverTick (d : Dev) : Dev :=
  if d.supervisor && d.on F.PD_STAT_VCONN_ON && !d.on F.PD_CABLE_VALID && !d.serv.discovered && d.serv.tx.isNone && d.serv.waiting.isNone then
    d.modServ fun x => { x with msg := .discoverIdentity, discovered := true }
  else d

/-- What the service port does in a microsecond of its own. -/
def Dev.servTick (d : Dev) : Dev := if d.on F.PD_STAT_ATTACHED then d.goodCrcTick.keepAliveTick.sourceSeq.discoverTick else d

/-- PORT_DISCHARGE_END (R264): the discharge of port `p` has reached its end voltage, or 500 ms. -/
def execPortDischargeEnd (p : Fin 5) (s : State) : Host.Outcome State Fault Refusal :=
  done s (if s.dev.running then s.dev.endDischarge (p + 1) else s.dev)

end Sys2Proof.Machine
end

