-- ==== Sys2Proof/Machine/ThermalOps.lean ====
section
/-!
DEFINITION. Temperature (R319 to R339): readings, levels, broken sensors, zones, the throttle step and the zone shutdown.
-/
namespace Sys2Proof.Machine

/-! ### The conversion of an NTC (R320) -/

/-- The mantissa of a fixed-point number brought into 1 to 2 (64 fractional bits), with its exponent. -/
def normalise : Nat → Nat → Int → Nat × Int
  | 0, x, e => (x, e)
  | n + 1, x, e => if 2 ^ 65 ≤ x then normalise n (x / 2) (e + 1) else if x < 2 ^ 64 then normalise n (2 * x) (e - 1) else (x, e)

/-- Binary digits of the base-2 logarithm of a mantissa from 1 to 2, by repeated squaring. -/
def logDigits : Nat → Nat → Nat → Nat
  | 0, _, acc => acc
  | n + 1, x, acc =>
    let y := x * x / 2 ^ 64
    if 2 ^ 65 ≤ y then logDigits n (y / 2) (2 * acc + 1) else logDigits n y (2 * acc)

/-- The natural logarithm of `a / b`, in units of 2⁻⁶⁴, to 40 binary digits. -/
def lnRatio (a b : Nat) : Int :=
  let x := normalise 64 (a * 2 ^ 64 / b) 0
  (x.2 * 2 ^ 40 + (logDigits 40 x.1 0 : Nat)) * 12786308645202655660 / 2 ^ 40

/-- The temperature in 0.1 °C, rounded to nearest, of an NTC at `ball` microvolts: 1/T = 1/298.15 K + ln(R / R25) / B, with
R = pull-up × ball / (1.2 V − ball) (R320). None where the formula gives no temperature that the field holds. -/
def ntcTemp (pull r25 b ball : Nat) : Option Int :=
  if 1200000 ≤ ball || ball == 0 || r25 == 0 then none
  else
    let l := lnRatio (pull * ball) ((1200000 - ball) * r25)
    let den : Int := 20 * (b : Int) * 2 ^ 64 + 5963 * l
    if den ≤ 0 then none
    else
      let t := 59630 * (b : Int) * 2 ^ 64 / den - 2731
      if t ≤ 32766 then some t else none

/-- The reading of sensor `n` in 0.1 °C; a free value where R320 gives none. -/
def Dev.reading (d : Dev) (n : Nat) (r : SensorReading) : Int × Dev :=
  if n < 4 then (r.temp, d)
  else
    match ntcTemp (if d.on (F.TS_NTC_PULLUP n) then 100000 else 10000) (10 * d.f (F.TS_NTC_R25 n)) (d.f (F.TS_NTC_B n)) r.ball with
    | some t => (t, d)
    | none => let x := d.fresh; (ofTwos 16 (x.1 % 65536), x.2)

/-! ### Sensors (R319 to R324, R331) -/

/-- The state with the hidden part of sensor `n` changed. -/
def Dev.modSensor (d : Dev) (n : Nat) (g : Sensor → Sensor) : Dev := (d.putSensor (vset d.sensor n (g (vget d.sensor n))))

/-- Sensor `n` is a primary sensor of zone `z`. -/
def Dev.primary (d : Dev) (z n : Nat) : Bool := d.f (F.TS_MAP_ZONE n) == z && d.f (F.TS_MAP_SPARE_FOR n) == 0xFF

/-- The sensor of the battery: TS4 to TS11 as NTC_SEL names it (R48). -/
def Dev.batterySensor (d : Dev) : Nat := 4 + d.f F.CHG_CFG_NTC_SEL

/-- Sensor `n` is that of the battery; with CHEM 00h NTC_SEL has no effect (R49). -/
def Dev.isBattery (d : Dev) (n : Nat) : Bool := d.f F.CHG_CFG_CHEM != 0 && n == d.batterySensor

/-- Sensor `n` is measured (R322). -/
def Dev.sensed (d : Dev) (n : Nat) : Bool :=
  decide (n < 4) || d.f (F.TS_MAP_ZONE n) != 0xFF || d.f (F.TS_MAP_SPARE_FOR n) != 0xFF || d.isBattery n

/-- The other diode of a pair. -/
def pairOf (n : Nat) : Nat := if n % 2 == 0 then n + 1 else n - 1

/-- A diode reading lies from −55 °C to 200 °C. -/
def inRange (t : Int) : Bool := decide (-550 ≤ t) && decide (t ≤ 2000)

/-- The broken cause that sensor `n` meets in a round with readings `rs`, or 0 (R324). Where the lower
reading of a pair is out of range, that is cause 4 (R339). -/
def causeMet (rs : Vector SensorReading 12) (n : Nat) : Nat :=
  let r := vget rs n
  if n < 4 then
    let o := vget rs (pairOf n)
    if !inRange r.temp then 4
    else if r.temp + 80 < o.temp then 3
    else 0
  else if 1180000 < r.ball then 1
  else if r.ball < 20000 then 2
  else 0

/-- The condition of the cause of broken sensor `n` is absent in a round; for cause 3 at a difference of at most 6.0 °C (R324). -/
def Dev.causeGone (d : Dev) (rs : Vector SensorReading 12) (n : Nat) : Bool :=
  if d.f (F.TS_VAL_CAUSE n) == 3 then
    decide ((vget rs n).temp - (vget rs (pairOf n)).temp ≤ 60) && decide ((vget rs (pairOf n)).temp - (vget rs n).temp ≤ 60)
  else causeMet rs n != d.f (F.TS_VAL_CAUSE n)

/-- Threshold `k` of sensor `n` (0 WARN, 1 THROTTLE, 2 SHUTDOWN) and its hysteresis, in 0.1 °C. -/
def Dev.threshold (d : Dev) (n k : Nat) : Int × Int :=
  let x := if k == 0 then (F.TS_TH_WARN n, F.TS_HYST_H_WARN n) else if k == 1 then (F.TS_TH_THROTTLE n, F.TS_HYST_H_THR n)
           else (F.TS_TH_SHUTDOWN n, F.TS_HYST_H_SD n)
  (10 * (d.f x.1 : Int), 10 * (d.f x.2 : Int))

/-- The level whose band contains temperature `t` (R323). -/
def Dev.bandOf (d : Dev) (n : Nat) (t : Int) : Nat := ((List.range 3).filter fun k => decide ((d.threshold n k).1 ≤ t)).length

/-- The level of sensor `n` at temperature `t`, from level `was` with the hysteresis of R11 (R323). -/
def Dev.levelAt (d : Dev) (n : Nat) (t : Int) (was : Nat) : Nat :=
  (List.range was).foldl (fun a k => if (d.threshold n k).1 - (d.threshold n k).2 ≤ t then max a (k + 1) else a) (d.bandOf n t)

/-- One sensor in a round: the condition is counted, and a usable reading gives TEMP, VALID and LEVEL (R321 to R324). -/
def Dev.senseOne (d : Dev) (rs : Vector SensorReading 12) (n : Nat) : Dev :=
  if !d.sensed n then d.set (F.TS_VAL_VALID n) 0
  else
    let c := causeMet rs n
    let broken := d.on (F.TS_VAL_BROKEN n)
    let gone := d.causeGone rs n
    let d := d.modSensor n fun x => { x with
      cause := c, rounds := if c == 0 then 0 else if c == x.cause then x.rounds + 1 else 1, absent := if broken && gone then x.absent + 1 else 0 }
    if broken || c == 1 || c == 2 || c == 4 then d.set (F.TS_VAL_VALID n) 0
    else
      let r := d.reading n (vget rs n)
      let d := r.2
      let lv := if (vget d.sensor n).fresh then d.bandOf n r.1 else d.levelAt n r.1 (d.f (F.TS_VAL_LEVEL n))
      (((d.setI (F.TS_VAL_TEMP n) r.1).set (F.TS_VAL_VALID n) 1).set (F.TS_VAL_LEVEL n) lv).modSensor n fun x => { x with fresh := false }

/-! ### Zones (R325 to R335) -/

/-- The primary sensors of zone `z`. -/
def Dev.primaries (d : Dev) (z : Nat) : List Nat := (List.range 12).filter (d.primary z)

/-- The members of zone `z`: its primary sensors that are not broken, and the spares that stand in for one of them (R325). -/
def Dev.members (d : Dev) (z : Nat) : List Nat :=
  (List.range 12).filter fun n => (d.primary z n && !d.on (F.TS_VAL_BROKEN n)) ||
    (d.on (F.TS_STAT_STANDIN_V n) && d.primary z (d.f (F.TS_STAT_SERVES n)))

/-- The primary sensors of zone `z` that are broken without a stand-in and not exempt (R330, R332, R333). -/
def Dev.unserved (d : Dev) (z : Nat) : List Nat :=
  (d.primaries z).filter fun n => d.on (F.TS_VAL_BROKEN n) && !d.on (F.TS_STAT_SERVED n) && !d.on (F.TS_STAT_EXEMPT n)

/-- The highest reading among the valid ones of `ns` and the sensor that gave it; among equals a free choice (R325). -/
def Dev.hottest (d : Dev) (ns : List Nat) : (Nat × Nat) × Dev :=
  let vs := ns.filter fun n => d.on (F.TS_VAL_VALID n)
  match vs with
  | [] => ((0x7FFF, 0xF), d)
  | n :: rest =>
    let m := rest.foldl (fun a k => max a (d.fI (F.TS_VAL_TEMP k))) (d.fI (F.TS_VAL_TEMP n))
    let at_ := vs.filter fun k => d.fI (F.TS_VAL_TEMP k) == m
    if at_.length == 1 then ((toTwos 16 m, at_.headD 0xF), d)
    else let x := d.fresh; ((toTwos 16 m, at_.getD (x.1 % at_.length) 0xF), x.2)

/-- The throttle step of zone `z` becomes `v`: EVB3 source 17 below 16, 18 at 16, 28 at the floor; the steps are retained (R326, R329). -/
def Dev.setStep (d : Dev) (z v : Nat) : Dev :=
  let was := d.f (F.ZONE_STAT_STEP z)
  if v == was then d
  else
    let d := d.set (F.ZONE_STAT_STEP z) v
    let d := if was == 16 then d.raise 3 17 else d
    let d := if v == 16 then d.raise 3 18 else d
    let d := if v == d.f (F.ZONE_CFG_FLOOR z) then d.raise 3 28 else d
    d.keepSteps

/-- The battery sensor is exempt while its cause is 1 and its zone keeps a member (R333). -/
def Dev.judgeExempt (d : Dev) (z : Nat) : Dev :=
  let n := d.batterySensor
  if d.isBattery n && d.primary z n then
    d.setB (F.TS_STAT_EXEMPT n) (d.on (F.TS_VAL_BROKEN n) && d.f (F.TS_VAL_CAUSE n) == 1 && !(d.members z).isEmpty)
  else d

/-- The report of zone `z`: MAX, MAX_TS and LEVEL; entering WARN or above from NORMAL raises EVB3 source 16 (R325). -/
def Dev.zoneReport (d : Dev) (z : Nat) : Dev :=
  let ms := d.members z
  let h := d.hottest ms
  let d := (h.2.set (F.ZONE_STAT_MAX z) h.1.1).set (F.ZONE_STAT_MAX_TS z) h.1.2
  let lv := ms.foldl (fun a n => max a (d.f (F.TS_VAL_LEVEL n))) 0
  let was := d.f (F.ZONE_STAT_LEVEL z)
  let d := d.set (F.ZONE_STAT_LEVEL z) lv
  if was == 0 && lv != 0 then d.raise 3 16 else d

/-- The demand of zone `z` by the present readings: 1 DOWN, 2 UP, 0 HOLD (R326). -/
def Dev.demandOf (d : Dev) (z : Nat) : Nat :=
  let ms := d.members z
  let valid := fun n => d.on (F.TS_VAL_VALID n)
  if ms.any fun n => valid n && decide ((d.threshold n 1).1 ≤ d.fI (F.TS_VAL_TEMP n)) then 1
  else if !d.on (F.ZONE_STAT_BROKEN_HOLD z) &&
      ms.all fun n => valid n && decide (d.fI (F.TS_VAL_TEMP n) < (d.threshold n 1).1 - (d.threshold n 1).2) then 2
  else 0

/-- The step of zone `z` at the end of a round: the floor where a further sensor holds it, one lower where DOWN begins, and never
below the floor (R326, R327, R330). -/
def Dev.zoneThrottle (d : Dev) (z : Nat) : Dev :=
  let us := d.unserved z
  let newly := us.any fun n => !(vget d.sensor n).holds
  let d := (d.primaries z).foldl (fun d n => d.modSensor n fun x => { x with holds := us.contains n }) d
  let d := d.setB (F.ZONE_STAT_BROKEN_HOLD z) (!us.isEmpty)
  let floor := d.f (F.ZONE_CFG_FLOOR z)
  let st := if newly then floor else d.f (F.ZONE_STAT_STEP z)
  let dem := d.demandOf z
  let st := if dem == 1 && d.f (F.ZONE_STAT_DEMAND z) != 1 then st - 1 else st
  (d.set (F.ZONE_STAT_DEMAND z) dem).setStep z (max floor st)

/-- The courses of zone `z`. -/
def Dev.zoneCourses (d : Dev) (z : Nat) : List Nat := (List.range 6).filter fun c => d.fbit (F.ZONE_CFG_COURSES z) c

/-- The source port of a course that stops for heat is lost at once; C1 is no longer hot (R334). -/
def Dev.loseCoursePort (d : Dev) (c : Nat) : Dev :=
  let p := d.portCode c
  if p == 2 then d.loseBattery true false else if within 1 5 p then d.sourceLost p 0 else d

/-- A zone shuts down: its courses stop as for STOP 0, their ports are lost as sources, the hold map is empty while C1 is held (R334). -/
def Dev.shutZone (d : Dev) (z : Nat) (double : Bool) : Dev :=
  let d := (d.set (F.ZONE_STAT_SHUT z) 1).setB (F.ZONE_STAT_DOUBLE z) double
  let d := d.fault 3 19 [R.ZONE_STAT z, R.THERM_MAX]
  let d := if double then d.raise 3 25 else d
  if !d.running then d
  else
    let cs := d.zoneCourses z
    let d := cs.foldl (fun d c => (d.abortTests c).hardStop c false) d
    let d := cs.foldl (fun d c => d.loseCoursePort c) d
    if cs.contains 1 then d.sendHoldMap else d

/-- A zone shutdown ends: the step is the floor, the hold map is sent, ports qualify afresh and contracts may run again (R335). -/
def Dev.openZone (d : Dev) (z : Nat) : Dev :=
  let d := ((d.set (F.ZONE_STAT_SHUT z) 0).set (F.ZONE_STAT_DOUBLE z) 0).raise 3 20
  let d := d.setStep z (d.f (F.ZONE_CFG_FLOOR z))
  if !d.running then d
  else
    let cs := d.zoneCourses z
    let d := if cs.contains 1 then d.sendHoldMap else d
    let d := cs.foldl (fun d c =>
      let p := d.portCode c
      if p == 2 || !within 1 5 p then d
      else if d.sourceContract p then d.startContract p
      else if d.qualified p then d else d.restartDebounce p) d
    d.pathReview

/-- The shutdown of zone `z` begins, goes on or ends (R332, R334, R335). -/
def Dev.zoneShutdown (d : Dev) (z : Nat) : Dev :=
  let ms := d.members z
  let double := decide (2 ≤ (d.unserved z).length)
  let top := ms.any fun n => d.f (F.TS_VAL_LEVEL n) == 3
  let cool := ms.all fun n => d.on (F.TS_VAL_VALID n) && decide (d.fI (F.TS_VAL_TEMP n) < (d.threshold n 2).1 - (d.threshold n 2).2)
  if !d.on (F.ZONE_STAT_SHUT z) then (if top || double then d.shutZone z double else d)
  else if double && !d.on (F.ZONE_STAT_DOUBLE z) then (d.set (F.ZONE_STAT_DOUBLE z) 1).raise 3 25
  else if double || top || (!d.on (F.ZONE_STAT_DOUBLE z) && !cool) then d
  else d.openZone z

/-- Zone `z` at the end of a round. -/
def Dev.zoneEnd (d : Dev) (z : Nat) : Dev := (((d.judgeExempt z).zoneReport z).zoneThrottle z).zoneShutdown z

/-- THERM_MAX over every measured, valid sensor that is a zone member or the battery's (R325). -/
def Dev.deviceMax (d : Dev) : Dev :=
  let ns := (List.range 12).filter fun n => d.isBattery n || (List.range 4).any fun z => (d.members z).contains n
  let h := d.hottest ns
  (h.2.set F.THERM_MAX_TEMP h.1.1).set F.THERM_MAX_TS h.1.2

/-- The zone that sensor `n` is a primary sensor of, at its end of round. -/
def Dev.zoneOfSensor (d : Dev) (n : Nat) : Dev :=
  let z := d.f (F.TS_MAP_ZONE n)
  if z < 4 then d.zoneEnd z else d

/-! ### The battery NTC (R194 to R196, R202) -/

/-- The temperature window at `t` 0.1 °C from window `was`, with the hysteresis of each edge; 7 has no history (R195, R196). -/
def Dev.windowAt (d : Dev) (t : Int) (was : Nat) : Nat :=
  let edges : List (Field × Field) := [(F.CHG_TEDGE_A_COLD_COOL, F.CHG_THYST_H_COLD_COOL), (F.CHG_TEDGE_A_COOL_NORMAL, F.CHG_THYST_H_COOL_NORMAL),
    (F.CHG_TEDGE_B_NORMAL_WARM, F.CHG_THYST_H_NORMAL_WARM), (F.CHG_TEDGE_B_WARM_HOT, F.CHG_THYST_H_WARM_HOT)]
  (edges.zipIdx).foldl (fun a (x : (Field × Field) × Nat) =>
    let e := d.fI x.1.1
    if e ≤ t || (was != 7 && decide (x.2 < was) && decide (e - (d.f x.1.2 : Int) ≤ t)) then max a (x.2 + 1) else a) 0

/-- The charger's part of a round: the NTC temperature; the window, which the first valid reading sets and a later one changes at the next C1 update; an
open NTC over two rounds; a short one, which is FAULT cause 5 but in ABSENT and FAULT (R194, R196, R202, R213). -/
def Dev.batteryRound (d : Dev) : Dev :=
  if d.f F.CHG_CFG_CHEM == 0 || !d.running then d
  else
    let n := d.batterySensor
    let x := vget d.sensor n
    let isOpen := x.cause == 1 && decide (2 ≤ x.rounds)
    let short := x.cause == 2 && decide (2 ≤ x.rounds)
    let wasShort := d.chg.ntcShort
    let d := (d.putChg { d.chg with ntcOpen := isOpen, ntcShort := short, openRounds := if x.cause == 1 then x.rounds else 0 })
    let d := if !short || wasShort then d else if 9 ≤ d.f F.CHG_PHASE_PHASE then d.raise 3 14 else d.chargeFault 5
    if !d.on (F.TS_VAL_VALID n) then d.checkPresence
    else
      let was := d.f F.CHG_PHASE_WINDOW
      let w := d.windowAt (d.fI (F.TS_VAL_TEMP n)) was
      let d := (d.putChg { d.chg with ntcSeen := true, nextWin := if w == was || was == 7 then none else some w })
      let d := if was == 7 then d.set F.CHG_PHASE_WINDOW w else d
      (d.setI F.CHG_MEAS_T_NTC (d.fI (F.TS_VAL_TEMP n))).checkPresence

end Sys2Proof.Machine
end

