-- ==== Sys2Proof/Machine/Thermal.lean ====
section
/-!
DEFINITION. The meanings of the temperature family (R319 to R339): rounds, broken sensors, stand-ins, the throttle, the fixed comparators.
-/
namespace Sys2Proof.Machine

/-- R321: every sensor is measured; levels, zone reports, demands, shutdowns and the charger's window follow at the end of the round. -/
def thermalRound (d : Dev) (rs : Vector SensorReading 12) : Dev :=
  if !d.running then d
  else
    let d := d.each 12 fun d n => d.senseOne rs n
    let d := d.each 12 fun d n => if d.sensed n then d.result (0x40 + n) (d.fI (F.TS_VAL_TEMP n)) else d
    let d := d.each 4 Dev.zoneEnd
    d.deviceMax.batteryRound.inc F.THERM_ROUND_ROUNDS

/-- THERMAL_ROUND (R321). -/
def execThermalRound (rs : Vector SensorReading 12) (s : State) : Host.Outcome State Fault Refusal := done s (thermalRound s.dev rs)

/-- R324, R330, R331, R333: the cause has held in two rounds; a stand-in that breaks stops serving, and the zone holds its floor. -/
def sensorBroken (d : Dev) (n : Nat) : Dev :=
  let x := vget d.sensor n
  if !d.running || d.on (F.TS_VAL_BROKEN n) || x.cause == 0 || decide (x.rounds < 2) then d
  else
    let d := ((d.set (F.TS_VAL_BROKEN n) 1).set (F.TS_VAL_CAUSE n) x.cause).modSensor n fun y => { y with absent := 0 }
    let d := (((d.set (F.TS_VAL_VALID n) 0).set (F.TS_VAL_LEVEL n) 0).incSat (F.TS_STAT_BREAKS n))
    let d := d.fault 3 21 [R.TS_VAL n, R.TS_STAT n]
    let d := if d.on (F.TS_STAT_STANDIN_V n) then
        let p := d.f (F.TS_STAT_SERVES n)
        ((((d.set (F.TS_STAT_STANDIN_V n) 0).set (F.TS_STAT_SERVES n) 0).set (F.TS_STAT_SERVED p) 0).raise 3 24).zoneOfSensor p
      else d
    (d.zoneOfSensor n).deviceMax

/-- SENSOR_BROKEN (R324). -/
def execSensorBroken (n : Fin 12) (s : State) : Host.Outcome State Fault Refusal := done s (sensorBroken s.dev n)

/-- R324: the cause has been absent for 1000 consecutive rounds with no stand-in: the sensor is valid again, without history. -/
def sensorClear (d : Dev) (n : Nat) : Dev :=
  if !d.running || !d.on (F.TS_VAL_BROKEN n) || d.on (F.TS_STAT_SERVED n) || decide ((vget d.sensor n).absent < 1000) then d
  else
    let d := (((d.set (F.TS_VAL_BROKEN n) 0).set (F.TS_VAL_CAUSE n) 0).set (F.TS_STAT_EXEMPT n) 0).raise 3 22
    ((d.modSensor n fun y => { y with absent := 0, fresh := true }).zoneOfSensor n).deviceMax

/-- SENSOR_CLEAR (R324). -/
def execSensorClear (n : Fin 12) (s : State) : Host.Outcome State Fault Refusal := done s (sensorClear s.dev n)

/-- The spare of sensor `n` that may stand in: measured, valid, and serving no other sensor (R331). One whose cause has held in two rounds is broken, be it before
its SENSOR_BROKEN (R324, R339). -/
def Dev.spareOf (d : Dev) (n : Nat) : Option Nat :=
  (List.range 12).find? fun k => d.f (F.TS_MAP_SPARE_FOR k) == n && d.on (F.TS_VAL_VALID k) && !d.on (F.TS_VAL_BROKEN k) &&
    !d.on (F.TS_STAT_STANDIN_V k) && !((vget d.sensor k).cause != 0 && decide (2 ≤ (vget d.sensor k).rounds))

/-- R331: a primary sensor broken for 2 s is served by its spare, which starts without history and joins the zone. -/
def sensorStandin (d : Dev) (n : Nat) : Dev :=
  if !d.running || !d.on (F.TS_VAL_BROKEN n) || d.on (F.TS_STAT_SERVED n) || d.f (F.TS_MAP_SPARE_FOR n) != 0xFF then d
  else match d.spareOf n with
    | none => d
    | some k =>
      let d := (((d.set (F.TS_STAT_STANDIN_V k) 1).set (F.TS_STAT_SERVES k) n).set (F.TS_STAT_SERVED n) 1)
      let d := d.set (F.TS_VAL_LEVEL k) (d.bandOf k (d.fI (F.TS_VAL_TEMP k)))
      ((d.fault 3 23 [R.TS_STAT k, R.TS_VAL n]).zoneOfSensor n).deviceMax

/-- SENSOR_STANDIN (R331). -/
def execSensorStandin (n : Fin 12) (s : State) : Host.Outcome State Fault Refusal := done s (sensorStandin s.dev n)

/-- R326: 250 ms of DOWN lower the step by 1 to the floor, 1 s of UP raises it by 1 to 16. -/
def throttleTimer (d : Dev) (z : Nat) : Dev :=
  if !d.running then d
  else
    let st := d.f (F.ZONE_STAT_STEP z)
    if d.f (F.ZONE_STAT_DEMAND z) == 1 then d.setStep z (max (d.f (F.ZONE_CFG_FLOOR z)) (st - 1))
    else if d.f (F.ZONE_STAT_DEMAND z) == 2 && !d.on (F.ZONE_STAT_BROKEN_HOLD z) then d.setStep z (min 16 (st + 1))
    else d

/-- THROTTLE_STEP_TIMER (R326). -/
def execThrottleStepTimer (z : Fin 4) (s : State) : Host.Outcome State Fault Refusal := done s (throttleTimer s.dev z)

/-- ZONE_FLOOR_WRITE (R327): a live write of FLOOR. -/
def execZoneFloorWrite (z : Fin 4) (v : BitVec 5) (s : State) : Host.Outcome State Fault Refusal :=
  done s (if s.dev.alive then s.dev.liveWrite (F.ZONE_CFG_FLOOR z) v.toNat else s.dev)

/-- A comparator with the temperatures `a` and `b` of its pair, 0.1 °C, is at its trip temperature `at_`: a diode in range is at or above it, or both are
out of range (R336). -/
def pairTrips (at_ a b : Int) : Bool :=
  (inRange a && decide (at_ ≤ a)) || (inRange b && decide (at_ ≤ b)) || (!inRange a && !inRange b)

/-- A tripped comparator releases: a diode is in range, and every such diode is below 140 °C (R336). -/
def pairCool (a b : Int) : Bool :=
  (inRange a || inRange b) && (!inRange a || decide (a < 1400)) && (!inRange b || decide (b < 1400))

/-- R336, R338: the power-die comparator trips: all gates go off but the low side of a tile that the crowbar holds, the hold loop stops, every
course takes mode NONE; no source can carry SYS. -/
def pdTrip (d : Dev) : Dev :=
  if d.pw.mode != .on || d.on F.THERM_HW_PD_SHUT then d
  else
    let d := (((d.set F.THERM_HW_PD_SHUT 1).set F.THERM_HW_PD_SEEN 1).incSat F.THERM_HW_PD_SHUTS).raise 3 26
    let lead := d.f F.PATH_STAT_LEAD
    let d := d.each 6 fun d c => (d.abortTests c).hardStop c true
    let d := d.gatesOff.dropHold
    if d.running && lead != 0 then (d.goDark.putPath { d.path with target := 0, incoming := 0 }) else d

/-- PD_THERMAL_TRIP (R336), TS0 and TS1 at `a` and `b`. -/
def execPdThermalTrip (a b : Int) (s : State) : Host.Outcome State Fault Refusal := done s (if pairTrips 1600 a b then pdTrip s.dev else s.dev)

/-- R336: both power-die diodes are below 140 °C: the tiles are ARMED, and the power path and the hold loop may run again. -/
def pdRelease (d : Dev) : Dev :=
  if d.pw.mode != .on || !d.on F.THERM_HW_PD_SHUT then d
  else
    let d := d.set F.THERM_HW_PD_SHUT 0
    let d := d.each 16 fun d t =>
      if d.runs t || d.tst t == 4 then (d.setTst t 2).modTile t fun x => { x with next := none } else d
    let d := d.startHold
    if !d.running then d
    else
      let d := d.each 5 fun d i => if d.sourceContract (i + 1) then d.startContract (i + 1) else d
      d.pathReview

/-- PD_THERMAL_RELEASE (R336). -/
def execPdThermalRelease (a b : Int) (s : State) : Host.Outcome State Fault Refusal := done s (if pairCool a b then pdRelease s.dev else s.dev)

/-- R336, R337: the logic-die comparator trips: the logic die is held in reset, the MRAM word in flight is complete, a NAND operation is
abandoned. -/
def ldTrip (d : Dev) : Dev :=
  if d.pw.mode != .on || d.pw.ldTripped then d
  else
    let d := (d.incSat F.THERM_HW_LD_SHUTS).set F.THERM_HW_LD_SEEN 1
    let d := d.logicReset 6
    (d.putPw { d.pw with ldTripped := true, ldRaise := true })

/-- LD_THERMAL_TRIP (R336), TS2 and TS3 at `a` and `b`. -/
def execLdThermalTrip (a b : Int) (s : State) : Host.Outcome State Fault Refusal := done s (if pairTrips 1550 a b then ldTrip s.dev else s.dev)

/-- LD_THERMAL_RELEASE (R336): the reset is released once both logic-die diodes are below 140 °C; the load is the command IMAGE_LOAD. -/
def execLdThermalRelease (a b : Int) (s : State) : Host.Outcome State Fault Refusal :=
  done s (if pairCool a b then s.dev.putPw { s.dev.pw with ldTripped := false } else s.dev)

end Sys2Proof.Machine
end

