-- ==== Sys2Proof/Machine/RegAccess.lean ====
section
/-!
DEFINITION. Register access by any initiator (R13 to R17, R434, R442, R462): what a read returns and sets off, and what a write does by the
access codes and by the rules of the registers that act.
-/
namespace Sys2Proof.Machine

/-- The element of an array with this base, stride and count whose register lies at `a` (R463). -/
def elemOf (a base stride count : Nat) : Option Nat :=
  if decide (base ≤ a) && (a - base) % stride == 0 && decide ((a - base) / stride < count) then some ((a - base) / stride) else none

/-- Bit `i` of a written word. -/
def bitOf (w : Word) (i : Nat) : Bool := w.getLsbD i

/-! ### Reads (R13, R434) -/

/-- The W1S bits of `a` that read 1 because their action runs (R13); the other actions end with their write. -/
def Dev.shown (d : Dev) (a : Nat) : Dev :=
  if a == R.IMGCTL then (d.setB F.IMGCTL_CHECK d.img.checking).setB F.IMGCTL_COMMIT (d.on F.IMGSTAT_COMMIT_PENDING && !d.img.expiry)
  else if a == R.CHG_CTL then d.setB F.CHG_CTL_PROBE d.chg.probe.isSome
  else if a == R.RING_CTL then d.setB F.RING_CTL_EMERG_SEND d.ring.emergOut.isSome
  else if let some n := elemOf a (R.LENS_CTL 0) 16 24 then d.setB (F.LENS_CTL_CHECK n) (d.on (F.LENS_STAT_TESTING n) || d.on (F.LENS_STAT_PENDING n))
  else if let some t := elemOf a (R.TILE_CTL 0) 64 16 then d.setB (F.TILE_CTL_CLEAR_FAIL t) (d.tst t == 6 && (vget d.tile t).next.isSome)
  else if let some c := elemOf a (R.C_CTL 0) 128 6 then d.setB (F.C_CTL_ADD_ALL c) (vget d.course c).addAll
  else if let some c := elemOf a (R.C_PCTL 0) 128 6 then d.setB (F.C_PCTL_CB_CLEAR c) (vget d.course c).cbRelease
  else if a == R.LC_CTL then d.setB F.LC_CTL_GO (d.on F.LC_STAT_BUSY)
  else if a == R.WDT_CTL then d.setB F.WDT_CTL_FORCE d.wdt.force
  else d

/-- A read of TIME_LO (R445). -/
def Dev.readTime (d : Dev) : Dev := ((d.set F.TIME_HI_TIME (d.pw.time / 2 ^ 32)).putReadData (BitVec.ofNat 32 d.pw.time))

/-- A read of EVF_DATA0 (R449). -/
def Dev.popEvent (d : Dev) : Dev :=
  match d.ev.fifo with
  | [] => (d.putReadData 0)
  | e :: rest =>
    let w := 2 ^ 31 + (if e.gap then 2 ^ 30 else 0) + e.event % 256 * 2 ^ 16 + e.time / 2 ^ 32 % 65536
    (((d.set F.EVF_DATA1_TIME e.time).putReadData (BitVec.ofNat 32 w)).putEv { d.ev with fifo := rest })

/-- Any other read: the current value, and the RC fields clear (R13). -/
def Dev.plainRead (d : Dev) (q : RegDesc) (a : Nat) : Dev :=
  let d := d.shown a
  let w := d.rd a
  ((d.wr a (w &&& ~~~ q.mask (· == .rc))).putReadData w)

/-- The read of the register at `a`: its value in `readData`, with its side effects (R434, R442). An address without a register reads 0 (R462). A press of
less than 2 s shows in PWR_STAT.BTN (R216). -/
def Dev.readReg (d : Dev) (a : Nat) (r : ReadWorld) : Dev :=
  match regAt a with
  | none => (d.putReadData 0)
  | some q =>
    if a == R.TIME_LO then d.readTime
    else if a == R.EVF_DATA0 then d.popEvent
    else if a == R.IMGDATA then imgDataReadRow d
    else if a == R.NVDATA then d.nvRead
    else if a == R.REC_DATA then d.readRecData
    else if a == R.PTB_FRAC then (d.ptbTime r.t).readFrac
    else if a == R.PRISM_TMEAN then d.readMean
    else (d.onlyIf (a == R.PWR_STAT && r.pressed && !d.pw.vkaLow) fun d => d.set F.PWR_STAT_BTN 1).plainRead q a

/-! ### Writes (R13, R17) -/

/-- How a write ends, as R436 codes it: done 00h, no effect 01h, live write outside its bound 02h, no register 03h. -/
def wrDone : Nat := 0
def wrNone : Nat := 1
def wrLive : Nat := 2
def wrUnmapped : Nat := 3

/-- LK fields are writable until the image commit (R13, R67). -/
def Dev.unlocked (d : Dev) : Bool := d.f F.IMGSTAT_STATE != 1

/-- A field of this code takes written values now. -/
def Dev.storesAs (d : Dev) (p : Access) : Bool := p == .rw || (p == .lk && d.unlocked)

/-- Some field of the register can be written now (R17); LC_BUF is read-only in RETURN (R423). -/
def Dev.writable (d : Dev) (q : RegDesc) (a : Nat) : Bool :=
  q.mask (fun p => d.storesAs p || p == .w1c || p == .w1s) != 0#32 &&
  !((elemOf a (R.LC_BUF 0) 4 16).isSome && d.f F.LC_STAT_STATE == 3)

/-- The write by the access codes alone (R13): RW and unlocked LK fields take the value, W1C bits written 1 clear; W1S, RO, RC, IMG and reserved
bits stay. -/
def Dev.plainWrite (d : Dev) (q : RegDesc) (a : Nat) (w : Word) : Dev :=
  let old := d.rd a
  let m := q.mask d.storesAs
  d.wr a (((old &&& ~~~ m) ||| (w &&& m)) &&& ~~~ (w &&& q.mask (· == .w1c)))

/-- TIME_SETL sets the device time (R445): the raise and the log entry carry the old one. -/
def Dev.setTime (d : Dev) (w : Word) : Dev :=
  let old := d.pw.time
  let d := ((d.set F.TIME_SETL_TIME w.toNat).raise 0 24).logFault 0 24 [BitVec.ofNat 32 old, BitVec.ofNat 32 (old / 2 ^ 32)]
  (d.putPw { d.pw with time := d.f F.TIME_SETH_TIME * 2 ^ 32 + w.toNat })

/-- CHG_CTL.EN (R188, R408 to R410): cleared while the charger charges, it waits for its safe point; set, a waiting disable is cancelled. -/
def Dev.chgEn (d : Dev) (en : Bool) : Dev :=
  let was := d.on F.CHG_CTL_EN
  let d := d.setB F.CHG_CTL_EN en
  if en then d.set F.FUNC_PEND_CHG 0
  else if was && chargingPhase (d.f F.CHG_PHASE_PHASE) then d.set F.FUNC_PEND_CHG 1
  else d

/-- The first core SRAM address of the resident supervisor (R443). -/
def superBase : Nat := 0x78000

/-- The words of a DMA buffer: larger values of LEN act as 4096 (R460). -/
def dmaWords (len : Nat) : Nat := min len 4096

/-- DMAn_CTL (R454): refused where an enabled buffer would reach the supervisor's SRAM; else POS returns to 0. -/
def Dev.dmaCtl (d : Dev) (n : Nat) (w : Word) : Nat × Dev :=
  let len := w.toNat % 8192
  if bitOf w 31 && decide (superBase < d.f (F.DMA_DST_ADDR n) + 4 * dmaWords len) then (wrNone, d)
  else (wrDone, ((d.setB (F.DMA_CTL_EN n) (bitOf w 31)).set (F.DMA_CTL_LEN n) len).set (F.DMA_STAT_POS n) 0)

/-- The commands of GTn_CTL act in the order RESET, UPDATE, then STOP or START (R288). -/
def Dev.timerCtl (d : Dev) (n : Nat) (w : Word) : Dev :=
  let d := d.onlyIf (bitOf w 2) fun d => d.timerReset n
  let d := d.onlyIf (bitOf w 3) fun d => d.loadShadows n
  if bitOf w 1 then d.timerStop n else d.onlyIf (bitOf w 0) fun d => d.timerStart n

/-- A write of a live field's register: the outcome, and the effect (R74, R75, R281). -/
def Dev.writeLive (d : Dev) (a : Nat) (w : Word) (t : Nat) : Option (Nat × Dev) :=
  let outcome (ok : Bool) (d : Dev) : Option (Nat × Dev) := some (if ok then wrDone else wrLive, d)
  if let some x := liveField a then outcome (d.liveBound x (x.read w)) (d.liveWrite x (x.read w))
  else if let some n := elemOf a (R.LENS_TH 0) 16 24 then
    let lo := (F.LENS_TH_LO n).read w
    let hi := (F.LENS_TH_HI n).read w
    outcome (d.lensUsed n && decide (lo ≤ hi)) (d.lensThWrite n lo hi)
  else if let some k := elemOf a (R.SLOT_POSF 0) 16 32 then
    let e := d.ptbTime t
    outcome (e.slotOn k) (e.slotPosf k (w.toNat % 65536))
  else if let some k := elemOf a (R.SLOT_ARG 0) 16 32 then outcome (d.slotOn k) (d.slotArg k w.toNat)
  else none

/-- A write of a register whose whole write is an action of its own rule. -/
def Dev.writeOwn (d : Dev) (o : Origin) (a : Nat) (w : Word) (x : AccessWorld) : Option (Nat × Dev) :=
  let ok (d : Dev) : Option (Nat × Dev) := some (wrDone, d)
  if a == R.TIME_SETL then ok (d.setTime w)
  else if a == R.IMGCTL then
    let d := if bitOf w 3 then (d.putChg { d.chg with vBat := (x.vBat : Int) }) else d
    ok (d.imgCtl (bitOf w 8) w.toNat)
  else if a == R.IMGADDR then some (if lastOffset < w.toNat % 2 ^ 21 then wrNone else wrDone, d.imgAddr w)
  else if a == R.IMGDATA then ok (d.imgDataWrite w)
  else if a == R.NVDATA then ok (d.nvWrite w)
  else if a == R.FLOW_SEL then ok (d.showFlow (w.toNat % 256))
  else if a == R.FLOG_SEL then ok (d.showLog (w.toNat % 1024))
  else if a == R.PRISM_TSEL then ok (d.set F.PRISM_TSEL_SOURCE w.toNat).startTelemetry
  else if a == R.WDT_CHECKIN then ok (d.checkIn (w.toNat % 256) o)
  else if a == R.WDT_SERVICE then ok (d.service ((F.WDT_SERVICE_ECHO).read w) ((F.WDT_SERVICE_TOKEN).read w) o)
  else if a == R.BG_CTL then ok (d.bgCtl w x.slotBusy x.scrubBusy)
  else if a == R.LC_CTL && bitOf w 31 then ok (d.lcGo (w.toNat % 16) (w.toNat / 65536 % 4) (w.toNat / 256 % 256) x.cut)
  else if let some n := elemOf a (R.DMA_CTL 0) 16 8 then some (d.dmaCtl n w)
  else if let some n := elemOf a (R.GT_PERIOD 0) 32 12 then ok (d.timerPeriod n (w.toNat % 65536))
  else if let some n := elemOf a (R.GT_CMP 0) 32 12 then ok (d.timerCompare n (w.toNat % 65536))
  else none

/-- The actions of single registers that a write starts, after its fields are stored (R13). -/
def Dev.startOne (d : Dev) (a : Nat) (w : Word) : Dev :=
  if a == R.DBG_CTL then d.onlyIf (bitOf w 0) Dev.dbgOpen
  else if a == R.RING_CTL then
    let d := ((d.onlyIf (bitOf w 0) fun d => hardcloseCmd d 0).onlyIf (bitOf w 1) fun d => hardcloseCmd d 1).onlyIf
      (bitOf w 2 && d.ring.emergOut.isNone) emergSend
    (d.onlyIf (bitOf w 3) fun d => relink d 0).onlyIf (bitOf w 4) fun d => relink d 1
  else if a == R.PATH_CTL then (d.onlyIf (bitOf w 0 && d.running) Dev.releaseReserve).onlyIf (bitOf w 1) reserveRestore
  else if a == R.CHG_CTL then
    ((d.chgEn (bitOf w 0)).onlyIf (bitOf w 1) chgClearFault).onlyIf (bitOf w 2) Dev.startProbe
  else if a == R.PWR_CTL then
    (d.onlyIf (bitOf w 0) fun d => d.set F.PWR_STAT_SHIP_PEND 1).onlyIf (bitOf w 1) fun d => d.set F.PWR_STAT_SHIP_PEND 0
  else if a == R.PTB_CTL then d.onlyIf (bitOf w 0) ptbSet
  else if a == R.WDT_CTL then d.onlyIf (bitOf w 0) Dev.forceWdt
  else if a == R.EV_SW then d.each 6 fun d n => d.onlyIf (bitOf w n) fun d => d.raise 0 (26 + n)
  else if a == R.EVF_CTL then d.onlyIf (bitOf w 0) fun d => (d.putEv { d.ev with fifo := [] })
  else if a == R.CAP_CTL then
    ((d.onlyIf (bitOf w 0) fun d => d.askOpen 3).onlyIf (bitOf w 1) fun d => d.askClose 3).capEn (bitOf w 8)
  else if a == R.REC_CTL then d.onlyIf (bitOf w 12) fun d => d.startFetch (w.toNat % 1024)
  else if a == R.ST_ADC then (d.onlyIf (bitOf w 0) fun d => d.adcRequest 0).onlyIf (bitOf w 1) fun d => d.adcRequest 1
  else d

/-- The actions of arrayed registers that a write starts (R13). -/
def Dev.startElem (d : Dev) (a : Nat) (w : Word) (x : AccessWorld) : Dev :=
  if let some t := elemOf a (R.TILE_CTL 0) 64 16 then
    let d := (d.onlyIf (bitOf w 0) fun d => clearFail d t).onlyIf (bitOf w 1) fun d => forceFail d t
    (d.onlyIf (bitOf w 2) fun d => testStart d t).onlyIf (bitOf w 3) fun d => testAbort d t
  else if let some c := elemOf a (R.C_CTL 0) 128 6 then d.onlyIf (bitOf w 1) fun d => addAll d c
  else if let some c := elemOf a (R.C_PCTL 0) 128 6 then
    (d.onlyIf (bitOf w 0) fun d => cbClear d c).onlyIf (bitOf w 1) fun d => mmClear d c
  else if let some p := elemOf a (R.GUARD_CFG 0) 16 5 then d.onlyIf (bitOf w 16) fun d => guardRearm d p x.clear
  else if let some n := elemOf a (R.LENS_CTL 0) 16 24 then
    ((d.onlyIf (bitOf w 0) fun d => d.lensRequest n).onlyIf (bitOf w 1) fun d => d.lensAbort n).onlyIf (bitOf w 2) fun d => d.lensRestore n
  else if let some n := elemOf a (R.GT_CTL 0) 32 12 then d.timerCtl n w
  else d

/-- RW fields whose rule acts on a change keep their value until that rule has seen it. -/
def Dev.holdBack (d e : Dev) (a : Nat) (w : Word) : Dev :=
  if a == R.CHG_CTL then e.set F.CHG_CTL_EN (d.f F.CHG_CTL_EN)
  else if let some c := elemOf a (R.C_CTL 0) 128 6 then shedHold (e.set (F.C_CTL_SHED_HOLD c) (d.f (F.C_CTL_SHED_HOLD c))) c (bitOf w 0)
  else e

/-- The write of the register at `a` by `o`: how it ends, and the state after it (R13 to R17, R434, R442, R462). -/
def Dev.writeAt (d : Dev) (o : Origin) (a : Nat) (w : Word) (x : AccessWorld) : Nat × Dev :=
  match regAt a with
  | none => (wrUnmapped, d)
  | some q =>
    if !d.writable q a then (wrNone, d)
    else if let some r := d.writeLive a w x.t then r
    else if let some r := d.writeOwn o a w x then r
    else (wrDone, ((d.holdBack (d.plainWrite q a w) a w).startOne a w).startElem a w x)

/-- A write, with the edge that it makes of the lens which the time base counts (R272, R305). -/
def Dev.writeReg (d : Dev) (o : Origin) (a : Nat) (w : Word) (x : AccessWorld) : Nat × Dev :=
  let r := d.writeAt o a w x
  (r.1, d.lensCounted r.2)

end Sys2Proof.Machine
end

