-- ==== Sys2Proof/Machine/HostOps.lean ====
section
/-!
DEFINITION. The host port (R430 to R441): frames and their CRC, responses and their slots, bursts.
-/
namespace Sys2Proof.Machine

/-! ### Frames and the CRC-8 (R431, R432) -/

/-- OP, BLEN, ADDR, DATA and CRC of a frame's 64 bits, CMD first (R431). -/
def frameOp (x : BitVec 64) : Nat := x.toNat / 2 ^ 60 % 16
def frameBlen (x : BitVec 64) : Nat := x.toNat / 2 ^ 56 % 16
def frameAddr (x : BitVec 64) : Nat := x.toNat / 2 ^ 40 % 65536
def frameData (x : BitVec 64) : Word := BitVec.ofNat 32 (x.toNat / 256)
def frameCrc (x : BitVec 64) : BitVec 8 := BitVec.ofNat 8 x.toNat

/-- The CRC of a frame passes (R431). -/
def frameCrcOk (x : BitVec 64) : Bool := crc8 (beBytes 7 (x.toNat / 256)) == frameCrc x

/-- The opcode and BLEN are allowed, and an incrementing burst stays within FFFCh (R433). -/
def frameOpOk (x : BitVec 64) : Bool :=
  let op := frameOp x
  let n := frameBlen x
  if op == 0 || op == 1 || op == 2 || op == 7 then n == 0
  else if op == 4 || op == 6 then decide (n ≤ 10)
  else if op == 5 then decide (n ≤ 10) && decide (frameAddr x + 4 * (2 ^ n - 1) ≤ 0xFFFC)
  else false

/-- The bytes of a response or a stream as SDO carries them, each most significant bit first (R435, R440). -/
def Response.bytes (r : Response) : List Byte :=
  let body := beBytes 1 r.status ++ beBytes 2 r.addr ++ r.data.flatMap fun w => beBytes 4 w.toNat
  body ++ [crc8 body]

/-! ### Responses (R435 to R437) -/

/-- A response with CODE `code`: the INT bit shows the interrupt balls at execution (R435). -/
def Dev.response (d : Dev) (code addr : Nat) (data : Word) : Response :=
  { status := (if d.balls.nInt0 || d.balls.nInt1 then 128 else 0) + code, addr := addr, data := [data] }

/-- Response `r` has been shifted out: RST on the first one since the release, LAST_CODE (R435, R458). -/
def Dev.shiftOut (d : Dev) (r : Response) : Dev :=
  let r : Response := { r with status := r.status + (if d.host.first then 64 else 0) }
  ((d.set F.HOST_STAT_LAST_CODE (r.status % 64)).putHost { d.host with pending := none, shifted := r, first := false })

/-- The slot of a new frame shifts out the waiting response, or code 0Ah (R436). -/
def Dev.shiftNext (d : Dev) : Dev :=
  match d.host.pending with
  | some r => d.shiftOut r
  | none => d.shiftOut (d.response 0x0A 0 0#32)

/-- The answer of the frame just handled waits for the next slot; `executed` frames are the ones that REPEAT returns (R437). A frame whose effect
was a reset has none (R439). -/
def Dev.answer (d : Dev) (executed : Bool) (r : Response) : Dev :=
  if !d.alive || !d.pw.hostReady then d
  else (d.putHost { d.host with pending := some r, last := if executed then some r else d.host.last })

/-- A burst write is still being applied (R441). -/
def Dev.hostBusy (d : Dev) : Bool := !d.host.burst.isEmpty

/-- nCS is low, as every frame needs it (R430). -/
def Dev.select (d : Dev) : Dev := d.putHost { d.host with selected := true }

/-- A frame for address `addr` whose CRC and opcode are good: it is executed by `act`, or answered 08h or 04h (R436). From the reset until step 1 of R65
ends frames are ignored (R439). -/
def Dev.onFrame (d : Dev) (addr : Nat) (act : Dev → Dev) : Dev :=
  let d := d.select
  if !d.alive || !d.pw.hostReady then d
  else
    let d := d.shiftNext
    if d.hostBusy then d.answer false (d.response 8 addr 0#32)
    else if addr % 4 != 0 then d.answer false (d.response 4 addr 0#32)
    else act d

/-! ### Single frames (R433, R434, R437) -/

/-- READ (R434). -/
def Dev.frameRead (d : Dev) (addr : Nat) (r : ReadWorld) : Dev :=
  let e := d.readReg addr r
  e.answer true (d.response (if (regAt addr).isSome then 0 else 3) addr e.readData)

/-- WRITE (R434). -/
def Dev.frameWrite (d : Dev) (addr : Nat) (w : Word) (x : AccessWorld) : Dev :=
  let e := d.writeReg .host addr w x
  e.2.answer true (d.response e.1 addr w)

/-- The stream of a burst read leaves in the slot after its frame; the next frame finds no answer (R440). -/
def Dev.stream (d : Dev) (r : Response) : Dev := if !d.alive || !d.pw.hostReady then d else d.shiftOut r

/-- REPEAT (R437, R440). -/
def Dev.frameRepeat (d : Dev) : Dev :=
  match d.host.last with
  | none => d.answer false (d.response 0x0A 0 0#32)
  | some r => if r.stream then d.stream r else d.answer false r

/-! ### Bursts (R440, R441) -/

/-- The words of a burst read, one register read after another. -/
def Dev.readWords (d : Dev) (q : ReadWorld) : List Nat → List Word × Dev
  | [] => ([], d)
  | a :: as =>
    let e := d.readReg a q
    let r := Dev.readWords e q as
    (e.readData :: r.1, r.2)

/-- A burst read of the addresses `as`, of which nCS lets the first `n` be sampled, but at least one (R440, R457). -/
def Dev.burstRead (d : Dev) (addr : Nat) (q : ReadWorld) (as : List Nat) (code : Nat) (n : Nat) : Dev :=
  let e := d.readWords q (as.take (max 1 n))
  let r : Response := { d.response code addr 0#32 with data := e.1, stream := true }
  ((e.2.putHost { e.2.host with last := some r })).stream r

/-- How a burst write ends as a whole, from the ends of its words (R441). -/
def burstCode (ends : List Nat) : Nat :=
  if ends.any (· == wrUnmapped) then wrUnmapped else if ends.any (· == wrLive) then wrLive
  else if ends.all (· == wrNone) then wrNone else wrDone

/-- The ends of the words of a burst write applied in order. -/
def Dev.burstEnds (d : Dev) (a : Nat) (x : AccessWorld) : List Word → List Nat
  | [] => []
  | w :: ws =>
    let e := d.writeReg .host a w x
    e.1 :: Dev.burstEnds e.2 a x ws

/-- Up to `n` words of the waiting burst write are applied (R441), each with the delivery of what it raises: two words that raise one source are two raises
(R446). A reset that one of them makes loses the rest (R457). -/
def Dev.applyBurst : Nat → Dev → Dev
  | 0, d => d
  | n + 1, d =>
    match d.host.burst with
    | [] => d
    | w :: ws =>
      let e : Dev := (d.putHost { d.host with burst := ws })
      Dev.applyBurst n (Dev.deliverAll 8 (e.writeReg .host e.host.burstAddr w e.host.burstWorld).2)

/-- The trailing CRC of a burst write passes: that of the words after the first; a burst of one word has none (R432, R441). -/
def burstCrcOk (words : List Word) (crc : BitVec 8) : Bool := decide (words.length ≤ 1) || crc8 (words.tail.flatMap fun w => beBytes 4 w.toNat) == crc

/-- BURST_WR (R441): the words wait to be applied if the trailing CRC passes. -/
def Dev.burstWrite (d : Dev) (addr : Nat) (words : List Word) (crc : BitVec 8) (x : AccessWorld) : Dev :=
  if !burstCrcOk words crc then ((d.incSat F.HOST_STAT_FRAME_ERR).raise 0 18).answer true (d.response 9 addr 0#32)
  else
    let code := burstCode (d.burstEnds addr x words)
    let n := if code == wrUnmapped then 0 else words.length
    let e := d.answer true (d.response code addr (BitVec.ofNat 32 n))
    (e.putHost { e.host with burst := if code == wrUnmapped then [] else words, burstAddr := addr, burstWorld := x })

/-! ### DMA (R453, R454) -/

/-- The word read is stored in core SRAM, below the resident supervisor. -/
def Dev.dmaStore (d : Dev) (a : Nat) (w : Word) : Dev :=
  if a + 4 ≤ superBase then (d.putSram (Mem.setWord d.sram a w)) else d

/-- The waiting request of channel `n` is served (R454). DMA stops while the logic die is absent (R453). -/
def Dev.dmaServe (d : Dev) (n : Nat) : Dev :=
  if !d.running || !d.ev.dmaWait.contains n then d
  else
    let d := (d.putEv { d.ev with dmaWait := d.ev.dmaWait.filter (· != n) })
    let len := dmaWords (d.f (F.DMA_CTL_LEN n))
    if len == 0 then d
    else
      let pos := d.f (F.DMA_STAT_POS n)
      let d := d.readReg (d.f (F.DMA_SRC_ADDR n)) { t := d.ptb.since }
      let d := d.dmaStore (d.f (F.DMA_DST_ADDR n) + 4 * pos) d.readData
      let p := pos + 1
      let d := if p == len / 2 then d.raise 0 19 else d
      if len ≤ p then (d.set (F.DMA_STAT_POS n) 0).raise 0 20 else d.set (F.DMA_STAT_POS n) p

end Sys2Proof.Machine
end

