-- ==== Sys2Proof/Machine/Host.lean ====
section
/-!
DEFINITION. The meanings of the commands of the host interface, the device time, the events and DMA (R13, R430 to R454).
-/
namespace Sys2Proof.Machine

/-! ### Frames (R433 to R438) -/

/-- NOP (R433). -/
def hostNop (d : Dev) (addr : Nat) : Dev := d.onFrame addr fun d => d.answer true (d.response 0 addr 0#32)
def execHostNop (addr : BitVec 16) (s : State) : Host.Outcome State Fault Refusal := done s (hostNop s.dev addr.toNat)

/-- READ (R434). -/
def hostRead (d : Dev) (addr : Nat) (r : ReadWorld) : Dev := d.onFrame addr fun d => d.frameRead addr r
def execHostRead (addr : BitVec 16) (r : ReadWorld) (s : State) : Host.Outcome State Fault Refusal := done s (hostRead s.dev addr.toNat r)

/-- WRITE (R434). -/
def hostWrite (d : Dev) (addr : Nat) (w : Word) (x : AccessWorld) : Dev := d.onFrame addr fun d => d.frameWrite addr w x
def execHostWrite (addr : BitVec 16) (w : Word) (x : AccessWorld) (s : State) : Host.Outcome State Fault Refusal :=
  done s (hostWrite s.dev addr.toNat w x)

/-- BURST_RD (R440): 2^BLEN words from one address; nCS rises after `n` words were sampled, if it cuts the stream short. -/
def burstRd (d : Dev) (addr blen : Nat) (r : ReadWorld) (n : Option Nat) : Dev :=
  d.onFrame addr fun d => d.burstRead addr r (List.replicate (2 ^ blen) addr) (if (regAt addr).isSome then 0 else 3) (n.getD (2 ^ blen))
def execBurstRd (addr : BitVec 16) (blen : Fin 11) (r : ReadWorld) (n : Option Nat) (s : State) : Host.Outcome State Fault Refusal :=
  done s (burstRd s.dev addr.toNat blen.val r n)

/-- A refused opcode, BLEN or address range (R433, R436): 06h before 08h and 04h; FRAME_ERR counts it, EVB0 source 18. -/
def Dev.refuseOp (d : Dev) (addr : Nat) : Dev :=
  let d := d.shiftNext
  ((d.incSat F.HOST_STAT_FRAME_ERR).raise 0 18).answer false (d.response 6 addr 0#32)

/-- R440, R433: 2^BLEN words from incrementing addresses, none beyond FFFCh. -/
def burstInc (d : Dev) (addr blen : Nat) (r : ReadWorld) (n : Option Nat) : Dev :=
  let d := d.select
  if !d.alive || !d.pw.hostReady then d
  else if 0xFFFC < addr + 4 * (2 ^ blen - 1) then d.refuseOp addr
  else d.onFrame addr fun d => d.burstRead addr r ((List.range (2 ^ blen)).map fun i => addr + 4 * i) 0 (n.getD (2 ^ blen))

/-- BURST_RD_INC (R440). -/
def execBurstRdInc (addr : BitVec 16) (blen : Fin 11) (r : ReadWorld) (n : Option Nat) (s : State) : Host.Outcome State Fault Refusal :=
  done s (burstInc s.dev addr.toNat blen.val r n)

/-- BURST_WR (R441): the 2^BLEN words, and the CRC sent after them, which a burst of one word has not. -/
def burstWr (d : Dev) (addr blen : Nat) (words : List Word) (crc : Byte) (x : AccessWorld) : Dev :=
  d.onFrame addr fun d => d.burstWrite addr ((List.range (2 ^ blen)).map fun i => words.getD i 0#32) crc x
def execBurstWr (addr : BitVec 16) (blen : Fin 11) (words : List Word) (crc : BitVec 8) (x : AccessWorld) (s : State) :
    Host.Outcome State Fault Refusal := done s (burstWr s.dev addr.toNat blen.val words crc x)

/-- BURST_WR_APPLIED (R441): the rest of a burst write is applied, within 2^BLEN × 200 ns. -/
def execBurstWrApplied (s : State) : Host.Outcome State Fault Refusal :=
  done s (if s.dev.alive then s.dev.applyBurst s.dev.host.burst.length else s.dev)

/-- REPEAT (R437). -/
def hostRepeat (d : Dev) (addr : Nat) : Dev := d.onFrame addr Dev.frameRepeat
def execRepeat (addr : BitVec 16) (s : State) : Host.Outcome State Fault Refusal := done s (hostRepeat s.dev addr.toNat)

/-- The action of the opcode of a frame whose CRC and opcode are good (R433). -/
def frameAction (d : Dev) (x : SpiFrame) : Dev :=
  let a := frameAddr x.bits
  let n := frameBlen x.bits
  match frameOp x.bits with
  | 1 => hostRead d a x.read
  | 2 => hostWrite d a (frameData x.bits) x.write
  | 4 => burstRd d a n x.read x.cut
  | 5 => burstInc d a n x.read x.cut
  | 6 => burstWr d a n x.words x.crc x.write
  | 7 => hostRepeat d a
  | _ => hostNop d a

/-- R431, R433, R436: a frame comes in. One that fails its CRC is 05h and counts in CMD_CRC with EVB0 source 17; a refused opcode is 06h and counts in
FRAME_ERR with source 18; then come 08h and 04h; and a frame that passes every check is carried out. -/
def frameReject (d : Dev) (x : SpiFrame) : Dev :=
  let d := d.select
  if !d.alive || !d.pw.hostReady then d
  else if !frameCrcOk x.bits then
    let d := d.shiftNext
    ((d.incSat F.HOST_STAT_CMD_CRC).raise 0 17).answer false (d.response 5 (frameAddr x.bits) 0#32)
  else if !frameOpOk x.bits then d.refuseOp (frameAddr x.bits)
  else frameAction d x

/-- HOST_FRAME_REJECT (R436). -/
def execHostFrameReject (x : SpiFrame) (s : State) : Host.Outcome State Fault Refusal := done s (frameReject s.dev x)

/-- R430, R438: nCS rises. In a frame, or in the words of a burst write, whose frame has then shifted out its slot: discarded, 07h, FRAME_ERR, EVB0
source 18. -/
def frameCut (d : Dev) (rise : NcsRise) : Dev :=
  let d := d.putHost { d.host with selected := false }
  if !d.alive || !d.pw.hostReady || rise == .between then d
  else
    let d := if rise == .inBurst then d.shiftNext else d
    ((d.incSat F.HOST_STAT_FRAME_ERR).raise 0 18).answer false (d.response 7 0 0#32)

/-- NCS_FRAME_CUT (R438). -/
def execNcsFrameCut (rise : NcsRise) (s : State) : Host.Outcome State Fault Refusal := done s (frameCut s.dev rise)

/-! ### Registers (R13, R442, R445, R449, R451) -/

/-- What a core address names (R443): a byte of core SRAM, of user NV, or of the registers, as an offset into it. -/
inductive CorePlace where
  | sram (a : Nat)
  | userNv (a : Nat)
  | reg (a : Nat)
  | nothing
deriving DecidableEq, Repr

/-- The core address map (R443), for an access of `2 ^ size` bytes; the spec gives a misaligned one no place (assumption 77). -/
def corePlace (a size : Nat) : CorePlace :=
  if a % 2 ^ size != 0 then .nothing
  else if a < 0x80000 then .sram a
  else if within 0x10000000 0x103FFFFF a then .userNv (a - 0x10000000)
  else if within 0x40000000 0x4000FFFF a then .reg (a - 0x40000000)
  else .nothing

/-- A customer task's access to the SRAM of the resident supervisor ends that task (R443). -/
def taskBarred (a : Nat) (task : Bool) : Bool := task && within superBase 0x7FFFF a

/-- `2 ^ size` bytes, the lowest of `w` first, stored at a core address (R392, R443). A register takes the whole word. -/
def Dev.coreStore (d : Dev) (o : Origin) (a size : Nat) (task : Bool) (w : Word) (x : AccessWorld) : Dev :=
  let bytes := (leBytes w).take (2 ^ size)
  if taskBarred a task then customerTaskFault d
  else match corePlace a size with
    | .sram k => d.putSram (Mem.setBytes d.sram k bytes)
    | .userNv k => d.putNv (Mem.setBytes d.nv k bytes)
    | .reg k => (d.writeReg o k w x).2
    | .nothing => d

/-- `2 ^ size` bytes loaded from a core address into `readData` (R392, R443). An address that R443 does not list gives a free value. -/
def Dev.coreLoad (d : Dev) (a size : Nat) (task : Bool) (r : ReadWorld) : Dev :=
  if taskBarred a task then customerTaskFault d
  else match corePlace a size with
    | .sram k => d.putReadData (BitVec.ofNat 32 (Mem.le d.sram k (2 ^ size)))
    | .userNv k => d.putReadData (BitVec.ofNat 32 (Mem.le d.nv k (2 ^ size)))
    | .reg k => d.readReg k r
    | .nothing => let x := d.fresh; x.2.putReadData (BitVec.ofNat 32 x.1)

/-- A debugger never reaches the slots behind IMGDATA (R456). -/
def busBarred (o : Origin) : BusOp → Bool
  | .write a => o == .debugger && a.toNat == R.IMGDATA
  | .read a => o == .debugger && a.toNat == R.IMGDATA
  | .store a n _ => o == .debugger && corePlace a.toNat n.val == .reg R.IMGDATA
  | .load a n _ => o == .debugger && corePlace a.toNat n.val == .reg R.IMGDATA
  | _ => false

/-- What an access on the bus does, its initiator apart (R13, R442, R443, R455). -/
def Dev.busOp (d : Dev) (q : BusAccess) : Dev :=
  match q.op with
  | .write a => (d.writeReg q.by_ a.toNat q.data q.write).2
  | .read a => d.readReg a.toNat q.rd
  | .store a size task => d.coreStore q.by_ a.toNat size.val (task && q.by_ == .core) q.data q.write
  | .load a size task => d.coreLoad a.toNat size.val (task && q.by_ == .core) q.rd
  | .scan ir => d.scan ir.toNat
  | .trst => d.putTap {}

/-- The access is one at the JTAG balls. -/
def busJtag : BusOp → Bool
  | .scan _ => true
  | .trst => true
  | _ => false

/-- One access (R442, R443, R455, R456): the host's only by registers, the JTAG balls' only a debugger's, and a debugger's others by DMI. -/
def Dev.busAccess (d : Dev) (q : BusAccess) : Dev :=
  let plain := match q.op with
    | .write _ => true
    | .read _ => true
    | _ => false
  if !d.alive || busBarred q.by_ q.op then d
  else match q.by_ with
    | .host => d.onlyIf plain fun d => d.busOp q
    | .core => d.onlyIf (!busJtag q.op) fun d => d.busOp q
    | .debugger => if busJtag q.op then d.busOp q else d.byDmi fun d => d.busOp q

/-- The accesses of one logic clock in turn, each with the delivery of what the one before it raised (R442, R446). -/
def Dev.busAll : List BusAccess → Dev → Dev
  | [], d => d
  | [q], d => d.busAccess q
  | q :: qs, d => Dev.busAll qs (Dev.deliverAll 8 (d.busAccess q))

/-- The accesses of one logic clock in the order host, debugger, core (R442). -/
def busOrder (l : List BusAccess) : List BusAccess :=
  l.filter (·.by_ == .host) ++ l.filter (·.by_ == .debugger) ++ l.filter (·.by_ == .core)

/-- REGISTER_WRITE (R13, R442): an access by any initiator, with those of the others in the same logic clock. -/
def registerWrite (d : Dev) (o : Origin) (op : BusOp) (w : Word) (x : BusWorld) : Dev :=
  Dev.busAll (busOrder (⟨o, op, w, x.write, x.rd⟩ :: x.others)) d
def execRegisterWrite (o : Origin) (op : BusOp) (w : Word) (x : BusWorld) (s : State) : Host.Outcome State Fault Refusal :=
  done s (registerWrite s.dev o op w x)

/-- TIME_LO_READ (R445). -/
def execTimeLoRead (s : State) : Host.Outcome State Fault Refusal := done s (if s.dev.alive then s.dev.readTime else s.dev)

/-- TIME_SETL_WRITE (R445). -/
def execTimeSetlWrite (w : Word) (s : State) : Host.Outcome State Fault Refusal := done s (if s.dev.alive then s.dev.setTime w else s.dev)

/-- EVF_DATA0_READ (R449). -/
def execEvfData0Read (s : State) : Host.Outcome State Fault Refusal := done s (if s.dev.alive then s.dev.popEvent else s.dev)

/-- EVF_FLUSH (R449). -/
def execEvfFlush (s : State) : Host.Outcome State Fault Refusal := done s (if s.dev.alive then s.dev.startOne R.EVF_CTL 1#32 else s.dev)

/-- EV_SW_RAISE (R451). -/
def execEvSwRaise (bits : BitVec 6) (s : State) : Host.Outcome State Fault Refusal :=
  done s (if s.dev.alive then s.dev.startOne R.EV_SW (BitVec.ofNat 32 bits.toNat) else s.dev)

/-- DMA_TRANSFER (R454). -/
def execDmaTransfer (n : Fin 8) (s : State) : Host.Outcome State Fault Refusal := done s (s.dev.dmaServe n)

/-- DMA_CTL_WRITE (R454). -/
def execDmaCtlWrite (n : Fin 8) (w : Word) (s : State) : Host.Outcome State Fault Refusal :=
  done s (if s.dev.alive then (s.dev.dmaCtl n w).2 else s.dev)

end Sys2Proof.Machine
end

