-- ==== Sys2Proof/Machine/Clock.lean ====
section
/-!
DEFINITION. The passing of time with no command waiting: one microsecond, or one 32.768 kHz tick in keep-alive (R444), and the counters that the spec
gives no command of their own (R77, R139, R159, R172, R190, R252, R274, R410, R425, R441).
-/
namespace Sys2Proof.Machine

/-- A count of microseconds below a unit of `n`, one further; whether the unit is full. -/
def usStep (n v : Nat) : Bool × Nat := if v + 1 < n then (false, v + 1) else (true, 0)

/-- The absence of the logic die, in whole milliseconds (R159). -/
def Dev.absentTick (d : Dev) : Dev :=
  if !d.pw.absent then d
  else
    let x := usStep 1000 d.sys.absentUs
    ((d.putSys { d.sys with absentUs := x.2 })).onlyIf x.1 fun d => d.incSat F.HOLD_STAT_ABSENT_MS

/-- SYS out of window (R139), and the power path in OFF, DARK or RESERVE (R425), in whole milliseconds. -/
def Dev.windowTick (d : Dev) : Dev :=
  let x := usStep 1000 d.sys.oowUs
  let d := if d.sys.winSeen && !d.on F.SYS_STAT_IN_WIN then
      ((d.putSys { d.sys with oowUs := x.2 })).onlyIf x.1 fun d => d.incSat F.SYS_OOW_MS
    else d
  let st := d.f F.PATH_STAT_STATE
  let y := usStep 1000 d.sys.darkUs
  if st == 0 || st == 5 || st == 6 then
    ((d.putSys { d.sys with darkUs := y.2 })).onlyIf y.1 fun d => d.incSat F.AVL_DARK_MS
  else d

/-- The debounce of port `p` of the guards' numbering (R172). -/
def Dev.debounceTick (d : Dev) (p : Nat) : Dev :=
  if d.f (F.PORT_STAT_QSTATE p) != 1 then d
  else
    let x := usStep 1000 (vget d.port p).debUs
    (d.modPort (p + 1) fun q => { q with debUs := x.2 }).onlyIf x.1 fun d =>
      d.set (F.PORT_STAT_DEB_MS p) (min 100 (d.f (F.PORT_STAT_DEB_MS p) + 1))

/-- The charger's timer counts while the ceiling is above 0, at half rate in REDUCED_TEMP (R190). -/
def Dev.chargeTick (d : Dev) : Dev :=
  let p := d.f F.CHG_PHASE_PHASE
  match d.timerOf p with
  | none => d
  | some i =>
    if d.ceiling == 0 || (p == 8 && d.pw.clock % 2 == 1) then d
    else ((d.putChg { d.chg with timers := vset d.chg.timers i (vget d.chg.timers i + 1) })).keepTimer.showTimer

/-- The ages of the background passes, in whole hours (R410). -/
def Dev.ageTick (d : Dev) : Dev :=
  let x := usStep 3600000000 d.recov.scrubUs
  let y := usStep 3600000000 d.recov.slotUs
  let d := (d.putRecov { d.recov with scrubUs := x.2, slotUs := y.2 })
  (d.onlyIf x.1 fun d => d.ageTo F.BG_STAT_SCRUB_AGE_H (d.f F.BG_STAT_SCRUB_AGE_H + 1)).onlyIf y.1 fun d =>
    d.ageTo F.BG_STAT_SLOT_AGE_H (d.f F.BG_STAT_SLOT_AGE_H + 1)

/-- A life-cycle command that runs comes to its end (R420, R429). -/
def Dev.lcTick (d : Dev) : Dev :=
  if d.recov.lcUs == 0 then d
  else
    let n := d.recov.lcUs - 1
    (d.putRecov { d.recov with lcUs := n }).onlyIf (n == 0) fun d => d.set F.LC_STAT_BUSY 0

/-- What a running device counts in a microsecond: the steps of the self-tests (R124), the wait of failed lenses for spares (R311), 100 logic clocks of the
position (R274), a pass of the configuration scrub every 16 ms, which is the longest that R77 lets a pass take (assumption 68), the frame clock's TELEM every
millisecond (R252), a REQUEST that a WAIT put off (R236), and the service port's own timers (R253, R258). -/
def Dev.runTick (d : Dev) : Dev :=
  let d := ((d.windowTick.each 5 Dev.debounceTick).chargeTick).each 16 Dev.testTick
  let d := d.lensCounted d.lensTick
  let d := (d.each 2 Dev.askAgain).servTick
  let d := d.ptbTime (d.ptb.since + 100)
  let d := d.onlyIf (d.pw.clock % 1000 == 0) Dev.sendClock
  d.onlyIf (d.pw.clock % 16000 == 0) fun d => d.inc F.SCRUBSTAT_PASSES

/-- The device time, modulo its 48 bits (R444). -/
def timeWrap (t : Nat) : Nat := t % 2 ^ 48

/-- One microsecond, or one 32.768 kHz tick in keep-alive while VKA powers it; nothing moves in ship mode (R200, R204, R444, R473). A burst write applies up
to 5 words a microsecond (R441). -/
def Dev.idle (d : Dev) : Dev :=
  match d.pw.mode with
  | .ship => d
  | .keepAlive =>
    if d.pw.vkaLow then d
    else
      let n := d.pw.kaTicks + 1
      d.putPw { d.pw with kaTicks := n, time := timeWrap (d.pw.kaStart + n * 1000000 / 32768) }
  | .cycleHeld => (d.putPw { d.pw with time := timeWrap (d.pw.time + 1), clock := d.pw.clock + 1 })
  | .on =>
    let d := (d.putPw { d.pw with time := timeWrap (d.pw.time + 1), clock := d.pw.clock + 1 }).absentTick
    if !d.alive then d
    else
      let d := (d.applyBurst 5).ageTick.lcTick
      d.onlyIf d.running Dev.runTick

end Sys2Proof.Machine
end

