-- ==== Sys2Proof/Machine/Dispatch.lean ====
section
/-!
DEFINITION. One arm per command: its meaning.
-/
namespace Sys2Proof.Machine

/-- The effect of a command on everything but the queue. -/
def exec (i : Instr) (s : State) : Host.Outcome State Fault Refusal :=
  match i with
  | .logicDieAbsent => Sys2Proof.Machine.execLogicDieAbsent s
  | .imageLoad k => Sys2Proof.Machine.execImageLoad k s
  | .handback vSys code => Sys2Proof.Machine.execHandback vSys code s
  | .imgOpen force => Sys2Proof.Machine.execImgOpen force s
  | .imgdataWrite w => Sys2Proof.Machine.execImgdataWrite w s
  | .imgdataRead => Sys2Proof.Machine.execImgdataRead s
  | .imgaddrWrite w => Sys2Proof.Machine.execImgaddrWrite w s
  | .imgCheck force => Sys2Proof.Machine.execImgCheck force s
  | .imgCheckDone => Sys2Proof.Machine.execImgCheckDone s
  | .imgCommit force vBat => Sys2Proof.Machine.execImgCommit force vBat s
  | .commitRestart => Sys2Proof.Machine.execCommitRestart s
  | .imgConfirm force => Sys2Proof.Machine.execImgConfirm force s
  | .trialExpiry => Sys2Proof.Machine.execTrialExpiry s
  | .imgAbort force => Sys2Proof.Machine.execImgAbort force s
  | .liveWrite addr w => Sys2Proof.Machine.execLiveWrite addr w s
  | .configScrubError double sourceFails => Sys2Proof.Machine.execConfigScrubError double sourceFails s
  | .inactiveSlotCheck => Sys2Proof.Machine.execInactiveSlotCheck s
  | .vdrvUvlo => Sys2Proof.Machine.execVdrvUvlo s
  | .vdrvRecover => Sys2Proof.Machine.execVdrvRecover s
  | .courseCycleBoundary c q => Sys2Proof.Machine.execCourseCycleBoundary c q s
  | .peakCurrentTrip t ton => Sys2Proof.Machine.execPeakCurrentTrip t ton s
  | .maxOnExpiry t => Sys2Proof.Machine.execMaxOnExpiry t s
  | .dcmZeroCross t tfall => Sys2Proof.Machine.execDcmZeroCross t tfall s
  | .armingDone t ok => Sys2Proof.Machine.execArmingDone t ok s
  | .tileFailDetect t => Sys2Proof.Machine.execTileFailDetect t s
  | .forceFail t => Sys2Proof.Machine.execForceFail t s
  | .clearFail t => Sys2Proof.Machine.execClearFail t s
  | .shedStart c => Sys2Proof.Machine.execShedStart c s
  | .shedRampEnd c => Sys2Proof.Machine.execShedRampEnd c s
  | .addAll c => Sys2Proof.Machine.execAddAll c s
  | .shedHold c v => Sys2Proof.Machine.execShedHold c v s
  | .dumpEnergyLimit t => Sys2Proof.Machine.execDumpEnergyLimit t s
  | .tileTestStart t => Sys2Proof.Machine.execTileTestStart t s
  | .tileTestAdmit t => Sys2Proof.Machine.execTileTestAdmit t s
  | .tileTestEnd t r => Sys2Proof.Machine.execTileTestEnd t r s
  | .tileTestAbort t => Sys2Proof.Machine.execTileTestAbort t s
  | .deferredTimeout w => Sys2Proof.Machine.execDeferredTimeout w s
  | .crowbarTrip vSys => Sys2Proof.Machine.execCrowbarTrip vSys s
  | .cbClear c => Sys2Proof.Machine.execCbClear c s
  | .guardTrip p v amps filtered => Sys2Proof.Machine.execGuardTrip p v amps filtered s
  | .guardOcRetry p => Sys2Proof.Machine.execGuardOcRetry p s
  | .guardRearm p clear => Sys2Proof.Machine.execGuardRearm p clear s
  | .twinMismatch p => Sys2Proof.Machine.execTwinMismatch p s
  | .mirrorFault c => Sys2Proof.Machine.execMirrorFault c s
  | .mmClear c => Sys2Proof.Machine.execMmClear c s
  | .holdBatLow => Sys2Proof.Machine.execHoldBatLow s
  | .holdBatOk => Sys2Proof.Machine.execHoldBatOk s
  | .sysWindowChange vSys => Sys2Proof.Machine.execSysWindowChange vSys s
  | .surplusEnter st vSys => Sys2Proof.Machine.execSurplusEnter st vSys s
  | .surplusExit c => Sys2Proof.Machine.execSurplusExit c s
  | .portWindowChange p v => Sys2Proof.Machine.execPortWindowChange p v s
  | .sourceQualified p => Sys2Proof.Machine.execSourceQualified p s
  | .transferComplete => Sys2Proof.Machine.execTransferComplete s
  | .sourceLost p v => Sys2Proof.Machine.execSourceLost p v s
  | .shareStart => Sys2Proof.Machine.execShareStart s
  | .shareRelease pos => Sys2Proof.Machine.execShareRelease pos s
  | .batAssistStart => Sys2Proof.Machine.execBatAssistStart s
  | .chargeDwellExpiry => Sys2Proof.Machine.execChargeDwellExpiry s
  | .chargeSafetyTimerExpiry => Sys2Proof.Machine.execChargeSafetyTimerExpiry s
  | .chgClearFault => Sys2Proof.Machine.execChgClearFault s
  | .chgProbe => Sys2Proof.Machine.execChgProbe s
  | .probeTimer => Sys2Proof.Machine.execProbeTimer s
  | .probeEnd v => Sys2Proof.Machine.execProbeEnd v s
  | .batteryRemoval det => Sys2Proof.Machine.execBatteryRemoval det s
  | .energyAccountTick vBat iBat => Sys2Proof.Machine.execEnergyAccountTick vBat iBat s
  | .energyRetain => Sys2Proof.Machine.execEnergyRetain s
  | .reserveRelease => Sys2Proof.Machine.execReserveRelease s
  | .reserveRestore => Sys2Proof.Machine.execReserveRestore s
  | .keepaliveEntry => Sys2Proof.Machine.execKeepaliveEntry s
  | .shipArm => Sys2Proof.Machine.execShipArm s
  | .shipCancel => Sys2Proof.Machine.execShipCancel s
  | .shipEntry => Sys2Proof.Machine.execShipEntry s
  | .wake by_ => Sys2Proof.Machine.execWake by_ s
  | .btnShortPress ms => Sys2Proof.Machine.execBtnShortPress ms s
  | .btnLongPress => Sys2Proof.Machine.execBtnLongPress s
  | .btnPowerCycle => Sys2Proof.Machine.execBtnPowerCycle s
  | .powerCycleRelease => Sys2Proof.Machine.execPowerCycleRelease s
  | .statSlot => Sys2Proof.Machine.execStatSlot s
  | .ringHelloRx sg f => Sys2Proof.Machine.execRingHelloRx sg f s
  | .ringPingRx sg f => Sys2Proof.Machine.execRingPingRx sg f s
  | .ringAckRx sg f => Sys2Proof.Machine.execRingAckRx sg f s
  | .ringNakRx sg f => Sys2Proof.Machine.execRingNakRx sg f s
  | .ringTelemRx sg f => Sys2Proof.Machine.execRingTelemRx sg f s
  | .ringOfferRx sg f => Sys2Proof.Machine.execRingOfferRx sg f s
  | .ringRequestRx sg f ans => Sys2Proof.Machine.execRingRequestRx sg f ans s
  | .ringAcceptRx sg f => Sys2Proof.Machine.execRingAcceptRx sg f s
  | .ringRejectRx sg f => Sys2Proof.Machine.execRingRejectRx sg f s
  | .ringWaitRx sg f => Sys2Proof.Machine.execRingWaitRx sg f s
  | .ringReadyRx sg f => Sys2Proof.Machine.execRingReadyRx sg f s
  | .ringHardcloseRx sg f => Sys2Proof.Machine.execRingHardcloseRx sg f s
  | .ringSwapReqRx sg f ok => Sys2Proof.Machine.execRingSwapReqRx sg f ok s
  | .ringSwapAckRx sg f => Sys2Proof.Machine.execRingSwapAckRx sg f s
  | .ringFlowOpenRx sg f ans => Sys2Proof.Machine.execRingFlowOpenRx sg f ans s
  | .ringFlowUpdateRx sg f => Sys2Proof.Machine.execRingFlowUpdateRx sg f s
  | .ringFlowCloseRx sg f => Sys2Proof.Machine.execRingFlowCloseRx sg f s
  | .ringEmergRx sg f crcOk use => Sys2Proof.Machine.execRingEmergRx sg f crcOk use s
  | .ringUnknownTypeRx sg f typ => Sys2Proof.Machine.execRingUnknownTypeRx sg f typ s
  | .ringAckTimeout sg => Sys2Proof.Machine.execRingAckTimeout sg s
  | .ringBusyRetry sg => Sys2Proof.Machine.execRingBusyRetry sg s
  | .ringCollision sg => Sys2Proof.Machine.execRingCollision sg s
  | .ringBackoffEnd sg idle => Sys2Proof.Machine.execRingBackoffEnd sg idle s
  | .ringHelloTimer sg => Sys2Proof.Machine.execRingHelloTimer sg s
  | .ringLostHoldEnd sg => Sys2Proof.Machine.execRingLostHoldEnd sg s
  | .ringPingTimer sg => Sys2Proof.Machine.execRingPingTimer sg s
  | .routeEntryExpiry a => Sys2Proof.Machine.execRouteEntryExpiry a s
  | .ringRelink sg => Sys2Proof.Machine.execRingRelink sg s
  | .ringHardcloseCmd sg => Sys2Proof.Machine.execRingHardcloseCmd sg s
  | .emergSend => Sys2Proof.Machine.execEmergSend s
  | .emergRepeat => Sys2Proof.Machine.execEmergRepeat s
  | .policyOffer sg act => Sys2Proof.Machine.execPolicyOffer sg act s
  | .contractReadySend sg v => Sys2Proof.Machine.execContractReadySend sg v s
  | .offerLapse sg => Sys2Proof.Machine.execOfferLapse sg s
  | .readyTimeout sg => Sys2Proof.Machine.execReadyTimeout sg s
  | .reofferTimeout sg => Sys2Proof.Machine.execReofferTimeout sg s
  | .swapReqTimeout sg => Sys2Proof.Machine.execSwapReqTimeout sg s
  | .flowTick => Sys2Proof.Machine.execFlowTick s
  | .flowReserveTimeout k => Sys2Proof.Machine.execFlowReserveTimeout k s
  | .frameClockAbsent => Sys2Proof.Machine.execFrameClockAbsent s
  | .servAttach cc2 v wish => Sys2Proof.Machine.execServAttach cc2 v wish s
  | .servPrebiasTimeout => Sys2Proof.Machine.execServPrebiasTimeout s
  | .servDetach => Sys2Proof.Machine.execServDetach s
  | .pdDrpToggle => Sys2Proof.Machine.execPdDrpToggle s
  | .pdSourceCapsRx caps => Sys2Proof.Machine.execPdSourceCapsRx caps s
  | .pdRequestRx n k => Sys2Proof.Machine.execPdRequestRx n k s
  | .pdPsRdySend v => Sys2Proof.Machine.execPdPsRdySend v s
  | .pdEprEntry own => Sys2Proof.Machine.execPdEprEntry own s
  | .pdPrSwap own partner => Sys2Proof.Machine.execPdPrSwap own partner s
  | .pdDrSwap own partner => Sys2Proof.Machine.execPdDrSwap own partner s
  | .pdVconnSwap own partner => Sys2Proof.Machine.execPdVconnSwap own partner s
  | .pdFrSwapRx => Sys2Proof.Machine.execPdFrSwapRx s
  | .pdUnsupportedVdmRx => Sys2Proof.Machine.execPdUnsupportedVdmRx s
  | .pdHardReset own => Sys2Proof.Machine.execPdHardReset own s
  | .vconnOvercurrent => Sys2Proof.Machine.execVconnOvercurrent s
  | .portDischargeEnd p => Sys2Proof.Machine.execPortDischargeEnd p s
  | .ptbStep q ivl => Sys2Proof.Machine.execPtbStep q ivl s
  | .quadratureError held => Sys2Proof.Machine.execQuadratureError held s
  | .qzClear t held => Sys2Proof.Machine.execQzClear t held s
  | .ptbStall => Sys2Proof.Machine.execPtbStall s
  | .ptbSet => Sys2Proof.Machine.execPtbSet s
  | .ptbFracRead t => Sys2Proof.Machine.execPtbFracRead t s
  | .slotFire t => Sys2Proof.Machine.execSlotFire t s
  | .slotPosfWrite k t frac => Sys2Proof.Machine.execSlotPosfWrite k t frac s
  | .timerOverflow n => Sys2Proof.Machine.execTimerOverflow n s
  | .timerMatch n => Sys2Proof.Machine.execTimerMatch n s
  | .timerCapture n => Sys2Proof.Machine.execTimerCapture n s
  | .timerStart n => Sys2Proof.Machine.execTimerStart n s
  | .timerStop n => Sys2Proof.Machine.execTimerStop n s
  | .timerReset n => Sys2Proof.Machine.execTimerReset n s
  | .timerUpdate n => Sys2Proof.Machine.execTimerUpdate n s
  | .timerPeriodCmpWrite n cmp v => Sys2Proof.Machine.execTimerPeriodCmpWrite n cmp v s
  | .timerCntWrite n v => Sys2Proof.Machine.execTimerCntWrite n v s
  | .lensOutputChange n uv => Sys2Proof.Machine.execLensOutputChange n uv s
  | .lensThWrite n lo hi => Sys2Proof.Machine.execLensThWrite n lo hi s
  | .lensCheckRequest n => Sys2Proof.Machine.execLensCheckRequest n s
  | .lensCheckAdmit n => Sys2Proof.Machine.execLensCheckAdmit n s
  | .lensCheckEnd n rs => Sys2Proof.Machine.execLensCheckEnd n rs s
  | .lensCheckAbort n => Sys2Proof.Machine.execLensCheckAbort n s
  | .lensAutoCheck => Sys2Proof.Machine.execLensAutoCheck s
  | .lensRestore n => Sys2Proof.Machine.execLensRestore n s
  | .thermalRound rs => Sys2Proof.Machine.execThermalRound rs s
  | .sensorBroken n => Sys2Proof.Machine.execSensorBroken n s
  | .sensorClear n => Sys2Proof.Machine.execSensorClear n s
  | .sensorStandin n => Sys2Proof.Machine.execSensorStandin n s
  | .throttleStepTimer z => Sys2Proof.Machine.execThrottleStepTimer z s
  | .zoneFloorWrite z v => Sys2Proof.Machine.execZoneFloorWrite z v s
  | .pdThermalTrip a b => Sys2Proof.Machine.execPdThermalTrip a b s
  | .pdThermalRelease a b => Sys2Proof.Machine.execPdThermalRelease a b s
  | .ldThermalTrip a b => Sys2Proof.Machine.execLdThermalTrip a b s
  | .ldThermalRelease a b => Sys2Proof.Machine.execLdThermalRelease a b s
  | .wdtWindowOpen => Sys2Proof.Machine.execWdtWindowOpen s
  | .wdtTimeout => Sys2Proof.Machine.execWdtTimeout s
  | .wdtCheckin id o => Sys2Proof.Machine.execWdtCheckin id o s
  | .wdtService echo tok o => Sys2Proof.Machine.execWdtService echo tok o s
  | .wdtClockStop => Sys2Proof.Machine.execWdtClockStop s
  | .wdtForce => Sys2Proof.Machine.execWdtForce s
  | .wdoPulseEnd => Sys2Proof.Machine.execWdoPulseEnd s
  | .capOpen cause => Sys2Proof.Machine.execCapOpen cause s
  | .capClose cause => Sys2Proof.Machine.execCapClose cause s
  | .captureWindowMax => Sys2Proof.Machine.execCaptureWindowMax s
  | .captureFrame => Sys2Proof.Machine.execCaptureFrame s
  | .capEnWrite en => Sys2Proof.Machine.execCapEnWrite en s
  | .commitStart => Sys2Proof.Machine.execCommitStart s
  | .nandPageProgrammed ok => Sys2Proof.Machine.execNandPageProgrammed ok s
  | .nandEraseDone ok => Sys2Proof.Machine.execNandEraseDone ok s
  | .nandAttach q => Sys2Proof.Machine.execNandAttach q s
  | .logRecovery q lost => Sys2Proof.Machine.execLogRecovery q lost s
  | .nandPatrol block corr uncorr last => Sys2Proof.Machine.execNandPatrol block corr uncorr last s
  | .recFetch k => Sys2Proof.Machine.execRecFetch k s
  | .recFetchDone corr r => Sys2Proof.Machine.execRecFetchDone corr r s
  | .recDataRead => Sys2Proof.Machine.execRecDataRead s
  | .nvdataWrite w => Sys2Proof.Machine.execNvdataWrite w s
  | .nvdataRead => Sys2Proof.Machine.execNvdataRead s
  | .mramScrub rows uncorr last => Sys2Proof.Machine.execMramScrub rows uncorr last s
  | .flogSelect n => Sys2Proof.Machine.execFlogSelect n s
  | .flowSelect k => Sys2Proof.Machine.execFlowSelect k s
  | .prismTselWrite src => Sys2Proof.Machine.execPrismTselWrite src s
  | .prismTmeanRead => Sys2Proof.Machine.execPrismTmeanRead s
  | .meterTick q => Sys2Proof.Machine.execMeterTick q s
  | .vlogicBrownoutWarn => Sys2Proof.Machine.execVlogicBrownoutWarn s
  | .vlogicBrownoutReset cut => Sys2Proof.Machine.execVlogicBrownoutReset cut s
  | .nrst => Sys2Proof.Machine.execNrst s
  | .powerOn => Sys2Proof.Machine.execPowerOn s
  | .funcSafePoint f => Sys2Proof.Machine.execFuncSafePoint f s
  | .bgCtlWrite w slotBusy scrubBusy => Sys2Proof.Machine.execBgCtlWrite w slotBusy scrubBusy s
  | .bgAgeAlarm scrub => Sys2Proof.Machine.execBgAgeAlarm scrub s
  | .adcCalRequest u => Sys2Proof.Machine.execAdcCalRequest u s
  | .adcCalAdmit u load => Sys2Proof.Machine.execAdcCalAdmit u load s
  | .adcCalEnd u pass => Sys2Proof.Machine.execAdcCalEnd u pass s
  | .lcAdvance key target cut => Sys2Proof.Machine.execLcAdvance key target cut s
  | .lcWriteKey key slot => Sys2Proof.Machine.execLcWriteKey key slot s
  | .lcRevokeKey key slot => Sys2Proof.Machine.execLcRevokeKey key slot s
  | .lcFuse key arg => Sys2Proof.Machine.execLcFuse key arg s
  | .lcInvalidOp op key arg => Sys2Proof.Machine.execLcInvalidOp op key arg s
  | .hostNop addr => Sys2Proof.Machine.execHostNop addr s
  | .hostRead addr r => Sys2Proof.Machine.execHostRead addr r s
  | .hostWrite addr w x => Sys2Proof.Machine.execHostWrite addr w x s
  | .burstRd addr blen r n => Sys2Proof.Machine.execBurstRd addr blen r n s
  | .burstRdInc addr blen r n => Sys2Proof.Machine.execBurstRdInc addr blen r n s
  | .burstWr addr blen words crc x => Sys2Proof.Machine.execBurstWr addr blen words crc x s
  | .burstWrApplied => Sys2Proof.Machine.execBurstWrApplied s
  | .hostRepeat addr => Sys2Proof.Machine.execRepeat addr s
  | .hostFrameReject x => Sys2Proof.Machine.execHostFrameReject x s
  | .ncsFrameCut rise => Sys2Proof.Machine.execNcsFrameCut rise s
  | .registerWrite o op w x => Sys2Proof.Machine.execRegisterWrite o op w x s
  | .timeLoRead => Sys2Proof.Machine.execTimeLoRead s
  | .timeSetlWrite w => Sys2Proof.Machine.execTimeSetlWrite w s
  | .evfData0Read => Sys2Proof.Machine.execEvfData0Read s
  | .evfFlush => Sys2Proof.Machine.execEvfFlush s
  | .evSwRaise bits => Sys2Proof.Machine.execEvSwRaise bits s
  | .dmaTransfer n => Sys2Proof.Machine.execDmaTransfer n s
  | .dmaCtlWrite n w => Sys2Proof.Machine.execDmaCtlWrite n w s
  | .dbgOpen => Sys2Proof.Machine.execDbgOpen s
  | .debugHalt => Sys2Proof.Machine.execDebugHalt s
  | .pdPsRdyRx => Sys2Proof.Machine.execPdPsRdyRx s
  | .cableIdentityDiscovered vMax iMax eprOk => Sys2Proof.Machine.execCableIdentityDiscovered vMax iMax eprOk s
  | .pdEprExit own => Sys2Proof.Machine.execPdEprExit own s
  | .ringFrameDrop sg bytes violation => Sys2Proof.Machine.execRingFrameDrop sg bytes violation s
  | .ringLineIdle sg => Sys2Proof.Machine.execRingLineIdle sg s
  | .sinktxChange ok => Sys2Proof.Machine.execSinktxChange ok s
  | .batWindowDebounce => Sys2Proof.Machine.execBatWindowDebounce s
  | .nbtnRelease ms => Sys2Proof.Machine.execNbtnRelease ms s
  | .guardDirectionChange p => Sys2Proof.Machine.execGuardDirectionChange p s
  | .guardRetryWindowExpiry p => Sys2Proof.Machine.execGuardRetryWindowExpiry p s
  | .timerTick n => Sys2Proof.Machine.execTimerTick n s
  | .wdtTick => Sys2Proof.Machine.execWdtTick s
  | .debugResume => Sys2Proof.Machine.execDebugResume s
  | .customerTaskFault => Sys2Proof.Machine.execCustomerTaskFault s

end Sys2Proof.Machine
end

