-- ==== Sys2Proof/Safety.lean ====
section
/-!
DEFINITION. The terms that claims are stated in: what a command changes and what it leaves, the memories' canonical form, and the properties of a
state that every step leaves true.
-/
namespace Sys2Proof.Machine

/-! ### What a command leaves unchanged -/

/-- Two fields share no bit. -/
def Field.apart (x y : Field) : Bool :=
  x.addr != y.addr || decide (x.lo + x.width ≤ y.lo) || decide (y.lo + y.width ≤ x.lo)

/-- A whole register as one field. -/
def whole (a : Nat) : Field := ⟨a, 0, 32⟩

/-- The parts of the state that no register shows, as a claim names them. -/
inductive Part where
  | faults | free | pw | balls | slots | boot | live | keys | host | ev | img | tile | fmap | course | sys | port | path | chg | ret | log
  | lamp | ring | serv | ptb | slotPos | gtSet | lens | sensor | wdt | prism | cap | nand | recov | tap | nv | sram | readData
deriving DecidableEq, Repr

/-- The device without its registers, its raises, and the parts listed. -/
def Dev.rest (ps : List Part) (d : Dev) : Dev :=
  { regs := [], raised := []
    faults := if ps.contains .faults then [] else d.faults
    freeCount := if ps.contains .free then 0 else d.freeCount
    pw := if ps.contains .pw then {} else d.pw
    balls := if ps.contains .balls then {} else d.balls
    slots := if ps.contains .slots then Vector.replicate 2 {} else d.slots
    boot := if ps.contains .boot then {} else d.boot
    live := if ps.contains .live then {} else d.live
    keys := if ps.contains .keys then Vector.replicate 4 {} else d.keys
    host := if ps.contains .host then {} else d.host
    ev := if ps.contains .ev then {} else d.ev
    img := if ps.contains .img then {} else d.img
    tile := if ps.contains .tile then Vector.replicate 16 {} else d.tile
    fmap := if ps.contains .fmap then Vector.replicate 16 {} else d.fmap
    course := if ps.contains .course then Vector.replicate 6 {} else d.course
    sys := if ps.contains .sys then {} else d.sys
    port := if ps.contains .port then Vector.replicate 5 {} else d.port
    path := if ps.contains .path then {} else d.path
    chg := if ps.contains .chg then {} else d.chg
    ret := if ps.contains .ret then {} else d.ret
    log := if ps.contains .log then {} else d.log
    lamp := if ps.contains .lamp then Vector.replicate 2 {} else d.lamp
    ring := if ps.contains .ring then {} else d.ring
    serv := if ps.contains .serv then {} else d.serv
    ptb := if ps.contains .ptb then {} else d.ptb
    slotPos := if ps.contains .slotPos then Vector.replicate 32 0 else d.slotPos
    gtSet := if ps.contains .gtSet then [] else d.gtSet
    lens := if ps.contains .lens then Vector.replicate 24 {} else d.lens
    sensor := if ps.contains .sensor then Vector.replicate 12 {} else d.sensor
    wdt := if ps.contains .wdt then {} else d.wdt
    prism := if ps.contains .prism then {} else d.prism
    cap := if ps.contains .cap then {} else d.cap
    nand := if ps.contains .nand then {} else d.nand
    recov := if ps.contains .recov then {} else d.recov
    tap := if ps.contains .tap then {} else d.tap
    nv := if ps.contains .nv then [] else d.nv
    sram := if ps.contains .sram then [] else d.sram
    readData := if ps.contains .readData then 0 else d.readData }

/-- `e` is `d` but for the fields `fs` and the parts `ps`: every field of any register that shares no bit with one of `fs` reads as before, and
every other part of the state is the same. -/
def keeps (fs : List Field) (ps : List Part) (d e : Dev) : Prop :=
  (∀ y : Field, fs.all (fun x => y.apart x) = true → e.f y = d.f y) ∧ e.rest ps = d.rest ps

/-- The command completes. It changes the fields `fs` and the parts `ps` and nothing else, raises the events `evs` (bank × 32 + source) at the
device time and no others, and then its events are delivered (`finish`), which gives the device of the next state; `P` holds of that device. The
queue is as it was. -/
def effect (i : Instr) (s : State) (fs : List Field) (ps : List Part) (evs : List Nat) (P : Dev → Prop) : Prop :=
  ∃ e : Dev, exec i s = .next { s with dev := finish e } ∧ keeps fs ps s.dev e ∧
    e.raised = s.dev.raised ++ evs.map (fun n => (n, s.dev.pw.time)) ∧ P (finish e)

/-- The command completes, the queue is as it was, and `P` holds of the device of the next state. -/
def leads (i : Instr) (s : State) (P : Dev → Prop) : Prop := ∃ t : State, exec i s = .next t ∧ t.pending = s.pending ∧ P t.dev

/-- The fields that change when course `c` takes mode NONE: its mode, run state, demand, references and share, and of its tiles what a stop takes back: the
offsets of a pending re-stagger and the code (R143, R178). -/
def stopFields (d : Dev) (c : Nat) : List Field :=
  [F.PATH_STAT_SHARERS, F.C_STAT_STAGGER_PEND c, F.C_STAT_SHED_ST c, F.C_MODE_MODE c, F.C_RSTAT_DELIVER c, F.C_RSTAT_START_ST c, F.C_RSTAT_ACTIVE c,
   F.C_RSTAT_TRACK_WAIT c, F.C_DEMAND_D c, F.C_DEMAND_CODE c, F.C_REF_REF c, F.C_REF_FINAL c] ++
  (d.tilesOf c).flatMap fun t => [F.TILE_PHASE_NEXT_V t, F.TILE_PHASE_NEXT t, F.TILE_IPK_DAC t]

/-- The fields that change when course `c` leaves mode NONE (R141). -/
def startFields (c : Nat) : List Field :=
  [F.C_MODE_MODE c, F.C_RSTAT_DIR c, F.C_REF_FINAL c, F.C_REF_REF c, F.C_DEMAND_D c, F.C_RSTAT_ACTIVE c, F.C_RSTAT_START_ST c]

/-- Course `c` stands alone: no course tracks it, it sheds no tile, no self-test runs, and no stand-in waits to be announced. -/
abbrev Dev.lone (d : Dev) (c : Nat) : Prop :=
  d.followers c = [] ∧ (vget d.course c).shedTile = none ∧ ∀ t : Fin 16, d.f (F.TILE_TEST_RESULT t) ≠ 1 ∧ (vget d.tile t).announce = false

/-- Course `c` has stopped in `e`: mode NONE, demand 0, its tiles that ran or were shed told to enter ARMED, their codes 0 (R143). -/
def Dev.stopped (d e : Dev) (c : Nat) : Prop :=
  e.f (F.C_MODE_MODE c) = 0 ∧ e.delivers c = false ∧ e.f (F.C_DEMAND_D c) = 0 ∧
  ∀ t : Fin 16, t.val ∈ d.tilesOf c → within 3 4 (d.tst t) = true → (vget e.tile t).next = some 2 ∧ e.f (F.TILE_IPK_DAC t) = 0

/-- Every field of any register that shares no bit with one of `fs` reads its reset value (R465). -/
def resetBut (fs : List Field) (e : Dev) : Prop :=
  ∀ y : Field, fs.all (fun x => y.apart x) = true → e.f y = y.read (resetWord y.addr)

/-- `e` is `d` after both dies lost power, or were held in reset, in mode `m`: every port FET open, every gate off, the lamps released, the hold loop
stopped, the ring passed through, Rd at the CC balls, the energy account retained, the device time as it was (R200, R204, R207, R482). -/
def Dev.poweredDown (d e : Dev) (m : PowerMode) : Prop :=
  e.pw.mode = m ∧ e.alive = false ∧ e.pw.absent = true ∧ e.pw.coreRuns = false ∧ (∀ p : Fin 5, e.f (F.GUARD_STAT_FET_ON p) = 0) ∧
  (∀ t : Fin 16, (vget e.tile t).gates = .off) ∧ e.f F.STAT_CTL_PAT0 = 0 ∧ e.f F.STAT_CTL_PAT1 = 0 ∧ e.sys.holdRuns = false ∧
  e.ring.passThrough = true ∧ e.serv.rp = false ∧ e.ret.eAvail = d.f F.CHG_ENERGY_E_AVAIL ∧ e.pw.time = d.pw.time

/-- `e` is `d` after a reset of both dies that records `cause`: powered on, the logic die in reset and absent, the power die's own latches and counts and
the hold map started again, the memories and the voltages at the balls as they were (R147, R406, R427). -/
def Dev.poweredUp (d e : Dev) (cause : Nat) : Prop :=
  e.pw.mode = .on ∧ e.pw.inReset = true ∧ e.pw.absent = true ∧ e.pw.resetCause = cause ∧ e.balls = { node := d.balls.node } ∧ e.f F.PATH_STAT_STATE = 0 ∧
  (∀ c : Fin 6, e.f (F.C_PCTL_CB_LATCH c) = 0) ∧ (∀ p : Fin 5, e.f (F.GUARD_STAT_LATCHED p) = 0) ∧ e.f F.THERM_HW_PD_SHUTS = 0 ∧ e.sys.holdMap = [] ∧
  e.f F.RSTCAUSE_RESTARTS = 0 ∧ e.f F.RSTCAUSE_PREV = 0 ∧ e.nv = d.nv ∧ e.slots = d.slots

/-- `e` is `d` with the logic die held in reset with `cause`: the fields of R465 and the memories as they were, E_AVAIL at its retained value, every other
field at its reset value, but the log store CLOSED in RETURN, the device time as it was (R406, R422, R465). -/
def Dev.resetHeld (d e : Dev) (cause : Nat) : Prop :=
  e.alive = false ∧ e.pw.resetCause = cause ∧ e.pw.coreRuns = false ∧ e.pw.time = d.pw.time ∧
  resetBut (F.CHG_ENERGY_E_AVAIL :: F.NAND_STAT_STATE :: keptFields) e ∧ (∀ y ∈ keptFields, e.f y = d.f y) ∧
  e.f F.NAND_STAT_STATE = (if d.f F.LC_STAT_STATE = 3 then 5 else 0) ∧
  e.f F.CHG_ENERGY_E_AVAIL = d.ret.eAvail % 65536 ∧ e.nv = d.nv ∧ e.slots = d.slots ∧ e.log = d.log ∧ e.fmap = d.fmap

/-- The bytes of a memory after the word `w` has been stored at `a`, least significant byte first: every other byte is as it was. -/
def wordStored (old new : Nat → Byte) (a : Nat) (w : Word) : Prop :=
  ∀ b : Nat, new b = if a ≤ b ∧ b < a + 4 then BitVec.ofNat 8 (w.toNat / 256 ^ (b - a)) else old b

/-- No spare lens serves another, no lens waits for one, and no course, charger or timer takes the level of lens `n`: what happens to lens `n` concerns it
alone. -/
abbrev Dev.lensAlone (d : Dev) (n : Nat) : Prop :=
  within 2 3 (d.f F.LENS_SPARE_USE22) = false ∧ within 2 3 (d.f F.LENS_SPARE_USE23) = false ∧ (∀ k : Fin 24, d.f (F.LENS_STAT_UNAVAIL k) = 0) ∧
  (∀ c : Fin 6, d.f (F.C_SHED_STEP_LENS c) ≠ n) ∧ (∀ k : Fin 12, d.f (F.GT_CFG_CAPSRC k) ≠ n) ∧ d.f F.CHG_CFG_BAL_LENS ≠ n ∧ d.f (F.LENS_STAT_STANDIN_V n) = 0

/-- No sensor is assigned to a zone, and the battery's gives no reading. -/
abbrev Dev.noZones (d : Dev) : Prop :=
  (∀ k : Fin 12, 4 ≤ d.f (F.TS_MAP_ZONE k)) ∧ d.f (F.TS_VAL_VALID d.batterySensor) = 0

/-- The word `w` is the four bytes at `a` of slot `k`, least significant first. -/
def Dev.slotWordIs (d : Dev) (k a : Nat) (w : Word) : Prop :=
  ∀ i : Fin 4, BitVec.ofNat 8 (w.toNat / 256 ^ i.val) = Mem.byte (vget d.slots k).bytes (a + i)

/-- Nothing is left to deliver: no event waits, and no window's open or close has been asked for. -/
abbrev Dev.quiet (d : Dev) : Prop := d.raised = [] ∧ d.cap.wantOpen = none ∧ d.cap.wantClose = none

/-- The host port takes a frame for address `a`: it runs, no burst write waits, and `a` is aligned (R436, R439). -/
abbrev Dev.takesFrames (d : Dev) (a : Nat) : Prop := d.alive = true ∧ d.pw.hostReady = true ∧ d.host.burst = [] ∧ a % 4 = 0

/-- What waited has been shifted out with its code in LAST_CODE, code 0Ah where nothing waited, and response `r` waits (R435, R436). -/
def Dev.replied (d e : Dev) (r : Response) : Prop :=
  e.host.pending = some r ∧ e.host.first = false ∧ e.f F.HOST_STAT_LAST_CODE = ((d.host.pending.map Response.status).getD 0x0A) % 64

/-! ### What the end of a command changes (R446 to R454, R369 to R371, R390) -/

/-- The fields that the delivery of events and the counts that follow the rest of the state may change: pending bits, losses and overruns, the
capture window that an event opens or closes, the fault log, and the status fields that follow from other state. -/
def endFields : List Field :=
  (List.range 6).map F.EVB_PEND_PEND ++ (List.range 8).map F.DMA_STAT_OVERRUN ++
  [F.EVF_STAT_LOST, F.EVF_STAT_COUNT, F.FLOG_STAT_NEWEST, F.FLOG_STAT_FIRST, F.CAP_CYCLE_CYCLE, F.CAP_STAT_STATE_A, F.CAP_STAT_STATE_B,
   F.CAP_STAT_OPEN, F.CAP_STAT_HALF, F.CAP_FRAMES_FRAMES, F.CAP_CNT_WINDOWS, F.CAP_CNT_MISSED, F.LOG_TAIL_OLDEST, F.NAND_STAT_STATE,
   F.SYSCFG_COMPAT, F.SYSCFG_PWR_DIE_OK, F.SYS_STAT_CB_ANY, F.SYS_STAT_BELOW_MIN, F.PATH_STAT_HOT,
   F.PATH_STAT_RETURN_PEND, F.PORT_STAT_CONTRACT 0] ++
  (List.range 5).map F.PORT_STAT_LIMITED ++
  (List.range 6).flatMap fun c => [F.C_STAT_HEALTHY c, F.C_STAT_WORKCFG c, F.C_STAT_RUNNING c, F.C_STAT_LIMIT_CUT c, F.C_STAT_SPARE_ARMING c,
    F.C_STAT_NO_SPARE c, F.C_STAT_TEST_ACTIVE c, F.C_STAT_COURSE_FAIL c]

/-- The parts that the delivery of events may change; of the power state and the balls, only the interrupt and wake outputs. -/
def endParts : List Part := [.faults, .free, .ev, .log, .cap, .nand]

/-- The power state and the balls without the outputs to the core and the host's interrupt balls. -/
def Dev.still (d : Dev) : Dev :=
  { d with pw := { d.pw with coreInt := false, coreWake := false }, balls := { d.balls with nInt0 := false, nInt1 := false } }

/-- Event `n` is pending (R446). -/
def Dev.pendingEvent (d : Dev) (n : Nat) : Bool := d.fbit (F.EVB_PEND_PEND (n / 32)) (n % 32)

/-- What a position command needs so that its own rule alone acts: no slot is enabled, no timer counts or captures position steps, and neither the telemetry
counters nor a capture channel takes the position. -/
abbrev Dev.bare (d : Dev) : Prop :=
  (∀ k : Fin 32, d.f (F.SLOT_MAP_EN k) = 0) ∧ (∀ k : Fin 12, d.f (F.GT_MAP_CLOCK k) ≠ 1 ∧ d.f (F.GT_CFG_CAPSRC k) ≠ 25) ∧
  d.f F.PRISM_TSEL_SOURCE ≠ 0x58 ∧ d.f F.CAP_CFG_CHANNELS = 0

/-! ### Memories and interrupts -/

/-- What a reader of one byte of user NV, of core SRAM, or of an image slot finds. -/
def Dev.nvByte (d : Dev) (a : Nat) : Byte := Mem.byte d.nv a
def Dev.sramByte (d : Dev) (a : Nat) : Byte := Mem.byte d.sram a
def Dev.slotByte (d : Dev) (k a : Nat) : Byte := Mem.byte (vget d.slots k).bytes a

/-- The memories of the block are in their canonical form: user NV, core SRAM, both image slots, and the register file. -/
def Memory.wf (d : Dev) : Bool :=
  Mem.wf d.nv && Mem.wf d.sram && (d.slots.toList.all fun s => Mem.wf s.bytes) && Sparse.wf resetWord d.regs

/-- The interrupt balls and the core interrupt follow the pending bits under their masks; all are released while the logic die is absent (R447, R448). -/
abbrev intsFollow (d : Dev) : Prop :=
  d.balls.nInt0 = ((d.alive && !d.pw.absent) && d.anyPending R.EVB_INT0) ∧
  d.balls.nInt1 = ((d.alive && !d.pw.absent) && d.anyPending R.EVB_INT1) ∧
  d.pw.coreInt = ((d.alive && !d.pw.absent) && d.anyPending R.EVB_CORE)

end Sys2Proof.Machine
end

