-- ==== Sys2Proof/Certificates/Slice0/Obligations.lean ====
section
/-!
DEFINITION. The statements for the provers: what each command of the block does and leaves, by the spec's rules, and what holds of the whole machine.
-/
open Sys2Proof Sys2Proof.Machine

/-! ### Timers (R284 to R292) -/

/-- R287 to R289: START sets RUNNING, STOP clears it and holds the count, RESET sets the count to 0 and loads the shadows, UPDATE loads the shadows,
a count written stands, and a PERIOD or a compare value written goes to its shadow with PEND, or with SHADOW clear becomes ACTIVE at once. Each
leaves everything else as it was and raises nothing.

R285, R290 to R292: a tick of a running timer with a count below PERIOD, at no match, adds 1 and nothing else; the tick at PERIOD overflows: the
count becomes 0, OVF sets, the shadows load, the timer's event is raised; the tick that reaches the compare value matches; an edge of the capture
input copies the count. An overflow and a match set their bit and raise the timer's event whatever the timer acts on and drives; what they leave
unchanged is stated for a timer that delivers no action then and drives no other timer. A clause that meets a point the rules leave open takes the reading of log entries 39 and 76, the model's choice. -/
def Obligations.Timers : Prop :=
  (∀ (n : Fin 12) (v : BitVec 16) (s : State), s.dev.alive = true →
     (effect (.timerStart n) s [F.GT_CTL_RUNNING n] [] [] fun d => d.f (F.GT_CTL_RUNNING n) = 1) ∧
     (effect (.timerStop n) s [F.GT_CTL_RUNNING n] [] [] fun d => d.f (F.GT_CTL_RUNNING n) = 0) ∧
     (effect (.timerReset n) s [F.GT_CNT_COUNT n, F.GT_PERIOD_ACTIVE n, F.GT_CMP_ACTIVE n, F.GT_CTL_PEND n] [] [] fun d =>
       d.f (F.GT_CNT_COUNT n) = 0 ∧ d.f (F.GT_PERIOD_ACTIVE n) = s.dev.f (F.GT_PERIOD_PERIOD n) ∧
       d.f (F.GT_CMP_ACTIVE n) = s.dev.f (F.GT_CMP_CMP n) ∧ d.f (F.GT_CTL_PEND n) = 0) ∧
     (effect (.timerUpdate n) s [F.GT_PERIOD_ACTIVE n, F.GT_CMP_ACTIVE n, F.GT_CTL_PEND n] [] [] fun d =>
       d.f (F.GT_PERIOD_ACTIVE n) = s.dev.f (F.GT_PERIOD_PERIOD n) ∧ d.f (F.GT_CMP_ACTIVE n) = s.dev.f (F.GT_CMP_CMP n) ∧
       d.f (F.GT_CTL_PEND n) = 0) ∧
     (effect (.timerCntWrite n v) s [F.GT_CNT_COUNT n] [] [] fun d => d.f (F.GT_CNT_COUNT n) = v.toNat) ∧
     (s.dev.f (F.GT_CFG_SHADOW n) = 1 →
       (effect (.timerPeriodCmpWrite n false v) s [F.GT_PERIOD_PERIOD n, F.GT_CTL_PEND n] [] [] fun d =>
         d.f (F.GT_PERIOD_PERIOD n) = v.toNat ∧ d.f (F.GT_CTL_PEND n) = 1) ∧
       (effect (.timerPeriodCmpWrite n true v) s [F.GT_CMP_CMP n, F.GT_CTL_PEND n] [] [] fun d =>
         d.f (F.GT_CMP_CMP n) = v.toNat ∧ d.f (F.GT_CTL_PEND n) = 1)) ∧
     (s.dev.f (F.GT_CFG_SHADOW n) = 0 →
       (effect (.timerPeriodCmpWrite n false v) s [F.GT_PERIOD_PERIOD n, F.GT_PERIOD_ACTIVE n] [] [] fun d =>
         d.f (F.GT_PERIOD_PERIOD n) = v.toNat ∧ d.f (F.GT_PERIOD_ACTIVE n) = v.toNat) ∧
       (effect (.timerPeriodCmpWrite n true v) s [F.GT_CMP_CMP n, F.GT_CMP_ACTIVE n] [] [] fun d =>
         d.f (F.GT_CMP_CMP n) = v.toNat ∧ d.f (F.GT_CMP_ACTIVE n) = v.toNat))) ∧
  (∀ (n : Fin 12) (s : State), s.dev.running = true → s.dev.timerCounts n = true → s.dev.f (F.GT_MAP_CLOCK n) = 0 → s.dev.gtSet = [] →
     (leads (.timerOverflow n) s fun d => d.f (F.GT_CTL_OVF n) = 1 ∧ d.pendingEvent (5 * 32 + n.val) = true) ∧
     (s.dev.f (F.GT_CNT_COUNT n) < s.dev.f (F.GT_CMP_ACTIVE n) → s.dev.f (F.GT_CMP_ACTIVE n) ≤ s.dev.f (F.GT_PERIOD_ACTIVE n) →
       leads (.timerMatch n) s fun d => d.f (F.GT_CTL_MATCH n) = 1 ∧ d.pendingEvent (5 * 32 + n.val) = true) ∧
     (s.dev.f (F.GT_CNT_COUNT n) < s.dev.f (F.GT_PERIOD_ACTIVE n) → s.dev.f (F.GT_CNT_COUNT n) + 1 ≠ s.dev.f (F.GT_CMP_ACTIVE n) →
       effect (.timerTick n) s [F.GT_CNT_COUNT n] [] [] fun d => d.f (F.GT_CNT_COUNT n) = s.dev.f (F.GT_CNT_COUNT n) + 1) ∧
     (s.dev.f (F.GT_CFG_ACT_ON n) = 1 → s.dev.f (F.GT_CFG_ONESHOT n) = 0 → s.dev.f (F.GT_CMP_CMP n) ≠ 0 →
       4 ≤ n.val → (n.val = 11 ∨ s.dev.f (F.GT_MAP_CLOCK (n.val + 1)) ≠ 2) →
       effect (.timerOverflow n) s [F.GT_CNT_COUNT n, F.GT_CTL_OVF n, F.GT_PERIOD_ACTIVE n, F.GT_CMP_ACTIVE n, F.GT_CTL_PEND n] []
         [5 * 32 + n.val] fun d => d.f (F.GT_CNT_COUNT n) = 0 ∧ d.f (F.GT_CTL_OVF n) = 1 ∧
           d.f (F.GT_PERIOD_ACTIVE n) = s.dev.f (F.GT_PERIOD_PERIOD n)) ∧
     (s.dev.f (F.GT_CFG_ACT_ON n) = 0 → 4 ≤ n.val → s.dev.f (F.GT_CNT_COUNT n) < s.dev.f (F.GT_CMP_ACTIVE n) →
       s.dev.f (F.GT_CMP_ACTIVE n) ≤ s.dev.f (F.GT_PERIOD_ACTIVE n) →
       effect (.timerMatch n) s [F.GT_CNT_COUNT n, F.GT_CTL_MATCH n] [] [5 * 32 + n.val] fun d =>
         d.f (F.GT_CNT_COUNT n) = s.dev.f (F.GT_CMP_ACTIVE n) ∧ d.f (F.GT_CTL_MATCH n) = 1) ∧
     (s.dev.f (F.GT_CFG_CAPSRC n) ≠ 0x1F →
       effect (.timerCapture n) s [F.GT_CAP_CAP n, F.GT_CTL_CAPT n, F.GT_CTL_CAP_OVR n] [] [5 * 32 + n.val] fun d =>
         d.f (F.GT_CAP_CAP n) = s.dev.f (F.GT_CNT_COUNT n) ∧ d.f (F.GT_CTL_CAPT n) = 1 ∧
         (s.dev.f (F.GT_CTL_CAPT n) = 1 → d.f (F.GT_CTL_CAP_OVR n) = 1)))

/-! ### The position time base (R269 to R281) -/

/-- R270, R272, R274 to R276: an accepted edge of one quadrature input, of the mains lens past its blanking, or of the ring's frame clock moves the
position to the next step count, modulo 2³², shows its direction, and ends a stall. A rising edge of QA while QB is low is forward, and so is one of QB
while QA is high. Away from the wrap, with no slot, timer or prism consumer of the position, the fraction is 0 and the interval that of two steps in one
direction, and nothing else changes.

R270, R271, R275 to R277, R291: a quadrature error counts and raises and takes no step; a QZ edge copies the integer part and jumps to 0,
or with QZ_CLR clear is a capture edge alone; a stall stops
the interpolation; PTB_CTL.SET jumps to PTB_SETV; a read of PTB_FRAC returns the fraction and holds the integer part. What the jumps leave unchanged is
stated with no slot enabled and no consumer of the position in the prism, and with no interpolation left to take over. A clause that meets a point the rules leave open takes the reading of log entries 39 and 76, the model's choice. -/
def Obligations.PositionTime : Prop :=
  (∀ (q : QuadSample) (rev : Bool) (ivl : Nat) (s : State), s.dev.ptbOn = true → s.dev.ptb.count < 2 ^ 32 →
     (s.dev.f F.PTB_MAP_SOURCE = 1 → s.dev.f F.PTB_CFG_FILT < q.held → (q.qa != s.dev.ptb.qa) ≠ (q.qb != s.dev.ptb.qb) →
       (if q.qa != s.dev.ptb.qa then q.qa != q.qb else q.qa == q.qb) ≠ (rev != s.dev.on F.PTB_MAP_REV) →
       (leads (.ptbStep q ivl) s fun d =>
         d.ptb.count = (if rev then s.dev.ptb.count + 2 ^ 32 - 1 else s.dev.ptb.count + 1) % 2 ^ 32 ∧ d.f F.PTB_STAT_DIR = rev.toNat ∧
         d.f F.PTB_STAT_STALLED = 0 ∧ d.ptb.qa = q.qa ∧ d.ptb.qb = q.qb) ∧
       (s.dev.bare → ivl ≤ s.dev.ptb.since + 1 → ivl < 2 ^ 32 → (if rev then s.dev.ptb.count ≠ 0 else s.dev.ptb.count + 1 < 2 ^ 32) →
         effect (.ptbStep q ivl) s [F.PTB_IVL_IVL, F.PTB_STAT_DIR, F.PTB_STAT_STALLED, F.PTB_FRAC_FRAC] [.ptb, .gtSet] [] fun d =>
           d.ptb.pos = d.ptb.count * 65536 ∧ d.f F.PTB_FRAC_FRAC = 0 ∧
           d.f F.PTB_IVL_IVL = (if s.dev.ptb.stepped = true ∧ s.dev.f F.PTB_STAT_DIR = rev.toNat then ivl else 0))) ∧
     (s.dev.f F.PTB_MAP_SOURCE = 3 ∨ s.dev.f F.PTB_MAP_SOURCE = 2 ∧ s.dev.f F.PTB_CFG_BLANK * 100000 ≤ ivl →
       leads (.ptbStep q ivl) s fun d =>
         d.ptb.count = (s.dev.ptb.count + 1) % 2 ^ 32 ∧ d.f F.PTB_STAT_DIR = 0 ∧ d.f F.PTB_STAT_STALLED = 0 ∧ d.f F.PTB_STAT_HOMED = 1) ∧
     (s.dev.f F.PTB_MAP_SOURCE = 2 → s.dev.ptb.counted = true → ivl < s.dev.f F.PTB_CFG_BLANK * 100000 →
       effect (.ptbStep q ivl) s [F.PTB_ERR_BLANKED] [] [] fun d => d.f F.PTB_ERR_BLANKED = min (s.dev.f F.PTB_ERR_BLANKED + 1) 65535)) ∧
  (∀ (t held : Nat) (s : State), s.dev.ptbOn = true →
     (s.dev.f F.PTB_CFG_FILT < held →
       (s.dev.f F.PTB_MAP_SOURCE = 1 →
         effect (.quadratureError held) s [F.PTB_ERR_QERR, F.PTB_STAT_QERR] [.ptb] [5 * 32 + 14] fun d =>
           d.f F.PTB_STAT_QERR = 1 ∧ d.f F.PTB_ERR_QERR = min (s.dev.f F.PTB_ERR_QERR + 1) 65535 ∧
           d.ptb = { s.dev.ptb with qa := !s.dev.ptb.qa, qb := !s.dev.ptb.qb }) ∧
       (s.dev.f F.PTB_MAP_QZ_CLR = 1 →
         (leads (.qzClear t held) s fun d =>
           d.ptb.pos = 0 ∧ d.ptb.count = 0 ∧ d.f F.PTB_FRAC_FRAC = 0 ∧ d.f F.PTB_STAT_INDEX = 1 ∧ d.f F.PTB_STAT_HOMED = 1 ∧
           d.f F.PTB_STAT_JUMP = 1 ∧ d.pendingEvent (5 * 32 + 13) = true) ∧
         (t ≤ s.dev.ptb.since → (∀ k : Fin 32, s.dev.f (F.SLOT_MAP_EN k) = 0) → s.dev.ptb.pos < 2 ^ 48 →
           (∀ k : Fin 12, s.dev.f (F.GT_CFG_CAPSRC k) ≠ 24) → s.dev.f F.PRISM_TSEL_SOURCE ≠ 0x58 → s.dev.f F.CAP_CFG_CHANNELS = 0 →
           effect (.qzClear t held) s [F.PTB_QZ_INT, F.PTB_FRAC_FRAC, F.PTB_STAT_JUMP, F.PTB_STAT_INDEX, F.PTB_STAT_HOMED] [.ptb] [5 * 32 + 13] fun d =>
             d.f F.PTB_QZ_INT = s.dev.ptb.pos / 65536)) ∧
       (∀ n : Fin 12, s.dev.f F.PTB_MAP_QZ_CLR = 0 → (∀ k : Fin 12, s.dev.f (F.GT_CFG_CAPSRC k) = 24 ↔ k = n) →
         effect (.qzClear t held) s [F.GT_CAP_CAP n, F.GT_CTL_CAPT n, F.GT_CTL_CAP_OVR n] [] [5 * 32 + n.val] fun d =>
           d.f (F.GT_CAP_CAP n) = s.dev.f (F.GT_CNT_COUNT n) ∧ d.f (F.GT_CTL_CAPT n) = 1)) ∧
     (s.dev.f F.PTB_STAT_STALLED = 0 →
       leads .ptbStall s fun d =>
         d.f F.PTB_STAT_STALLED = 1 ∧ d.f F.PTB_IVL_IVL = 0 ∧ d.ptb.count = s.dev.ptb.count ∧ d.ptb.interp = false ∧ d.pendingEvent (5 * 32 + 14) = true) ∧
     (leads .ptbSet s fun d =>
       d.ptb.count = s.dev.f F.PTB_SETV_VALUE ∧ d.ptb.pos = s.dev.f F.PTB_SETV_VALUE * 65536 ∧ d.f F.PTB_FRAC_FRAC = 0 ∧
       d.f F.PTB_STAT_HOMED = 1 ∧ d.f F.PTB_STAT_JUMP = 1 ∧ d.pendingEvent (5 * 32 + 13) = true) ∧
     (s.dev.ptb.pos < 2 ^ 48 → s.dev.ptb.count < 2 ^ 32 →
       leads (.ptbFracRead t) s fun d => d.readData = BitVec.ofNat 32 (d.ptb.pos % 65536) ∧ d.f F.PTB_INT_INT = d.ptb.pos / 65536) ∧
     (s.dev.f F.PTB_STAT_STALLED = 0 → s.dev.f F.PTB_CFG_STALL * 1000000 ≤ s.dev.ptb.since →
       effect .ptbStall s [F.PTB_STAT_STALLED, F.PTB_IVL_IVL] [.ptb] [5 * 32 + 14] fun d =>
         d.ptb.pos = s.dev.ptb.pos) ∧
     ((∀ k : Fin 32, s.dev.f (F.SLOT_MAP_EN k) = 0) → s.dev.f F.PRISM_TSEL_SOURCE ≠ 0x58 → s.dev.f F.CAP_CFG_CHANNELS = 0 →
       effect .ptbSet s [F.PTB_FRAC_FRAC, F.PTB_STAT_JUMP, F.PTB_STAT_HOMED] [.ptb] [5 * 32 + 13] fun d =>
         d.ptb.count = s.dev.f F.PTB_SETV_VALUE) ∧
     (s.dev.ptb.pos < 2 ^ 48 → t ≤ s.dev.ptb.since →
       effect (.ptbFracRead t) s [F.PTB_INT_INT] [.readData] [] fun d =>
         d.readData = BitVec.ofNat 32 (s.dev.ptb.pos % 65536) ∧ d.f F.PTB_INT_INT = s.dev.ptb.pos / 65536))

/-- R278, R279, R281: an interpolated movement over the position of an armed slot fires it: its bit in PTB_HIT sets, its arming bit clears, EVB5
source 12 is raised. A write of SLOTk_POSF applies the held integer part and the fraction as one position, records them, and takes the arming bits of
a jump. What a firing leaves unchanged is stated for a slot without an action, alone enabled. -/
def Obligations.Slots : Prop :=
  ∀ (k : Fin 32) (t : Nat) (frac : BitVec 16) (s : State), s.dev.ptbOn = true → s.dev.f (F.SLOT_MAP_EN k) = 1 →
    (s.dev.f F.PTB_STAT_STALLED = 0 → s.dev.ptb.since < t → (s.dev.f F.PTB_CFG_NEED_HOME = 0 ∨ s.dev.f F.PTB_STAT_HOMED = 1) →
      s.dev.f (F.SLOT_MAP_ARM_F k) = 1 → s.dev.ptb.pos ≤ vget s.dev.slotPos k → vget s.dev.slotPos k < s.dev.posAt t →
      leads (.slotFire t) s fun d =>
        d.ptb.pos = s.dev.posAt t ∧ d.f (F.SLOT_MAP_ARM_F k) = 0 ∧ d.fbit F.PTB_HIT_HIT k = true ∧ d.pendingEvent (5 * 32 + 12) = true) ∧
    (leads (.slotPosfWrite k t frac) s fun d =>
      vget d.slotPos k = s.dev.f (F.SLOT_POSI_INT k) * 65536 + frac.toNat ∧ d.f (F.SLOT_POSF_FRAC k) = frac.toNat) ∧
    (s.dev.f F.PTB_STAT_STALLED = 0 → s.dev.ptb.since < t → (∀ j : Fin 32, j ≠ k → s.dev.f (F.SLOT_MAP_EN j) = 0) →
      s.dev.f F.PTB_CFG_NEED_HOME = 0 → s.dev.f (F.SLOT_MAP_ARM_F k) = 1 → s.dev.f (F.SLOT_MAP_ACTION k) = 0 →
      s.dev.f F.PRISM_TSEL_SOURCE ≠ 0x58 → s.dev.f F.CAP_CFG_CHANNELS = 0 →
      s.dev.ptb.pos ≤ vget s.dev.slotPos k → vget s.dev.slotPos k < s.dev.posAt t →
      effect (.slotFire t) s [F.PTB_FRAC_FRAC, F.SLOT_MAP_ARM_F k, F.SLOT_MAP_ARM_R k, F.PTB_HIT_HIT] [.ptb, .gtSet] [5 * 32 + 12] fun d =>
        d.ptb.pos = s.dev.posAt t) ∧
    (t ≤ s.dev.ptb.since →
      effect (.slotPosfWrite k t frac) s [F.SLOT_POSI_INT k, F.SLOT_POSF_FRAC k, F.SLOT_MAP_ARM_F k, F.SLOT_MAP_ARM_R k] [.live, .slotPos] [] fun d =>
        d.f (F.SLOT_MAP_ARM_F k) = (decide (s.dev.ptb.pos ≤ vget d.slotPos k)).toNat ∧
        d.f (F.SLOT_MAP_ARM_R k) = (decide (vget d.slotPos k < s.dev.ptb.pos)).toNat)

/-! ### Tiles (R87 to R125) -/

/-- R88, R92 to R94, R96, R102, R159: below the VDRV threshold every tile's gates are off and VDRV_OK reads 0, with EVB1 source 31; above it VDRV_OK
reads 1, a pending arming runs, and a tile that the crowbar holds has its low side again. The comparator, past its blanking, the maximum on-time and the
zero crossing each end a pulse of a tile in RUN and change nothing else; a pulse that ends inside its own dead time was none, and is not counted. On a
tile of the hold loop they end a pulse of the loop. -/
def Obligations.GateSupplyAndPulses : Prop :=
  ∀ (t : Fin 16) (n : Nat) (s : State), s.dev.alive = true →
    (effect .vdrvUvlo s ((List.range 16).map F.TILE_STAT_VDRV_OK ++ (List.range 16).map F.TILE_STAT_BOOT_OK) [.tile, .pw] [1 * 32 + 31] fun d =>
      d.pw.vdrvOk = false ∧ d.f (F.TILE_STAT_VDRV_OK t) = 0 ∧ (vget d.tile t).gates = .off ∧ (vget d.tile t).armRuns = false) ∧
    (effect .vdrvRecover s ((List.range 16).map F.TILE_STAT_VDRV_OK ++ (List.range 16).map F.TILE_STAT_BOOT_OK) [.tile, .pw] [] fun d =>
      d.pw.vdrvOk = true ∧ d.f (F.TILE_STAT_VDRV_OK t) = 1 ∧
      (vget d.tile t).armRuns = (s.dev.on (F.TILE_STAT_ARMING t) && !s.dev.holds t) ∧
      (vget d.tile t).gates = (if (vget s.dev.tile t).clamp = true then
        (if (s.dev.pd (F.TILE_MAP_ROLE t) = 3 ∧ s.dev.f (F.TILE_DUMPSTAT_LIMITED t) = 0) ∨ (s.dev.pd (F.TILE_MAP_ROLE t) ≠ 3 ∧ s.dev.pd (F.TILE_CFG_SPAN t) = 1) then .lowHeld else .off)
        else (vget s.dev.tile t).gates)) ∧
    (s.dev.holds t = true →
      (effect (.peakCurrentTrip t n) s [F.HOLD_STAT_LAST_CODE] [.tile, .free] [] fun d => (vget d.tile t).gates = .off) ∧
      (effect (.maxOnExpiry t) s [F.HOLD_STAT_LAST_CODE] [.tile, .free] [] fun d => (vget d.tile t).gates = .off)) ∧
    (s.dev.runs t = true → (vget s.dev.tile t).gates = .active →
      (s.dev.isDump t = false → s.dev.blanking t ≤ n → s.dev.deadTime t (s.dev.highActive (s.dev.f (F.TILE_MAP_COURSE t)) t) < n →
        effect (.peakCurrentTrip t n) s [] [.tile] [] fun d =>
          d.tile = vset s.dev.tile t { vget s.dev.tile t with gates := s.dev.gatesAfter t n, tripped := true, tOn := n, pulsed := true }) ∧
      (s.dev.isDump t = false → s.dev.blanking t ≤ n → n ≤ s.dev.deadTime t (s.dev.highActive (s.dev.f (F.TILE_MAP_COURSE t)) t) →
        effect (.peakCurrentTrip t n) s [F.TILE_CYCLES_COUNT t] [.tile] [] fun d =>
          (vget d.tile t).pulsed = false ∧ d.f (F.TILE_CYCLES_COUNT t) = (s.dev.f (F.TILE_CYCLES_COUNT t) + (2 ^ 32 - 1)) % 2 ^ 32) ∧
      (effect (.maxOnExpiry t) s [] [.tile] [] fun d =>
        let ton := s.dev.f (F.C_MAP_PERIOD (s.dev.f (F.TILE_MAP_COURSE t))) - 2 * s.dev.f (F.TILE_TIMING_MIN_OFF t)
        d.tile = vset s.dev.tile t (if s.dev.isDump t then { vget s.dev.tile t with gates := .off, maxed := true }
          else { vget s.dev.tile t with gates := s.dev.gatesAfter t ton, maxed := true, tOn := ton }))) ∧
    (s.dev.runs t = true → s.dev.dcm t = true →
      ((vget s.dev.tile t).gates = .sync ∨ ((vget s.dev.tile t).gates = .off ∧ (vget s.dev.tile t).tripped = true ∧ (vget s.dev.tile t).tFall = 0 ∧ s.dev.isDump t = false)) →
      effect (.dcmZeroCross t n) s [] [.tile] [] fun d =>
        d.tile = vset s.dev.tile t { vget s.dev.tile t with gates := .off, tFall := n })

/-- R100, R101, R117, R119, R145: what a failure records. A tile in RUN whose detector has reached its count, and a RUN, ARMED, SHED or SPARE tile forced
out, enters FAILED with its cause in TILEn_FAULT and in the failure map and with EVB1 source n; one that the crowbar holds stays with it, and one that has
failed already is not forced. What else stays as it was is stated for a course that
does not deliver, keeps a healthy slot and has no spare. An admitted CLEAR_FAIL takes the tile out of the map and orders its state at the next boundary of
its course; a refused one sets CLEAR_REJ. A clause that meets a point the rules leave open takes the reading of log entry 18, the model's choice. -/
def Obligations.TileFailures : Prop :=
  ∀ (t : Fin 16) (c : Fin 6) (s : State), s.dev.running = true → s.dev.f (F.TILE_MAP_COURSE t) = c →
    (s.dev.runs t = true → (vget s.dev.tile t).clamp = false → firedCause (vget s.dev.tile t) ≠ 0 →
      leads (.tileFailDetect t) s fun d =>
        d.tst t = 6 ∧ d.f (F.TILE_FAULT_CAUSE t) = firedCause (vget s.dev.tile t) ∧ d.f (F.C_EVT_TILE_FAIL c) = 1 ∧
        (vget d.fmap t).failed = true ∧ (vget d.fmap t).cause = firedCause (vget s.dev.tile t) ∧ d.pendingEvent (1 * 32 + t.val) = true) ∧
    ((vget s.dev.fmap t).failed = true → effect (.forceFail t) s [] [] [] fun d => d.tst t = s.dev.tst t) ∧
    (within 1 4 (s.dev.tst t) = true → (vget s.dev.fmap t).failed = false →
      leads (.forceFail t) s fun d =>
        d.tst t = (if (vget s.dev.tile t).clamp then s.dev.tst t else 6) ∧ d.f (F.TILE_FAULT_CAUSE t) = 8 ∧ d.f (F.C_EVT_TILE_FAIL c) = 1 ∧ (vget d.fmap t).failed = true ∧
        (vget d.fmap t).cause = 8 ∧ d.pendingEvent (1 * 32 + t.val) = true) ∧
    (c ≠ 1 → (vget s.dev.tile t).clamp = false → (vget s.dev.fmap t).failed = false → s.dev.delivers c = false → (vget s.dev.course c).shedTile = none → (∀ u : Fin 16, s.dev.f (F.TILE_TEST_RESULT u) ≠ 1) →
      (s.dev.tst t = 3 → s.dev.holds t = false → firedCause (vget s.dev.tile t) = 6 →
        (s.dev.tileFailed t 6 0).healthy c ≠ 0 → (s.dev.tileFailed t 6 0).freeSpare c = none →
        effect (.tileFailDetect t) s [F.TILE_STAT_STATE t, F.TILE_STAT_ARMING t, F.TILE_STAT_SHEDDING t, F.TILE_STAT_STANDIN_V t, F.TILE_STAT_CROWBAR t,
            F.TILE_STAT_STANDIN t, F.TILE_FAULT_CAUSE t, F.TILE_FAULT_DETAIL t, F.C_EVT_TILE_FAIL c, F.C_STAT_NO_SPARE c]
          [.tile, .fmap, .faults] [1 * 32 + t.val] fun d =>
            d.f (F.TILE_FAULT_DETAIL t) = 0 ∧ (vget d.tile t).gates = .off ∧ vget d.fmap t = { failed := true, cause := 6, detail := 0 }) ∧
      (s.dev.tst t = 1 → (s.dev.tileFailed t 8 0).healthy c ≠ 0 →
        effect (.forceFail t) s [F.TILE_STAT_STATE t, F.TILE_STAT_ARMING t, F.TILE_STAT_SHEDDING t, F.TILE_STAT_STANDIN_V t, F.TILE_STAT_CROWBAR t,
            F.TILE_STAT_STANDIN t, F.TILE_FAULT_CAUSE t, F.TILE_FAULT_DETAIL t, F.C_EVT_TILE_FAIL c]
          [.tile, .fmap, .faults] [1 * 32 + t.val] fun d =>
            (vget d.tile t).gates = .off ∧ vget d.fmap t = { failed := true, cause := 8, detail := 0 })) ∧
    (s.dev.tst t = 6 → s.dev.f (F.TILE_TEST_RESULT t) = 2 → (vget s.dev.tile t).passed = true → (vget s.dev.tile t).next = none →
      (leads (.clearFail t) s fun d =>
        vget d.fmap t = {} ∧ (s.dev.f (F.C_MAP_ENABLE c) = 1 → (vget d.tile t).next = some (s.dev.clearedState t)) ∧
        (s.dev.f (F.C_MAP_ENABLE c) = 0 → d.tst t = 0)) ∧
      (s.dev.fbit (F.C_TILES_WORK_MASK c) t = true → s.dev.f (F.TILE_MAP_ROLE t) = 1 → s.dev.f (F.C_MAP_ENABLE c) = 1 →
        (∀ u : Fin 16, s.dev.f (F.TILE_STAT_STANDIN_V u) = 0 ∧ (vget s.dev.tile u).assigned = none) →
        effect (.clearFail t) s [] [.tile, .fmap, .faults] [] fun d =>
          (vget d.tile t).next = some (if s.dev.delivers c then 4 else 2))) ∧
    (s.dev.f (F.TILE_TEST_RESULT t) ≠ 2 → (s.dev.tst t = 6 → (vget s.dev.tile t).next = none) →
      effect (.clearFail t) s [F.TILE_STAT_CLEAR_REJ t] [] [] fun d => d.f (F.TILE_STAT_CLEAR_REJ t) = 1)

/-- R117, R120, R496: an arming ends. One that passes shows ARMING 0; a stand-in then fills its slot, which the failure map names, and its entry is
traced with Cn_EVT.SPARE_IN and EVB1 source 16 + c: at once where it stands in ARMED, at the boundary where it enters RUN of a delivering course. One
that fails takes the tile to FAILED with cause 9, with Cn_EVT.SPARE_FAIL and EVB1 source 29 for a stand-in.

R108 to R113, R409: when the dwell count has completed, the running tile of highest rank starts its ramp; at the ramp's end it enters SHED with
its phase cleared and the re-stagger becomes pending, EVB1 source 22 + c; ADD_ALL asks for every SHED tile at the next boundary, and asked
again does nothing; SHED_HOLD at 1 with
tiles shed waits in FUNC_PEND, and at 0 cancels that. A clause that meets a point the rules leave open takes the reading of log entries 18, 68 and 70, the model's choice. -/
def Obligations.ArmingAndShedding : Prop :=
  (∀ (t : Fin 16) (c : Fin 6) (s : State), s.dev.running = true → s.dev.f (F.TILE_MAP_COURSE t) = c →
     s.dev.f (F.TILE_STAT_ARMING t) = 1 → (vget s.dev.tile t).armRuns = true →
     (leads (.armingDone t true) s fun d => d.f (F.TILE_STAT_ARMING t) = 0 ∧ (vget d.tile t).armRuns = false ∧ (vget d.tile t).assigned = none) ∧
     (leads (.armingDone t false) s fun d =>
       d.tst t = 6 ∧ d.f (F.TILE_FAULT_CAUSE t) = 9 ∧ (vget d.fmap t).failed = true ∧ d.pendingEvent (1 * 32 + t.val) = true ∧
       ((vget s.dev.tile t).assigned ≠ none → d.f (F.C_EVT_SPARE_FAIL c) = 1 ∧ d.pendingEvent (1 * 32 + 29) = true)) ∧
     ((vget s.dev.tile t).assigned = none → c ≠ 1 →
       effect (.armingDone t true) s [F.TILE_STAT_ARMING t] [.tile] [] fun d => (vget d.tile t).assigned = none) ∧
     (∀ k : Fin 16, (vget s.dev.tile t).assigned = some k.val →
       (leads (.armingDone t true) s fun d =>
         d.f (F.TILE_STAT_STANDIN_V t) = 1 ∧ d.f (F.TILE_STAT_STANDIN t) = k ∧ (vget d.fmap t).slot = some k.val) ∧
       (s.dev.delivers c = false → c ≠ 1 →
         effect (.armingDone t true) s [F.TILE_STAT_ARMING t, F.TILE_STAT_STANDIN_V t, F.TILE_STAT_STANDIN t, F.C_EVT_SPARE_IN c] [.tile, .fmap, .faults]
           [1 * 32 + 16 + c.val] fun d => d.f (F.C_EVT_SPARE_IN c) = 1) ∧
       (s.dev.delivers c = true → s.dev.f (F.C_PCTL_CB_LATCH c) = 0 → c ≠ 1 →
         effect (.armingDone t true) s [F.TILE_STAT_ARMING t, F.TILE_STAT_STANDIN_V t, F.TILE_STAT_STANDIN t] [.tile, .fmap]
           [] fun d => (vget d.tile t).announce = true))) ∧
  (∀ (t : Fin 16) (c : Fin 6) (s : State), s.dev.running = true →
     (s.dev.maySched c = true → 16 * s.dev.f (F.C_SHED_DWELL c) ≤ (vget s.dev.course c).dwell → (vget s.dev.course c).addAll = false →
       (vget s.dev.course c).stepSeen = false → (s.dev.ranked c).getLast? = some t.val →
       effect (.shedStart c) s [F.C_STAT_SHED_ST c, F.TILE_STAT_SHEDDING t, F.TILE_IPK_DAC t] [.course] [] fun d =>
         d.f (F.C_STAT_SHED_ST c) = 1 ∧ d.f (F.TILE_STAT_SHEDDING t) = 1 ∧ (vget d.course c).shedTile = some t.val ∧
         d.f (F.TILE_IPK_DAC t) = s.dev.f (F.TILE_IPK_DAC t) * (s.dev.rampLen c - 1) / s.dev.rampLen c) ∧
     ((vget s.dev.course c).shedTile = some t.val → s.dev.f (F.C_STAT_SHED_ST c) = 1 → (vget s.dev.course c).rampOver = true →
       effect (.shedRampEnd c) s ([F.TILE_STAT_STATE t, F.TILE_STAT_SHEDDING t, F.TILE_PHASE_OFFSET t, F.TILE_IPK_DAC t, F.C_EVT_SHED_DONE c,
           F.C_STAT_SHED_ST c, F.C_STAT_STAGGER_PEND c] ++ (List.range 16).map F.TILE_PHASE_NEXT ++ (List.range 16).map F.TILE_PHASE_NEXT_V)
         [.tile] [1 * 32 + 22 + c.val] fun d =>
           d.tst t = 4 ∧ d.f (F.C_STAT_SHED_ST c) = 2 ∧ d.f (F.C_STAT_STAGGER_PEND c) = 1 ∧ d.f (F.C_EVT_SHED_DONE c) = 1 ∧
           d.f (F.TILE_PHASE_OFFSET t) = 0 ∧ d.f (F.TILE_IPK_DAC t) = 0 ∧ d.f (F.TILE_STAT_SHEDDING t) = 0 ∧
           (vget d.tile t).former = s.dev.f (F.TILE_PHASE_OFFSET t)) ∧
     (s.dev.delivers c = true → t.val ∈ s.dev.shedTiles c → (vget s.dev.course c).addAll = false →
       leads (.addAll c) s fun d => (vget d.course c).addAll = true ∧ ((vget s.dev.course c).shedTile = none → d.f (F.C_STAT_SHED_ST c) = 3)) ∧
     (leads (.shedHold c true) s fun d => d.f (F.C_CTL_SHED_HOLD c) = 1) ∧
     ((vget s.dev.course c).addAll = true → effect (.addAll c) s [] [] [] fun d => (vget d.course c).addAll = true) ∧
     (s.dev.delivers c = true → t.val ∈ s.dev.shedTiles c → (vget s.dev.course c).addAll = false → (vget s.dev.course c).shedTile = none → (∀ u : Fin 16, s.dev.f (F.TILE_TEST_RESULT u) ≠ 1) →
       effect (.addAll c) s [F.C_STAT_SHED_ST c] [.course] [] fun d =>
         d.f (F.C_STAT_SHED_ST c) = 3 ∧ (vget d.course c).addAll = true) ∧
     (s.dev.delivers c = false → t.val ∈ s.dev.shedTiles c → s.dev.f (F.C_CTL_SHED_HOLD c) = 0 →
       effect (.shedHold c true) s [F.C_CTL_SHED_HOLD c, F.FUNC_PEND_SHED] [] [] fun d =>
         d.f (F.C_CTL_SHED_HOLD c) = 1 ∧ d.fbit F.FUNC_PEND_SHED c = true) ∧
     (effect (.shedHold c false) s [F.C_CTL_SHED_HOLD c, F.FUNC_PEND_SHED, F.C_STAT_SHED_ST c] [.course] [] fun d =>
       d.f (F.C_CTL_SHED_HOLD c) = 0 ∧ d.fbit F.FUNC_PEND_SHED c = false ∧
       (vget d.course c) = { vget s.dev.course c with holdAll := false } ∧
       ((vget s.dev.course c).holdAll = false → d.f (F.C_STAT_SHED_ST c) = s.dev.f (F.C_STAT_SHED_ST c))))

/-- R122, R124, R125, R411: the power limit of a dump tile sets when its energy account reaches E_MAX, EVB1 source 30, and lifts below half of it. A
self-test of the steps selected at its request waits for admission, and requested again does nothing; admitted on a tile that does not run it enters TEST
with RESULT 1 and STEP at the first step, but for step 3, which waits for a current of zero, and a tile in RUN of a delivering course starts a forced shed
ramp; one whose steps all pass writes its trims, orders the state it came from and raises EVB1 source 28, and one with a failing step takes the tile to
FAILED with cause 7, with the trim of the step 3 that had passed; a test that waits, or runs in TEST, can be aborted. A clause that meets a point the rules leave open takes the reading of log entries 18, 57 and 69, the model's choice. -/
def Obligations.TileTests : Prop :=
  ∀ (t : Fin 16) (c : Fin 6) (r : TestReading) (s : State), s.dev.running = true → s.dev.f (F.TILE_MAP_COURSE t) = c →
    (s.dev.isDump t = true → s.dev.f (F.TILE_DUMPSTAT_LIMITED t) = 0 → s.dev.f (F.TILE_DUMP_E_MAX t) * 4000000000000 ≤ (vget s.dev.tile t).energy →
      effect (.dumpEnergyLimit t) s [F.TILE_DUMPSTAT_LIMITED t, F.C_EVT_DUMP_LIMIT c] [.tile] [1 * 32 + 30] fun d =>
        d.f (F.TILE_DUMPSTAT_LIMITED t) = 1 ∧ d.f (F.C_EVT_DUMP_LIMIT c) = 1 ∧ ((vget s.dev.tile t).clamp = false → d.tile = s.dev.tile)) ∧
    (s.dev.isDump t = true → s.dev.f (F.TILE_DUMPSTAT_LIMITED t) = 1 → 2 * (vget s.dev.tile t).energy < s.dev.f (F.TILE_DUMP_E_MAX t) * 4000000000000 →
      effect (.dumpEnergyLimit t) s [F.TILE_DUMPSTAT_LIMITED t] [.tile] [] fun d =>
        d.f (F.TILE_DUMPSTAT_LIMITED t) = 0 ∧ ((vget s.dev.tile t).clamp = false → d.tile = s.dev.tile)) ∧
    (s.dev.f (F.TILE_TEST_RESULT t) ≠ 1 → s.dev.f (F.TILE_STAT_TEST_PENDING t) = 0 →
      effect (.tileTestStart t) s [F.TILE_STAT_TEST_PENDING t, F.TILE_CTL_TEST_START t] [.tile] [] fun d =>
        d.f (F.TILE_STAT_TEST_PENDING t) = 1 ∧ d.f (F.TILE_CTL_TEST_START t) = 1 ∧
        d.tile = vset s.dev.tile t { vget s.dev.tile t with testSel := s.dev.f (F.TILE_CTL_TEST_SEL t) }) ∧
    (s.dev.f (F.TILE_TEST_RESULT t) = 1 ∨ s.dev.f (F.TILE_STAT_TEST_PENDING t) = 1 →
      effect (.tileTestStart t) s [] [] [] fun d => d.f (F.TILE_TEST_RESULT t) = s.dev.f (F.TILE_TEST_RESULT t)) ∧
    (s.dev.f (F.TILE_STAT_TEST_PENDING t) = 1 → s.dev.testAdmitted t = true →
      (s.dev.tst t ≠ 3 ∨ s.dev.delivers c = false →
        (s.dev.regMode c = 0 ∨ ∃ u : Fin 16, u ≠ t ∧ s.dev.fbit (F.C_TILES_WORK_MASK c) u = true ∧ s.dev.slotTile u = some u.val ∧ s.dev.slotHealthy u = true) →
        leads (.tileTestAdmit t) s fun d =>
          d.tst t = 5 ∧ d.f (F.TILE_TEST_RESULT t) = 1 ∧ d.f (F.TILE_STAT_TEST_PENDING t) = 0 ∧ d.f (F.TILE_TEST_MEAS t) = 0 ∧
          d.f (F.TILE_TEST_STEP t) = (if (s.dev.testSteps t).headD 0 = 3 then 0 else (s.dev.testSteps t).headD 0) ∧
          (vget d.tile t).testFrom = (vget s.dev.tile t).next.getD (s.dev.tst t) ∧ (vget d.tile t).next = none ∧ (vget d.tile t).gates = .off) ∧
      (s.dev.tst t = 3 → s.dev.delivers c = true →
        effect (.tileTestAdmit t) s [F.TILE_STAT_TEST_PENDING t, F.TILE_TEST_RESULT t, F.TILE_TEST_STEP t, F.TILE_TEST_MEAS t, F.C_STAT_SHED_ST c,
            F.TILE_STAT_SHEDDING t, F.TILE_IPK_DAC t] [.tile, .course] [] fun d =>
          d.f (F.TILE_TEST_RESULT t) = 1 ∧ d.f (F.C_STAT_SHED_ST c) = 1 ∧ d.f (F.TILE_STAT_SHEDDING t) = 1 ∧ (vget d.tile t).testRamp = true ∧
          (vget d.course c).shedTile = some t.val)) ∧
    (s.dev.tst t = 5 → s.dev.f (F.TILE_TEST_RESULT t) = 1 →
      ((s.dev.testSteps t).all (stepPasses r) = true →
        (leads (.tileTestEnd t r) s fun d =>
          d.f (F.TILE_TEST_RESULT t) = 2 ∧ d.f (F.TILE_CTL_TEST_START t) = 0 ∧ d.f (F.TILE_TEST_STEP t) = (s.dev.testSteps t).getLastD 0 ∧
          (3 ∈ s.dev.testSteps t → d.fI (F.TILE_TRIM_OFFSET t) = -r.offset) ∧ (4 ∈ s.dev.testSteps t → d.f (F.TILE_TRIM_GAIN t) = gainTrim r.gain) ∧
          d.pendingEvent (1 * 32 + 28) = true) ∧
        (s.dev.f (F.C_MAP_ENABLE c) = 1 →
          effect (.tileTestEnd t r) s [F.TILE_CTL_TEST_START t, F.TILE_TEST_MEAS t, F.TILE_TRIM_OFFSET t, F.TILE_TRIM_GAIN t,
              F.TILE_TEST_RESULT t, F.TILE_TEST_STEP t] [.tile] [1 * 32 + 28] fun d =>
            (vget d.tile t).next = some (if (vget s.dev.tile t).testFrom = 3 then 4 else (vget s.dev.tile t).testFrom))) ∧
      (∀ i : Fin 6, (s.dev.testSteps t).find? (fun k => !stepPasses r k) = some i.val →
        leads (.tileTestEnd t r) s fun d =>
          d.f (F.TILE_TEST_RESULT t) = 3 ∧ d.f (F.TILE_TEST_STEP t) = i ∧ d.tst t = 6 ∧ d.f (F.TILE_FAULT_CAUSE t) = 7 ∧
          d.f (F.TILE_FAULT_DETAIL t) = i ∧ (i.val ≤ 4 → d.f (F.TILE_TRIM_GAIN t) = s.dev.f (F.TILE_TRIM_GAIN t)) ∧
          (3 < i.val → 3 ∈ s.dev.testSteps t → d.fI (F.TILE_TRIM_OFFSET t) = -r.offset) ∧ d.pendingEvent (1 * 32 + 28) = true)) ∧
    (s.dev.f (F.TILE_STAT_TEST_PENDING t) = 1 →
      effect (.tileTestAbort t) s [F.TILE_STAT_TEST_PENDING t, F.TILE_CTL_TEST_START t, F.TILE_TEST_RESULT t] [] [1 * 32 + 28] fun d =>
        d.f (F.TILE_STAT_TEST_PENDING t) = 0 ∧ d.f (F.TILE_TEST_RESULT t) = 4 ∧ d.f (F.TILE_CTL_TEST_START t) = 0) ∧
    (s.dev.f (F.TILE_STAT_TEST_PENDING t) = 0 → s.dev.tst t = 5 → s.dev.f (F.TILE_TEST_RESULT t) = 1 →
      leads (.tileTestAbort t) s fun d =>
        d.f (F.TILE_TEST_RESULT t) = 4 ∧ d.f (F.TILE_CTL_TEST_START t) = 0 ∧ d.pendingEvent (1 * 32 + 28) = true)

/-! ### Courses (R103, R129 to R164) -/

/-- R97, R100, R103, R130: at a boundary of an enabled course the samples of the cycle are taken over. At that of a stopped course a tile enters the
state it was told to enter; what that leaves unchanged is stated for a course on MAIN with that tile alone, while the power path waits for a handback. A clause that meets a point the rules leave open takes the reading of log entries 16, 17, 19, 68 and 70, the model's choice. -/
def Obligations.CourseBoundary : Prop :=
  ∀ (t : Fin 16) (c : Fin 6) (v : Fin 7) (q : CycleSample) (s : State), s.dev.running = true → s.dev.f (F.C_MAP_ENABLE c) = 1 →
    (leads (.courseCycleBoundary c q) s fun d =>
      d.f F.SYS_MEAS_V_SYS = min 65535 q.vSys ∧ d.sys.vSys = q.vSys ∧ (vget d.course c).iPort = q.iPort ∧
      (vget d.course c).vPort = s.dev.portVolts (s.dev.portCode c) q.vPort q.ain) ∧
    (s.dev.sys.handback = true → s.dev.portCode c = 1 → s.dev.regMode c = 0 → s.dev.delivers c = false → s.dev.f (F.C_STAT_SHED_ST c) = 0 →
    (vget s.dev.course c).cbRelease = false → (vget s.dev.course c).guardPend = false → (vget s.dev.course c).failStagger = false →
    s.dev.f (F.TILE_MAP_ROLE t) = 1 → (∀ u : Fin 16, s.dev.f (F.TILE_MAP_COURSE u) = c ↔ u = t) →
    s.dev.tst t ≠ 3 → v.val ≠ 3 → s.dev.holds t = false → (vget s.dev.tile t).clamp = false → 700 ≤ (vget q.tiles t).boot → (vget s.dev.tile t).next = some v.val → s.dev.f F.PATH_STAT_STATE = 0 → s.dev.f F.PATH_STAT_LEAD = 0 →
    s.dev.f F.PRISM_TSEL_SOURCE < 0x50 → s.dev.f F.CAP_CFG_CHANNELS = 0 → q.vSys < 65536 →
    effect (.courseCycleBoundary c q) s [F.SYS_MEAS_V_SYS, F.TILE_STAT_BOOT_OK t, F.TILE_STAT_STATE t, F.TILE_IPK_DAC t, F.TILE_PHASE_OFFSET t,
        F.C_IMEAN_TOTAL c, F.C_IMEAN_MEAN c] [.sys, .course, .tile] [] fun d =>
      d.tst t = v ∧ (vget d.tile t).next = none ∧ d.f (F.TILE_IPK_DAC t) = 0 ∧ d.f F.SYS_MEAS_V_SYS = q.vSys ∧
      (vget d.course c).vPort = q.vPort)

/-- R144, R146, R154, R156: above CB_V a course with the crowbar enabled latches, its tiles clamp, EVB2 source c and a fault-log entry follow; CB_CLEAR is
admitted only 10 ms after SYS fell below CB_REL, and does nothing while the release waits for its boundary; a twin that disagrees shows in the Guard profile; MM_CLEAR is admitted only on a stopped course. What
the latch leaves unchanged is stated for a stopped dump course, the only one enabled and with CB_EN, while the hold loop does not run. A clause that meets a point the rules leave open takes the reading of log entries 15 and 18, the model's choice. -/
def Obligations.CrowbarAndTwins : Prop :=
  ∀ (c : Fin 6) (p : Fin 5) (v : Nat) (s : State), s.dev.alive = true →
    (s.dev.pd F.SYS_CB_CB_V < v → s.dev.pd (F.C_MODE_CB_EN c) = 1 →
      leads (.crowbarTrip v) s fun d =>
        d.f (F.C_PCTL_CB_LATCH c) = 1 ∧ d.f F.SYS_MEAS_V_SYS = min 65535 v ∧
        (s.dev.f (F.C_PCTL_CB_LATCH c) = 0 → d.f (F.C_MODE_MODE c) = 0 ∧ d.pendingEvent (2 * 32 + c.val) = true)) ∧
    ((vget s.dev.course c).cbRelease = true → effect (.cbClear c) s [] [] [] fun d => (vget d.course c).cbRelease = true) ∧
    ((s.dev.sys.belowSince.any fun u => decide (u + 10000 ≤ s.dev.pw.clock)) = true → (vget s.dev.course c).cbRelease = false → s.dev.f (F.C_PCTL_CB_LATCH c) = 1 →
      leads (.cbClear c) s fun d => d.f (F.C_PCTL_CB_LATCH c) = 0) ∧
    (s.dev.running = true → s.dev.f F.SYS_CB_CB_V < v → v < 65536 → (∀ k : Fin 6, k ≠ c → s.dev.f (F.C_MODE_CB_EN k) = 0) → s.dev.portCode c = 6 → s.dev.regMode c = 0 → s.dev.f (F.C_MODE_CB_EN c) = 1 → s.dev.f (F.C_PCTL_CB_LATCH c) = 0 →
      (∀ k : Fin 6, s.dev.f (F.C_MAP_ENABLE k) = 1 ↔ k = c) → s.dev.sys.holdRuns = false → (∀ u : Fin 16, s.dev.f (F.TILE_TEST_RESULT u) ≠ 1) →
      effect (.crowbarTrip v) s ([F.SYS_MEAS_V_SYS, F.C_PCTL_CB_LATCH c] ++ (List.range 16).map F.TILE_STAT_CROWBAR ++
          (List.range 16).map F.TILE_STAT_STATE) [.sys, .tile, .course, .faults] [2 * 32 + c.val] fun d =>
        d.f (F.C_PCTL_CB_LATCH c) = 1 ∧ d.f F.SYS_MEAS_V_SYS = v ∧
        ∀ t : Fin 16, s.dev.inCourse c t = true → s.dev.isDump t = true → within 2 5 (s.dev.tst t) = true →
          d.tst t = 2 ∧ d.f (F.TILE_STAT_CROWBAR t) = 1 ∧
          (vget d.tile t).gates = (if s.dev.f (F.TILE_DUMPSTAT_LIMITED t) = 0 ∧ s.dev.pw.vdrvOk = true then .lowHeld else .off)) ∧
    ((s.dev.sys.belowSince.any fun u => decide (u + 10000 ≤ s.dev.pw.clock)) = true → s.dev.running = true → (vget s.dev.course c).cbRelease = false → s.dev.f (F.C_PCTL_CB_LATCH c) = 1 → s.dev.portCode c = 6 → s.dev.f (F.C_MAP_ENABLE c) = 1 →
      effect (.cbClear c) s [F.C_PCTL_CB_LATCH c, F.HOLD_STAT_CB_BLOCK] [.course] [] fun d =>
        d.f (F.C_PCTL_CB_LATCH c) = 0 ∧ (vget d.course c).cbRelease = true) ∧
    (s.dev.sys.belowSince = none → (vget s.dev.course c).cbRelease = false →
      effect (.cbClear c) s [F.C_PCTL_CB_REJ c] [] [] fun d => d.f (F.C_PCTL_CB_REJ c) = 1) ∧
    (s.dev.guardProfile = true →
      (effect (.twinMismatch (some p)) s [F.GUARD_STAT_TWIN p] [.faults] [2 * 32 + 20] fun d => d.f (F.GUARD_STAT_TWIN p) = 1) ∧
      (effect (.twinMismatch none) s [F.SYS_STAT_TWIN] [.faults] [2 * 32 + 20] fun d => d.f F.SYS_STAT_TWIN = 1)) ∧
    (s.dev.regMode c = 0 →
      effect (.mmClear c) s [F.C_PCTL_MM_FAULT c] [.course] [] fun d =>
        d.f (F.C_PCTL_MM_FAULT c) = 0 ∧ (vget d.course c).integ = Vector.replicate 5 0 ∧ (vget d.course c).mirror = Vector.replicate 5 0) ∧
    (s.dev.regMode c ≠ 0 →
      effect (.mmClear c) s [F.C_PCTL_MM_REJ c] [] [] fun d => d.f (F.C_PCTL_MM_REJ c) = 1)

/-- R148 to R152: a guard condition opens the port's FET, shows its cause, counts the trip, raises EVB2 source 12 + p and writes a fault-log entry; at least
a second later the FET closes again and one retry counts; REARM clears a latch, and is refused while none stands; a retry that is 60 s old counts no
more; a guard takes its course's direction. What else they leave unchanged is stated for MAIN, no course on it, while the power path waits for a
handback. A clause that meets a point the rules leave open takes the reading of log entries 22, 23 and 71, the model's choice. -/
def Obligations.PortGuards : Prop :=
  ∀ (p : Fin 5) (c : Fin 6) (v : NodeSample) (i : Int) (filtered : Bool) (s : State), s.dev.running = true →
    (s.dev.f (F.GUARD_STAT_FET_ON p) = 1 →
      (s.dev.reverse (p + 1) i = true → leads (.guardTrip p v i filtered) s fun d => d.f (F.GUARD_STAT_RC p) = 1 ∧ d.pendingEvent (2 * 32 + 12 + p.val) = true) ∧
      (filtered = true → s.dev.pd (F.GUARD_TRIP1_OC_TRIP p) < i.natAbs →
        leads (.guardTrip p v i filtered) s fun d => d.f (F.GUARD_STAT_OC p) = 1 ∧ d.pendingEvent (2 * 32 + 12 + p.val) = true) ∧
      (s.dev.pd (F.GUARD_TRIP1_OV_TRIP p) < s.dev.nodeVolts (p + 1) v.node v.ain →
        leads (.guardTrip p v i filtered) s fun d =>
          d.f (F.GUARD_STAT_OV p) = 1 ∧ d.f (F.GUARD_STAT_TRIPS p) = (s.dev.f (F.GUARD_STAT_TRIPS p) + 1) % 65536 ∧ d.pendingEvent (2 * 32 + 12 + p.val) = true)) ∧
    ((vget s.dev.port p).ocHeld = true → s.dev.f (F.GUARD_STAT_LATCHED p) = 0 →
      (if p = 1 then (vget s.dev.port 1).debounced = true else s.dev.qualified (p + 1) = true ∨ s.dev.sourceContract (p + 1) = true) →
      leads (.guardOcRetry p) s fun d =>
        d.f (F.GUARD_STAT_RETRIES p) = min 7 (s.dev.f (F.GUARD_STAT_RETRIES p) + 1) ∧ (vget d.port p).ocHeld = false) ∧
    (s.dev.f (F.GUARD_STAT_LATCHED p) = 1 →
      leads (.guardRearm p true) s fun d => d.f (F.GUARD_STAT_LATCHED p) = 0 ∧ d.f (F.GUARD_STAT_RETRIES p) = 0) ∧
    (s.dev.sys.handback = true → filtered = true → s.dev.pd (F.GUARD_TRIP1_OC_TRIP 0) < i.natAbs → s.dev.reverse 1 i = false → v.node ≤ s.dev.pd (F.GUARD_TRIP1_OV_TRIP 0) →
      (∀ k : Fin 6, s.dev.portCode k ≠ 1) → s.dev.f (F.GUARD_STAT_FET_ON 0) = 1 → s.dev.f (F.PORT_STAT_QSTATE 0) = 0 → s.dev.f F.PATH_STAT_STATE = 0 →
      effect (.guardTrip 0 v i filtered) s [F.GUARD_STAT_OC 0, F.GUARD_STAT_FET_ON 0, F.GUARD_STAT_TRIPS 0, F.GUARD_STAT_LATCHED 0,
          F.PORT_STAT_DEB_MS 0, F.PORT_STAT_QSTATE 0] [.port, .faults] [2 * 32 + 12] fun d =>
        d.f (F.GUARD_STAT_FET_ON 0) = 0 ∧ d.f (F.GUARD_STAT_OC 0) = 1 ∧ d.f (F.GUARD_STAT_TRIPS 0) = (s.dev.f (F.GUARD_STAT_TRIPS 0) + 1) % 65536 ∧
        d.f (F.GUARD_STAT_LATCHED 0) = (if s.dev.pd (F.GUARD_CFG_OC_RETRY 0) ≤ s.dev.f (F.GUARD_STAT_RETRIES 0) then 1 else s.dev.f (F.GUARD_STAT_LATCHED 0))) ∧
    (s.dev.sys.handback = true → (vget s.dev.port 0).ocHeld = true → s.dev.f (F.GUARD_STAT_LATCHED 0) = 0 → s.dev.f (F.PORT_STAT_QSTATE 0) = 2 →
      effect (.guardOcRetry 0) s [F.GUARD_STAT_FET_ON 0, F.GUARD_STAT_RETRIES 0] [.port] [] fun d =>
        d.f (F.GUARD_STAT_FET_ON 0) = 1 ∧ d.f (F.GUARD_STAT_RETRIES 0) = min 7 (s.dev.f (F.GUARD_STAT_RETRIES 0) + 1) ∧ (vget d.port 0).ocHeld = false) ∧
    (s.dev.f (F.GUARD_STAT_LATCHED 0) = 1 →
      effect (.guardRearm 0 true) s [F.GUARD_STAT_LATCHED 0, F.GUARD_STAT_RETRIES 0, F.PORT_STAT_DEB_MS 0, F.PORT_STAT_QSTATE 0] [.port] [] fun d =>
        d.f (F.GUARD_STAT_LATCHED 0) = 0 ∧ d.f (F.GUARD_STAT_RETRIES 0) = 0 ∧ d.f (F.PORT_STAT_DEB_MS 0) = 0) ∧
    (s.dev.f (F.GUARD_STAT_LATCHED p) = 0 →
      effect (.guardRearm p true) s [F.GUARD_STAT_REARM_REJ p] [] [] fun d => d.f (F.GUARD_STAT_REARM_REJ p) = 1) ∧
    (effect (.guardRetryWindowExpiry p) s [F.GUARD_STAT_RETRIES p] [.port] [] fun d =>
      (vget d.port p).retryTimes = (vget s.dev.port p).retryTimes.dropLast ∧
      d.f (F.GUARD_STAT_RETRIES p) = min 7 ((vget s.dev.port p).retryTimes.length - 1)) ∧
    (s.dev.courseOf (p + 1) = some c.val →
      effect (.guardDirectionChange p) s [] [.course] [] fun d =>
        (vget d.course c).guardPend = false ∧ (vget d.course c).guardDir = s.dev.dir c)

/-- R139, R156, R158, R161: the voltage of SYS leaves its window and returns to it with EVB2 sources 17 and 18; the battery of the hold loop
falls below its floor, which stops the loop, and rises again; a surplus stage whose threshold SYS exceeds shows in SURP_ST, with EVB2 source 21 for the
dump stage; a course whose surplus demand has been 0 for 16 updates takes the mode that another rule gives it, or stops. A clause that meets a point the rules leave open takes the reading of log entry 20, the model's choice. -/
def Obligations.SysWindowAndSurplus : Prop :=
  ∀ (c : Fin 6) (v : Nat) (s : State),
    (s.dev.running = true →
    (s.dev.sys.winSeen = true → v < 65536 → s.dev.f F.SYS_STAT_IN_WIN = 1 → (s.dev.seeSys v).sysInWindow = false →
      effect (.sysWindowChange v) s [F.SYS_MEAS_V_SYS, F.SYS_STAT_IN_WIN, F.SYS_STAT_LEFT_WIN] [.sys] [2 * 32 + 17] fun d =>
        d.f F.SYS_STAT_IN_WIN = 0 ∧ d.f F.SYS_STAT_LEFT_WIN = 1 ∧ d.f F.SYS_MEAS_V_SYS = v) ∧
    (s.dev.sys.winSeen = true → v < 65536 → s.dev.f F.SYS_STAT_IN_WIN = 0 → (s.dev.seeSys v).sysInWindow = true →
      effect (.sysWindowChange v) s [F.SYS_MEAS_V_SYS, F.SYS_STAT_IN_WIN] [.sys] [2 * 32 + 18] fun d =>
        d.f F.SYS_STAT_IN_WIN = 1 ∧ d.f F.SYS_MEAS_V_SYS = v) ∧
    (∀ st : Fin 3, s.dev.sys.winSeen = true → s.dev.f F.SYS_TARGET_TARGET + s.dev.stageThr (st + 1) < v →
      leads (.surplusEnter st v) s fun d => st.val + 1 ≤ d.f F.SYS_STAT_SURP_ST ∧ d.f F.SYS_MEAS_V_SYS = min 65535 v ∧
        (st = 2 → s.dev.f F.SYS_STAT_SURP_ST ≠ 3 → d.pendingEvent (2 * 32 + 21) = true)) ∧
    (s.dev.f (F.C_MODE_MODE c) = 5 → 16 ≤ (vget s.dev.course c).run0 →
      leads (.surplusExit c) s fun d => s.dev.otherMode c = none → d.f (F.C_MODE_MODE c) = 0) ∧
    (s.dev.sys.winSeen = true → v < 65536 → s.dev.f F.SYS_TARGET_TARGET + s.dev.stageThr 3 < v → (∀ k : Fin 6, s.dev.f (F.C_MAP_ENABLE k) = 0) →
      s.dev.f F.SYS_STAT_SURP_ST ≠ 3 →
      effect (.surplusEnter 2 v) s [F.SYS_MEAS_V_SYS, F.SYS_STAT_SURP_ST] [.sys] [2 * 32 + 21] fun d =>
        d.f F.SYS_STAT_SURP_ST = 3 ∧ d.f F.SYS_MEAS_V_SYS = v) ∧
    (s.dev.f (F.C_MODE_MODE c) = 5 → 16 ≤ (vget s.dev.course c).run0 → s.dev.otherMode c = none → s.dev.lone c → s.dev.f F.SYS_STAT_SURP_ST = 3 →
      effect (.surplusExit c) s (F.SYS_STAT_SURP_ST :: stopFields s.dev c) [.course, .tile, .sys] [] fun d => s.dev.stopped d c)) ∧
    (leads .holdBatLow s fun d => d.f F.HOLD_STAT_BAT_LOW = 1 ∧ d.sys.holdRuns = false) ∧
    (leads .holdBatOk s fun d => d.f F.HOLD_STAT_BAT_LOW = 0) ∧
    (s.dev.sys.holdRuns = false →
      effect .holdBatLow s [F.HOLD_STAT_BAT_LOW] [] [] fun d => d.f F.HOLD_STAT_BAT_LOW = 1) ∧
    (s.dev.pw.absent = false →
      effect .holdBatOk s [F.HOLD_STAT_BAT_LOW] [] [] fun d => d.f F.HOLD_STAT_BAT_LOW = 0) ∧
    (s.dev.pw.mode = .on → s.dev.pw.inReset = true → s.dev.pw.absent = true → s.dev.sys.holdMap ≠ [] → s.dev.f F.THERM_HW_PD_SHUT = 0 → (∀ k : Fin 6, s.dev.f (F.C_PCTL_CB_LATCH k) = 0) →
      effect .holdBatOk s [F.HOLD_STAT_BAT_LOW, F.HOLD_STAT_CB_BLOCK] [.sys] [] fun d =>
        d.f F.HOLD_STAT_BAT_LOW = 0 ∧ d.sys.holdRuns = true ∧ d.f F.HOLD_STAT_CB_BLOCK = 0)

/-! ### Power path (R169 to R186) -/

/-- R170, R172, R176: the comparators of a port follow its voltage with their hysteresis. A voltage inside the window starts the insertion debounce where
the conditions of R169 hold, and the fall of a qualified source's voltage only moves its comparator until the loss is declared; the window debounce of BAT
closes its FET, and what it leaves unchanged is stated for a handover, in which the path decides nothing, with a battery present.

R172, R173, R177, R182, R186: the debounce completes: the port is qualified, its FET closes, EVB2 source 30. A source on MAIN that is not the lead
and carries nothing is lost: QSTATE 0, LOST, LOSSES, FET open, EVB2 source 31. A transfer completes 16 updates after step 2: the incoming port leads,
EVB2 source 29. What else they leave unchanged is stated for a qualification during a handover, a loss on MAIN, and a transfer whose incoming port is
the best source and whose outgoing course stands alone and tracks STOP 0. A clause that meets a point the rules leave open takes the reading of log entry 24, the model's choice. -/
def Obligations.SourcePorts : Prop :=
  (∀ (p : Fin 5) (x : NodeSample) (v : Nat) (s : State), s.dev.running = true → s.dev.nodeVolts (p + 1) x.node x.ain = v →
     (leads (.portWindowChange p x) s fun d =>
       d.f (F.PORT_STAT_ABOVE_MIN p) = (if s.dev.f (F.PORT_QUAL_QUAL_VMIN p) ≤ v then 1
         else if v + windowHyst p < s.dev.f (F.PORT_QUAL_QUAL_VMIN p) then 0 else s.dev.f (F.PORT_STAT_ABOVE_MIN p)) ∧
       d.f (F.PORT_STAT_ABOVE p) = (if s.dev.f (F.PORT_QUAL_QUAL_VMAX p) ≤ v then 1
         else if v + windowHyst p < s.dev.f (F.PORT_QUAL_QUAL_VMAX p) then 0 else s.dev.f (F.PORT_STAT_ABOVE p))) ∧
     (s.dev.inWindow 2 = true → (vget s.dev.port 1).debounced = false → s.dev.f (F.GUARD_STAT_LATCHED 1) = 0 → s.dev.f (F.C_PCTL_CB_LATCH 1) = 0 →
       leads .batWindowDebounce s fun d =>
         d.f (F.PORT_STAT_QSTATE 1) = 2 ∧ d.f (F.PORT_STAT_DEB_MS 1) = 100 ∧ (vget d.port 1).debounced = true ∧
         ((vget s.dev.port 1).ocHeld = false → d.f (F.GUARD_STAT_FET_ON 1) = 1)) ∧
     (s.dev.qualified (p + 1) = false → s.dev.inWindow (p + 1) = false → (vget s.dev.port p).outside = false →
       s.dev.f (F.PORT_QUAL_QUAL_VMIN p) ≤ v → v + windowHyst p < s.dev.f (F.PORT_QUAL_QUAL_VMAX p) →
       effect (.portWindowChange p x) s [F.PORT_STAT_ABOVE_MIN p, F.PORT_STAT_ABOVE p, F.PORT_STAT_DEB_MS p, F.PORT_STAT_QSTATE p] [.port] [] fun d =>
         d.inWindow (p + 1) = true ∧ d.f (F.PORT_STAT_DEB_MS p) = 0 ∧
         d.f (F.PORT_STAT_QSTATE p) = (if p.val = 1 ∨ s.dev.mayQualify (p + 1) = true then 1 else 0)) ∧
     (s.dev.qualified (p + 1) = true → s.dev.inWindow (p + 1) = true → (vget s.dev.port p).outside = false →
       v + windowHyst p < s.dev.f (F.PORT_QUAL_QUAL_VMIN p) →
       effect (.portWindowChange p x) s [F.PORT_STAT_ABOVE_MIN p, F.PORT_STAT_ABOVE p] [] [] fun d =>
         d.f (F.PORT_STAT_ABOVE_MIN p) = 0 ∧ d.qualified (p + 1) = true) ∧
     (s.dev.inWindow 2 = true → (vget s.dev.port 1).debounced = false → s.dev.f (F.GUARD_STAT_LATCHED 1) = 0 → s.dev.f (F.C_PCTL_CB_LATCH 1) = 0 →
       (vget s.dev.port 1).ocHeld = false → s.dev.f F.CHG_PHASE_PHASE ≠ 9 → s.dev.f F.PATH_STAT_STATE = 2 →
       effect .batWindowDebounce s [F.PORT_STAT_QSTATE 1, F.PORT_STAT_DEB_MS 1, F.GUARD_STAT_FET_ON 1] [.port] [] fun d =>
         d.f (F.PORT_STAT_QSTATE 1) = 2 ∧ d.f (F.PORT_STAT_DEB_MS 1) = 100 ∧ d.f (F.GUARD_STAT_FET_ON 1) = 1 ∧ (vget d.port 1).debounced = true)) ∧
  (∀ (p : Fin 5) (x : NodeSample) (v : Nat) (c k : Fin 6) (s : State), s.dev.running = true → s.dev.nodeVolts (p + 1) x.node x.ain = v →
     (s.dev.inWindow (p + 1) = true → s.dev.mayQualify (p + 1) = true → s.dev.f (F.PORT_STAT_QSTATE p) = 1 →
       leads (.sourceQualified p) s fun d =>
         d.f (F.PORT_STAT_QSTATE p) = 2 ∧ d.f (F.PORT_STAT_DEB_MS p) = 100 ∧ d.pendingEvent (2 * 32 + 30) = true ∧
         ((vget s.dev.port p).ocHeld = false → d.f (F.GUARD_STAT_FET_ON p) = 1)) ∧
     (p ≠ 1 → s.dev.qualified (p + 1) = true → v + windowHyst p < s.dev.f (F.PORT_QUAL_QUAL_VMIN p) ∨ s.dev.f (F.PORT_QUAL_QUAL_VMAX p) ≤ v →
       leads (.sourceLost p x) s fun d =>
         d.f (F.PORT_STAT_QSTATE p) ≠ 2 ∧ d.f (F.PORT_STAT_LOST p) = 1 ∧ d.f (F.PORT_STAT_LOSSES p) = (s.dev.f (F.PORT_STAT_LOSSES p) + 1) % 65536 ∧
         d.f (F.GUARD_STAT_FET_ON p) = 0 ∧ d.pendingEvent (2 * 32 + 31) = true) ∧
     ((vget s.dev.port 1).debounced = true → x.node + 50 < s.dev.f (F.PORT_QUAL_QUAL_VMIN 1) →
       leads (.sourceLost 1 x) s fun d => d.f (F.PORT_STAT_QSTATE 1) = 0 ∧ d.f (F.GUARD_STAT_FET_ON 1) = 0) ∧
     (s.dev.f F.PATH_STAT_STATE = 4 → s.dev.path.stepTwo = true → 16 ≤ s.dev.path.stepTwoRun → s.dev.path.incoming = p.val + 1 →
       s.dev.courseOf (p + 1) = some c.val →
       leads .transferComplete s fun d =>
         d.f F.PATH_STAT_LEAD = p + 1 ∧ d.f F.PATH_CNT_TRANSFERS = (s.dev.f F.PATH_CNT_TRANSFERS + 1) % 65536 ∧
         d.pendingEvent (2 * 32 + 29) = true) ∧
     (s.dev.inWindow (p + 1) = true → s.dev.mayQualify (p + 1) = true → s.dev.f (F.PORT_STAT_QSTATE p) = 1 → s.dev.f F.PATH_STAT_STATE = 2 →
       (vget s.dev.port p).outside = false → (vget s.dev.port p).ocHeld = false → s.dev.f F.CHG_RESV_E_RELEASED = 0 → s.dev.f F.PDIS_CFG_RUNNING = 0 →
       effect (.sourceQualified p) s [F.PORT_STAT_QSTATE p, F.PORT_STAT_DEB_MS p, F.GUARD_STAT_FET_ON p] [] [2 * 32 + 30] fun d =>
         d.f (F.PORT_STAT_QSTATE p) = 2 ∧ d.f (F.PORT_STAT_DEB_MS p) = 100 ∧ d.f (F.GUARD_STAT_FET_ON p) = 1) ∧
     (s.dev.qualified 1 = true → x.node + 200 < s.dev.f (F.PORT_QUAL_QUAL_VMIN 0) → s.dev.f F.PATH_STAT_LEAD = 2 → s.dev.f F.PATH_STAT_STATE = 3 →
       s.dev.courseOf 1 = some c.val → s.dev.regMode c = 0 → s.dev.f F.SYSCFG_COMPAT = 0 →
       effect (.sourceLost 0 x) s [F.PORT_STAT_ABOVE_MIN 0, F.PORT_STAT_ABOVE 0, F.PORT_STAT_QSTATE 0, F.PORT_STAT_DEB_MS 0, F.PORT_STAT_LOST 0,
           F.PORT_STAT_LOSSES 0, F.GUARD_STAT_FET_ON 0, F.PATH_STAT_SHARERS] [.port] [2 * 32 + 31] fun d =>
         d.f (F.PORT_STAT_QSTATE 0) = 0 ∧ d.f (F.PORT_STAT_LOST 0) = 1 ∧ d.f (F.GUARD_STAT_FET_ON 0) = 0 ∧
         d.f (F.PORT_STAT_LOSSES 0) = (s.dev.f (F.PORT_STAT_LOSSES 0) + 1) % 65536 ∧ (vget d.port 0).outside = true) ∧
     (s.dev.f F.PATH_STAT_STATE = 4 → s.dev.path.stepTwo = true → 16 ≤ s.dev.path.stepTwoRun → s.dev.path.incoming = p.val + 1 →
       s.dev.bestSource = some (p.val + 1) → s.dev.courseOf (p + 1) = some c.val → s.dev.canTake c = true → s.dev.fetOn (p + 1) = true →
       s.dev.f (F.C_MODE_MODE c) = 3 → s.dev.f (F.C_RSTAT_DIR c) = 0 → s.dev.posOf (p + 1) < 4 →
       s.dev.courseOf (s.dev.f F.PATH_STAT_LEAD) = some k.val → s.dev.f F.PATH_STAT_LEAD ≠ 2 → k ≠ c → s.dev.lone k → (vget s.dev.course c).run3 = 0 →
       s.dev.f (F.C_TRACK_STOP k) = 0 → s.dev.f (F.C_MODE_MODE k) = 1 →
       effect .transferComplete s ([F.PATH_STAT_STATE, F.PATH_STAT_LEAD, F.PATH_STAT_SHARERS, F.PATH_CNT_TRANSFERS, F.C_MODE_MODE c, F.C_RSTAT_DIR c,
           F.C_REF_REF c, F.C_REF_FINAL c] ++ stopFields s.dev k) [.path, .course, .tile] [2 * 32 + 29] fun d =>
         d.f F.PATH_STAT_STATE = 1 ∧ d.f F.PATH_STAT_LEAD = p + 1 ∧ d.f F.PATH_CNT_TRANSFERS = (s.dev.f F.PATH_CNT_TRANSFERS + 1) % 65536 ∧
         d.f (F.C_MODE_MODE c) = 1 ∧ d.f (F.C_REF_REF c) = s.dev.f F.SYS_TARGET_REF ∧ d.f (F.C_REF_FINAL c) = s.dev.f F.SYS_TARGET_TARGET ∧
         s.dev.stopped d k))

/-- R178, R179: while every source is at its limit the next permitted one starts in I_PORT; with charging backed off to 0 C1 turns to assist, EVB3 source
7, and the phase becomes IDLE; a sharer, or the assist, whose reference has been 0 for 16 updates stops. What else they leave unchanged is stated for
courses that stand alone. -/
def Obligations.SharingAndAssist : Prop :=
  ∀ (n : Fin 4) (c : Fin 6) (s : State), s.dev.running = true →
    (s.dev.f F.PATH_STAT_STATE = 1 → s.dev.allLimited = true → s.dev.nextSharer = some n.val → s.dev.courseOf (s.dev.order.getD n 0) = some c.val →
      s.dev.canTake c = true →
      leads .shareStart s fun d => d.fbit F.PATH_STAT_SHARERS n = true ∧ d.f (F.C_MODE_MODE c) = 3 ∧ d.f (F.C_RSTAT_DIR c) = 0) ∧
    (s.dev.f F.PATH_STAT_STATE = 1 → s.dev.f F.SRC_SHARE_BAT_ASSIST = 1 → s.dev.hot = true → s.dev.allLimited = true → s.dev.ceiling = 0 →
      s.dev.f F.PATH_STAT_ASSIST = 0 → s.dev.courseOf 2 = some c.val → s.dev.canTake c = true → s.dev.fetOn 2 = true →
      leads .batAssistStart s fun d =>
        d.f F.PATH_STAT_ASSIST = 1 ∧ d.f (F.C_RSTAT_DIR c) = 0 ∧ d.f (F.C_MODE_MODE c) = 3 ∧
        (s.dev.f F.CHG_PHASE_PHASE < 9 → d.f F.CHG_PHASE_PHASE = 0) ∧ d.pendingEvent (3 * 32 + 7) = true) ∧
    (s.dev.courseOf (s.dev.order.getD n 0) = some c.val → s.dev.fbit F.PATH_STAT_SHARERS n = true → 16 ≤ (vget s.dev.course c).runF0 →
      leads (.shareRelease (some n)) s fun d => d.fbit F.PATH_STAT_SHARERS n = false ∧ d.f (F.C_MODE_MODE c) = 0) ∧
    (s.dev.courseOf 2 = some c.val → s.dev.f F.PATH_STAT_ASSIST = 1 → 16 ≤ (vget s.dev.course c).runF0 →
      leads (.shareRelease none) s fun d => d.f F.PATH_STAT_ASSIST = 0) ∧
    (s.dev.lone c →
    (s.dev.f F.PATH_STAT_STATE = 1 → s.dev.allLimited = true → s.dev.nextSharer = some n.val → s.dev.courseOf (s.dev.order.getD n 0) = some c.val →
      s.dev.canTake c = true → s.dev.f (F.C_MODE_MODE c) = 0 → s.dev.delivers c = false →
      effect .shareStart s (F.PATH_STAT_SHARERS :: startFields c) [.course] [] fun d =>
        d.fbit F.PATH_STAT_SHARERS n = true ∧ d.f (F.C_MODE_MODE c) = 3 ∧ d.f (F.C_RSTAT_DIR c) = 0 ∧ d.f (F.C_RSTAT_START_ST c) = 1 ∧
        d.f (F.C_REF_FINAL c) = 0) ∧
    (s.dev.f F.PATH_STAT_STATE = 1 → s.dev.f F.SRC_SHARE_BAT_ASSIST = 1 → s.dev.hot = true → s.dev.allLimited = true → s.dev.ceiling = 0 →
      s.dev.f F.PATH_STAT_ASSIST = 0 → s.dev.courseOf 2 = some c.val → s.dev.canTake c = true → s.dev.fetOn 2 = true → s.dev.f (F.C_MODE_MODE c) = 3 →
      s.dev.f F.CHG_PHASE_PHASE = 3 →
      effect .batAssistStart s [F.C_RSTAT_DIR c, F.C_MODE_MODE c, F.C_REF_FINAL c, F.PATH_STAT_ASSIST, F.CHG_PHASE_PHASE, F.CHG_PHASE_PREV, F.CHG_PHASE_TIMER]
        [.course, .chg, .ret] [3 * 32 + 7, 3 * 32] fun d =>
          d.f F.PATH_STAT_ASSIST = 1 ∧ d.f (F.C_RSTAT_DIR c) = 0 ∧ d.f (F.C_MODE_MODE c) = 3 ∧ d.f F.CHG_PHASE_PHASE = 0 ∧ d.f F.CHG_PHASE_PREV = 3) ∧
    (s.dev.courseOf (s.dev.order.getD n 0) = some c.val → s.dev.fbit F.PATH_STAT_SHARERS n = true → 16 ≤ (vget s.dev.course c).runF0 →
      s.dev.f (F.C_TRACK_STOP c) = 0 → s.dev.f (F.C_MODE_MODE c) = 3 →
      effect (.shareRelease (some n)) s (F.PATH_STAT_SHARERS :: stopFields s.dev c) [.course, .tile] [] fun d =>
        d.fbit F.PATH_STAT_SHARERS n = false ∧ s.dev.stopped d c) ∧
    (s.dev.courseOf 2 = some c.val → s.dev.f F.PATH_STAT_ASSIST = 1 → 16 ≤ (vget s.dev.course c).runF0 → s.dev.f F.CHG_PHASE_PHASE = 0 →
      s.dev.f (F.C_TRACK_STOP c) = 0 → s.dev.f (F.C_MODE_MODE c) = 3 →
      effect (.shareRelease none) s (F.PATH_STAT_ASSIST :: stopFields s.dev c) [.course, .tile] [] fun d =>
        d.f F.PATH_STAT_ASSIST = 0 ∧ s.dev.stopped d c))

/-! ### Charger and battery (R187 to R203) -/

/-- R187, R189, R190, R194: a dwell of TRICKLE at V_DEEP leads to PRECHARGE, of PRECHARGE at V_PRE to CC or REDUCED_TEMP, of TERMINATE to DONE; an expired
timer of TRICKLE, PRECHARGE or CC is FAULT with cause 1, 2 or 3 and EVB3 source 1, that of CV ends in DONE; CLEAR_FAULT derives the phase, and sets
CLEAR_REJ while the cause is present. What else they leave unchanged is stated for a TRICKLE that C1 carries, and else while C1 is not the charger's to
drive. A clause that meets a point the rules leave open takes the reading of log entries 25, 26 and 27, the model's choice. -/
def Obligations.ChargePhases : Prop :=
  ∀ (c : Fin 6) (s : State), s.dev.running = true → s.dev.f F.CHG_CFG_CHEM ≠ 0 →
    (s.dev.f F.CHG_PHASE_PHASE = 1 → s.dev.f F.CHG_VTH_V_DEEP ≤ s.dev.f F.CHG_MEAS_V_CELL →
      leads .chargeDwellExpiry s fun d => d.f F.CHG_PHASE_PHASE = 2 ∧ d.f F.CHG_PHASE_PREV = 1 ∧ d.pendingEvent (3 * 32) = true) ∧
    (s.dev.f F.CHG_PHASE_PHASE = 2 → s.dev.f F.CHG_VTH_V_PRE ≤ s.dev.f F.CHG_MEAS_V_CELL →
      leads .chargeDwellExpiry s fun d => d.f F.CHG_PHASE_PHASE = (if s.dev.reducedWin then 8 else 3) ∧ d.pendingEvent (3 * 32) = true) ∧
    (s.dev.f F.CHG_PHASE_PHASE = 5 →
      leads .chargeDwellExpiry s fun d => d.f F.CHG_PHASE_PHASE = 6 ∧ d.f F.CHG_PHASE_END = 0 ∧ d.pendingEvent (3 * 32 + 5) = true) ∧
    (within 1 3 (s.dev.f F.CHG_PHASE_PHASE) = true →
      leads .chargeSafetyTimerExpiry s fun d =>
        d.f F.CHG_PHASE_PHASE = 10 ∧ d.f F.CHG_PHASE_CAUSE = s.dev.f F.CHG_PHASE_PHASE ∧ d.pendingEvent (3 * 32 + 1) = true) ∧
    (within 4 5 (s.dev.f F.CHG_PHASE_PHASE) = true →
      leads .chargeSafetyTimerExpiry s fun d => d.f F.CHG_PHASE_PHASE = 6 ∧ d.f F.CHG_PHASE_END = 1 ∧ d.pendingEvent (3 * 32 + 5) = true) ∧
    (s.dev.f F.CHG_PHASE_PHASE = 10 → s.dev.causePresent = false →
      leads .chgClearFault s fun d => d.f F.CHG_PHASE_PHASE = s.dev.derivedPhase ∧ d.f F.CHG_PHASE_PREV = 10) ∧
    (s.dev.f F.CHG_PHASE_PHASE = 1 → s.dev.f F.CHG_VTH_V_DEEP ≤ s.dev.f F.CHG_MEAS_V_CELL → s.dev.courseOf 2 = some c.val → s.dev.canTake c = true →
      s.dev.fetOn 2 = true → s.dev.pathUsesC1 = false → s.dev.chg.probe = none → s.dev.f (F.C_MODE_MODE c) = 3 → s.dev.f (F.C_RSTAT_DIR c) = 1 →
      effect .chargeDwellExpiry s [F.CHG_PHASE_PHASE, F.CHG_PHASE_PREV, F.CHG_PHASE_TIMER, F.C_REF_FINAL c, F.C_RSTAT_DIR c, F.C_MODE_MODE c]
        [.chg, .ret, .course] [3 * 32] fun d =>
          d.f F.CHG_PHASE_PHASE = 2 ∧ d.f F.CHG_PHASE_PREV = 1 ∧ d.f (F.C_REF_FINAL c) = s.dev.f F.CHG_IPRE_I_PRE) ∧
    (s.dev.f F.CHG_PHASE_PHASE = 2 → s.dev.pathUsesC1 = true →
      effect .chargeSafetyTimerExpiry s [F.CHG_PHASE_PHASE, F.CHG_PHASE_PREV, F.CHG_PHASE_TIMER, F.CHG_PHASE_CAUSE] [.chg, .ret, .faults]
        [3 * 32, 3 * 32 + 1] fun d =>
          d.f F.CHG_PHASE_PHASE = 10 ∧ d.f F.CHG_PHASE_CAUSE = 2 ∧ d.f F.CHG_PHASE_PREV = 2 ∧ d.f F.CHG_PHASE_TIMER = 0) ∧
    (s.dev.f F.CHG_PHASE_PHASE = 10 → s.dev.causePresent = false → s.dev.pathUsesC1 = true → s.dev.derivedPhase = 2 →
      effect .chgClearFault s [F.CHG_PHASE_PHASE, F.CHG_PHASE_PREV, F.CHG_PHASE_TIMER] [.chg, .ret] [3 * 32] fun d =>
        d.f F.CHG_PHASE_PHASE = 2 ∧ d.f F.CHG_PHASE_PREV = 10) ∧
    (s.dev.f F.CHG_PHASE_PHASE = 10 → s.dev.causePresent = true →
      effect .chgClearFault s [F.CHG_CTL_CLEAR_REJ] [] [] fun d => d.f F.CHG_CTL_CLEAR_REJ = 1)

/-- R201 to R203: a probe in ABSENT gives C1 its probe current towards BAT; a pulse whose voltage rose by more than 1.0 V leaves ABSENT, one that passes on
a debounced battery makes it present, EVB3 source 3; each detector in the phases in which it applies removes the battery: ABSENT, EVB3 source 2 and a
fault-log entry. What else they leave unchanged is stated for a C1 that stands alone, and for a removal in CC. A clause that meets a point the rules leave open takes the reading of log entries 26 and 28, the model's choice. -/
def Obligations.BatteryPresence : Prop :=
  ∀ (c : Fin 6) (v v0 : Nat) (det : Fin 3) (s : State), s.dev.running = true → s.dev.f F.CHG_CFG_CHEM ≠ 0 → s.dev.courseOf 2 = some c.val →
    (s.dev.f F.CHG_PHASE_PHASE = 9 → s.dev.sourceLeads = true → s.dev.chg.probe = none → s.dev.canTake c = true → s.dev.fetOn 2 = true →
      (leads .chgProbe s fun d => d.f (F.C_MODE_MODE c) = 3 ∧ d.f (F.C_RSTAT_DIR c) = 1 ∧ d.chg.probe = some s.dev.chg.vBat) ∧
      (leads .probeTimer s fun d => d.f (F.C_MODE_MODE c) = 3 ∧ d.f (F.C_RSTAT_DIR c) = 1 ∧ d.chg.probe = some s.dev.chg.vBat)) ∧
    (s.dev.chg.probe = some (v0 : Int) → leads (.probeEnd v) s fun d => d.chg.probe = none ∧ d.chg.vBat = v) ∧
    ((det.val = 0 ∨ (det.val = 1 ∧ chargingPhase (s.dev.f F.CHG_PHASE_PHASE) = true) ∨ (det.val = 2 ∧ s.dev.f F.CHG_PHASE_PHASE ∈ [3, 4, 5, 8])) →
      s.dev.chg.timedOut = none →
      leads (.batteryRemoval det) s fun d =>
        d.f F.CHG_PHASE_PHASE = 9 ∧ d.chg.removed = true ∧ d.chg.probe = none ∧ d.pendingEvent (3 * 32 + 2) = true) ∧
    (s.dev.lone c →
    (s.dev.f F.CHG_PHASE_PHASE = 9 → s.dev.f F.PATH_STAT_STATE = 1 → s.dev.chg.probe = none → s.dev.canTake c = true → s.dev.fetOn 2 = true →
      s.dev.f (F.C_MODE_MODE c) = 0 → s.dev.delivers c = false →
      (effect .chgProbe s (startFields c) [.course, .chg] [] fun d =>
        d.f (F.C_MODE_MODE c) = 3 ∧ d.f (F.C_RSTAT_DIR c) = 1 ∧ d.chg.probe = some s.dev.chg.vBat ∧
        d.f (F.C_REF_FINAL c) = (if s.dev.f F.CHG_CFG_CHEM = 6 then s.dev.f F.CHG_IPRE_I_PRE else s.dev.f F.CHG_IPRE_I_TRICKLE)) ∧
      (effect .probeTimer s (startFields c) [.course, .chg] [] fun d =>
        d.f (F.C_MODE_MODE c) = 3 ∧ d.f (F.C_RSTAT_DIR c) = 1 ∧ d.chg.probe = some s.dev.chg.vBat ∧
        d.f (F.C_REF_FINAL c) = (if s.dev.f F.CHG_CFG_CHEM = 6 then s.dev.f F.CHG_IPRE_I_PRE else s.dev.f F.CHG_IPRE_I_TRICKLE))) ∧
    (s.dev.chg.probe = some (v0 : Int) → s.dev.regMode c ≠ 0 → v0 + 100 < v →
      effect (.probeEnd v) s (stopFields s.dev c) [.course, .tile, .chg] [] fun d =>
        d.chg.probe = none ∧ d.chg.vBat = v ∧ s.dev.stopped d c ∧ d.f F.CHG_PHASE_PHASE = s.dev.f F.CHG_PHASE_PHASE) ∧
    (s.dev.chg.probe = some (v0 : Int) → s.dev.regMode c = 0 → v ≤ v0 + 100 → s.dev.f (F.PORT_QUAL_QUAL_VMIN 1) ≤ v →
      v < s.dev.f (F.PORT_QUAL_QUAL_VMAX 1) → s.dev.f F.CHG_PHASE_PHASE = 9 → (vget s.dev.port 1).debounced = true → s.dev.chg.ntcOpen = false →
      s.dev.chargeSource = false →
      effect (.probeEnd v) s [F.CHG_PHASE_PHASE, F.CHG_PHASE_PREV, F.CHG_PHASE_TIMER] [.chg, .ret] [3 * 32, 3 * 32 + 3] fun d =>
        d.f F.CHG_PHASE_PHASE = 0 ∧ d.f F.CHG_PHASE_PREV = 9 ∧ d.chg.removed = false) ∧
    (s.dev.f F.CHG_PHASE_PHASE = 3 → s.dev.chg.timedOut = none → s.dev.regMode c ≠ 0 → s.dev.f F.PATH_STAT_LEAD ≠ 2 → s.dev.f F.PATH_STAT_STATE = 1 →
      effect (.batteryRemoval det) s ([F.CHG_PHASE_PHASE, F.CHG_PHASE_PREV, F.CHG_PHASE_TIMER, F.PATH_STAT_ASSIST] ++ stopFields s.dev c)
        [.chg, .ret, .faults, .course, .tile] [3 * 32, 3 * 32 + 2] fun d =>
          d.f F.CHG_PHASE_PHASE = 9 ∧ d.f F.CHG_PHASE_PREV = 3 ∧ s.dev.stopped d c ∧ d.chg.removed = true ∧ (det.val = 0 → d.chg.ntcOpen = true)))

/-- R197 to R199: each millisecond the account takes V_BAT × I_BAT, scaled by η while charging, within 0 and CAPACITY, and E_AVAIL shows it; reaching the
floor raises EVB3 source 9; the account is retained on command; RELEASE frees the reserve once, EVB3 source 10 and a fault-log entry; RESTORE ends
that. What else they leave unchanged is stated while a handover runs, so that the path decides nothing. A clause that meets a point the rules leave open takes the reading of log entry 29, the model's choice. -/
def Obligations.EnergyAndReserve : Prop :=
  ∀ (v : Nat) (i : Int) (s : State), s.dev.running = true → s.dev.f F.CHG_CFG_CHEM ≠ 0 →
    (leads (.energyAccountTick v i) s fun d =>
      d.chg.energy = s.dev.accountAfter v i ∧ d.f F.CHG_ENERGY_E_AVAIL = s.dev.accountAfter v i / 360000000000 % 65536) ∧
    (effect .energyRetain s [] [.ret] [] fun d => d.ret.eAvail = s.dev.f F.CHG_ENERGY_E_AVAIL) ∧
    (s.dev.f F.CHG_RESV_E_RELEASED = 0 → leads .reserveRelease s fun d => d.f F.CHG_RESV_E_RELEASED = 1 ∧ d.pendingEvent (3 * 32 + 10) = true) ∧
    (s.dev.f F.CHG_RESV_E_RELEASED = 1 → leads .reserveRestore s fun d => d.f F.CHG_RESV_E_RELEASED = 0) ∧
    (s.dev.f F.PATH_STAT_STATE = 2 → s.dev.f F.PATH_STAT_ASSIST = 0 →
    (s.dev.f F.CHG_RESV_E_UNCAL = 1 → s.dev.f F.CHG_RESV_E_RELEASED = 0 → s.dev.accountAfter v i < 65536 * 360000000000 →
      (s.dev.f F.CHG_VFLOOR_V_RES < s.dev.f F.CHG_MEAS_V_CELL →
        effect (.energyAccountTick v i) s [F.CHG_ENERGY_E_AVAIL, F.CHG_ENERGY_E_RES, F.CHG_RESV_E_AT_FLOOR] [.chg] [] fun d =>
          d.chg.energy = min (s.dev.f F.CHG_BAT_CAPACITY * 360000000000) (if 0 ≤ i then s.dev.chg.energy - v * i.toNat * 100
            else s.dev.chg.energy + v * i.natAbs * s.dev.f F.CHG_TADJ_ETA) ∧
          d.f F.CHG_ENERGY_E_AVAIL = d.chg.energy / 360000000000 ∧ d.f F.CHG_RESV_E_AT_FLOOR = 0) ∧
      (s.dev.f F.CHG_MEAS_V_CELL ≤ s.dev.f F.CHG_VFLOOR_V_RES → s.dev.f F.CHG_RESV_E_AT_FLOOR = 0 →
        effect (.energyAccountTick v i) s [F.CHG_ENERGY_E_AVAIL, F.CHG_ENERGY_E_RES, F.CHG_RESV_E_AT_FLOOR] [.chg] [3 * 32 + 9] fun d =>
          d.f F.CHG_RESV_E_AT_FLOOR = 1)) ∧
    (s.dev.f F.CHG_RESV_E_RELEASED = 0 →
      effect .reserveRelease s [F.CHG_RESV_E_RELEASED] [.faults] [3 * 32 + 10] fun d => d.f F.CHG_RESV_E_RELEASED = 1) ∧
    (s.dev.f F.CHG_RESV_E_RELEASED = 1 → s.dev.f F.CHG_RESV_E_AT_FLOOR = 1 → s.dev.floorReached = true →
      effect .reserveRestore s [F.CHG_RESV_E_RELEASED, F.CHG_ENERGY_E_RES, F.CHG_RESV_E_AT_FLOOR] [] [] fun d =>
        d.f F.CHG_RESV_E_RELEASED = 0 ∧ d.f F.CHG_RESV_E_AT_FLOOR = 1))

/-! ### Button, lamps, power states (R200, R204 to R210) -/

/-- R204, R206, R208: SHIP_ARM and SHIP_CANCEL move SHIP_PEND; a press of 50 ms to below 2 s is a short press, EVB3 source 11; 2 s of nBTN low is a long one,
source 12; a release shows its length in 10 ms; at a slot boundary each lamp shows the wanted pattern, from slot 0 where it is new. A clause that meets a point the rules leave open takes the reading of log entries 31 and 81, the model's choice. -/
def Obligations.ButtonAndLamps : Prop :=
  ∀ (ms : Nat) (s : State), s.dev.alive = true → s.dev.pw.absent = false →
    (effect .shipArm s [F.PWR_STAT_SHIP_PEND] [] [] fun d => d.f F.PWR_STAT_SHIP_PEND = 1) ∧
    (effect .shipCancel s [F.PWR_STAT_SHIP_PEND] [] [] fun d => d.f F.PWR_STAT_SHIP_PEND = 0) ∧
    (50 ≤ ms → ms < 2000 → s.dev.pw.vkaLow = false → effect (.btnShortPress ms) s [F.PWR_STAT_PRESS_10MS, F.PWR_STAT_BTN] [] [3 * 32 + 11] fun d =>
      d.f F.PWR_STAT_PRESS_10MS = ms / 10 ∧ d.f F.PWR_STAT_BTN = 0) ∧
    (s.dev.pw.vkaLow = false → effect .btnLongPress s [F.PWR_STAT_BTN] [] [3 * 32 + 12] fun d => d.f F.PWR_STAT_BTN = 1) ∧
    (s.dev.pw.vkaLow = false → effect (.nbtnRelease ms) s [F.PWR_STAT_PRESS_10MS, F.PWR_STAT_BTN] [] [] fun d =>
      d.f F.PWR_STAT_PRESS_10MS = min 65535 (ms / 10) ∧ d.f F.PWR_STAT_BTN = 0) ∧
    (effect .statSlot s [F.STAT_CTL_PAT0, F.STAT_CTL_PAT1] [.lamp] [] fun d =>
      d.f F.STAT_CTL_PAT0 = s.dev.wantPattern 0 ∧ d.f F.STAT_CTL_PAT1 = s.dev.wantPattern 1 ∧ ∀ i : Fin 2,
        vget d.lamp i = { pattern := s.dev.wantPattern i, lit := (patternBits (s.dev.wantPattern i)).testBit (vget d.lamp i).slot,
                          slot := if (vget s.dev.lamp i).pattern = s.dev.wantPattern i then ((vget s.dev.lamp i).slot + 1) % 8 else 0 })

/-- R200, R204, R207: keep-alive, ship mode and the held power cycle are entered with every port FET open, every gate off, the lamps released, both dies in
reset, the hold loop stopped; the account is retained.

R205, R207, R406, R427, R473: a wake from ship mode or keep-alive, the release of a power cycle and power-on leave both dies at reset, the logic die
absent, the wake cause recorded, and the cause of the reset to come: 9 on a wake, 8 on a power cycle, 0 on power-on; the ring wakes from keep-alive only, and with VKA too low only a source wakes the device.

R337, R405, R406, R465, R473: nRST and the brown-out reset hold the logic die in reset with causes 2 and 1: the fields that R465 names, the power die and the
memories keep their contents, E_AVAIL takes its retained value, and every other field reads its reset value, the log store CLOSED in RETURN; a save that the brown-out cuts short is one missed; a brown-out warning raises EVB0 source 15 and
retains the account. A clause that meets a point the rules leave open takes the reading of log entries 30, 32, 33, 81 and 82, the model's choice. -/
def Obligations.PowerModes : Prop :=
  (∀ (s : State), s.dev.alive = true → s.dev.f F.CHG_CFG_CHEM ≠ 0 →
     (s.dev.bestSource = none → s.dev.pw.engines = true →
     (s.dev.f F.PATH_STAT_STATE = 5 → s.dev.f F.PWR_STAT_SHIP_PEND = 0 → leads .keepaliveEntry s fun d => s.dev.poweredDown d .keepAlive) ∧
     (s.dev.f F.PATH_STAT_STATE = 6 → s.dev.f F.PWR_STAT_SHIP_PEND = 1 → leads .keepaliveEntry s fun d => s.dev.poweredDown d .ship) ∧
     (s.dev.f F.PATH_STAT_STATE = 6 → s.dev.inWindow 2 = true → s.dev.f F.PWR_STAT_SHIP_PEND = 0 →
       leads .keepaliveEntry s fun d => s.dev.poweredDown d .keepAlive)) ∧
     (s.dev.bestSource = none → s.dev.f F.PWR_STAT_SHIP_PEND = 1 → leads .shipEntry s fun d => s.dev.poweredDown d .ship) ∧
     (s.dev.pw.vkaLow = false → leads .btnPowerCycle s fun d => s.dev.poweredDown d .cycleHeld ∧ d.f F.PWR_STAT_BTN = 1)) ∧
  (∀ (h : Bool) (s : State),
     (s.dev.pw.mode = .ship → s.dev.pw.vkaLow = false →
       leads (.wake .button) s fun d => s.dev.poweredUp d 9 ∧ d.f F.PWR_STAT_WAKE = 1 ∧ d.f F.PWR_STAT_BTN = 1 ∧ d.pw.time = 0) ∧
     (s.dev.pw.mode = .keepAlive → leads (.wake .source) s fun d => s.dev.poweredUp d 9 ∧ d.f F.PWR_STAT_WAKE = 5 ∧ d.pw.time = s.dev.pw.time) ∧
     (s.dev.pw.mode = .keepAlive → s.dev.pw.vkaLow = false → leads (.wake (.ring h)) s fun d =>
       s.dev.poweredUp d 9 ∧ d.f F.PWR_STAT_WAKE = 6 ∧ d.f F.CHG_RESV_E_HOLD_RX = h.toNat) ∧
     (s.dev.pw.mode = .ship → leads (.wake (.ring h)) s fun d => d = finish s.dev) ∧
     (s.dev.pw.mode = .keepAlive → s.dev.pw.vkaLow = true →
       (leads (.wake .button) s fun d => d = finish s.dev) ∧ (leads (.wake (.ring h)) s fun d => d = finish s.dev)) ∧
     (s.dev.pw.mode = .cycleHeld → leads .powerCycleRelease s fun d => s.dev.poweredUp d 8 ∧ d.f F.PWR_STAT_WAKE = 3) ∧
     (leads .powerOn s fun d => s.dev.poweredUp d 0 ∧ d.f F.PWR_STAT_WAKE = 0 ∧ d.f F.RSTCAUSE_CAUSE = 0 ∧ d.pw.time = 0)) ∧
  (∀ (x : SupplyDrop) (s : State), s.dev.alive = true → s.dev.faults = [] → s.dev.quiet →
     (leads .nrst s fun d => s.dev.resetHeld d 2) ∧
     (x.save = false → x.entry = none → leads (.vlogicBrownoutReset x) s fun d => s.dev.resetHeld d 1 ∧ d.pw.vkaLow = x.vkaLow) ∧
     (leads (.vlogicBrownoutReset x) s fun d =>
       d.alive = false ∧ d.pw.resetCause = 1 ∧ d.slots = s.dev.slots ∧ d.nv = s.dev.nv ∧ (x.entry = none → d.log = s.dev.log) ∧
       (x.save = true → s.dev.pw.pfsDone = true → d.pw.pfsMissed = true)) ∧
     (leads .vlogicBrownoutWarn s fun d => d.pw.pfsDone = true ∧ d.pendingEvent 15 = true) ∧
     (s.dev.f F.CHG_CFG_CHEM ≠ 0 →
       effect .vlogicBrownoutWarn s [] [.pw, .ret] [15] fun d => d.ret.eAvail = s.dev.f F.CHG_ENERGY_E_AVAIL ∧ d.pw.pfsDone = true))

/-- R22, R155, R156, R159, R160: the power die that finds the logic die absent turns every gate off, releases the lamps, passes the ring through and starts
an absence with LAST_CODE 0; a handback gives C1 V_SYS at the code of the hold loop and makes it the lead, EVB2 sources 19 and 29; a mirror fault sets
MM_FAULT, EVB2 source 6 + c, and stops its course or resets the logic die. What else they leave unchanged is stated for an absence of a device at rest, a
handback with one tile and no source, and a mirror fault of a course that stands alone and does not lead. A clause that meets a point the rules leave open takes the reading of log entries 22, 23 and 71, the model's choice. -/
def Obligations.AbsenceAndHandback : Prop :=
  ∀ (v : Nat) (code : BitVec 10) (c : Fin 6) (t : Fin 16) (s : State), s.dev.running = true →
    (s.dev.pw.absent = false →
      leads .logicDieAbsent s fun d =>
        d.pw.absent = true ∧ d.running = false ∧ d.pw.coreRuns = false ∧ d.f F.HOLD_STAT_LAST_CODE = 0 ∧ d.f F.HOLD_STAT_ABSENT_MS = 0 ∧
        d.f F.STAT_CTL_PAT0 = 0 ∧ d.f F.STAT_CTL_PAT1 = 0 ∧ d.ring.passThrough = true ∧ d.lamp = Vector.replicate 2 {}) ∧
    (s.dev.sys.handback = true → s.dev.sys.holdRuns = true → s.dev.canTake 1 = true → s.dev.handbackTiles ≠ [] →
      leads (.handback v code) s fun d =>
        d.f F.PATH_STAT_LEAD = 2 ∧ d.f (F.C_MODE_MODE 1) = 1 ∧ d.f (F.C_RSTAT_DELIVER 1) = 1 ∧ d.f (F.C_RSTAT_DIR 1) = 0 ∧
        d.f F.HOLD_STAT_LAST_CODE = code.toNat ∧ d.f F.SYSCFG_HOLD_ACTIVE = 0 ∧ d.sys.holdRuns = false ∧ d.sys.handback = false ∧
        d.pendingEvent (2 * 32 + 19) = true) ∧
    (s.dev.guardProfile = true → (vget s.dev.course c).mmDue = true →
      (s.dev.f (F.C_MIRROR_ACTION c) = 0 →
        leads (.mirrorFault c) s fun d => d.f (F.C_PCTL_MM_FAULT c) = 1 ∧ d.pendingEvent (2 * 32 + 6 + c.val) = true) ∧
      (s.dev.f (F.C_MIRROR_ACTION c) = 1 → leads (.mirrorFault c) s fun d => d.alive = false ∧ d.pw.resetCause = 5)) ∧
    ((∀ k : Fin 6, s.dev.regMode k = 0) → (∀ u : Fin 16, s.dev.f (F.TILE_TEST_RESULT u) ≠ 1 ∧ (vget s.dev.tile u).next = none) →
      s.dev.pw.absent = false → s.dev.sys.holdMap = [] → s.dev.f F.CAP_STAT_OPEN = 0 →
      effect .logicDieAbsent s [F.PATH_STAT_STATE, F.PATH_STAT_LEAD, F.STAT_CTL_PAT0, F.STAT_CTL_PAT1, F.HOLD_STAT_LAST_CODE, F.HOLD_STAT_ABSENT_MS,
          F.WDT_STAT_ARMED, F.WDT_STAT_WINDOW, F.WDT_STAT_FROZEN, F.WDT_COUNT_C, F.WDT_CHAL_CHALLENGE, F.WDT_CHAL_PERIODS]
        [.tile, .pw, .ring, .lamp, .sys, .port, .wdt, .cap] [] fun d =>
          (vget d.tile t).gates = (if (vget s.dev.tile t).clamp = true then (vget s.dev.tile t).gates else .off) ∧
          d.f F.HOLD_STAT_LAST_CODE = 0 ∧ d.ring.passThrough = true ∧ d.lamp = Vector.replicate 2 {}) ∧
    (s.dev.sys.handback = true → s.dev.sys.holdRuns = true → s.dev.canTake 1 = true → s.dev.handbackTiles = [t.val] → s.dev.bestSource = none →
      s.dev.sys.holdMap = [t.val] → (∀ u : Fin 16, s.dev.f (F.TILE_STAT_HOLD u) = 1 ↔ u = t) → s.dev.tst t = 3 → (vget s.dev.tile t).clamp = false →
      (∀ u : Fin 16, s.dev.f (F.TILE_MAP_COURSE u) = 1 ↔ u = t) → v < 65536 →
      effect (.handback v code) s ([F.SYS_MEAS_V_SYS, F.HOLD_STAT_LAST_CODE, F.TILE_STAT_HOLD t, F.SYSCFG_HOLD_ACTIVE, F.SYS_OOW_MS, F.TILE_STAT_STATE t,
          F.TILE_IPK_DAC t, F.TILE_IPK_DIR t, F.SYS_TARGET_REF, F.SYS_TARGET_TARGET, F.C_RSTAT_TRACK_WAIT 1, F.TILE_PHASE_OFFSET t, F.TILE_PHASE_NEXT t,
          F.TILE_PHASE_NEXT_V t, F.C_STAT_STAGGER_PEND 1, F.C_RSTAT_DELIVER 1, F.C_DEMAND_CODE 1, F.PATH_STAT_STATE, F.PATH_STAT_LEAD] ++ startFields 1)
        [.sys, .tile, .course] [2 * 32 + 19, 2 * 32 + 29] fun d =>
          d.f F.PATH_STAT_STATE = 3 ∧ d.f F.PATH_STAT_LEAD = 2 ∧ d.f (F.C_MODE_MODE 1) = 1 ∧ d.f (F.C_RSTAT_DELIVER 1) = 1 ∧
          d.f (F.TILE_IPK_DAC t) = code.toNat ∧ d.f F.SYS_TARGET_REF = v ∧ d.f (F.TILE_STAT_HOLD t) = 0 ∧ d.f F.SYSCFG_HOLD_ACTIVE = 0 ∧
          d.sys.holdRuns = false ∧ d.sys.handback = false) ∧
    (s.dev.guardProfile = true → (vget s.dev.course c).mmDue = true → s.dev.f (F.C_MIRROR_ACTION c) = 0 →
      s.dev.portCode c ≠ 2 → s.dev.portCode c ≠ s.dev.f F.PATH_STAT_LEAD → s.dev.f (F.C_MODE_MODE c) ≠ 0 → s.dev.lone c →
      effect (.mirrorFault c) s (F.C_PCTL_MM_FAULT c :: stopFields s.dev c) [.course, .faults, .tile] [2 * 32 + 6 + c.val] fun d =>
        d.f (F.C_PCTL_MM_FAULT c) = 1 ∧ s.dev.stopped d c)

/-! ### Ring Link (R217 to R252) -/

/-- R221, R222, R226 to R232, R252: what a frame does on a segment in HELLO or UP. A frame of any type with the length its type has, and a SEQ that its SRC
did not use last, is accepted, unless it needs forwarding and the queue is full: it is acknowledged, remembered, and its SRC learnt. A repeated SEQ gets
the ACK alone, a wrong length NAK 02h, an unlisted type NAK 03h; the HELLO that completes the exchange brings the link UP, EVB4 source 0 or 1; an ACK that
matches releases the outstanding frame, a NAK 01h makes it wait, a NAK 02h discards it with EVB4 source 17; a TELEM of the unit in CLK_SRC marks the
instant; a bad frame is counted; an idle line starts what waits. A clause that meets a point the rules leave open takes the reading of log entries 34, 35, 72 and 74, the model's choice. -/
def Obligations.RingFrames : Prop :=
  ∀ (g : Fin 2) (f : RxFrame) (o : Outgoing) (fr : Frame) (typ : BitVec 6) (ans : Decision) (fa : FlowAnswer) (ok : Bool)
    (bytes : List Byte) (s : State),
    s.dev.running = true → s.dev.listens g = true → f.src < 4096 → s.dev.f F.RING_ADDR_ADDR ≠ f.src →
    (∀ x ∈ [(Instr.ringHelloRx g f, 0, [8]), (Instr.ringPingRx g f, 1, [0]), (Instr.ringTelemRx g f, 4, (List.range 49).map (· + 16)),
        (Instr.ringOfferRx g f, 8, if within 1 4 (beAt f.data 0 1) then [1 + 4 * beAt f.data 0 1] else []), (Instr.ringRequestRx g f ans, 9, [4]),
        (Instr.ringAcceptRx g f, 10, [4]), (Instr.ringRejectRx g f, 11, [4]), (Instr.ringWaitRx g f, 12, [4]), (Instr.ringReadyRx g f, 13, [4]),
        (Instr.ringHardcloseRx g f, 14, [1]), (Instr.ringSwapReqRx g f ok, 16, [5]), (Instr.ringSwapAckRx g f, 17, [1]),
        (Instr.ringFlowOpenRx g f fa, 0x18, [12]), (Instr.ringFlowUpdateRx g f, 0x19, [10]), (Instr.ringFlowCloseRx g f, 0x1A, [5])],
      f.data.length ∈ x.2.2 → s.dev.repeats g (rxFrame f x.2.1) = false → (s.dev.forwards g (rxFrame f x.2.1) && s.dev.queueFull g) = false →
      leads x.1 s fun d => (d.sg g).answer = some { dst := f.src, src := s.dev.addr, typ := 2, prio := f.prio, seq := f.seq, data := [] } ∧
        d.repeats g (rxFrame f x.2.1) = true) ∧
    (f.data = [] → s.dev.repeats g (rxFrame f 1) = false →
      effect (.ringPingRx g f) s [] [.ring] [] fun d =>
        (d.sg g).answer = some { dst := f.src, src := s.dev.addr, typ := 2, prio := f.prio, seq := f.seq, data := [] } ∧
        d.repeats g (rxFrame f 1) = true ∧ d.route f.src = g ∧ (d.sg g).idle = false) ∧
    (f.data = [] → s.dev.repeats g (rxFrame f 1) = true →
      effect (.ringPingRx g f) s [] [.ring] [] fun d =>
        (d.sg g).answer = some { dst := f.src, src := s.dev.addr, typ := 2, prio := f.prio, seq := f.seq, data := [] } ∧
        d.ring.routes = s.dev.ring.routes) ∧
    (f.data ≠ [] → effect (.ringPingRx g f) s [] [.ring] [] fun d =>
      (d.sg g).answer = some { dst := f.src, src := s.dev.addr, typ := 3, prio := f.prio, seq := f.seq, data := [2] } ∧
      d.ring.routes = s.dev.ring.routes) ∧
    (listedTypes.contains typ.toNat = false → effect (.ringUnknownTypeRx g f typ) s [] [.ring] [] fun d =>
      (d.sg g).answer = some { dst := f.src, src := s.dev.addr, typ := 3, prio := f.prio, seq := f.seq, data := [3] }) ∧
    (s.dev.lstate g = 1 → f.data.length = 8 → s.dev.repeats g (rxFrame f 0) = false → (s.dev.sg g).helloAcked = true →
      effect (.ringHelloRx g f) s [F.SEG_STAT_LSTATE g, F.SEG_STAT_NEIGH g] [.ring] [4 * 32 + g.val] fun d =>
        d.lstate g = 2 ∧ d.f (F.SEG_STAT_NEIGH g) = f.src) ∧
    (s.dev.answered g f.dst f.seq = some o →
      (f.data = [] → leads (.ringAckRx g f) s fun d => o.frame.typ ≠ 0 → (d.sg g).out = none) ∧
      (f.data = [] → o.frame.typ = 0 → (s.dev.sg g).helloHeard = true → leads (.ringAckRx g f) s fun d => d.lstate g = 2) ∧
      (o.frame.typ ≠ 0 → f.data = [] → effect (.ringAckRx g f) s [] [.ring] [] fun d => (d.sg g).out = none) ∧
      (f.data = [2] ∨ f.data = [3] → effect (.ringNakRx g f) s [] [.ring] [4 * 32 + 17] fun d => (d.sg g).out = none) ∧
      (f.data = [1] → o.busy < 7 → effect (.ringNakRx g f) s [] [.ring] [] fun d =>
        (d.sg g).out = some { o with busy := o.busy + 1, waitBusy := true, sent := false })) ∧
    (f.dst = s.dev.addr → within 16 64 f.data.length = true → s.dev.repeats g (rxFrame f 4) = false → s.dev.f F.RING_CFG_CLK_SRC = f.src → f.src ≠ 0 →
      effect (.ringTelemRx g f) s [] [.ring] [] fun d => d.ring.clockAt = some s.dev.pw.clock ∧ d.route f.src = g) ∧
    (ok = true ∨ frameGood bytes = false → effect (.ringFrameDrop g bytes ok) s [F.SEG_CNT_CRC_ERR g] [.ring] [] fun d =>
      d.f (F.SEG_CNT_CRC_ERR g) = min (s.dev.f (F.SEG_CNT_CRC_ERR g) + 1) (2 ^ (F.SEG_CNT_CRC_ERR g).width - 1) ∧ (d.sg g).idle = false) ∧
    ((s.dev.sg g).own.all (fun x => x.typ != 0x3F) = true → (s.dev.sg g).aside.all (·.sent) = true → (s.dev.sg g).aside.any (·.backoff.isSome) = false →
      ((s.dev.sg g).out = none → nextFrame ((s.dev.sg g).queue.filter (s.dev.maySend g)) ((s.dev.sg g).own.filter (s.dev.maySend g)) = some fr →
        effect (.ringLineIdle g) s [] [.ring] [] fun d =>
          (d.sg g).wire = some fr ∧ (d.sg g).line = fr.bytes ∧ (d.sg g).out = some { frame := fr, sent := true } ∧ (d.sg g).idle = false) ∧
      ((s.dev.sg g).out = none → nextFrame ((s.dev.sg g).queue.filter (s.dev.maySend g)) ((s.dev.sg g).own.filter (s.dev.maySend g)) = none →
        effect (.ringLineIdle g) s [] [.ring] [] fun d => (d.sg g).wire = (s.dev.sg g).wire ∧ (d.sg g).idle = true) ∧
      ((s.dev.sg g).out = some o → o.sent = false → o.waitBusy = false → o.backoff = none → s.dev.maySend g o.frame = true →
        effect (.ringLineIdle g) s [] [.ring] [] fun d =>
          (d.sg g).wire = some o.frame ∧ (d.sg g).out = some { o with sent := true } ∧ (d.sg g).idle = false))

/-- R227, R229, R231 to R233: a missing answer makes the frame go out again, and after the third retry loses the link with EVB4 source 2 or 3 and a
fault-log entry; a busy wait that ends sends again; a collision counts and backs off; HELLO and PING are sent in their states; LOST returns to HELLO; an
unused route is forgotten. What a loss leaves unchanged is stated for a segment without a contract and a device without flows. A clause that meets a point the rules leave open takes the reading of log entries 34, 35, 72 and 74, the model's choice. -/
def Obligations.RingRetriesAndTimers : Prop :=
  ∀ (g : Fin 2) (o : Outgoing) (idle : Bool) (a : BitVec 12) (s : State), s.dev.running = true →
    ((s.dev.sg g).out = some o → o.sent = true →
      (o.retries < 3 → effect (.ringAckTimeout g) s [F.SEG_CNT_RETRIES g] [.ring] [] fun d => (d.sg g).out.map (·.retries) = some (o.retries + 1)) ∧
      (3 ≤ o.retries → leads (.ringAckTimeout g) s fun d =>
        d.lstate g = 3 ∧ (d.sg g).out = none ∧ (d.sg g).queue = [] ∧ (d.sg g).own = [] ∧ d.cstate g = 0 ∧ d.pendingEvent (4 * 32 + 2 + g.val) = true)) ∧
    ((s.dev.sg g).out = some o → o.sent = true → (s.dev.sg g).idle = false → o.retries < 3 →
      effect (.ringAckTimeout g) s [F.SEG_CNT_RETRIES g] [.ring] [] fun d =>
        (d.sg g).out = some { o with sent := false, waitBusy := false, backoff := none, retries := o.retries + 1, busy := 0, coll := 0 } ∧
        d.f (F.SEG_CNT_RETRIES g) = min (s.dev.f (F.SEG_CNT_RETRIES g) + 1) (2 ^ (F.SEG_CNT_RETRIES g).width - 1)) ∧
    ((s.dev.sg g).out = some o → o.sent = true → o.retries = 3 → s.dev.lstate g = 2 → s.dev.cstate g = 0 → (s.dev.sg g).pend = none →
      s.dev.ring.flows = [] → (∀ c : Fin 6, s.dev.f (F.C_MODE_MODE c) ≠ 4) →
      effect (.ringAckTimeout g) s [F.SEG_CNT_LOSSES g, F.SEG_STAT_LSTATE g] [.ring, .faults] [4 * 32 + 2 + g.val] fun d =>
        d.lstate g = 3 ∧ (d.sg g).out = none ∧ (d.sg g).queue = [] ∧ (d.sg g).own = []) ∧
    ((s.dev.sg g).out = some o → o.waitBusy = true → effect (.ringBusyRetry g) s [] [.ring] [] fun d =>
      (d.sg g).out.map (fun x => (x.frame, x.waitBusy)) = some (o.frame, false)) ∧
    ((s.dev.sg g).out = some o → o.waitBusy = true → o.sent = false → o.backoff = none → (s.dev.sg g).idle = true → s.dev.maySend g o.frame = true →
      (s.dev.sg g).own.all (fun x => x.typ != 0x3F) = true →
      effect (.ringBusyRetry g) s [] [.ring] [] fun d =>
        (d.sg g).wire = some o.frame ∧ (d.sg g).out = some { o with waitBusy := false, sent := true } ∧ (d.sg g).idle = false) ∧
    ((s.dev.sg g).out = some o → o.sent = true → o.coll < 15 →
      effect (.ringCollision g) s [F.SEG_CNT_COLLISIONS g] [.ring] [] fun d =>
        (d.sg g).out = some { o with coll := o.coll + 1, backoff := some (4 * (s.dev.addr / 16 ^ (o.coll % 3) % 16) + 4), sent := false } ∧
        (d.sg g).idle = false) ∧
    ((s.dev.sg g).out = some o → o.sent = true → 15 ≤ o.coll → o.retries < 3 →
      effect (.ringCollision g) s [F.SEG_CNT_COLLISIONS g, F.SEG_CNT_RETRIES g] [.ring] [] fun d =>
        (d.sg g).out = some { o with sent := false, waitBusy := false, backoff := none, retries := o.retries + 1, busy := 0, coll := 0 }) ∧
    ((s.dev.sg g).out = some o → o.backoff.isSome = true → effect (.ringBackoffEnd g idle) s [] [.ring] [] fun d =>
      (d.sg g).out.map (fun x => (x.frame, x.backoff)) = some (o.frame, none)) ∧
    ((s.dev.sg g).out = some o → o.backoff.isSome = true → o.sent = false → o.waitBusy = false → s.dev.maySend g o.frame = true →
      (s.dev.sg g).own.all (fun x => x.typ != 0x3F) = true →
      effect (.ringBackoffEnd g idle) s [] [.ring] [] fun d =>
        (d.sg g).out = some { o with backoff := none, sent := idle } ∧ (idle = true → (d.sg g).wire = some o.frame)) ∧
    (s.dev.lstate g = 1 → s.dev.hasOwn g 0 = false →
      effect (.ringHelloTimer g) s [] [.ring] [] fun d => d.ring.seq = (s.dev.ring.seq + 1) % 256) ∧
    (s.dev.lstate g = 2 → s.dev.hasOwn g 1 = false →
      effect (.ringPingTimer g) s [] [.ring] [] fun d => d.ring.seq = (s.dev.ring.seq + 1) % 256) ∧
    (s.dev.lstate g = 1 → s.dev.hasOwn g 0 = false → (s.dev.sg g).idle = false →
      effect (.ringHelloTimer g) s [] [.ring] [] fun d =>
        (d.sg g).own = (s.dev.sg g).own ++ [{ dst := s.dev.f (F.SEG_STAT_NEIGH g), src := s.dev.addr, typ := 0, prio := 0, seq := s.dev.ring.seq,
                                              data := s.dev.helloData g }] ∧ d.ring.seq = (s.dev.ring.seq + 1) % 256) ∧
    (s.dev.lstate g = 2 → s.dev.hasOwn g 1 = false → (s.dev.sg g).idle = false →
      effect (.ringPingTimer g) s [] [.ring] [] fun d =>
        (d.sg g).own = (s.dev.sg g).own ++ [{ dst := s.dev.f (F.SEG_STAT_NEIGH g), src := s.dev.addr, typ := 1, prio := 0, seq := s.dev.ring.seq,
                                              data := [] }] ∧ d.ring.seq = (s.dev.ring.seq + 1) % 256) ∧
    (s.dev.lstate g = 3 → effect (.ringLostHoldEnd g) s [F.SEG_STAT_LSTATE g] [.ring] [] fun d =>
      d.lstate g = 1 ∧ (d.sg g).helloAcked = false ∧ (d.sg g).helloHeard = false) ∧
    (effect (.ringRelink g) s [F.SEG_STAT_LSTATE g] [.ring] [] fun d => d.lstate g = 1) ∧
    (effect (.routeEntryExpiry a) s [] [.ring] [] fun d =>
      d.ring.routes = s.dev.ring.routes.filter (fun (r : Nat × Nat) => r.1 != a.toNat))

/-- R235 to R237, R264: one contract from both sides. An OFFER is answered by a REQUEST for the best point; a REQUEST that is accepted closes the FET and
gives the port's course its voltage; an ACCEPT makes the point wait for READY; a READY that is sent, or received, puts the contract in force, EVB4
source 4 or 5; REJECT and a lapse end the negotiation, WAIT delays it; the policy offers VOFFER, and offers, withdraws, asks for a swap or for a flow as a
customer task says. An accepted REQUEST ends a discharge of its port; what it leaves unchanged is stated
for a port without one and a course at rest that stands alone. A clause that meets a point the rules leave open takes the reading of log entry 36, the model's choice. -/
def Obligations.RingContracts : Prop :=
  ∀ (g : Fin 2) (f : RxFrame) (c : Fin 6) (k v i m u : Nat) (a : SwapAsk) (b : FlowAsk) (s : State), s.dev.supervisor = true → s.dev.lstate g = 2 → s.dev.noContracts = false →
    f.dst = s.dev.addr → f.src ≠ s.dev.addr → (s.dev.sg g).idle = false → v < 65536 → i < 65536 →
    (s.dev.cstate g = 0 → s.dev.maySink (g + 3) = true → s.dev.repeats g (rxFrame f 8) = false → within 1 4 (beAt f.data 0 1) = true →
      f.data.length = 1 + 4 * beAt f.data 0 1 → s.dev.bestPoint (g + 3) (offerPoints f.data) = some (k, v, i) →
      effect (.ringOfferRx g f) s [F.SEG_STAT_CSTATE g] [.ring] [] fun d =>
        d.cstate g = 1 ∧ (d.sg g).offer = offerPoints f.data ∧ (d.sg g).asked = some (v, min i (s.dev.f (F.PORT_ILIM_IN (g + 2)))) ∧
        (d.sg g).own.getLast? = some { dst := f.src, src := s.dev.addr, typ := 9, prio := 0, seq := s.dev.ring.seq,
                                       data := beBytes 1 k ++ beBytes 1 0 ++ beBytes 2 (min i (s.dev.f (F.PORT_ILIM_IN (g + 2)))) }) ∧
    (s.dev.maySource (g + 3) = true → s.dev.repeats g (rxFrame f 9) = false → f.data.length = 4 → (s.dev.sg g).offerOwn = true →
      s.dev.hasOwn g 14 = false → (s.dev.sg g).offer[beAt f.data 0 1]? = some (v, m) → beAt f.data 2 2 = i → i ≤ m →
      leads (.ringRequestRx g f .accept) s fun d =>
        (d.sg g).pend = some (v, i) ∧ (d.sg g).pendSource = true ∧ (d.sg g).offer = [] ∧ d.fbit F.PDIS_CFG_RUNNING (g + 2) = false) ∧
    (s.dev.repeats g (rxFrame f 13) = false → f.data.length = 4 → (s.dev.sg g).pend.isSome = true → (s.dev.sg g).pendSource = false →
      leads (.ringReadyRx g f) s fun d =>
        d.cstate g = 2 ∧ d.crole g = 2 ∧ d.f (F.SEG_CONTRACT_V g) = beAt f.data 0 2 ∧ d.f (F.SEG_CONTRACT_I g) = beAt f.data 2 2 ∧
        d.f (F.PORT_STAT_CONTRACT (g + 2)) = 1 ∧ (d.sg g).pend = none ∧ d.pendingEvent (4 * 32 + 4 + g.val) = true) ∧
    ((s.dev.sg g).pend = some (v, i) → (s.dev.sg g).pendSource = true → 50 * u ≤ 51 * v → 49 * v ≤ 50 * u →
      leads (.contractReadySend g u) s fun d =>
        d.cstate g = 2 ∧ d.crole g = 1 ∧ d.f (F.SEG_CONTRACT_V g) = v ∧ d.f (F.SEG_CONTRACT_I g) = i ∧ d.pendingEvent (4 * 32 + 4 + g.val) = true) ∧
    (s.dev.maySource (g + 3) = true → s.dev.crole g ≠ 2 → s.dev.cstate g ≠ 4 →
      leads (.policyOffer g (.offer [(v, i)])) s fun d => (d.sg g).offer = [(v, i)] ∧ (d.sg g).offerOwn = true ∧ d.cstate g ≠ 0) ∧
    (s.dev.offering g = true → leads (.policyOffer g .withdraw) s fun d => d.cstate g = 0 ∧ (d.sg g).offer = []) ∧
    (s.dev.cstate g = 2 → (s.dev.sg g).swapOut = none →
      leads (.policyOffer g (.swap a)) s fun d => (d.sg g).swapOut = some { v := a.v, i := a.i, force := a.force, seq := s.dev.ring.seq }) ∧
    (s.dev.mayOpen (s.dev.route b.provider) b.rateMax = true → s.dev.findFlow s.dev.addr b.flowId = none → s.dev.freeFlow = some k →
      leads (.policyOffer g (.openFlow b)) s fun d =>
        d.flow k = { consumer := s.dev.addr, provider := b.provider, flowId := b.flowId, rate := b.rate, rateMax := b.rateMax, allow := b.allow,
                     reroute := b.reroute, role := 2, state := 1, inp := s.dev.route b.provider + 1, seq := s.dev.ring.seq }) ∧
    (s.dev.cstate g = 1 → s.dev.maySource (g + 3) = true → s.dev.repeats g (rxFrame f 9) = false → f.data.length = 4 → (s.dev.sg g).offerOwn = true →
      s.dev.hasOwn g 14 = false → (s.dev.sg g).offer[beAt f.data 0 1]? = some (v, m) → beAt f.data 2 2 = i → i ≤ m → s.dev.f (F.GUARD_STAT_LATCHED (g + 2)) = 0 →
      (vget s.dev.port (g + 2)).ocHeld = false → s.dev.courseOf (g + 3) = some c.val → s.dev.canTake c = true → s.dev.f (F.C_MODE_MODE c) = 0 →
      s.dev.delivers c = false → s.dev.lone c → s.dev.fbit F.PDIS_CFG_RUNNING (g + 2) = false →
      effect (.ringRequestRx g f .accept) s (F.GUARD_STAT_FET_ON (g + 2) :: startFields c) [.ring, .course] [] fun d =>
        d.f (F.GUARD_STAT_FET_ON (g + 2)) = 1 ∧ d.f (F.C_MODE_MODE c) = 2 ∧ d.f (F.C_REF_FINAL c) = v ∧ d.f (F.C_RSTAT_DIR c) = 1 ∧
        (d.sg g).pend = some (v, i) ∧ (d.sg g).pendSource = true) ∧
    (s.dev.cstate g = 1 → s.dev.repeats g (rxFrame f 10) = false → f.data.length = 4 → beAt f.data 0 1 = 9 → (s.dev.sg g).asked = some (v, i) →
      effect (.ringAcceptRx g f) s [] [.ring] [] fun d => (d.sg g).pend = some (v, i) ∧ (d.sg g).pendSource = false ∧ (d.sg g).asked = none) ∧
    (s.dev.cstate g = 1 → s.dev.repeats g (rxFrame f 11) = false → f.data.length = 4 → beAt f.data 0 1 = 9 → (s.dev.sg g).pend = none →
      effect (.ringRejectRx g f) s [F.SEG_STAT_CSTATE g] [.ring] [] fun d => d.cstate g = 0 ∧ (d.sg g).asked = none ∧ (d.sg g).offer = []) ∧
    (s.dev.repeats g (rxFrame f 12) = false → f.data.length = 4 → beAt f.data 0 1 = 9 → (s.dev.sg g).asked.isSome = true →
      effect (.ringWaitRx g f) s [] [.ring] [] fun d =>
        (d.sg g).waitUntil = some (s.dev.pw.clock + 1000 * beAt f.data 2 2) ∧ (d.sg g).asked = none) ∧
    (s.dev.cstate g = 1 → s.dev.repeats g (rxFrame f 13) = false → f.data.length = 4 → (s.dev.sg g).pend = some (v, i) → (s.dev.sg g).pendSource = false →
      effect (.ringReadyRx g f) s [F.SEG_CONTRACT_V g, F.SEG_CONTRACT_I g, F.SEG_STAT_CSTATE g, F.SEG_STAT_CROLE g, F.PORT_STAT_CONTRACT (g + 2),
          F.PORT_STAT_DEB_MS (g + 2), F.PORT_STAT_QSTATE (g + 2)] [.ring, .port] [4 * 32 + 4 + g.val] fun d =>
        d.cstate g = 2 ∧ d.crole g = 2 ∧ d.f (F.SEG_CONTRACT_V g) = beAt f.data 0 2 ∧ d.f (F.SEG_CONTRACT_I g) = beAt f.data 2 2 ∧
        d.f (F.PORT_STAT_CONTRACT (g + 2)) = 1) ∧
    (s.dev.policyHolds g = true → s.dev.cstate g = 0 → (s.dev.sg g).offer = [] →
      effect (.policyOffer g .follow) s [F.SEG_STAT_CSTATE g] [.ring] [] fun d =>
        d.cstate g = 1 ∧ (d.sg g).offer = [(s.dev.f (F.SEG_POLICY_VOFFER g), s.dev.f (F.PORT_OLIM_OUT (g + 2)))] ∧ (d.sg g).offerOwn = true) ∧
    ((s.dev.sg g).pend = some (v, i) → (s.dev.sg g).pendSource = true → 50 * u ≤ 51 * v → 49 * v ≤ 50 * u → s.dev.cstate g ≠ 4 →
      effect (.contractReadySend g u) s [F.SEG_CONTRACT_V g, F.SEG_CONTRACT_I g, F.SEG_STAT_CSTATE g, F.SEG_STAT_CROLE g, F.PORT_STAT_CONTRACT (g + 2)]
        [.ring] [4 * 32 + 4 + g.val] fun d =>
          d.cstate g = 2 ∧ d.crole g = 1 ∧ d.f (F.SEG_CONTRACT_V g) = v ∧ d.f (F.SEG_CONTRACT_I g) = i ∧ d.f (F.PORT_STAT_CONTRACT (g + 2)) = 0) ∧
    ((s.dev.sg g).offer ≠ [] → (s.dev.sg g).asked = none → (s.dev.sg g).capped = false → (s.dev.sg g).waitUntil = none →
      leads (.offerLapse g) s fun d => (d.sg g).offer = [] ∧ (d.sg g).offerOwn = false) ∧
    ((s.dev.sg g).offer ≠ [] → (s.dev.sg g).asked = none → (s.dev.sg g).capped = false → (s.dev.sg g).waitUntil = none → s.dev.cstate g = 1 → (s.dev.sg g).pend = none →
      effect (.offerLapse g) s [F.SEG_STAT_CSTATE g] [.ring] [] fun d => d.cstate g = 0 ∧ (d.sg g).offer = [])

/-- R233, R236, R238, R239: a HARDCLOSE received or commanded, a READY that stays out and a capped OFFER without a REQUEST drop the contract: CSTATE NONE,
FET open, course stopped, EVB4 source 6 or 7, and where a transition is abandoned, ABANDONED with source 18. What they leave unchanged is stated for a
SOURCE contract, a course that stands alone and a device without flows.

R241, R242: a SWAP_REQ that is granted and a SWAP_ACK exchange the roles with the voltage and current of the request: the old source's course stops
and CSTATE reads SWAPPING; a request without an answer lapses. What a swap leaves unchanged is stated for the source's side, a course that stands alone
and a device without flows. A clause that meets a point the rules leave open takes the reading of log entry 36, the model's choice. -/
def Obligations.ContractDropsAndSwaps : Prop :=
  (∀ (g : Fin 2) (f : RxFrame) (c : Fin 6) (s : State), s.dev.running = true → s.dev.lstate g = 2 → s.dev.addr ≠ 0 → f.dst = s.dev.addr →
     f.src ≠ s.dev.addr →
     (s.dev.inForce g = true →
       (s.dev.repeats g (rxFrame f 14) = false → f.data.length = 1 →
         leads (.ringHardcloseRx g f) s fun d =>
           d.cstate g = 0 ∧ d.crole g = 0 ∧ d.f (F.SEG_CONTRACT_V g) = 0 ∧ d.f (F.GUARD_STAT_FET_ON (g + 2)) = 0 ∧ d.pendingEvent (4 * 32 + 6 + g.val) = true) ∧
       (leads (.ringHardcloseCmd g) s fun d =>
         d.cstate g = 0 ∧ d.crole g = 0 ∧ d.f (F.GUARD_STAT_FET_ON (g + 2)) = 0 ∧ d.pendingEvent (4 * 32 + 6 + g.val) = true)) ∧
     ((s.dev.sg g).capped = true → leads (.reofferTimeout g) s fun d => d.cstate g = 0 ∧ (d.sg g).capped = false) ∧
     ((s.dev.sg g).pend.isSome = true → (s.dev.sg g).pendSource = true ∨ s.dev.cstate g = 4 →
       leads (.readyTimeout g) s fun d =>
         d.cstate g = 0 ∧ d.f (F.SEG_STAT_ABANDONED g) = 1 ∧ (d.sg g).pend = none ∧ d.f (F.GUARD_STAT_FET_ON (g + 2)) = 0 ∧
         d.pendingEvent (4 * 32 + 18) = true) ∧
     (s.dev.courseOf (g + 3) = some c.val → s.dev.regMode c ≠ 0 → s.dev.lone c → s.dev.cstate g = 2 → s.dev.crole g = 1 →
     s.dev.f (F.PORT_STAT_QSTATE (g + 2)) = 0 → s.dev.ring.flows = [] → (∀ k : Fin 6, s.dev.f (F.C_MODE_MODE k) ≠ 4) → s.dev.f F.SYSCFG_COMPAT = 0 →
     ((s.dev.sg g).pend = none →
       (s.dev.repeats g (rxFrame f 14) = false → f.data.length = 1 →
         effect (.ringHardcloseRx g f) s ([F.SEG_STAT_CSTATE g, F.SEG_STAT_CROLE g, F.PORT_STAT_CONTRACT (g + 2), F.SEG_CONTRACT_I g, F.SEG_CONTRACT_V g,
             F.GUARD_STAT_FET_ON (g + 2)] ++ stopFields s.dev c) [.ring, .course, .tile] [4 * 32 + 6 + g.val] fun d =>
           d.cstate g = 0 ∧ d.crole g = 0 ∧ d.f (F.SEG_CONTRACT_V g) = 0 ∧ d.f (F.GUARD_STAT_FET_ON (g + 2)) = 0 ∧ s.dev.stopped d c) ∧
       (effect (.ringHardcloseCmd g) s ([F.SEG_STAT_CSTATE g, F.SEG_STAT_CROLE g, F.PORT_STAT_CONTRACT (g + 2), F.SEG_CONTRACT_I g, F.SEG_CONTRACT_V g,
           F.GUARD_STAT_FET_ON (g + 2)] ++ stopFields s.dev c) [.ring, .course, .tile] [4 * 32 + 6 + g.val] fun d =>
         d.cstate g = 0 ∧ d.f (F.GUARD_STAT_FET_ON (g + 2)) = 0 ∧ s.dev.stopped d c ∧ d.ring.seq = (s.dev.ring.seq + 1) % 256) ∧
       ((s.dev.sg g).capped = true →
         effect (.reofferTimeout g) s ([F.SEG_STAT_CSTATE g, F.SEG_STAT_CROLE g, F.PORT_STAT_CONTRACT (g + 2), F.SEG_CONTRACT_I g, F.SEG_CONTRACT_V g,
             F.GUARD_STAT_FET_ON (g + 2)] ++ stopFields s.dev c) [.ring, .course, .tile] [4 * 32 + 6 + g.val] fun d =>
           d.cstate g = 0 ∧ d.f (F.GUARD_STAT_FET_ON (g + 2)) = 0 ∧ s.dev.stopped d c ∧ (d.sg g).capped = false)) ∧
     ((s.dev.sg g).pend.isSome = true → (s.dev.sg g).pendSource = true →
       effect (.readyTimeout g) s ([F.SEG_STAT_CSTATE g, F.SEG_STAT_CROLE g, F.PORT_STAT_CONTRACT (g + 2), F.SEG_CONTRACT_I g, F.SEG_CONTRACT_V g,
           F.GUARD_STAT_FET_ON (g + 2), F.SEG_STAT_ABANDONED g] ++ stopFields s.dev c) [.ring, .course, .tile] [4 * 32 + 18, 4 * 32 + 6 + g.val] fun d =>
         d.cstate g = 0 ∧ d.f (F.SEG_STAT_ABANDONED g) = 1 ∧ d.f (F.GUARD_STAT_FET_ON (g + 2)) = 0 ∧ s.dev.stopped d c ∧ (d.sg g).pend = none))) ∧
  (∀ (g : Fin 2) (f : RxFrame) (c : Fin 6) (o : SwapReq) (s : State), s.dev.supervisor = true → s.dev.lstate g = 2 → s.dev.addr ≠ 0 →
     (s.dev.cstate g = 2 → f.dst = s.dev.addr → f.src ≠ s.dev.addr →
       ((s.dev.sg g).swapOut = none → s.dev.hasOwn g 14 = false → s.dev.repeats g (rxFrame f 16) = false → f.data.length = 5 →
         (if s.dev.crole g = 1 then s.dev.maySink (g + 3) else s.dev.maySource (g + 3)) = true →
         s.dev.flowsCross g = false ∨ (beAt f.data 4 1).testBit 0 = true →
         leads (.ringSwapReqRx g f true) s fun d =>
           d.cstate g = 4 ∧ d.crole g = (if s.dev.crole g = 2 then 1 else 2) ∧ d.f (F.SEG_CONTRACT_V g) = beAt f.data 0 2 ∧
           d.f (F.SEG_CONTRACT_I g) = beAt f.data 2 2 ∧ (d.sg g).pend = some (beAt f.data 0 2, beAt f.data 2 2)) ∧
       ((s.dev.sg g).swapOut = some o → o.seq = beAt f.data 0 1 → s.dev.repeats g (rxFrame f 17) = false → f.data.length = 1 → o.v < 65536 → o.i < 65536 →
         leads (.ringSwapAckRx g f) s fun d =>
           d.cstate g = 4 ∧ d.crole g = (if s.dev.crole g = 2 then 1 else 2) ∧ d.f (F.SEG_CONTRACT_V g) = o.v ∧ d.f (F.SEG_CONTRACT_I g) = o.i ∧
           (d.sg g).pend = some (o.v, o.i))) ∧
     (s.dev.cstate g = 2 → s.dev.crole g = 1 → f.dst = s.dev.addr → f.src ≠ s.dev.addr → s.dev.courseOf (g + 3) = some c.val → s.dev.regMode c ≠ 0 →
       s.dev.lone c → s.dev.ring.flows = [] →
       ((s.dev.sg g).swapOut = none → s.dev.hasOwn g 14 = false → s.dev.repeats g (rxFrame f 16) = false → f.data.length = 5 → beAt f.data 4 1 = 0 → s.dev.maySink (g + 3) = true →
         effect (.ringSwapReqRx g f true) s ([F.PORT_STAT_CONTRACT (g + 2), F.SEG_STAT_CROLE g, F.SEG_CONTRACT_V g, F.SEG_CONTRACT_I g,
             F.SEG_STAT_CSTATE g] ++ stopFields s.dev c) [.ring, .course, .tile] [] fun d =>
           d.cstate g = 4 ∧ d.crole g = 2 ∧ d.f (F.SEG_CONTRACT_V g) = beAt f.data 0 2 ∧ d.f (F.SEG_CONTRACT_I g) = beAt f.data 2 2 ∧ s.dev.stopped d c ∧
           (d.sg g).pend = some (beAt f.data 0 2, beAt f.data 2 2)) ∧
       ((s.dev.sg g).swapOut = some o → o.seq = beAt f.data 0 1 → s.dev.repeats g (rxFrame f 17) = false → f.data.length = 1 → o.force = false →
         o.v < 65536 → o.i < 65536 →
         effect (.ringSwapAckRx g f) s ([F.PORT_STAT_CONTRACT (g + 2), F.SEG_STAT_CROLE g, F.SEG_CONTRACT_V g, F.SEG_CONTRACT_I g,
             F.SEG_STAT_CSTATE g] ++ stopFields s.dev c) [.ring, .course, .tile] [] fun d =>
           d.cstate g = 4 ∧ d.crole g = 2 ∧ d.f (F.SEG_CONTRACT_V g) = o.v ∧ d.f (F.SEG_CONTRACT_I g) = o.i ∧ s.dev.stopped d c)) ∧
     (effect (.swapReqTimeout g) s [] [.ring] [] fun d => (d.sg g).swapOut = none))

/-- R243 to R246: a provider that accepts a FLOW_OPEN holds an OPEN context, EVB4 source 10; a FLOW_UPDATE gives it a rate, an allowance and age 0; each
millisecond takes RATE from the allowance and adds to the age, and leaves no flow OPEN whose allowance is spent or whose age is past its limit; a
FLOW_CLOSE frees it, EVB4 source 11; a reservation that stays out is freed. What they leave unchanged is stated where no course stands on a ring
port. A clause that meets a point the rules leave open takes the reading of log entry 37, the model's choice. -/
def Obligations.Flows : Prop :=
  ∀ (g : Fin 2) (f : RxFrame) (i : Nat) (j : BitVec 8) (x : FlowCtx) (s : State), s.dev.supervisor = true → s.dev.lstate g = 2 → s.dev.addr ≠ 0 →
    f.dst = s.dev.addr → f.src ≠ s.dev.addr →
    (s.dev.repeats g (rxFrame f 0x18) = false → f.data.length = 12 → s.dev.openRefusal g (beAt f.data 6 2) true = 0 → s.dev.freeFlow = some i →
      leads (.ringFlowOpenRx g f .accept) s fun d =>
        d.flow i = { role := 0, state := 2, consumer := f.src, provider := f.dst, flowId := beAt f.data 0 2, rate := beAt f.data 4 2,
                     rateMax := beAt f.data 6 2, allow := beAt f.data 8 4, inp := 0, outp := g.val + 1, reroute := (beAt f.data 2 2).testBit 15, seq := f.seq } ∧
        d.pendingEvent (4 * 32 + 10) = true) ∧
    (s.dev.repeats g (rxFrame f 0x19) = false → f.data.length = 10 → s.dev.findFlow f.src (beAt f.data 0 2) = some (i, x) → x.state = 2 →
      beAt f.data 4 2 ≤ x.rateMax →
      leads (.ringFlowUpdateRx g f) s fun d =>
        d.flow i = { x with rate := beAt f.data 4 2, allow := beAt f.data 6 4, fseq := beAt f.data 2 1, age := 0, residue := 0 }) ∧
    (s.dev.repeats g (rxFrame f 0x1A) = false → f.data.length = 5 → s.dev.findFlow (beAt f.data 2 2 % 4096) (beAt f.data 0 2) = some (i, x) →
      (s.dev.flow i).state = 2 → x.reroute = false →
      leads (.ringFlowCloseRx g f) s fun d => d.flow i = {} ∧ d.pendingEvent (4 * 32 + 11) = true) ∧
    (leads .flowTick s fun d =>
      (s.dev.flow j.toNat).state = 2 → (d.flow j.toNat).state = 2 → (d.flow j.toNat).allow ≠ 0 ∧ (d.flow j.toNat).age ≤ 10 * s.dev.f F.RING_CFG_FLOW_AGE) ∧
    (s.dev.courseOf 3 = none → s.dev.courseOf 4 = none →
    (s.dev.repeats g (rxFrame f 0x18) = false → f.data.length = 12 → s.dev.openRefusal g (beAt f.data 6 2) true = 0 → s.dev.freeFlow = some i →
      effect (.ringFlowOpenRx g f .accept) s [F.FLOW_STAT_IN_USE] [.ring] [4 * 32 + 10] fun d =>
        d.flow i = { role := 0, state := 2, consumer := f.src, provider := f.dst, flowId := beAt f.data 0 2, rate := beAt f.data 4 2,
                     rateMax := beAt f.data 6 2, allow := beAt f.data 8 4, inp := 0, outp := g.val + 1, reroute := (beAt f.data 2 2).testBit 15, seq := f.seq }) ∧
    (s.dev.repeats g (rxFrame f 0x19) = false → f.data.length = 10 → s.dev.findFlow f.src (beAt f.data 0 2) = some (i, x) → x.state = 2 →
      beAt f.data 4 2 ≤ x.rateMax →
      effect (.ringFlowUpdateRx g f) s [F.FLOW_STAT_IN_USE] [.ring] [] fun d =>
        d.flow i = { x with rate := beAt f.data 4 2, allow := beAt f.data 6 4, fseq := beAt f.data 2 1, age := 0, residue := 0 }) ∧
    (s.dev.repeats g (rxFrame f 0x1A) = false → f.data.length = 5 → s.dev.findFlow (beAt f.data 2 2 % 4096) (beAt f.data 0 2) = some (i, x) →
      (s.dev.flow i).state = 2 → x.role ≠ 2 →
      effect (.ringFlowCloseRx g f) s [F.FLOW_STAT_IN_USE] [.ring] [4 * 32 + 11] fun d => d.flow i = {}) ∧
    (s.dev.ring.flows = [(i, x)] → x.state = 2 → x.role ≠ 2 → x.residue + x.rate < 1000 * x.allow → x.age + 1 ≤ 10 * s.dev.f F.RING_CFG_FLOW_AGE → x.age < 65535 →
      effect .flowTick s [F.FLOW_STAT_IN_USE] [.ring] [] fun d =>
        d.flow i = { x with residue := (x.residue + x.rate) % 1000, allow := x.allow - (x.residue + x.rate) / 1000, age := x.age + 1 }) ∧
    ((s.dev.flow j.toNat).state = 1 →
      effect (.flowReserveTimeout j) s [F.FLOW_STAT_IN_USE] [.ring] [] fun d => d.flow j.toNat = {}))

/-- R249 to R252: EMERG_SEND drives an EMERG with the next ESN on both segments, or sets SEND_REJ for a code it does not send; the repeat sends it again
and counts down; the first arrival is forwarded on the other segment and acted on: HOLD releases the reserve, EVB4 source 14 and EVB3 source 10 with
a fault-log entry, a code from 10h raises EVB4 source 15; a missing frame clock raises EVB4 source 19. Where the lines are idle and nothing else
waits or backs off, it is driven at once. A clause that meets a point the rules leave open takes the reading of log entry 37, the model's choice. -/
def Obligations.Emergencies : Prop :=
  ∀ (g : Fin 2) (f : RxFrame) (code esn n : Nat) (ok : Bool) (use : LineUse) (s : State), s.dev.running = true → s.dev.addr ≠ 0 →
    (s.dev.ring.emergOut = none → emergCode (s.dev.f F.RING_CTL_EMERG_CODE) = true →
      leads .emergSend s fun d =>
        d.ring.esn = (s.dev.ring.esn + 1) % 256 ∧ d.ring.emergOut = some (s.dev.f F.RING_CTL_EMERG_CODE, s.dev.ring.esn, 2)) ∧
    (s.dev.ring.emergOut = some (code, esn, n + 1) →
      leads .emergRepeat s fun d => d.ring.emergOut = if n = 0 then none else some (code, esn, n)) ∧
    (s.dev.listens g = true → f.src ≠ s.dev.addr → f.data.length = 4 → s.dev.ring.emergSeen = [] →
      leads (.ringEmergRx g f ok use) s fun d =>
        d.ring.emergSeen = [{ src := f.src, esn := beAt f.data 1 1, time := s.dev.pw.clock, acted := ok }] ∧
        (ok = true → emergCode (beAt f.data 0 1) = true →
          d.f F.RING_EMERG_RX = 1 ∧ d.f F.RING_EMERG_CODE = beAt f.data 0 1 ∧ d.pendingEvent (4 * 32 + (if beAt f.data 0 1 = 1 then 14 else 15)) = true)) ∧
    ((∀ k : Fin 2, s.dev.lstate k = 2 ∧ (s.dev.sg k).idle = true ∧ (s.dev.sg k).own = [] ∧ (s.dev.sg k).aside = []) →
    (emergCode (s.dev.f F.RING_CTL_EMERG_CODE) = true → s.dev.ring.esn < 256 → s.dev.ring.emergOut = none →
      effect .emergSend s [] [.ring] [] fun d =>
        d.ring.esn = (s.dev.ring.esn + 1) % 256 ∧ d.ring.emergOut = some (s.dev.f F.RING_CTL_EMERG_CODE, s.dev.ring.esn, 2) ∧
        ∀ k : Fin 2, (d.sg k).wire = some (s.dev.emergFrame (s.dev.f F.RING_CTL_EMERG_CODE) s.dev.ring.esn)) ∧
    (emergCode (s.dev.f F.RING_CTL_EMERG_CODE) = false → s.dev.ring.emergOut = none →
      effect .emergSend s [F.RING_EMERG_SEND_REJ] [] [] fun d => d.f F.RING_EMERG_SEND_REJ = 1) ∧
    (s.dev.ring.emergOut = some (code, esn, n + 2) →
      effect .emergRepeat s [] [.ring] [] fun d =>
        d.ring.emergOut = some (code, esn, n + 1) ∧ ∀ k : Fin 2, (d.sg k).wire = some (s.dev.emergFrame code esn)) ∧
    (f.src ≠ s.dev.addr → f.src < 4096 → f.data.length = 4 → s.dev.ring.emergSeen = [] →
      (16 ≤ beAt f.data 0 1 →
        effect (.ringEmergRx g f true .free) s [F.RING_EMERG_RX, F.RING_EMERG_SRC, F.RING_EMERG_ESN, F.RING_EMERG_CODE] [.ring] [4 * 32 + 15] fun d =>
          d.f F.RING_EMERG_RX = 1 ∧ d.f F.RING_EMERG_SRC = f.src ∧ d.f F.RING_EMERG_CODE = beAt f.data 0 1 ∧ d.f F.RING_EMERG_ESN = beAt f.data 1 1 ∧
          (d.sg (otherSeg g)).wire = some (rxFrame f 0x3F)) ∧
      (beAt f.data 0 1 = 1 → s.dev.f F.CHG_RESV_E_RELEASED = 0 → s.dev.f F.PATH_STAT_STATE = 2 →
        effect (.ringEmergRx g f true .free) s [F.RING_EMERG_RX, F.RING_EMERG_SRC, F.RING_EMERG_ESN, F.RING_EMERG_CODE, F.CHG_RESV_E_RELEASED]
          [.ring, .faults] [4 * 32 + 14, 3 * 32 + 10] fun d =>
            d.f F.CHG_RESV_E_RELEASED = 1 ∧ d.f F.RING_EMERG_CODE = 1 ∧ (d.sg (otherSeg g)).wire = some (rxFrame f 0x3F)))) ∧
    (effect .frameClockAbsent s [] [] [4 * 32 + 19] fun d => d.ring = s.dev.ring)

/-! ### Service port (R253 to R264) -/

/-- R253 to R255, R264: an attach shows the pin, takes its role and brings the device side up with the FET open, EVB4 source 20; a pre-bias that stays out
abandons it; a detach counts, drops the contract and clears what the attach showed, EVB4 sources 21 and 23; a dual-role port toggles; a discharge ends,
EVB4 source 30. What else they leave unchanged is stated for a course that stands alone, outside compatibility mode for the detach. A clause that meets a point the rules leave open takes the reading of log entries 38 and 73, the model's choice. -/
def Obligations.ServiceAttach : Prop :=
  ∀ (cc2 wish : Bool) (v : Nat) (p : Fin 5) (c : Fin 6) (s : State), s.dev.running = true → v < 65536 →
    (s.dev.role 5 ≠ 0 → s.dev.f F.PD_STAT_ATTACHED = 0 → s.dev.courseOf 5 ≠ none →
      leads (.servAttach cc2 v wish) s fun d =>
        d.f F.PD_STAT_ATTACHED = 1 ∧ d.f F.PD_STAT_CC = (if cc2 then 2 else 1) ∧ d.f F.PD_STAT_PROLE = (s.dev.attachRole wish).toNat ∧
        d.f F.PD_STAT_DROLE = (s.dev.attachRole wish).toNat ∧ d.f F.PD_STAT_SINKTX = (s.dev.attachRole wish).toNat ∧
        d.f (F.GUARD_STAT_FET_ON 4) = 0 ∧ d.serv.prebias = some (if s.dev.attachRole wish then 500 else v) ∧ d.serv.waiting = none ∧
        d.serv.rejoin = false ∧ d.pendingEvent (4 * 32 + 20) = true ∧
        (if s.dev.serv.rejoin = true ∧ s.dev.attachRole wish = false then d.f F.PD_STAT_PSTATE = 6 ∧ d.serv.msg = .hardReset ∧
            d.pendingEvent (4 * 32 + 27) = true
          else d.f F.PD_STAT_PSTATE = 1 ∧ d.f F.PD_STAT_VCONN_ON = (if s.dev.attachRole wish then s.dev.f F.PD_CFG_VCONN_EN else 0))) ∧
    (s.dev.serv.prebias.isSome = true →
      leads .servPrebiasTimeout s fun d => d.f F.PD_STAT_ATTACHED = 0 ∧ d.f F.PD_STAT_PSTATE = 0 ∧ d.f F.PD_STAT_CC = 0 ∧ d.f F.PD_STAT_VCONN_ON = 0 ∧
        d.f (F.GUARD_STAT_FET_ON 4) = 0 ∧ d.serv.prebias = none) ∧
    (s.dev.f F.PD_STAT_ATTACHED = 1 →
      leads .servDetach s fun d =>
        d.f F.PD_CNT_DETACHES = min (s.dev.f F.PD_CNT_DETACHES + 1) (2 ^ F.PD_CNT_DETACHES.width - 1) ∧ d.f F.PD_STAT_ATTACHED = 0 ∧
        d.f F.PD_STAT_PSTATE = 0 ∧ d.f F.PD_STAT_CC = 0 ∧ d.f F.PD_STAT_VCONN_ON = 0 ∧ d.f F.PD_STAT_SINKTX = 0 ∧ d.f F.PD_STAT_EPR = 0 ∧
        d.f F.PD_CONTRACT_V = 0 ∧ d.f F.PD_CONTRACT_I = 0 ∧ d.f (F.PORT_STAT_CONTRACT 4) = 0 ∧ d.f (F.GUARD_STAT_FET_ON 4) = 0 ∧
        d.rd R.PD_CABLE = 0#32 ∧ d.serv.inForce = false ∧ d.serv.pend = none ∧ d.serv.waiting = none ∧ d.serv.prebias = none ∧
        d.pendingEvent (4 * 32 + 21) = true ∧ (s.dev.serv.inForce = true → d.pendingEvent (4 * 32 + 23) = true)) ∧
    (s.dev.role 5 = 3 → s.dev.f F.PD_STAT_ATTACHED = 0 →
      effect .pdDrpToggle s [] [.serv] [] fun d => d.serv = { s.dev.serv with rp := !s.dev.serv.rp }) ∧
    (s.dev.fbit F.PDIS_CFG_RUNNING p = true →
      leads (.portDischargeEnd p) s fun d => d.fbit F.PDIS_CFG_RUNNING p = false ∧ d.pendingEvent (4 * 32 + 30) = true ∧
        (∀ k : Fin 6, s.dev.courseOf (p + 1) = some k.val → s.dev.regMode k ≠ 0 → d.f (F.C_MODE_MODE k) = 0 ∧ d.delivers k = false)) ∧
    (s.dev.lone c → s.dev.courseOf 5 = some c.val →
      (s.dev.role 5 ≠ 0 → s.dev.f F.PD_STAT_ATTACHED = 0 → s.dev.serv.rejoin = false → s.dev.canTake c = true → s.dev.regMode c = 0 →
        s.dev.delivers c = false → s.dev.f F.PDIS_CFG_RUNNING = 0 →
        effect (.servAttach cc2 v wish) s ([F.PD_STAT_ATTACHED, F.PD_STAT_CC, F.PD_STAT_PSTATE, F.PD_STAT_PROLE, F.PD_STAT_DROLE, F.PD_STAT_VCONN_ON,
            F.PD_STAT_SINKTX, F.GUARD_STAT_FET_ON 4] ++ startFields c) [.serv, .course] [4 * 32 + 20] fun d =>
          d.f (F.C_MODE_MODE c) = 2 ∧ d.f (F.C_RSTAT_DIR c) = 1 ∧ d.f (F.C_REF_FINAL c) = (if s.dev.attachRole wish then 500 else v)) ∧
      (s.dev.serv.prebias.isSome = true → s.dev.regMode c ≠ 0 →
        effect .servPrebiasTimeout s ([F.GUARD_STAT_FET_ON 4, F.PD_STAT_PSTATE, F.PD_STAT_ATTACHED, F.PD_STAT_CC, F.PD_STAT_VCONN_ON] ++
            stopFields s.dev c) [.serv, .course, .tile] [] fun d => s.dev.stopped d c) ∧
      (s.dev.f F.PD_STAT_ATTACHED = 1 → s.dev.serv.inForce = true → s.dev.serv.pend = none → s.dev.f (F.PORT_STAT_CONTRACT 4) = 0 →
        s.dev.f F.PD_STAT_EPR = 0 → s.dev.regMode c ≠ 0 → s.dev.f F.SYSCFG_COMPAT = 0 →
        effect .servDetach s ([F.PD_CNT_DETACHES, F.PD_CONTRACT_I, F.PD_CONTRACT_V, F.PORT_STAT_CONTRACT 4, F.GUARD_STAT_FET_ON 4, F.PD_STAT_ATTACHED,
            F.PD_STAT_PSTATE, F.PD_STAT_CC, F.PD_STAT_VCONN_ON, F.PD_STAT_SINKTX, whole R.PD_CABLE] ++ stopFields s.dev c)
          [.serv, .course, .tile] [4 * 32 + 21, 4 * 32 + 23] fun d => s.dev.stopped d c)) ∧
    (s.dev.lone c → s.dev.fbit F.PDIS_CFG_RUNNING p = true → s.dev.courseOf (p + 1) = some c.val → s.dev.regMode c ≠ 0 →
      effect (.portDischargeEnd p) s (F.PDIS_CFG_RUNNING :: stopFields s.dev c) [.course, .tile] [4 * 32 + 30] fun d =>
        d.fbit F.PDIS_CFG_RUNNING p = false ∧ s.dev.stopped d c)

/-- R235, R256, R257: the USB PD contract from both sides. As Sink the device requests the best supply and waits, and PS_RDY puts the contract in force; as
Source it accepts a request within its offer, moves its course there, rejects one above it or for no supply it offers, and sends PS_RDY once the voltage is
within 5 %, EVB4 source 22; an e-marker that answers shows its limits, EVB4 source 28. A clause that meets a point the rules leave open takes the reading of log entries 36, 38 and 73, the model's choice. -/
def Obligations.PdContracts : Prop :=
  ∀ (caps : List (Nat × Nat)) (n : Fin 7) (v i m u : Nat) (c : Fin 6) (vMax : Fin 4) (iMax : Fin 3) (epr : Bool) (s : State),
    s.dev.running = true → s.dev.f F.PD_STAT_ATTACHED = 1 → v < 65536 → i < 65536 →
    (s.dev.f F.PD_STAT_PROLE = 0 → s.dev.supervisor = true →
      (s.dev.bestSupply caps = some (v, m) →
        leads (.pdSourceCapsRx caps) s fun d =>
          d.f F.PD_STAT_PSTATE = 4 ∧ d.serv.pend = some (v, min (s.dev.f F.PD_SNK_I_OP) (s.dev.f (F.PORT_ILIM_IN 4))) ∧ d.serv.waiting = none ∧
          d.serv.msg = .request v (min (s.dev.f F.PD_SNK_I_OP) (s.dev.f (F.PORT_ILIM_IN 4))) ∧
          (s.dev.serv.inForce = true → d.f F.PD_CONTRACT_V = min v (s.dev.f F.PD_CONTRACT_V))) ∧
      (s.dev.bestSupply caps = some (v, m) → s.dev.serv.inForce = false →
        effect (.pdSourceCapsRx caps) s [F.PD_STAT_PSTATE] [.serv] [] fun d => d.f F.PD_STAT_PSTATE = 4) ∧
      (s.dev.bestSupply caps = none →
        effect (.pdSourceCapsRx caps) s [] [.serv] [] fun d => d.serv = { s.dev.serv.acknowledged with waiting := none, goodCrcs := s.dev.serv.goodCrcs + 1 })) ∧
    (s.dev.f F.PD_STAT_PROLE = 1 → s.dev.supervisor = true → s.dev.fetOn 5 = true →
      (s.dev.offeredPdo n = some (v, m) → i ≤ m →
        leads (.pdRequestRx n i) s fun d =>
          d.f F.PD_STAT_PSTATE = 4 ∧ d.f F.PD_STAT_SINKTX = 0 ∧ d.serv.pend = some (v, i) ∧ d.serv.msg = .accept ∧ d.serv.waiting = none ∧
          (s.dev.courseOf 5 = some c.val → s.dev.canTake c = true →
            d.f (F.C_MODE_MODE c) = 2 ∧ d.f (F.C_RSTAT_DIR c) = 1 ∧ d.f (F.C_REF_FINAL c) = v)) ∧
      (s.dev.offeredPdo n = some (v, m) → i ≤ m → s.dev.serv.inForce = false → s.dev.courseOf 5 = some c.val → s.dev.canTake c = true →
        s.dev.f (F.C_MODE_MODE c) = 2 → s.dev.f (F.C_RSTAT_DIR c) = 1 →
        effect (.pdRequestRx n i) s [F.PD_STAT_PSTATE, F.PD_STAT_SINKTX, F.C_REF_FINAL c, F.C_MODE_MODE c, F.C_RSTAT_DIR c] [.serv, .course] []
          fun d => d.serv.inForce = false) ∧
      (s.dev.offeredPdo n = some (v, m) ∧ m < i ∨ s.dev.offeredPdo n = none →
        effect (.pdRequestRx n i) s [F.PD_STAT_SINKTX] [.serv] [] fun d => d.serv.msg = .reject ∧ d.serv.pend = s.dev.serv.pend)) ∧
    (s.dev.serv.pend = some (v, i) → s.dev.f F.PD_STAT_PSTATE = 4 →
      (s.dev.f F.PD_STAT_PROLE = 1 → 20 * u ≤ 21 * v → 19 * v ≤ 20 * u →
        effect (.pdPsRdySend u) s [F.PD_STAT_PSTATE, F.PD_STAT_SINKTX, F.PD_CONTRACT_V, F.PD_CONTRACT_I, F.PORT_STAT_CONTRACT 4] [.serv]
          [4 * 32 + 22] fun d =>
            d.f F.PD_STAT_PSTATE = 3 ∧ d.f F.PD_CONTRACT_V = v ∧ d.f F.PD_CONTRACT_I = i ∧ d.f (F.PORT_STAT_CONTRACT 4) = 0 ∧
            d.f F.PD_STAT_SINKTX = 1 ∧ d.serv.msg = .psRdy ∧ d.serv.inForce = true) ∧
      (s.dev.f F.PD_STAT_PROLE = 0 →
        effect .pdPsRdyRx s [F.PD_STAT_PSTATE, F.PD_CONTRACT_V, F.PD_CONTRACT_I, F.PORT_STAT_CONTRACT 4, F.PORT_STAT_DEB_MS 4, F.PORT_STAT_QSTATE 4]
          [.serv, .port] [4 * 32 + 22] fun d =>
            d.f F.PD_STAT_PSTATE = 3 ∧ d.f F.PD_CONTRACT_V = v ∧ d.f F.PD_CONTRACT_I = i ∧ d.f (F.PORT_STAT_CONTRACT 4) = 1 ∧ d.serv.inForce = true)) ∧
    (s.dev.f F.PD_STAT_VCONN_ON = 1 →
      effect (.cableIdentityDiscovered vMax iMax epr) s [F.PD_CABLE_VALID, F.PD_CABLE_V_MAX, F.PD_CABLE_I_MAX, F.PD_CABLE_EPR_OK, F.PD_STAT_SINKTX]
        [.serv] [4 * 32 + 28] fun d => d.serv = { s.dev.serv with waiting := none, goodCrcs := s.dev.serv.goodCrcs + 1 } ∧
        d.f F.PD_CABLE_VALID = 1 ∧ d.f F.PD_CABLE_V_MAX = vMax ∧ d.f F.PD_CABLE_I_MAX = iMax ∧ d.f F.PD_CABLE_EPR_OK = epr.toNat)

/-- R253, R256, R258 to R260: a sequence of the device's own waits, as Sink while Rp reads SinkTxNG, as Source after it has set SinkTxNG, and SinkTxOK
releases the Sink's; EPR mode is entered and left with EVB4 source 26; a PR_Swap received ends the contract and turns the power role, EVB4 sources 23 and
24, or is rejected; a DR_Swap turns the data role, source 25; a VCONN_Swap turns the VCONN source; what is not supported is answered so; a Hard Reset counts
and ends the contract, sources 27 and 23; a VCONN over-current turns VCONN off until the next attach, source 29. What else a PR_Swap as Source and a Hard
Reset as Sink leave unchanged is stated for a course that stands alone, outside compatibility mode. A clause that meets a point the rules leave open takes the reading of log entries 36, 38 and 73, the model's choice. -/
def Obligations.PdSwapsAndResets : Prop :=
  ∀ (own partner ok : Bool) (w : PdWait) (c : Fin 6) (s : State), s.dev.running = true → s.dev.f F.PD_STAT_ATTACHED = 1 → s.dev.serv.prebias = none →
    (s.dev.supervisor = true →
      (∀ x ∈ [(Instr.pdEprEntry true, PdSeq.eprEntry, true), (Instr.pdEprExit true, PdSeq.eprExit, true), (Instr.pdPrSwap true partner, PdSeq.prSwap, partner),
          (Instr.pdDrSwap true partner, PdSeq.drSwap, partner), (Instr.pdVconnSwap true partner, PdSeq.vconnSwap, partner)],
        (s.dev.f F.PD_STAT_PROLE = 0 → s.dev.f F.PD_STAT_SINKTX = 0 → effect x.1 s [] [.serv] [] fun d =>
          d.serv = { s.dev.serv with waiting := some { seq := x.2.1, partner := x.2.2, due := 0 } }) ∧
        (s.dev.f F.PD_STAT_PROLE = 1 → effect x.1 s [F.PD_STAT_SINKTX] [.serv] [] fun d => d.f F.PD_STAT_SINKTX = 0 ∧
          d.serv = { s.dev.serv with waiting := some { seq := x.2.1, partner := x.2.2, due := s.dev.pw.clock + Config.sinkTxUs } })) ∧
      (s.dev.eprAdmitted = true → s.dev.f F.PD_STAT_EPR = 0 →
        effect (.pdEprEntry false) s [F.PD_STAT_EPR, F.PD_STAT_SINKTX] [.serv] [4 * 32 + 26] fun d =>
          d.f F.PD_STAT_EPR = 1 ∧ d.serv.msg = .accept ∧ (s.dev.f F.PD_STAT_PROLE = 0 → d.serv.waiting = none) ∧
          (s.dev.f F.PD_STAT_PROLE = 1 → s.dev.fetOn 5 = true → d.f F.PD_STAT_SINKTX = 0 ∧
            d.serv.waiting = some { seq := .caps, partner := true, due := s.dev.pw.clock + Config.sinkTxUs })) ∧
      (s.dev.prSwapOk false = true → s.dev.f F.PD_STAT_EPR = 0 →
        leads (.pdPrSwap false partner) s fun d =>
          d.f F.PD_STAT_PROLE = 1 - s.dev.f F.PD_STAT_PROLE ∧ d.f F.PD_STAT_PSTATE = (if s.dev.f F.PD_STAT_PROLE = 1 then 2 else 5) ∧
          d.f F.PD_CONTRACT_V = 0 ∧ d.f (F.GUARD_STAT_FET_ON 4) = 0 ∧ d.serv.msg = .accept ∧ d.serv.waiting = none ∧
          (s.dev.serv.inForce = true → d.pendingEvent (4 * 32 + 23) = true) ∧
          (s.dev.f F.PD_STAT_PROLE = 1 → d.pendingEvent (4 * 32 + 24) = true)) ∧
      (s.dev.f F.PD_STAT_EPR = 1 ∨ s.dev.prSwapOk false = false →
        effect (.pdPrSwap false partner) s [F.PD_STAT_SINKTX] [.serv] [] fun d => d.serv.msg = .reject ∧ d.serv.waiting = none) ∧
      (s.dev.f F.PD_CFG_DR_SWAP_EN = 1 → effect (.pdDrSwap false partner) s [F.PD_STAT_DROLE, F.PD_STAT_SINKTX] [.serv] [4 * 32 + 25] fun d =>
        d.f F.PD_STAT_DROLE = 1 - s.dev.f F.PD_STAT_DROLE ∧ d.serv.msg = .accept ∧ d.serv.waiting = none) ∧
      (s.dev.f F.PD_CFG_DR_SWAP_EN = 0 → effect (.pdDrSwap false partner) s [F.PD_STAT_SINKTX] [.serv] [] fun d => d.serv.msg = .reject) ∧
      (s.dev.f F.PD_CFG_VCONN_EN = 1 → s.dev.serv.vconnHeld = false →
        effect (.pdVconnSwap false partner) s [F.PD_STAT_VCONN_ON, F.PD_STAT_SINKTX] [.serv] [] fun d =>
          d.f F.PD_STAT_VCONN_ON = 1 - s.dev.f F.PD_STAT_VCONN_ON ∧ d.serv.msg = .accept ∧ d.serv.waiting = none)) ∧
    (s.dev.f F.PD_STAT_EPR = 1 →
      effect (.pdEprExit false) s [F.PD_STAT_EPR, F.PD_STAT_SINKTX] [.serv] [4 * 32 + 26] fun d => d.f F.PD_STAT_EPR = 0 ∧ d.serv.waiting = none) ∧
    (s.dev.f F.PD_STAT_PROLE = 0 → s.dev.serv.waiting = some w →
      (s.dev.supervisor = true → leads (.sinktxChange true) s fun d => d.f F.PD_STAT_SINKTX = 1 ∧ d.serv.waiting = none) ∧
      (effect (.sinktxChange false) s [F.PD_STAT_SINKTX] [] [] fun d => d.f F.PD_STAT_SINKTX = 0) ∧
      (s.dev.supervisor = true → w.seq = .drSwap → w.partner = true → s.dev.f F.PD_CFG_DR_SWAP_EN = 1 →
        effect (.sinktxChange true) s [F.PD_STAT_SINKTX, F.PD_STAT_DROLE] [.serv] [4 * 32 + 25] fun d =>
          d.f F.PD_STAT_DROLE = 1 - s.dev.f F.PD_STAT_DROLE ∧ d.serv.msg = .drSwap)) ∧
    (s.dev.serv.waiting = none ∨ s.dev.supervisor = false → effect (.sinktxChange ok) s [F.PD_STAT_SINKTX] [] [] fun d => d.f F.PD_STAT_SINKTX = ok.toNat) ∧
    (∀ x ∈ [Instr.pdFrSwapRx, Instr.pdUnsupportedVdmRx], effect x s [F.PD_STAT_SINKTX] [.serv] [] fun d =>
      d.serv.msg = .notSupported ∧ d.serv.waiting = none ∧ (s.dev.f F.PD_STAT_PROLE = 0 → d.f F.PD_STAT_SINKTX = s.dev.f F.PD_STAT_SINKTX)) ∧
    (leads (.pdHardReset own) s fun d =>
      d.f F.PD_CNT_HARD_RESETS = min (s.dev.f F.PD_CNT_HARD_RESETS + 1) (2 ^ F.PD_CNT_HARD_RESETS.width - 1) ∧ d.f F.PD_STAT_PSTATE = 6 ∧
      d.f F.PD_STAT_EPR = 0 ∧ d.f F.PD_CONTRACT_V = 0 ∧ d.f F.PD_CONTRACT_I = 0 ∧ d.f (F.PORT_STAT_CONTRACT 4) = 0 ∧ d.serv.inForce = false ∧
      d.serv.pend = none ∧ d.serv.waiting = none ∧ d.serv.tx = none ∧ d.serv.msgId = 0 ∧ (own = true → d.serv.msg = .hardReset) ∧
      d.pendingEvent (4 * 32 + 27) = true ∧ (s.dev.serv.inForce = true → d.pendingEvent (4 * 32 + 23) = true) ∧
      (s.dev.f F.PD_STAT_PROLE = 0 → d.f (F.GUARD_STAT_FET_ON 4) = 0) ∧ (s.dev.f F.PD_STAT_PROLE = 1 → d.f F.PD_STAT_SINKTX = 1)) ∧
    (s.dev.lone c → s.dev.courseOf 5 = some c.val → s.dev.regMode c ≠ 0 → s.dev.f F.SYSCFG_COMPAT = 0 → s.dev.f F.PD_STAT_EPR = 0 →
      s.dev.serv.inForce = true → s.dev.serv.pend = none →
      (s.dev.f F.PD_STAT_PROLE = 1 → s.dev.supervisor = true → s.dev.prSwapOk false = true → s.dev.f (F.PORT_STAT_CONTRACT 4) = 0 →
        effect (.pdPrSwap false partner) s ([F.PD_STAT_PROLE, F.PD_STAT_PSTATE, F.PD_STAT_SINKTX, F.PD_CONTRACT_I, F.PD_CONTRACT_V,
            F.PORT_STAT_CONTRACT 4, F.GUARD_STAT_FET_ON 4] ++ stopFields s.dev c) [.serv, .course, .tile] [4 * 32 + 23, 4 * 32 + 24] fun d =>
          s.dev.stopped d c) ∧
      (s.dev.f F.PD_STAT_PROLE = 0 → s.dev.f (F.PORT_STAT_CONTRACT 4) = 1 → s.dev.f (F.PORT_STAT_QSTATE 4) = 0 →
        effect (.pdHardReset own) s ([F.PD_CNT_HARD_RESETS, F.PD_STAT_PSTATE, F.PD_CONTRACT_I, F.PD_CONTRACT_V, F.PORT_STAT_CONTRACT 4,
            F.GUARD_STAT_FET_ON 4] ++ stopFields s.dev c) [.serv, .course, .tile] [4 * 32 + 27, 4 * 32 + 23] fun d => s.dev.stopped d c)) ∧
    (s.dev.f F.PD_STAT_VCONN_ON = 1 →
      effect .vconnOvercurrent s [F.PD_STAT_VCONN_ON, F.PD_STAT_VCONN_OC] [.serv] [4 * 32 + 29] fun d =>
        d.f F.PD_STAT_VCONN_ON = 0 ∧ d.f F.PD_STAT_VCONN_OC = 1 ∧ d.serv.vconnHeld = true)

/-! ### Image store (R62 to R80) -/

/-- R65 to R67, R407: a reset release loads a slot that passes: STATE reads RUN, the engines and the core run, EVB0 sources 0 and 7 are pending; with no
slot that passes STATE reads NO_IMAGE, neither runs, the result of the check stands in IMGRESULT with EVB0 source 1, and RSTCAUSE and the straps show
what the release found. One conclusion covers both; which of them holds, the check of the slots says (R66), whose signature and digest are opaque
constants. A life-cycle change that the reset cut is completed first, with its own reset, cause 10; what the release records is stated for no such
change. A clause that meets a point the rules leave open takes the reading of log entries 7, 23, 41, 44, 52, 68, 72, 78 and 84, the model's choice. -/
def Obligations.ImageLoad : Prop :=
  ∀ (i : LoadInput) (s : State), s.dev.pw.mode = .on → s.dev.pw.inReset = true → s.dev.pw.engines = false → s.dev.pw.ldTripped = false →
    s.dev.pw.resetCause < 16 →
    (leads (.imageLoad i) s fun d =>
      d.pw.inReset = false ∧ d.pw.hostReady = true ∧ d.recov.lcTarget = none ∧
      d.f F.RSTCAUSE_CAUSE = (if s.dev.recov.lcTarget.isSome then 10 else s.dev.pw.resetCause) ∧
      (d.f F.IMGSTAT_STATE = 1 ∧ d.running = true ∧ d.pw.coreRuns = true ∧ d.pw.absent = false ∧ d.pendingEvent 0 = true ∧ d.pendingEvent 7 = true ∨
       d.f F.IMGSTAT_STATE = 2 ∧ d.running = false ∧ d.pw.absent = true ∧ d.pendingEvent 1 = true ∧ d.f F.IMGRESULT_CODE ≠ 0)) ∧
    (s.dev.recov.lcTarget = none → s.dev.pw.resetCause ≠ 10 → leads (.imageLoad i) s fun d =>
      d.pw.inReset = false ∧ d.pw.hostReady = true ∧
      (d.f F.IMGSTAT_STATE = 1 ∧ d.running = true ∧ d.pw.coreRuns = true ∧ d.pw.absent = false ∧ d.pendingEvent 0 = true ∧ d.pendingEvent 7 = true ∨
       d.f F.IMGSTAT_STATE = 2 ∧ d.running = false ∧ d.pw.absent = true ∧ d.pendingEvent 1 = true ∧ d.f F.IMGRESULT_CODE ≠ 0 ∧
       d.f F.RSTCAUSE_CAUSE = s.dev.pw.resetCause ∧ d.f F.RSTCAUSE_PREV = s.dev.f F.RSTCAUSE_CAUSE ∧
       d.f F.SYSCFG_BID = i.bid.toNat ∧ d.f F.SYSCFG_COMPAT_PIN = i.compat.toNat))

/-- R68, R69, R72, R73, R86: the image commands. While another runs they are refused with 11h. OPEN unseals the inactive slot and ends its validity, and is
refused with 13h on trial; CHECK starts; its end seals a slot that passes, and reports a failure as origin 2; CONFIRM ends the trial, EVB0 source 2, or is refused with
13h where none runs, and raises the lowest security version with the image's where the image asks for it; ABORT ends the wait of a COMMIT. A clause that meets a point the rules leave open takes the reading of log entries 41, 45, 46 and 47, the model's choice. -/
def Obligations.ImageCommands : Prop :=
  ∀ (force : Bool) (s : State), s.dev.alive = true →
    (s.dev.imgBusy = false → s.dev.f F.IMGSTAT_TRIAL = 0 →
      effect (.imgOpen force) s [F.IMGCTL_FORCE, F.IMGSTAT_ALT_VALID] [.slots, .boot, .img] [] fun d =>
        d.img.slotOpen = true ∧ d.boot.altValid = false ∧ d.f F.IMGSTAT_ALT_VALID = 0 ∧ (vget d.slots s.dev.inactive).sealed = false ∧
        (vget d.slots s.dev.inactive).bytes = (vget s.dev.slots s.dev.inactive).bytes ∧ d.boot.active = s.dev.boot.active) ∧
    (s.dev.imgBusy = true → ∀ x ∈ [Instr.imgOpen force, Instr.imgCheck force, Instr.imgConfirm force],
      effect x s [F.IMGCTL_FORCE, F.IMGRESULT_ORIGIN, F.IMGRESULT_SLOT, F.IMGRESULT_SECTION, F.IMGRESULT_CODE] [] [] fun d =>
        d.f F.IMGRESULT_CODE = 0x11 ∧ d.f F.IMGRESULT_ORIGIN = 3 ∧ d.f F.IMGRESULT_SLOT = s.dev.inactive % 2) ∧
    (s.dev.imgBusy = false → s.dev.f F.IMGSTAT_TRIAL = 1 →
      effect (.imgOpen force) s [F.IMGCTL_FORCE, F.IMGRESULT_ORIGIN, F.IMGRESULT_SLOT, F.IMGRESULT_SECTION, F.IMGRESULT_CODE] [] [] fun d =>
        d.f F.IMGRESULT_CODE = 0x13) ∧
    (s.dev.imgBusy = false →
      effect (.imgCheck force) s [F.IMGCTL_FORCE] [.img] [] fun d => d.img = { s.dev.img with checking := true }) ∧
    (s.dev.img.checking = true →
      effect .imgCheckDone s [F.IMGSTAT_ALT_VALID, F.IMGRESULT_ORIGIN, F.IMGRESULT_SLOT, F.IMGRESULT_SECTION, F.IMGRESULT_CODE]
        [.slots, .boot, .img] [] fun d =>
          d.img.checking = false ∧ d.f F.IMGSTAT_ALT_VALID = (s.dev.checkSlot s.dev.inactive).isNone.toNat ∧
          (s.dev.checkSlot s.dev.inactive = none → (vget d.slots s.dev.inactive).sealed = true ∧ d.img.slotOpen = false) ∧
          ∀ x ∈ s.dev.checkSlot s.dev.inactive, d.f F.IMGRESULT_CODE = x.1 % 256 ∧ d.f F.IMGRESULT_SECTION = x.2 % 256 ∧ d.f F.IMGRESULT_ORIGIN = 2 ∧
            d.slots = s.dev.slots ∧ d.img.slotOpen = s.dev.img.slotOpen) ∧
    (s.dev.imgBusy = false → s.dev.img.expiry = false → s.dev.f F.IMGSTAT_TRIAL = 1 →
      leads (.imgConfirm force) s fun d => d.f F.IMGSTAT_TRIAL = 0 ∧ d.boot.trial = false ∧ d.boot.booted = false ∧ d.boot.active = s.dev.boot.active ∧
        d.pendingEvent 2 = true ∧
        d.f F.IMGSVN_SVN_MIN = (if s.dev.img.raiseSvn then max (s.dev.f F.IMGSVN_SVN_MIN) (s.dev.f F.IMGINFO_SVN) else s.dev.f F.IMGSVN_SVN_MIN)) ∧
    (s.dev.imgBusy = false → s.dev.img.expiry = false → s.dev.f F.IMGSTAT_TRIAL = 1 → s.dev.img.raiseSvn = false →
      effect (.imgConfirm force) s [F.IMGCTL_FORCE, F.IMGSTAT_TRIAL] [.boot] [2] fun d =>
        d.f F.IMGSTAT_TRIAL = 0 ∧ d.boot = { s.dev.boot with trial := false, booted := false }) ∧
    (s.dev.imgBusy = false → s.dev.f F.IMGSTAT_TRIAL = 0 →
      effect (.imgConfirm force) s [F.IMGCTL_FORCE, F.IMGRESULT_ORIGIN, F.IMGRESULT_SLOT, F.IMGRESULT_SECTION, F.IMGRESULT_CODE] [] [] fun d =>
        d.f F.IMGRESULT_CODE = 0x13 ∧ d.f F.IMGRESULT_ORIGIN = 3) ∧
    (s.dev.img.expiry = false →
      effect (.imgAbort force) s [F.IMGCTL_FORCE, F.IMGSTAT_COMMIT_PENDING] [] [] fun d =>
        d.f F.IMGSTAT_COMMIT_PENDING = 0 ∧ d.f F.IMGCTL_FORCE = force.toNat)

/-- R70 to R72: a COMMIT of a sealed slot waits for its restart exactly where the slot passes the check and the hold loop can carry SYS, or FORCE is written,
or no image runs; an unsealed slot is refused with 10h; the restart makes the other slot active on trial and resets the logic die with cause 4; an expired trial waits for its restart. A clause that meets a point the rules leave open takes the reading of log entries 44, 45 and 46, the model's choice. -/
def Obligations.CommitAndTrial : Prop :=
  ∀ (v : Nat) (force : Bool) (s : State), s.dev.alive = true →
    (s.dev.imgBusy = false → s.dev.f F.IMGSTAT_TRIAL = 0 → (vget s.dev.slots s.dev.inactive).sealed = true →
      leads (.imgCommit force v) s fun d =>
        d.f F.IMGSTAT_COMMIT_PENDING = ((s.dev.checkSlot s.dev.inactive).isNone &&
          (s.dev.f F.IMGSTAT_STATE == 2 || force || (s.dev.putChg { s.dev.chg with vBat := (v : Int) }).holdCan)).toNat ∧ d.f F.IMGCTL_FORCE = force.toNat ∧
        (∀ x ∈ s.dev.checkSlot s.dev.inactive, d.f F.IMGRESULT_CODE = x.1 % 256 ∧ d.f F.IMGRESULT_ORIGIN = 3) ∧
        (s.dev.checkSlot s.dev.inactive = none → d.f F.IMGSTAT_COMMIT_PENDING = 0 → d.f F.IMGRESULT_CODE = 0x14)) ∧
    (s.dev.imgBusy = true →
      effect (.imgCommit force v) s [F.IMGCTL_FORCE, F.IMGRESULT_ORIGIN, F.IMGRESULT_SLOT, F.IMGRESULT_SECTION, F.IMGRESULT_CODE] [.chg] [] fun d =>
        d.f F.IMGRESULT_CODE = 0x11) ∧
    (s.dev.imgBusy = false → s.dev.f F.IMGSTAT_TRIAL = 0 → (vget s.dev.slots s.dev.inactive).sealed = true →
      effect (.imgCommit true v) s [F.IMGCTL_FORCE, F.IMGSTAT_COMMIT_PENDING, F.IMGRESULT_ORIGIN, F.IMGRESULT_SLOT, F.IMGRESULT_SECTION, F.IMGRESULT_CODE]
        [.chg] [] fun d =>
          d.f F.IMGSTAT_COMMIT_PENDING = (s.dev.checkSlot s.dev.inactive).isNone.toNat ∧ d.chg.vBat = v ∧
          ∀ x ∈ s.dev.checkSlot s.dev.inactive, d.f F.IMGRESULT_CODE = x.1 % 256 ∧ d.f F.IMGRESULT_ORIGIN = 3) ∧
    (s.dev.imgBusy = false → s.dev.f F.IMGSTAT_TRIAL = 0 → (vget s.dev.slots s.dev.inactive).sealed = false →
      effect (.imgCommit true v) s [F.IMGCTL_FORCE, F.IMGRESULT_ORIGIN, F.IMGRESULT_SLOT, F.IMGRESULT_SECTION, F.IMGRESULT_CODE] [.chg] [] fun d =>
        d.f F.IMGRESULT_CODE = 0x10) ∧
    (s.dev.f F.IMGSTAT_COMMIT_PENDING = 1 → s.dev.f F.NAND_STAT_COMMIT = 0 →
      leads .commitRestart s fun d => d.alive = false ∧ d.pw.resetCause = 4 ∧ d.slots = s.dev.slots ∧ d.nv = s.dev.nv ∧
        d.boot = (if s.dev.img.expiry then s.dev.boot
          else { active := 1 - s.dev.boot.active, trial := true, booted := false, altValid := true, generation := s.dev.boot.generation + 1 })) ∧
    (s.dev.f F.IMGSTAT_COMMIT_PENDING = 1 → s.dev.img.expiry = false → s.dev.f F.NAND_STAT_COMMIT = 0 → s.dev.faults = [] →
      leads .commitRestart s fun d => s.dev.resetHeld d 4 ∧
        d.boot = { active := 1 - s.dev.boot.active, trial := true, booted := false, altValid := true, generation := s.dev.boot.generation + 1 }) ∧
    (s.dev.running = true → s.dev.f F.IMGSTAT_TRIAL = 1 → s.dev.f F.IMGSTAT_COMMIT_PENDING = 0 →
      effect .trialExpiry s [F.IMGSTAT_COMMIT_PENDING] [.img] [] fun d => d.f F.IMGSTAT_COMMIT_PENDING = 1 ∧ d.img.expiry = true)

/-- R68, R86: a write of IMGDATA stores its word at IMGADDR of the open inactive slot, least significant byte first, and changes no other byte; a read
returns the word there; each moves IMGADDR on, from 17_FFFCh to 0; a closed slot refuses a write with 13h; IMGADDR takes an offset of the slot, aligned. A clause that meets a point the rules leave open takes the reading of log entries 14 and 48, the model's choice. -/
def Obligations.ImageData : Prop :=
  ∀ (w : BitVec 32) (s : State), s.dev.alive = true → s.dev.f F.IMGADDR_OFFSET ≤ 0x17FFFC →
    (s.dev.img.slotOpen = true →
      effect (.imgdataWrite w) s [F.IMGADDR_OFFSET] [.slots] [] fun d =>
        wordStored (s.dev.slotByte s.dev.inactive) (d.slotByte s.dev.inactive) (s.dev.f F.IMGADDR_OFFSET) w ∧
        vget d.slots (1 - s.dev.inactive) = vget s.dev.slots (1 - s.dev.inactive) ∧
        d.f F.IMGADDR_OFFSET = (if s.dev.f F.IMGADDR_OFFSET = 0x17FFFC then 0 else s.dev.f F.IMGADDR_OFFSET + 4)) ∧
    (s.dev.img.slotOpen = false →
      effect (.imgdataWrite w) s [F.IMGRESULT_ORIGIN, F.IMGRESULT_SLOT, F.IMGRESULT_SECTION, F.IMGRESULT_CODE] [] [] fun d =>
        d.f F.IMGRESULT_CODE = 0x13 ∧ d.f F.IMGRESULT_ORIGIN = 3) ∧
    (effect .imgdataRead s [F.IMGADDR_OFFSET] [.readData] [] fun d =>
      s.dev.slotWordIs s.dev.inactive (s.dev.f F.IMGADDR_OFFSET) d.readData ∧
      d.f F.IMGADDR_OFFSET = (if s.dev.f F.IMGADDR_OFFSET = 0x17FFFC then 0 else s.dev.f F.IMGADDR_OFFSET + 4)) ∧
    (w.toNat % 2 ^ 21 ≤ 0x17FFFC →
      effect (.imgaddrWrite w) s [F.IMGADDR_OFFSET] [] [] fun d => d.f F.IMGADDR_OFFSET = w.toNat % 2 ^ 21 / 4 * 4) ∧
    (0x17FFFC < w.toNat % 2 ^ 21 → effect (.imgaddrWrite w) s [] [] [] fun d => d.f F.IMGADDR_OFFSET = s.dev.f F.IMGADDR_OFFSET)

/-- R74 to R80: a live write inside its bounds takes effect and joins the live record, one outside leaves the field and raises EVB0 source 3; the scrubber
counts a corrected word, and a reloaded one with EVB0 source 4; a word whose source fails too resets the logic die; the check of the inactive slot, while
it is enabled or on its way to its safe point, starts its age anew, and a slot with a bad section loses its validity, EVB0 source 5. A clause that meets a point the rules leave open takes the reading of log entries 49 and 68, the model's choice. -/
def Obligations.LiveAndScrub : Prop :=
  ∀ (w : BitVec 32) (a : BitVec 16) (x : Machine.Field) (k : Fin 32) (double fails : Bool) (s : State), s.dev.alive = true →
    (liveField a.toNat = some x → s.dev.liveBound x (x.read w) = true →
      leads (.liveWrite a w) s fun d => d.f x = x.read w ∧ (⟨x, x.read w⟩ : LiveEntry) ∈ d.live.entries ∧ d.live.tag = s.dev.digestTag) ∧
    (liveField a.toNat = some x → s.dev.liveBound x (x.read w) = false →
      effect (.liveWrite a w) s [F.IMGSTAT_LIVE_REJ] [] [3] fun d => d.f F.IMGSTAT_LIVE_REJ = 1 ∧ d.f x = s.dev.f x) ∧
    (s.dev.slotOn k = true →
      effect (.liveWrite (BitVec.ofNat 16 (R.SLOT_ARG k)) w) s [F.SLOT_ARG_ARG k] [.live] [] fun d =>
        d.f (F.SLOT_ARG_ARG k) = w.toNat ∧ (⟨F.SLOT_ARG_ARG k, w.toNat⟩ : LiveEntry) ∈ d.live.entries) ∧
    (s.dev.slotOn k = false →
      effect (.liveWrite (BitVec.ofNat 16 (R.SLOT_ARG k)) w) s [F.IMGSTAT_LIVE_REJ] [] [3] fun d => d.f F.IMGSTAT_LIVE_REJ = 1) ∧
    (leads (.configScrubError double fails) s fun d =>
      if double then
        (if fails then d.alive = false ∧ d.pw.resetCause = 7 ∧ d.slots = s.dev.slots
         else d.f F.SCRUBSTAT_RELOADED = min (s.dev.f F.SCRUBSTAT_RELOADED + 1) (2 ^ F.SCRUBSTAT_RELOADED.width - 1) ∧ d.f F.IMGSTAT_SCRUB_RELOAD = 1 ∧
           d.pendingEvent 4 = true)
      else d.f F.SCRUBSTAT_CORRECTED = min (s.dev.f F.SCRUBSTAT_CORRECTED + 1) (2 ^ F.SCRUBSTAT_CORRECTED.width - 1)) ∧
    (within (s.dev.f F.SYS_BOUNDS_SETPOINT_MIN) (s.dev.f F.SYS_BOUNDS_SETPOINT_MAX) (F.SYS_SETPT_SETPOINT.read w) = true →
      effect (.liveWrite (BitVec.ofNat 16 R.SYS_SETPT) w) s [F.SYS_SETPT_SETPOINT] [.live] [] fun d =>
        d.f F.SYS_SETPT_SETPOINT = F.SYS_SETPT_SETPOINT.read w ∧ (⟨F.SYS_SETPT_SETPOINT, F.SYS_SETPT_SETPOINT.read w⟩ : LiveEntry) ∈ d.live.entries ∧
        d.live.tag = s.dev.digestTag) ∧
    (within (s.dev.f F.SYS_BOUNDS_SETPOINT_MIN) (s.dev.f F.SYS_BOUNDS_SETPOINT_MAX) (F.SYS_SETPT_SETPOINT.read w) = false →
      effect (.liveWrite (BitVec.ofNat 16 R.SYS_SETPT) w) s [F.IMGSTAT_LIVE_REJ] [] [3] fun d => d.f F.IMGSTAT_LIVE_REJ = 1) ∧
    (effect (.configScrubError false fails) s [F.SCRUBSTAT_CORRECTED] [] [] fun d =>
      d.f F.SCRUBSTAT_CORRECTED = min (s.dev.f F.SCRUBSTAT_CORRECTED + 1) (2 ^ F.SCRUBSTAT_CORRECTED.width - 1)) ∧
    (effect (.configScrubError true false) s [F.SCRUBSTAT_RELOADED, F.IMGSTAT_SCRUB_RELOAD] [] [4] fun d => d.f F.IMGSTAT_SCRUB_RELOAD = 1) ∧
    (s.dev.f F.BG_CTL_SLOT_CHK = 1 ∨ s.dev.f F.FUNC_PEND_SLOT = 1 →
      (leads .inactiveSlotCheck s fun d => d.f F.BG_STAT_SLOT_AGE_H = 0 ∧ d.recov.slotUs = 0 ∧
        (if s.dev.sectionsGood s.dev.inactive = true then d.boot = s.dev.boot
         else d.f F.IMGSTAT_ALT_VALID = 0 ∧ d.boot.altValid = false ∧ d.pendingEvent 5 = true)) ∧
      (s.dev.sectionsGood s.dev.inactive = true →
        effect .inactiveSlotCheck s [F.BG_STAT_SLOT_AGE_H] [.recov] [] fun d => d.f F.BG_STAT_SLOT_AGE_H = 0 ∧ d.recov.slotUs = 0) ∧
      (s.dev.sectionsGood s.dev.inactive = false →
        effect .inactiveSlotCheck s [F.BG_STAT_SLOT_AGE_H, F.IMGSTAT_ALT_VALID] [.recov, .boot, .faults] [5] fun d =>
          d.f F.IMGSTAT_ALT_VALID = 0 ∧ d.boot.altValid = false))

/-! ### Lenses (R301 to R316, R412) -/

/-- R301, R302, R304 to R307: a node takes its new voltage, the comparators that watch it follow unless under check, and every lens assigned to it presents
its level; over the upper threshold both comparators are high and an edge raises EVB5 source 15; a threshold pair in order of an assigned lens is taken with
the live record, any other is refused with EVB0 source 3. What else a change leaves unchanged is stated for an external node that one lens alone watches. A clause that meets a point the rules leave open takes the reading of log entry 40, the model's choice. -/
def Obligations.LensLevels : Prop :=
  ∀ (n : Fin 24) (uv : Int) (lo hi : Byte) (s : State), s.dev.running = true →
    (s.dev.f (F.LENS_CFG_INPUT n) < 96 →
      leads (.lensOutputChange n uv) s fun d =>
        vget d.balls.node (s.dev.f (F.LENS_CFG_INPUT n)) = uv ∧
        (∀ k : Fin 24, s.dev.f (F.LENS_CFG_INPUT k) = s.dev.f (F.LENS_CFG_INPUT n) → d.fbit F.LENS_OUT_OUT k = d.presented k) ∧
        (s.dev.watches n = n.val → s.dev.f (F.LENS_STAT_TESTING n) = 0 → d.on (F.LENS_STAT_C_HI n) = comparator (s.dev.on (F.LENS_STAT_C_HI n))
          (s.dev.f (F.LENS_TH_HI n)) (hystMicro (s.dev.f (F.LENS_CFG_HYST n))) (d.atLens (s.dev.f (F.LENS_CFG_INPUT n))))) ∧
    (s.dev.lensUsed n = true → lo.toNat ≤ hi.toNat →
      leads (.lensThWrite n lo hi) s fun d => d.f (F.LENS_TH_LO n) = lo.toNat ∧ d.f (F.LENS_TH_HI n) = hi.toNat ∧
        (⟨F.LENS_TH_LO n, lo.toNat⟩ : LiveEntry) ∈ d.live.entries ∧ (⟨F.LENS_TH_HI n, hi.toNat⟩ : LiveEntry) ∈ d.live.entries) ∧
    (s.dev.lensUsed n = false ∨ hi.toNat < lo.toNat →
      effect (.lensThWrite n lo hi) s [F.IMGSTAT_LIVE_REJ] [] [3] fun d => d.f F.IMGSTAT_LIVE_REJ = 1) ∧
    (s.dev.lensAlone n → s.dev.f (F.LENS_CFG_INPUT n) < 0x14 → (∀ k : Fin 24, k ≠ n → s.dev.f (F.LENS_CFG_INPUT k) ≠ s.dev.f (F.LENS_CFG_INPUT n)) →
      s.dev.f (F.LENS_STAT_TESTING n) = 0 → s.dev.f (F.LENS_STAT_FAILED n) = 0 → (vget s.dev.lens n).held = none → s.dev.f (F.LENS_CFG_MODE n) = 0 →
      s.dev.f F.PTB_MAP_SOURCE ≠ 2 →
    (s.dev.fbit F.LENS_OUT_OUT n = false → s.dev.f (F.LENS_CFG_EDGE n) = 3 → s.dev.f (F.LENS_TH_LO n) ≤ s.dev.f (F.LENS_TH_HI n) →
      ((s.dev.f (F.LENS_TH_HI n) * 5000 : Nat) : Int) ≤ uv →
      effect (.lensOutputChange n uv) s [F.LENS_STAT_C_LO n, F.LENS_STAT_C_HI n, F.LENS_OUT_OUT, F.LENS_EVTF_EDGE] [.balls] [5 * 32 + 15] fun d =>
        d.f (F.LENS_STAT_C_LO n) = 1 ∧ d.f (F.LENS_STAT_C_HI n) = 1 ∧ d.fbit F.LENS_OUT_OUT n = true ∧ d.fbit F.LENS_EVTF_EDGE n = true) ∧
    (s.dev.f (F.LENS_CFG_EDGE n) = 0 →
      effect (.lensOutputChange n uv) s [F.LENS_STAT_C_LO n, F.LENS_STAT_C_HI n, F.LENS_OUT_OUT] [.balls] [] fun d =>
        d.fbit F.LENS_OUT_OUT n = d.on (F.LENS_STAT_C_HI n) ∧
        d.on (F.LENS_STAT_C_HI n) = comparator (s.dev.on (F.LENS_STAT_C_HI n)) (s.dev.f (F.LENS_TH_HI n)) (hystMicro (s.dev.f (F.LENS_CFG_HYST n))) uv.toNat) ∧
    (lo.toNat ≤ hi.toNat → s.dev.f (F.LENS_CFG_EDGE n) = 0 →
      effect (.lensThWrite n lo hi) s [F.LENS_TH_LO n, F.LENS_TH_HI n, F.LENS_STAT_C_LO n, F.LENS_STAT_C_HI n, F.LENS_OUT_OUT] [.live] [] fun d =>
        d.f (F.LENS_TH_LO n) = lo.toNat ∧ d.f (F.LENS_TH_HI n) = hi.toNat ∧ d.fbit F.LENS_OUT_OUT n = d.on (F.LENS_STAT_C_HI n)))

/-- R308 to R315, R412: a check is requested, admitted where a spare covers it, the lens has failed, or its consumers are idle, which then see its level held,
and ends in PASS, or in FAIL with EVB5 source 17, when a cover stands in, EVB5 source 16, and a lens without one waits for its spare at its FAILSAFE
level; ABORT ends a waiting or running check; the automatic check requests the next lens; RESTORE returns a lens
whose last check passed, and any other sets RESTORE_REJ. What else they leave unchanged is stated for a numbered lens that stands alone. A clause that meets a point the rules leave open takes the reading of log entries 40 and 79, the model's choice. -/
def Obligations.LensChecks : Prop :=
  ∀ (m : Fin 24) (n : Fin 22) (rs : Vector Bool 10) (k : Fin 24) (s : State), s.dev.running = true →
    (s.dev.f (F.LENS_STAT_TESTING m) = 0 →
      effect (.lensCheckRequest m) s [F.LENS_STAT_PENDING m] [] [] fun d => d.f (F.LENS_STAT_PENDING m) = 1) ∧
    (s.dev.f (F.LENS_STAT_PENDING m) = 1 → (∀ j : Fin 24, s.dev.f (F.LENS_STAT_TESTING j) = 0) →
      (s.dev.coverFor m).isSome = true ∨ s.dev.f (F.LENS_STAT_FAILED m) = 1 ∨ s.dev.lensIdle (s.dev.checkedFor m) = true →
      leads (.lensCheckAdmit m) s fun d => d.f (F.LENS_STAT_TESTING m) = 1 ∧ d.f (F.LENS_STAT_PENDING m) = 0 ∧ d.f (F.LENS_STAT_RESULT m) = 1 ∧
        d.f (F.LENS_STAT_FSTEP m) = 0 ∧
        ∀ x ∈ s.dev.coverFor m, d.f (useField x) = 3 ∧ d.f (servesField x) = s.dev.checkedFor m ∧ d.f (F.LENS_STAT_COVERED m) = 1) ∧
    (s.dev.f (F.LENS_STAT_TESTING m) = 1 →
      leads (.lensCheckEnd m rs) s fun d => d.f (F.LENS_STAT_TESTING m) = 0 ∧ d.f (F.LENS_STAT_FSTEP m) = lensStep rs ∧
        (vget d.lens (s.dev.checkedFor m)).held = none ∧ d.f (F.LENS_STAT_COVERED m) = 0 ∧
        (if rs.toList = lensExpected then d.f (F.LENS_STAT_RESULT m) = 2 ∧ d.f (F.LENS_STAT_FAILED m) = s.dev.f (F.LENS_STAT_FAILED m)
         else d.f (F.LENS_STAT_RESULT m) = 3 ∧ d.f (F.LENS_STAT_FAILED m) = 1 ∧ d.pendingEvent (5 * 32 + 17) = true)) ∧
    (s.dev.f (F.LENS_STAT_TESTING n) = 1 → s.dev.f (F.LENS_STAT_FAILED n) = 0 → rs.toList ≠ lensExpected → s.dev.lensUsed n = true →
      s.dev.coverOf n = some k.val →
      leads (.lensCheckEnd (n.castLE (by decide)) rs) s fun d => d.f (useField k) = 2 ∧ d.f (F.LENS_STAT_STANDIN_V n) = 1 ∧ d.f (F.LENS_STAT_STANDIN n) = k ∧
        d.f (F.LENS_STAT_UNAVAIL n) = 0 ∧ (vget d.lens n).failedMap = true ∧ d.pendingEvent (5 * 32 + 16) = true) ∧
    (s.dev.f (F.LENS_STAT_TESTING m) = 1 ∨ s.dev.f (F.LENS_STAT_PENDING m) = 1 →
      leads (.lensCheckAbort m) s fun d => d.f (F.LENS_STAT_TESTING m) = 0 ∧ d.f (F.LENS_STAT_RESULT m) = 4 ∧
        (s.dev.f (F.LENS_STAT_TESTING m) = 0 → d.f (F.LENS_STAT_PENDING m) = 0)) ∧
    (s.dev.f F.LENS_AUTO_INTERVAL ≠ 0 → s.dev.f F.BG_CTL_LENS_AUTO = 1 →
      ((List.range 24).map fun i => (s.dev.recov.autoNext + i) % 24).find? s.dev.autoLens = some k.val →
      leads .lensAutoCheck s fun d => d.recov.autoNext = (k.val + 1) % 24 ∧ (s.dev.f (F.LENS_STAT_TESTING k) = 0 → d.f (F.LENS_STAT_PENDING k) = 1)) ∧
    (s.dev.f (F.LENS_STAT_FAILED m) = 1 → (vget s.dev.lens m).passed = true → s.dev.f (F.LENS_STAT_RESULT m) = 2 →
      leads (.lensRestore m) s fun d => d.f (F.LENS_STAT_FAILED m) = 0 ∧ d.f (F.LENS_STAT_UNAVAIL m) = 0 ∧ (vget d.lens m).failedMap = false ∧
        d.f (F.LENS_STAT_STANDIN_V m) = 0 ∧ (s.dev.f (F.LENS_STAT_STANDIN_V m) = 1 → d.pendingEvent (5 * 32 + 16) = true)) ∧
    (s.dev.f (F.LENS_STAT_FAILED m) = 0 ∨ (vget s.dev.lens m).passed = false ∨ s.dev.f (F.LENS_STAT_RESULT m) ≠ 2 →
      effect (.lensRestore m) s [F.LENS_STAT_RESTORE_REJ m] [] [] fun d => d.f (F.LENS_STAT_RESTORE_REJ m) = 1) ∧
    (s.dev.lensAlone n → s.dev.f (F.LENS_CFG_EDGE n) = 0 → s.dev.f F.PTB_MAP_SOURCE ≠ 2 →
    (s.dev.f (F.LENS_STAT_PENDING n) = 1 → (∀ j : Fin 24, s.dev.f (F.LENS_STAT_TESTING j) = 0) → s.dev.f (F.LENS_CFG_COVER n) = 0 →
      s.dev.f (F.LENS_STAT_FAILED n) = 0 → s.dev.lensIdle n = true →
      effect (.lensCheckAdmit (n.castLE (by decide))) s [F.LENS_STAT_PENDING n, F.LENS_STAT_TESTING n, F.LENS_STAT_RESULT n, F.LENS_STAT_FSTEP n] [.lens] []
        fun d => d.f (F.LENS_STAT_TESTING n) = 1 ∧ d.f (F.LENS_STAT_PENDING n) = 0 ∧ d.f (F.LENS_STAT_RESULT n) = 1 ∧
          (vget d.lens n).held = some (s.dev.fbit F.LENS_OUT_OUT n)) ∧
    (s.dev.f (F.LENS_STAT_TESTING n) = 1 → s.dev.f (F.LENS_STAT_FAILED n) = 0 → rs.toList = lensExpected →
      effect (.lensCheckEnd (n.castLE (by decide)) rs) s [F.LENS_STAT_RESULT n, F.LENS_STAT_FSTEP n, F.LENS_STAT_TESTING n, F.LENS_STAT_COVERED n,
          F.LENS_STAT_C_LO n, F.LENS_STAT_C_HI n, F.LENS_OUT_OUT] [.lens, .recov] [] fun d =>
        d.f (F.LENS_STAT_RESULT n) = 2 ∧ d.f (F.LENS_STAT_TESTING n) = 0 ∧ (vget d.lens n).held = none) ∧
    (s.dev.f (F.LENS_STAT_TESTING n) = 1 → s.dev.f (F.LENS_STAT_FAILED n) = 0 → rs.toList ≠ lensExpected → s.dev.lensUsed n = true →
      effect (.lensCheckEnd (n.castLE (by decide)) rs) s [F.LENS_STAT_RESULT n, F.LENS_STAT_FSTEP n, F.LENS_STAT_TESTING n, F.LENS_STAT_COVERED n,
          F.LENS_STAT_FAILED n, F.LENS_STAT_C_LO n, F.LENS_STAT_C_HI n, F.LENS_OUT_OUT] [.lens, .faults, .recov] [5 * 32 + 17] fun d =>
        d.f (F.LENS_STAT_RESULT n) = 3 ∧ d.f (F.LENS_STAT_FSTEP n) = lensStep rs ∧ d.f (F.LENS_STAT_FAILED n) = 1 ∧ (vget d.lens n).failedMap = true ∧
        (vget d.lens n).waits = some s.dev.pw.clock ∧ d.fbit F.LENS_OUT_OUT n = s.dev.on (F.LENS_CFG_FAILSAFE n)) ∧
    (s.dev.f (F.LENS_STAT_TESTING n) = 0 → s.dev.f (F.LENS_STAT_PENDING n) = 1 →
      effect (.lensCheckAbort (n.castLE (by decide))) s [F.LENS_STAT_PENDING n, F.LENS_STAT_RESULT n] [.recov] [] fun d =>
        d.f (F.LENS_STAT_PENDING n) = 0 ∧ d.f (F.LENS_STAT_RESULT n) = 4) ∧
    (s.dev.f F.LENS_AUTO_INTERVAL ≠ 0 → s.dev.f F.BG_CTL_LENS_AUTO = 1 →
      ((List.range 24).map fun i => (s.dev.recov.autoNext + i) % 24).find? s.dev.autoLens = some k.val → s.dev.f (F.LENS_STAT_TESTING k) = 0 →
      s.dev.f (F.LENS_STAT_PENDING k) = 0 →
      effect .lensAutoCheck s [F.LENS_STAT_PENDING k] [.recov] [] fun d =>
        d.f (F.LENS_STAT_PENDING k) = 1 ∧ d.recov.autoCheck = s.dev.recov.autoCheck ++ [k.val] ∧ d.recov.autoNext = (k.val + 1) % 24) ∧
    (s.dev.f (F.LENS_STAT_FAILED n) = 1 → (vget s.dev.lens n).passed = true → s.dev.f (F.LENS_STAT_RESULT n) = 2 →
      effect (.lensRestore (n.castLE (by decide))) s [F.LENS_STAT_FAILED n, F.LENS_STAT_UNAVAIL n, F.LENS_STAT_C_LO n, F.LENS_STAT_C_HI n, F.LENS_OUT_OUT]
        [.lens] [] fun d => d.f (F.LENS_STAT_FAILED n) = 0 ∧ (vget d.lens n).failedMap = false))

/-! ### Temperature (R319 to R339) -/

/-- R320 to R325: a round judges every measured sensor, gives a diode in range that is not broken its TEMP and VALID, and counts; a cause held for two rounds
makes a sensor broken, EVB3 source 21 and a fault-log entry; its absence over 1000 rounds makes it valid again, source 22; a spare that reads stands in, source 23 and a fault-log
entry. What else they leave unchanged is stated for sensors outside the zones, and of a round in which only the diodes read. A clause that meets a point the rules leave open takes the reading of log entries 51 and 52, the model's choice. -/
def Obligations.Sensors : Prop :=
  ∀ (n k : Fin 12) (rs : Vector SensorReading 12) (s : State), s.dev.running = true →
    (leads (.thermalRound rs) s fun d =>
      d.f F.THERM_ROUND_ROUNDS = (s.dev.f F.THERM_ROUND_ROUNDS + 1) % 2 ^ F.THERM_ROUND_ROUNDS.width ∧
      (∀ j : Fin 12, s.dev.sensed j = true → (vget d.sensor j).cause = causeMet rs j ∧
        ((vget d.sensor j).rounds = 0 ↔ causeMet rs j = 0)) ∧
      (∀ j : Fin 4, s.dev.f (F.TS_VAL_BROKEN j) = 0 → causeMet rs j ≠ 4 →
        d.f (F.TS_VAL_TEMP j) = toTwos 16 (vget rs j).temp ∧ d.f (F.TS_VAL_VALID j) = 1) ∧
      (∀ j : Fin 12, s.dev.f (F.TS_VAL_BROKEN j) = 1 ∨ s.dev.sensed j = false → d.f (F.TS_VAL_VALID j) = 0)) ∧
    (s.dev.f (F.TS_VAL_BROKEN n) = 0 → (vget s.dev.sensor n).cause ≠ 0 → (vget s.dev.sensor n).cause < 16 → 2 ≤ (vget s.dev.sensor n).rounds →
      leads (.sensorBroken n) s fun d => d.f (F.TS_VAL_BROKEN n) = 1 ∧ d.f (F.TS_VAL_CAUSE n) = (vget s.dev.sensor n).cause ∧ d.f (F.TS_VAL_VALID n) = 0 ∧
        d.f (F.TS_STAT_STANDIN_V n) = 0 ∧ d.pendingEvent (3 * 32 + 21) = true) ∧
    (s.dev.f (F.TS_VAL_BROKEN n) = 1 → s.dev.f (F.TS_STAT_SERVED n) = 0 → 1000 ≤ (vget s.dev.sensor n).absent →
      leads (.sensorClear n) s fun d => d.f (F.TS_VAL_BROKEN n) = 0 ∧ d.f (F.TS_VAL_CAUSE n) = 0 ∧ (vget d.sensor n).fresh = true ∧
        d.pendingEvent (3 * 32 + 22) = true) ∧
    (s.dev.f (F.TS_VAL_BROKEN n) = 1 → s.dev.f (F.TS_STAT_SERVED n) = 0 → s.dev.f (F.TS_MAP_SPARE_FOR n) = 0xFF → s.dev.spareOf n = some k.val →
      leads (.sensorStandin n) s fun d => d.f (F.TS_STAT_STANDIN_V k) = 1 ∧ d.f (F.TS_STAT_SERVES k) = n ∧ d.f (F.TS_STAT_SERVED n) = 1 ∧
        d.pendingEvent (3 * 32 + 23) = true) ∧
    (s.dev.noZones →
    ((∀ j : Fin 12, 4 ≤ j.val → s.dev.sensed j = false) → (∀ j : Fin 4, causeMet rs j = 0 ∧ s.dev.f (F.TS_VAL_BROKEN j) = 0) → s.dev.f F.CHG_CFG_CHEM = 0 →
      s.dev.f F.PRISM_TSEL_SOURCE < 0x40 → s.dev.f F.CAP_CFG_CHANNELS = 0 →
      (∀ z : Fin 4, s.dev.f (F.ZONE_STAT_STEP z) = 16 ∧ s.dev.f (F.ZONE_CFG_FLOOR z) ≤ 16 ∧ s.dev.f (F.ZONE_STAT_SHUT z) = 0) →
      (∀ j : Fin 12, s.dev.f (F.TS_STAT_STANDIN_V j) = 0) →
      effect (.thermalRound rs) s ((List.range 12).flatMap (fun j => [F.TS_VAL_TEMP j, F.TS_VAL_VALID j, F.TS_VAL_LEVEL j]) ++
          (List.range 4).flatMap (fun z => [F.ZONE_STAT_MAX z, F.ZONE_STAT_MAX_TS z, F.ZONE_STAT_LEVEL z, F.ZONE_STAT_BROKEN_HOLD z, F.ZONE_STAT_DEMAND z]) ++
          [F.THERM_MAX_TEMP, F.THERM_MAX_TS, F.THERM_ROUND_ROUNDS]) [.sensor] [] fun d =>
        (∀ j : Fin 4, d.f (F.TS_VAL_TEMP j) = toTwos 16 (vget rs j).temp ∧ d.f (F.TS_VAL_VALID j) = 1) ∧
        d.f F.THERM_ROUND_ROUNDS = (s.dev.f F.THERM_ROUND_ROUNDS + 1) % 2 ^ F.THERM_ROUND_ROUNDS.width) ∧
    (s.dev.f (F.TS_VAL_BROKEN n) = 0 → (vget s.dev.sensor n).cause ≠ 0 → (vget s.dev.sensor n).cause < 16 → 2 ≤ (vget s.dev.sensor n).rounds →
      s.dev.f (F.TS_STAT_STANDIN_V n) = 0 → (∀ j : Fin 12, s.dev.f (F.TS_STAT_STANDIN_V j) = 0) →
      effect (.sensorBroken n) s [F.TS_VAL_BROKEN n, F.TS_VAL_CAUSE n, F.TS_VAL_VALID n, F.TS_VAL_LEVEL n, F.TS_STAT_BREAKS n, F.THERM_MAX_TEMP, F.THERM_MAX_TS]
        [.sensor, .faults] [3 * 32 + 21] fun d =>
          d.f (F.TS_VAL_BROKEN n) = 1 ∧ d.f (F.TS_VAL_CAUSE n) = (vget s.dev.sensor n).cause ∧ d.f (F.TS_VAL_VALID n) = 0) ∧
    (s.dev.f (F.TS_VAL_BROKEN n) = 1 → s.dev.f (F.TS_STAT_SERVED n) = 0 → 1000 ≤ (vget s.dev.sensor n).absent →
      (∀ j : Fin 12, s.dev.f (F.TS_STAT_STANDIN_V j) = 0) →
      effect (.sensorClear n) s [F.TS_VAL_BROKEN n, F.TS_VAL_CAUSE n, F.TS_STAT_EXEMPT n, F.THERM_MAX_TEMP, F.THERM_MAX_TS] [.sensor] [3 * 32 + 22] fun d =>
        d.f (F.TS_VAL_BROKEN n) = 0 ∧ d.f (F.TS_VAL_CAUSE n) = 0 ∧ (vget d.sensor n).fresh = true) ∧
    (s.dev.f (F.TS_VAL_BROKEN n) = 1 → s.dev.f (F.TS_STAT_SERVED n) = 0 → s.dev.f (F.TS_MAP_SPARE_FOR n) = 0xFF → s.dev.spareOf n = some k.val →
      (∀ j : Fin 12, s.dev.f (F.TS_STAT_STANDIN_V j) = 0) →
      effect (.sensorStandin n) s [F.TS_STAT_STANDIN_V k, F.TS_STAT_SERVES k, F.TS_STAT_SERVED n, F.TS_VAL_LEVEL k, F.THERM_MAX_TEMP, F.THERM_MAX_TS]
        [.faults] [3 * 32 + 23] fun d =>
          d.f (F.TS_STAT_STANDIN_V k) = 1 ∧ d.f (F.TS_STAT_SERVES k) = n ∧ d.f (F.TS_STAT_SERVED n) = 1))

/-- R326, R327, R336 to R338: DOWN lowers a zone's step to its floor, UP raises it to 16 with EVB3 source 18; a floor inside its bounds is taken, one outside
refused; the power-die comparator at 160 °C stops every course and turns every gate off but what the crowbar holds, EVB3 source 26, and ends when both diodes are cool; the logic-die
comparator at 155 °C counts and holds the die in reset with cause 6, until its release once both diodes are cool; a pair below its trip leaves all as it is. What else the power-die
comparator leaves unchanged is stated for stopped courses. A clause that meets a point the rules leave open takes the reading of log entries 52 and 84, the model's choice. -/
def Obligations.ThrottleAndComparators : Prop :=
  ∀ (z : Fin 4) (v : BitVec 5) (t : Fin 16) (a b : Int) (s : State),
    (s.dev.pw.ldTripped = true → pairCool a b = true → effect (.ldThermalRelease a b) s [] [.pw] [] fun d => d.pw.ldTripped = false ∧ d.pw.mode = s.dev.pw.mode) ∧
    (pairCool a b = false → effect (.ldThermalRelease a b) s [] [] [] fun d => d.pw.ldTripped = s.dev.pw.ldTripped) ∧
    (s.dev.running = true →
    (s.dev.f (F.ZONE_STAT_DEMAND z) = 1 → leads (.throttleStepTimer z) s fun d =>
      d.f (F.ZONE_STAT_STEP z) = max (s.dev.f (F.ZONE_CFG_FLOOR z)) (s.dev.f (F.ZONE_STAT_STEP z) - 1)) ∧
    (s.dev.f (F.ZONE_STAT_DEMAND z) = 2 → s.dev.f (F.ZONE_STAT_BROKEN_HOLD z) = 0 → leads (.throttleStepTimer z) s fun d =>
      d.f (F.ZONE_STAT_STEP z) = min 16 (s.dev.f (F.ZONE_STAT_STEP z) + 1) ∧
      (s.dev.f (F.ZONE_STAT_STEP z) = 15 → d.pendingEvent (3 * 32 + 18) = true)) ∧
    (pairTrips 1600 a b = true → s.dev.f F.THERM_HW_PD_SHUT = 0 → leads (.pdThermalTrip a b) s fun d =>
      d.f F.THERM_HW_PD_SHUT = 1 ∧ d.f F.THERM_HW_PD_SEEN = 1 ∧ d.pendingEvent (3 * 32 + 26) = true ∧ d.f F.PATH_STAT_LEAD = 0 ∧ d.sys.holdRuns = false ∧
      (∀ u : Fin 16, (vget d.tile u).gates = .off ∨ (vget d.tile u).clamp = true) ∧ ∀ c : Fin 6, d.regMode c = 0) ∧
    (pairTrips 1600 a b = false → effect (.pdThermalTrip a b) s [] [] [] fun d => d.f F.THERM_HW_PD_SHUT = s.dev.f F.THERM_HW_PD_SHUT) ∧
    (pairCool a b = true → s.dev.f F.THERM_HW_PD_SHUT = 1 → leads (.pdThermalRelease a b) s fun d => d.f F.THERM_HW_PD_SHUT = 0) ∧
    (pairCool a b = false → effect (.pdThermalRelease a b) s [] [] [] fun d => d.f F.THERM_HW_PD_SHUT = s.dev.f F.THERM_HW_PD_SHUT) ∧
    (pairTrips 1550 a b = false → effect (.ldThermalTrip a b) s [] [] [] fun d => d.alive = true) ∧
    (s.dev.f (F.ZONE_STAT_DEMAND z) = 1 → s.dev.f (F.ZONE_CFG_FLOOR z) + 1 < s.dev.f (F.ZONE_STAT_STEP z) → s.dev.f (F.ZONE_STAT_STEP z) < 16 →
      effect (.throttleStepTimer z) s [F.ZONE_STAT_STEP z] [.ret] [] fun d => d.f (F.ZONE_STAT_STEP z) = s.dev.f (F.ZONE_STAT_STEP z) - 1) ∧
    (s.dev.f (F.ZONE_STAT_DEMAND z) = 2 → s.dev.f (F.ZONE_STAT_BROKEN_HOLD z) = 0 → s.dev.f (F.ZONE_STAT_STEP z) = 15 → s.dev.f (F.ZONE_CFG_FLOOR z) ≠ 16 →
      effect (.throttleStepTimer z) s [F.ZONE_STAT_STEP z] [.ret] [3 * 32 + 18] fun d =>
        d.f (F.ZONE_STAT_STEP z) = 16 ∧ d.ret.steps = (List.range 4).map fun k => d.f (F.ZONE_STAT_STEP k)) ∧
    (within 2 (s.dev.f ⟨R.ZONE_CFG z, 8, 5⟩) v.toNat = true →
      effect (.zoneFloorWrite z v) s [F.ZONE_CFG_FLOOR z] [.live] [] fun d => d.f (F.ZONE_CFG_FLOOR z) = v.toNat) ∧
    (within 2 (s.dev.f ⟨R.ZONE_CFG z, 8, 5⟩) v.toNat = false →
      effect (.zoneFloorWrite z v) s [F.IMGSTAT_LIVE_REJ] [] [3] fun d => d.f (F.ZONE_CFG_FLOOR z) = s.dev.f (F.ZONE_CFG_FLOOR z)) ∧
    ((∀ c : Fin 6, s.dev.regMode c = 0) → (∀ u : Fin 16, s.dev.f (F.TILE_TEST_RESULT u) ≠ 1) → s.dev.f F.PATH_STAT_LEAD = 0 → s.dev.sys.holdRuns = false →
      (pairTrips 1600 a b = true → s.dev.f F.THERM_HW_PD_SHUT = 0 →
        effect (.pdThermalTrip a b) s [F.THERM_HW_PD_SHUT, F.THERM_HW_PD_SEEN, F.THERM_HW_PD_SHUTS] [.tile] [3 * 32 + 26] fun d =>
          d.f F.THERM_HW_PD_SHUT = 1 ∧ d.f F.THERM_HW_PD_SEEN = 1 ∧
          (vget d.tile t).gates = (if (vget s.dev.tile t).clamp then (vget s.dev.tile t).gates else .off)) ∧
      (pairCool a b = true → s.dev.f F.THERM_HW_PD_SHUT = 1 → s.dev.f F.PATH_STAT_STATE = 2 → s.dev.sys.holdMap = [] → (∀ p : Fin 5, s.dev.sourceContract (p + 1) = false) →
        effect (.pdThermalRelease a b) s (F.THERM_HW_PD_SHUT :: (List.range 16).map F.TILE_STAT_STATE) [.tile] [] fun d =>
          d.f F.THERM_HW_PD_SHUT = 0 ∧ d.tst t = (if s.dev.tst t = 3 ∨ s.dev.tst t = 4 then 2 else s.dev.tst t))) ∧
    (pairTrips 1550 a b = true → s.dev.pw.ldTripped = false →
      leads (.ldThermalTrip a b) s fun d => d.alive = false ∧ d.pw.resetCause = 6 ∧ d.pw.ldTripped = true ∧ d.f F.THERM_HW_LD_SEEN = 1 ∧
        d.f F.THERM_HW_LD_SHUTS = min (s.dev.f F.THERM_HW_LD_SHUTS + 1) (2 ^ F.THERM_HW_LD_SHUTS.width - 1)))

/-! ### Watchdog (R344 to R362) -/

/-- R345, R347 to R354, R356, R360: a check-in, a service and a FORCE wait for the next tick; a service from the wrong side sets BAD_ORIGIN with EVB5
source 21, and FORCE is refused from LOCKED on. A tick counts, takes the waiting check-ins, of which one of no entry sets BAD_ID and one from the wrong side
BAD_ORIGIN, opens the window with source 19, and takes a service: one with the challenge and token in the window starts a new period with the next
challenge. Each is stated for its command with nothing else waiting. What else they leave unchanged is stated for each.

R345, R347, R353 to R355, R360: the watchdog expires with cause 1 at PERIOD_T, 2 for a service before its window, 4 for another challenge, 3 for another
token, 6 at the tick after a FORCE, and 5 where its clock stops, with CLK_STOP and EVB5 source 20: WDT_LAST shows the cause, WDO is low, EXPIRED is set with
EVB5 source 18, and a new period begins, or the logic die is reset with cause 3 where the image asks for it or the RC is what stopped. The host's service
of a tick is judged before the core's. Each is stated with nothing else waiting; what else an expiry leaves unchanged is stated where it does not reset. A clause that meets a point the rules leave open takes the reading of log entries 53 and 58, the model's choice. -/
def Obligations.Watchdog : Prop :=
  (∀ (echo tok : BitVec 16) (id : Byte) (i : Fin 16) (o : Origin) (s : State), s.dev.alive = true →
     (s.dev.f F.WDT_STAT_ARMED = 1 →
       (o ≠ .debugger → (s.dev.f F.WDT_CFG_HOST_REQ = 1 → o = .host) →
         effect (.wdtService echo tok o) s [F.WDT_SERVICE_ECHO, F.WDT_SERVICE_TOKEN] [.wdt] [] fun d =>
           d.wdt = { s.dev.wdt with services := s.dev.wdt.services ++ [⟨o, echo, tok⟩] }) ∧
       (o = .debugger ∨ s.dev.f F.WDT_CFG_HOST_REQ = 1 ∧ o = .core →
         effect (.wdtService echo tok o) s [F.WDT_SERVICE_ECHO, F.WDT_SERVICE_TOKEN, F.WDT_STAT_BAD_ORIGIN] [] [5 * 32 + 21] fun d =>
           d.f F.WDT_STAT_BAD_ORIGIN = 1) ∧
       (effect (.wdtCheckin id o) s [F.WDT_CHECKIN_ID] [.wdt] [] fun d =>
         d.wdt = { s.dev.wdt with checkins := s.dev.wdt.checkins ++ [(id.toNat, o)] }) ∧
       (s.dev.f F.LC_STAT_STATE < 2 → effect .wdtForce s [] [.wdt] [] fun d => d.wdt = { s.dev.wdt with force := true }) ∧
       (s.dev.wdt.force = false → s.dev.wdt.services = [] → s.dev.f F.WDT_COUNT_C + 1 < s.dev.f F.WDT_PERIOD_T_TICKS →
         s.dev.f F.WDT_COUNT_C + 1 < s.dev.f F.WDT_OPEN_T_TICKS → s.dev.wdt.checkins = [(id.toNat, o)] → s.dev.f F.WDT_STAT_FROZEN = 0 →
         (s.dev.taskEntry id.toNat = some i.val → o = (if s.dev.f (F.WDT_TASK_OWNER i) = 0x80 then .host else .core) →
           effect .wdtTick s [F.WDT_COUNT_C] [.wdt] [] fun d => d.wdt.checkins = [] ∧
             d.wdt.acc = s.dev.wdt.acc ^^^ BitVec.ofNat 16 (s.dev.f (F.WDT_TASK_SIGNATURE i)) ∧ vget d.wdt.counts i = min 3 (vget s.dev.wdt.counts i + 1)) ∧
         (s.dev.taskEntry id.toNat = some i.val → o ≠ (if s.dev.f (F.WDT_TASK_OWNER i) = 0x80 then .host else .core) →
           effect .wdtTick s [F.WDT_COUNT_C, F.WDT_STAT_BAD_ORIGIN] [.wdt] [5 * 32 + 21] fun d =>
             d.f F.WDT_STAT_BAD_ORIGIN = 1 ∧ d.wdt = { s.dev.wdt with checkins := [] }) ∧
         (s.dev.taskEntry id.toNat = none →
           effect .wdtTick s [F.WDT_COUNT_C, F.WDT_STAT_BAD_ID] [.wdt] [5 * 32 + 21] fun d =>
             d.f F.WDT_STAT_BAD_ID = 1 ∧ d.wdt = { s.dev.wdt with checkins := [] })) ∧
       (s.dev.wdt.force = false → s.dev.wdt.checkins = [] → s.dev.wdt.services = [] → s.dev.f F.WDT_OPEN_T_TICKS < s.dev.f F.WDT_PERIOD_T_TICKS →
         s.dev.f F.WDT_STAT_FROZEN = 0 →
         (s.dev.f F.WDT_COUNT_C + 1 < s.dev.f F.WDT_OPEN_T_TICKS →
           effect .wdtTick s [F.WDT_COUNT_C] [] [] fun d => d.f F.WDT_COUNT_C = s.dev.f F.WDT_COUNT_C + 1) ∧
         (s.dev.f F.WDT_STAT_WINDOW = 0 → s.dev.f F.WDT_COUNT_C + 1 = s.dev.f F.WDT_OPEN_T_TICKS →
           effect .wdtTick s [F.WDT_COUNT_C, F.WDT_STAT_WINDOW] [] [5 * 32 + 19] fun d => d.f F.WDT_STAT_WINDOW = 1) ∧
         (s.dev.f F.WDT_COUNT_C < s.dev.f F.WDT_OPEN_T_TICKS → s.dev.f F.WDT_STAT_WINDOW = 0 →
           effect .wdtWindowOpen s [F.WDT_COUNT_C, F.WDT_STAT_WINDOW] [] [5 * 32 + 19] fun d =>
             d.f F.WDT_COUNT_C = s.dev.f F.WDT_OPEN_T_TICKS ∧ d.f F.WDT_STAT_WINDOW = 1)) ∧
       (s.dev.wdt.force = false → s.dev.wdt.checkins = [] → s.dev.wdt.services = [⟨o, echo, tok⟩] → s.dev.f F.WDT_STAT_FROZEN = 0 →
         s.dev.f F.WDT_OPEN_T_TICKS ≤ s.dev.f F.WDT_COUNT_C + 1 → s.dev.f F.WDT_COUNT_C + 1 < s.dev.f F.WDT_PERIOD_T_TICKS → s.dev.f F.WDT_STAT_WINDOW = 1 →
         (if s.dev.f F.WDT_STAT_MODE = 1 then tok = 0x5AA5#16
          else echo = BitVec.ofNat 16 (s.dev.f F.WDT_CHAL_CHALLENGE) ∧ tok = token echo s.dev.wdt.acc) →
         effect .wdtTick s [F.WDT_COUNT_C, F.WDT_STAT_WINDOW, F.WDT_CHAL_CHALLENGE, F.WDT_CHAL_PERIODS] [.wdt] [] fun d =>
           d.f F.WDT_COUNT_C = 0 ∧ d.f F.WDT_STAT_WINDOW = 0 ∧ d.wdt = {} ∧ d.f F.WDT_CHAL_PERIODS = (s.dev.f F.WDT_CHAL_PERIODS + 1) % 65536 ∧
           d.f F.WDT_CHAL_CHALLENGE =
             (if s.dev.f F.WDT_STAT_MODE = 0 then lfsrStep (s.dev.f F.WDT_CHAL_CHALLENGE) else s.dev.f F.WDT_CHAL_CHALLENGE))) ∧
     (2 ≤ s.dev.f F.LC_STAT_STATE → effect .wdtForce s [F.WDT_STAT_FORCE_REJ] [] [] fun d => d.f F.WDT_STAT_FORCE_REJ = 1) ∧
     (effect .wdoPulseEnd s [] [.balls] [] fun d => d.balls.wdoLow = false ∧ d.balls.node = s.dev.balls.node)) ∧
  (∀ (a b : WdtAnswer) (s : State), s.dev.alive = true → s.dev.f F.WDT_STAT_ARMED = 1 → s.dev.wdt.checkins = [] →
     s.dev.f F.WDT_OPEN_T_TICKS < s.dev.f F.WDT_PERIOD_T_TICKS → (s.dev.f F.WDT_COUNT_C < s.dev.f F.WDT_OPEN_T_TICKS → s.dev.f F.WDT_STAT_WINDOW = 0) →
     (∀ x ∈ [(Instr.wdtTimeout, 1, decide (s.dev.wdt.services = [] ∧ s.dev.wdt.force = false ∧ s.dev.f F.WDT_STAT_FROZEN = 0 ∧
               s.dev.f F.WDT_COUNT_C < s.dev.f F.WDT_PERIOD_T_TICKS), false),
         (Instr.wdtClockStop, 5, !s.dev.pw.absent, s.dev.f F.WDT_STAT_CLK == 0),
         (Instr.wdtTick, 6, decide (s.dev.wdt.services = [] ∧ s.dev.wdt.force = true ∧ s.dev.f F.WDT_COUNT_C + 1 < s.dev.f F.WDT_PERIOD_T_TICKS), false),
         (Instr.wdtTick, 2, decide (s.dev.wdt.services = [a] ∧ s.dev.wdt.force = false ∧ s.dev.f F.WDT_COUNT_C + 1 < s.dev.f F.WDT_OPEN_T_TICKS), false),
         (Instr.wdtTick, 4, decide (s.dev.wdt.services = [a] ∧ s.dev.wdt.force = false ∧ s.dev.f F.WDT_STAT_FROZEN = 0 ∧
           s.dev.f F.WDT_OPEN_T_TICKS ≤ s.dev.f F.WDT_COUNT_C + 1 ∧ s.dev.f F.WDT_COUNT_C + 1 < s.dev.f F.WDT_PERIOD_T_TICKS ∧
           s.dev.f F.WDT_STAT_MODE = 0 ∧ a.echo ≠ BitVec.ofNat 16 (s.dev.f F.WDT_CHAL_CHALLENGE)), false),
         (Instr.wdtTick, 3, decide (s.dev.wdt.services = [b, a] ∧ a.by_ = .host ∧ b.by_ = .core ∧ s.dev.wdt.force = false ∧ s.dev.f F.WDT_STAT_FROZEN = 0 ∧
           s.dev.f F.WDT_OPEN_T_TICKS ≤ s.dev.f F.WDT_COUNT_C + 1 ∧ s.dev.f F.WDT_COUNT_C + 1 < s.dev.f F.WDT_PERIOD_T_TICKS ∧
           s.dev.f F.WDT_STAT_MODE = 0 ∧ a.echo = BitVec.ofNat 16 (s.dev.f F.WDT_CHAL_CHALLENGE) ∧ a.tok ≠ token a.echo s.dev.wdt.acc), false)],
       x.2.2.1 = true →
         (leads x.1 s fun d =>
           d.f F.WDT_LAST_CAUSE = x.2.1 ∧ d.balls.wdoLow = true ∧
           (if s.dev.f F.WDT_CFG_RESET_EN = 1 ∨ x.2.2.2 = true then d.alive = false ∧ d.pw.resetCause = 3 ∧
               d.f F.WDT_LAST_RESETS = min (s.dev.f F.WDT_LAST_RESETS + 1) (2 ^ F.WDT_LAST_RESETS.width - 1)
             else d.f F.WDT_STAT_EXPIRED = 1 ∧ d.f F.WDT_COUNT_C = 0 ∧ d.f F.WDT_STAT_WINDOW = 0 ∧ d.wdt.acc = 0#16 ∧ d.pendingEvent (5 * 32 + 18) = true)) ∧
         (s.dev.f F.WDT_CFG_RESET_EN = 0 → x.2.2.2 = false → s.dev.f F.WDT_STAT_WINDOW = 1 ∨ x.2.1 = 2 →
           effect x.1 s [F.WDT_COUNT_C, F.WDT_STAT_WINDOW, F.WDT_CHAL_CHALLENGE, F.WDT_LAST_CAUSE, F.WDT_STAT_EXPIRED, F.WDT_FAULT_MISS, F.WDT_FAULT_EXCESS,
               F.WDT_STAT_CLK_STOP, F.WDT_STAT_CLK, F.SYSCFG_XTAL32] [.wdt, .balls, .faults]
             ((if x.2.1 = 5 then [5 * 32 + 20] else []) ++ [5 * 32 + 18]) fun d =>
               (x.2.1 = 5 → d.f F.WDT_STAT_CLK_STOP = 1 ∧ d.f F.WDT_STAT_CLK = 0 ∧ d.f F.SYSCFG_XTAL32 = 0) ∧
               (s.dev.f F.WDT_STAT_MODE = 0 → d.f F.WDT_CHAL_CHALLENGE = lfsrStep (s.dev.f F.WDT_CHAL_CHALLENGE)))) ∧
     (s.dev.wdt.services = [] → s.dev.wdt.force = false → s.dev.f F.WDT_STAT_FROZEN = 0 → s.dev.f F.WDT_COUNT_C < s.dev.f F.WDT_OPEN_T_TICKS →
       s.dev.f F.WDT_CFG_RESET_EN = 0 →
       effect .wdtTimeout s [F.WDT_COUNT_C, F.WDT_STAT_WINDOW, F.WDT_CHAL_CHALLENGE, F.WDT_LAST_CAUSE, F.WDT_STAT_EXPIRED] [.wdt, .balls, .faults]
         [5 * 32 + 19, 5 * 32 + 18] fun d => d.f F.WDT_LAST_CAUSE = 1))

/-! ### Prism, capture windows and the log store (R365 to R387) -/

/-- R366 to R368: a write of PRISM_TSEL names the source and starts the counters; a read of PRISM_TMEAN returns the mean and count from before the start;
the conversions of 10 µs add each port's energy to METERp_IN or METERp_OUT, in joules with the residue kept, the voltage of EAST, WEST and SERV being the
one at the ball that VSNS names, scaled; conversions asked for are served, and a result of the source named reaches the counters. -/
def Obligations.Measurements : Prop :=
  ∀ (src : Byte) (q : Conversions) (s : State), s.dev.alive = true →
    (effect (.prismTselWrite src) s [F.PRISM_TSEL_SOURCE, whole R.PRISM_TMM, whole R.PRISM_TMEAN] [.prism] [] fun d =>
      d.f F.PRISM_TSEL_SOURCE = src.toNat ∧ d.rd R.PRISM_TMEAN = 0#32 ∧ d.prism = { s.dev.prism with sum := 0, count := 0 }) ∧
    (effect .prismTmeanRead s [whole R.PRISM_TMM, whole R.PRISM_TMEAN] [.prism, .readData] [] fun d =>
      d.readData = s.dev.rd R.PRISM_TMEAN ∧ d.rd R.PRISM_TMEAN = 0#32) ∧
    (leads (.meterTick q) s fun d => d.prism.trig = s.dev.prism.trig.filter (fun n => (s.dev.converted q n).isNone) ∧
      ∀ p : Fin 5,
        let e := s.dev.nodeVolts (p + 1) (vget q.v (min p.val 1)) q.balls * (vget q.i p).natAbs
        (0 ≤ vget q.i p → d.f (F.METER_OUT_E p) = s.dev.f (F.METER_OUT_E p) ∧
          d.f (F.METER_IN_E p) = (s.dev.f (F.METER_IN_E p) + (vget s.dev.prism.resIn p + e) / 1000000000) % 2 ^ 32 ∧
          vget d.prism.resIn p = (vget s.dev.prism.resIn p + e) % 1000000000) ∧
        (vget q.i p < 0 → d.f (F.METER_IN_E p) = s.dev.f (F.METER_IN_E p) ∧
          d.f (F.METER_OUT_E p) = (s.dev.f (F.METER_OUT_E p) + (vget s.dev.prism.resOut p + e) / 1000000000) % 2 ^ 32 ∧
          vget d.prism.resOut p = (vget s.dev.prism.resOut p + e) % 1000000000)) ∧
    (s.dev.f F.CAP_CFG_CHANNELS = 0 → s.dev.f F.PRISM_TSEL_SOURCE = 0x10 → s.dev.prism.trig = [] →
      effect (.meterTick q) s ([F.PRISM_TMM_MAX, F.PRISM_TMM_MIN, F.PRISM_TMEAN_COUNT, F.PRISM_TMEAN_MEAN] ++
          (List.range 5).flatMap fun p => [F.METER_IN_E p, F.METER_OUT_E p]) [.prism] [] fun d =>
        d.prism.sum = s.dev.prism.sum + q.vSys ∧ d.prism.count = s.dev.prism.count + 1 ∧
        d.fI F.PRISM_TMM_MIN = ofTwos 16 (toTwos 16 (min (s.dev.fI F.PRISM_TMM_MIN) q.vSys)))

/-- R369 to R371, R409: an open takes half A before half B and is EVB5 source 23, with its cause and frame 0; an open of an open window changes nothing;
with no free half the window is missed, source 26, and the cycle still counts; a close, by its causes or by WINDOW_MAX, queues the half, source 24, or
discards its record where no usable NAND is attached; a frame holds one value per channel; EN at 0 closes the window, at 1 cancels the waiting disable.
START_EVT and STOP_EVT name no event that an open or a close itself raises, and none at all where it is stated what else they leave unchanged. A clause that meets a point the rules leave open takes the reading of log entries 54 and 55, the model's choice. -/
def Obligations.CaptureWindows : Prop :=
  ∀ (c : Fin 3) (s : State), s.dev.running = true → s.dev.quiet →
    ((∀ e ∈ ([16, 21, 183, 184, 186, 189] : List Nat), s.dev.f F.CAP_EVT_START_EVT ≠ e ∧ s.dev.f F.CAP_EVT_STOP_EVT ≠ e) →
      (s.dev.f F.CAP_CTL_EN = 1 → s.dev.f F.CAP_STAT_OPEN = 0 →
        (s.dev.f F.CAP_STAT_STATE_A = 0 ∨ s.dev.f F.CAP_STAT_STATE_B = 0 → s.dev.nand.shut = 0 → s.dev.f F.NAND_STAT_STATE ≠ 5 →
          leads (.capOpen c) s fun d => d.f F.CAP_STAT_OPEN = 1 ∧ d.f F.CAP_STAT_HALF = (if s.dev.f F.CAP_STAT_STATE_A = 0 then 0 else 1) ∧
            d.halfState (d.f F.CAP_STAT_HALF) = 1 ∧ (vget d.cap.half (d.f F.CAP_STAT_HALF)).openCause = c.val + 1 ∧
            d.f F.CAP_CYCLE_CYCLE = (s.dev.f F.CAP_CYCLE_CYCLE + 1) % 2 ^ 32 ∧ d.f F.CAP_FRAMES_FRAMES = 1 ∧ d.pendingEvent (5 * 32 + 23) = true) ∧
        (s.dev.f F.CAP_STAT_STATE_A ≠ 0 ∧ s.dev.f F.CAP_STAT_STATE_B ≠ 0 ∨ s.dev.nand.shut ≠ 0 ∨ s.dev.f F.NAND_STAT_STATE = 5 →
          leads (.capOpen c) s fun d => d.f F.CAP_STAT_OPEN = 0 ∧ d.f F.CAP_CYCLE_CYCLE = (s.dev.f F.CAP_CYCLE_CYCLE + 1) % 2 ^ 32 ∧
            d.f F.CAP_CNT_MISSED = min (s.dev.f F.CAP_CNT_MISSED + 1) 65535 ∧ d.pendingEvent (5 * 32 + 26) = true)) ∧
      (s.dev.f F.CAP_STAT_OPEN = 1 →
        (∀ x ∈ [(Instr.capClose c, c.val + 1), (Instr.captureWindowMax, 4), (Instr.capEnWrite false, 3)],
          leads x.1 s fun d => d.f F.CAP_STAT_OPEN = 0 ∧ d.pendingEvent (5 * 32 + 24) = true ∧
            (if s.dev.f F.NAND_STAT_STATE = 0 ∨ s.dev.f F.NAND_STAT_STATE = 4 then d.halfState (s.dev.f F.CAP_STAT_HALF) = 0 ∧
                d.cap.queue = s.dev.cap.queue ∧ d.f F.CAP_CNT_MISSED = min (s.dev.f F.CAP_CNT_MISSED + 1) 65535
              else d.halfState (s.dev.f F.CAP_STAT_HALF) = 2 ∧ d.cap.queue = s.dev.cap.queue ++ [s.dev.f F.CAP_STAT_HALF] ∧
                (vget d.cap.half (s.dev.f F.CAP_STAT_HALF)).closeCause = x.2)) ∧
        (leads .captureFrame s fun d => d.f F.CAP_FRAMES_FRAMES = (s.dev.f F.CAP_FRAMES_FRAMES + 1) % 2 ^ 21 ∧
          d.cap.prev.length = s.dev.f F.CAP_CFG_CHANNELS)) ∧
      (leads (.capEnWrite false) s fun d => d.f F.CAP_CTL_EN = 0 ∧ d.f F.CAP_STAT_OPEN = 0)) ∧
    (192 ≤ s.dev.f F.CAP_EVT_START_EVT → 192 ≤ s.dev.f F.CAP_EVT_STOP_EVT →
    (s.dev.f F.CAP_CTL_EN = 1 → s.dev.f F.CAP_STAT_OPEN = 0 → s.dev.f F.CAP_STAT_STATE_A = 0 → s.dev.nand.shut = 0 → s.dev.f F.NAND_STAT_STATE ≠ 5 →
      effect (.capOpen c) s [] [.cap] [] fun d =>
        d.f F.CAP_STAT_OPEN = 1 ∧ d.f F.CAP_STAT_HALF = 0 ∧ d.f F.CAP_STAT_STATE_A = 1 ∧ d.f F.CAP_FRAMES_FRAMES = 1 ∧
        d.f F.CAP_CYCLE_CYCLE = (s.dev.f F.CAP_CYCLE_CYCLE + 1) % 2 ^ 32 ∧ d.pendingEvent (5 * 32 + 23) = true ∧
        (vget d.cap.half 0).openCause = c.val + 1 ∧ (vget d.cap.half 0).frames.length = 1 ∧ (vget d.cap.half 0).time = s.dev.pw.time) ∧
    (s.dev.f F.CAP_STAT_OPEN = 1 →
      effect (.capOpen c) s [] [.cap] [] fun d =>
        d.f F.CAP_STAT_OPEN = 1 ∧ d.f F.CAP_CYCLE_CYCLE = s.dev.f F.CAP_CYCLE_CYCLE ∧ d.cap.half = s.dev.cap.half) ∧
    (s.dev.f F.CAP_CTL_EN = 1 → s.dev.f F.CAP_STAT_OPEN = 0 → s.dev.f F.CAP_STAT_STATE_A ≠ 0 → s.dev.f F.CAP_STAT_STATE_B ≠ 0 →
      effect (.capOpen c) s [] [.cap] [] fun d =>
        d.f F.CAP_STAT_OPEN = 0 ∧ d.f F.CAP_CYCLE_CYCLE = (s.dev.f F.CAP_CYCLE_CYCLE + 1) % 2 ^ 32 ∧
        d.f F.CAP_CNT_MISSED = min (s.dev.f F.CAP_CNT_MISSED + 1) 65535 ∧ d.pendingEvent (5 * 32 + 26) = true) ∧
    (s.dev.f F.CAP_STAT_OPEN = 1 → s.dev.f F.CAP_STAT_HALF = 0 → s.dev.f F.NAND_STAT_STATE ≠ 0 → s.dev.f F.NAND_STAT_STATE ≠ 4 →
      (effect (.capClose c) s [] [.cap] [] fun d =>
        d.f F.CAP_STAT_OPEN = 0 ∧ d.f F.CAP_STAT_STATE_A = 2 ∧ d.cap.queue = s.dev.cap.queue ++ [0] ∧ (vget d.cap.half 0).closeCause = c.val + 1 ∧
        (vget d.cap.half 0).frames = (vget s.dev.cap.half 0).frames ∧ d.pendingEvent (5 * 32 + 24) = true) ∧
      (effect .captureWindowMax s [] [.cap] [] fun d =>
        d.f F.CAP_STAT_OPEN = 0 ∧ d.f F.CAP_STAT_STATE_A = 2 ∧ d.cap.queue = s.dev.cap.queue ++ [0] ∧ (vget d.cap.half 0).closeCause = 4) ∧
      (effect (.capEnWrite false) s [F.CAP_CTL_EN, F.CAP_STAT_OPEN, F.CAP_STAT_STATE_A, F.FUNC_PEND_CAP] [.cap] [5 * 32 + 24] fun d =>
        d.f F.CAP_CTL_EN = 0 ∧ d.f F.CAP_STAT_OPEN = 0 ∧ d.f F.FUNC_PEND_CAP = 1 ∧ (vget d.cap.half 0).closeCause = 3)) ∧
    (s.dev.f F.CAP_STAT_OPEN = 0 →
      (effect (.capClose c) s [] [.cap] [] fun d => d.f F.CAP_STAT_OPEN = 0 ∧ d.cap.queue = s.dev.cap.queue) ∧
      (effect .captureFrame s [] [] [] fun d => d.cap = s.dev.cap)) ∧
    (s.dev.f F.CAP_STAT_OPEN = 1 → s.dev.f F.CAP_STAT_HALF = 0 → s.dev.f F.CAP_CFG_CHANNELS ≤ 16 →
      effect .captureFrame s [F.CAP_FRAMES_FRAMES] [.cap, .free] [] fun d =>
        d.f F.CAP_FRAMES_FRAMES = (s.dev.f F.CAP_FRAMES_FRAMES + 1) % 2 ^ 21 ∧ d.cap.prev.length = s.dev.f F.CAP_CFG_CHANNELS ∧
        (vget d.cap.half 0).frames = (vget s.dev.cap.half 0).frames ++ [d.cap.prev] ∧
        ∀ i : Fin 16, i.val < s.dev.f F.CAP_CFG_CHANNELS → (vget s.dev.cap.sums i).2 ≠ 0 →
          d.cap.prev[i.val]? = some ((vget s.dev.cap.sums i).1.tdiv (vget s.dev.cap.sums i).2)) ∧
    (effect (.capEnWrite true) s [F.CAP_CTL_EN, F.FUNC_PEND_CAP] [] [] fun d => d.f F.CAP_CTL_EN = 1 ∧ d.f F.FUNC_PEND_CAP = 0))

/-- R377, R381, R383 to R386: an attached NAND is read and formats where its identity is new; the journal gives the counters back, and a commit that a reset
cut is rolled back with EVB5 source 27; a QUEUED half starts at the head; a page that ends places its bricks, and the last one ends the commit with
source 25; a page that fails retires its block, source 28, and starts again in the next, or without a reserve block closes the store; an erase ends with
its block erased, or retired; the patrol reads a page and retires the block of one that corrects too much. A clause that meets a point the rules leave open takes the reading of log entries 5, 56, 80 and 83, the model's choice. -/
def Obligations.LogStore : Prop :=
  ∀ (q : NandInfo) (z : RecoveryRead) (c : Commit) (j : Nat) (r : Nat) (h : Fin 2) (lost : List Nat) (flag unc : Bool) (corr : Nat) (s : State), s.dev.running = true →
    (s.dev.f F.NAND_STAT_STATE = 1 → s.dev.nand.read = false → s.dev.nand.shut ∈ [0, 3, 5] →
      leads (.logRecovery z lost) s fun d => d.f F.NAND_STAT_STATE ≠ 1 ∧ d.nand.pend = none ∧
        d.f F.LOG_SEQ_NEXT = (s.dev.nand.jSeq + if s.dev.nand.pend.isSome then 1 else 0) % 2 ^ 32) ∧
    (s.dev.f F.NAND_STAT_STATE = 2 → s.dev.f F.IMGSTAT_COMMIT_PENDING = 0 → s.dev.cap.queue.head? = some h.val → s.dev.nand.pend = none →
      s.dev.nand.erase = none → s.dev.nand.ring ≠ [] → s.dev.eraseAhead = s.dev →
      (let fits := s.dev.fitsAtHead (s.dev.bricks (vget s.dev.cap.half h) (s.dev.f F.LOG_SEQ_NEXT)).length
       fits = true ∨ (s.dev.ringAt (s.dev.ringNext s.dev.nand.headAt 1)).erased = true →
        leads .commitStart s fun d => d.halfState h = 3 ∧ d.f F.NAND_STAT_COMMIT = 1 ∧ d.cap.queue = s.dev.cap.queue.tail ∧
          d.nand.pend = some { half := h, seq := s.dev.f F.LOG_SEQ_NEXT, index := if fits then s.dev.nand.headAt else s.dev.ringNext s.dev.nand.headAt 1
                               page := if fits then s.dev.nand.headPage else 0
                               bricks := s.dev.bricks (vget s.dev.cap.half h) (s.dev.f F.LOG_SEQ_NEXT) })) ∧
    (s.dev.f F.NAND_STAT_STATE ≠ 1 → s.dev.f F.NAND_STAT_STATE ≠ 4 → s.dev.nand.pend = some c → s.dev.commitBarred c = false →
      (c.bricks.length ≤ c.placed + s.dev.bricksPerPage →
        leads (.nandPageProgrammed true) s fun d => d.nand.pend = none ∧ d.f F.LOG_SEQ_NEXT = (s.dev.f F.LOG_SEQ_NEXT + 1) % 2 ^ 32 ∧
          d.f F.NAND_STAT_COMMIT = 0 ∧ d.halfState c.half = 0 ∧ d.pendingEvent (5 * 32 + 25) = true) ∧
      (s.dev.nand.bad.contains (s.dev.ringAt c.index).block = false → s.dev.nand.shut ≠ 5 →
        leads (.nandPageProgrammed false) s fun d => d.nand.bad = (s.dev.ringAt c.index).block :: s.dev.nand.bad ∧ d.pendingEvent (5 * 32 + 28) = true ∧
          (if s.dev.nand.reserve = [] then d.nand.pend = none ∧ d.f F.NAND_STAT_STATE = 5 ∧ d.pendingEvent (5 * 32 + 29) = true
            else (s.dev.ringAt (s.dev.ringNext c.index 1)).erased = true →
              d.nand.pend = some { c with index := s.dev.ringNext c.index 1, page := 0, placed := 0 }))) ∧
    (s.dev.f F.NAND_STAT_STATE ≠ 1 → s.dev.nand.erase = some j → j < s.dev.nand.ring.length →
      (leads (.nandEraseDone true) s fun d => (d.ringAt j).erased = true ∧
        d.nand.store = s.dev.nand.store.filter fun e => !s.dev.inBlock (s.dev.ringAt j).block e.1) ∧
      (leads (.nandEraseDone false) s fun d => d.nand.bad.contains (s.dev.ringAt j).block = true ∧
        d.nand.store = s.dev.nand.store.filter fun e => !s.dev.inBlock (s.dev.ringAt j).block e.1)) ∧
    (within 2 3 (s.dev.halfState 0) = false → within 2 3 (s.dev.halfState 1) = false → s.dev.f F.NAND_STAT_STATE ∈ [2, 3, 5] → s.dev.f F.NAND_CFG_PATROL ≠ 0 →
      s.dev.f F.BG_CTL_PATROL = 1 ∨ s.dev.f F.FUNC_PEND_PATROL = 1 →
      leads (.nandPatrol j corr unc flag) s fun d => d.f F.NAND_STAT_PATROL = (!flag).toNat ∧ (unc = true → d.pendingEvent (5 * 32 + 31) = true) ∧
        (s.dev.f F.NAND_CFG_RETIRE < corr → (s.dev.nand.ring.any fun x => x.block == j) = true → d.nand.bad.contains j = true)) ∧
    (s.dev.f F.NAND_STAT_STATE = 0 → nandSupported (s.dev.nandSeen q) = true →
      effect (.nandAttach q) s [F.NAND_GEOM_BLOCKS, F.NAND_GEOM_PPB, F.NAND_GEOM_BPP, F.NAND_STAT_STATE, F.NAND_STAT_SPARES] [.nand] [] fun d =>
        d.f F.NAND_STAT_STATE = (if s.dev.recov.xts = none then 5 else if s.dev.geomFails q then 4 else 1) ∧
        d.f F.NAND_GEOM_BLOCKS = q.blocks + (if s.dev.f F.NAND_CFG_CE1 = 1 then q.second else 0) - 1 ∧ d.f F.NAND_GEOM_PPB = q.ppb ∧
        d.f F.NAND_GEOM_BPP = q.bpp ∧ d.nand.jSeq = s.dev.nand.jSeq ∧
        (s.dev.recov.xts ≠ none → s.dev.geomFails q = false → d.nand.ident = some q.ident ∧
          (s.dev.nand.ident ≠ some q.ident → d.nand.store = [] ∧ d.nand.pend = none ∧ d.nand.jTail = s.dev.nand.jSeq ∧
            d.nand.bad = (List.range (d.f F.NAND_GEOM_BLOCKS + 1)).filter q.marked.contains ∧
            d.nand.reserve.length = ((d.f F.NAND_GEOM_BLOCKS + 1 - d.nand.bad.length) * 4 + 99) / 100))) ∧
    (s.dev.f F.NAND_STAT_STATE = 1 → s.dev.nand.read = false → s.dev.nand.erase = none → s.dev.nand.shut = 0 →
      (s.dev.nand.pend = none →
        effect (.logRecovery z lost) s [F.LOG_SEQ_NEXT, F.LOG_TAIL_OLDEST, F.LOG_CNT_ROLLBACKS, F.LOG_CNT_RETIRED, F.NAND_STAT_STATE] [.nand] [] fun d =>
          d.f F.NAND_STAT_STATE = 2 ∧ d.nand = { s.dev.nand with read := true } ∧ d.f F.LOG_SEQ_NEXT = s.dev.nand.jSeq % 2 ^ 32 ∧ d.f F.LOG_CNT_RETIRED = s.dev.nand.jRetired % 2 ^ 16) ∧
      (s.dev.nand.pend = some c → z.whole = false →
        effect (.logRecovery z lost) s [F.LOG_SEQ_NEXT, F.LOG_TAIL_OLDEST, F.LOG_CNT_ROLLBACKS, F.LOG_CNT_RETIRED, F.NAND_STAT_STATE]
          [.nand, .faults] [5 * 32 + 27] fun d =>
            d.f F.NAND_STAT_STATE = 2 ∧ d.nand.pend = none ∧ d.f F.LOG_SEQ_NEXT = (s.dev.nand.jSeq % 2 ^ 32 + 1) % 2 ^ 32 ∧
            d.nand.headAt = c.index ∧ d.nand.headPage = c.page + s.dev.commitPages c)) ∧
    (s.dev.f F.NAND_STAT_STATE = 2 → s.dev.f F.IMGSTAT_COMMIT_PENDING = 0 → s.dev.cap.queue.head? = some 0 → s.dev.nand.pend = none →
      s.dev.nand.erase = none → s.dev.nand.ring ≠ [] → s.dev.eraseAhead = s.dev →
      s.dev.fitsAtHead (s.dev.bricks (vget s.dev.cap.half 0) (s.dev.f F.LOG_SEQ_NEXT)).length = true →
      effect .commitStart s [F.CAP_STAT_STATE_A, F.NAND_STAT_COMMIT] [.cap, .nand] [] fun d =>
        d.f F.CAP_STAT_STATE_A = 3 ∧ d.f F.NAND_STAT_COMMIT = 1 ∧ d.cap.queue = s.dev.cap.queue.tail ∧ d.cap.half = s.dev.cap.half ∧
        d.nand.pend = some { half := 0, seq := s.dev.f F.LOG_SEQ_NEXT, index := s.dev.nand.headAt, page := s.dev.nand.headPage
                             bricks := s.dev.bricks (vget s.dev.cap.half 0) (s.dev.f F.LOG_SEQ_NEXT) }) ∧
    (s.dev.f F.NAND_STAT_STATE ≠ 1 → s.dev.f F.NAND_STAT_STATE ≠ 4 → s.dev.nand.pend = some c → s.dev.commitBarred c = false → c.half = 0 →
      (c.bricks.length ≤ c.placed + s.dev.bricksPerPage →
        effect (.nandPageProgrammed true) s [F.LOG_SEQ_NEXT, F.NAND_STAT_COMMIT, F.CAP_STAT_STATE_A] [.nand, .cap] [5 * 32 + 25] fun d =>
          d.nand.pend = none ∧ d.f F.LOG_SEQ_NEXT = (s.dev.f F.LOG_SEQ_NEXT + 1) % 2 ^ 32 ∧ d.f F.NAND_STAT_COMMIT = 0 ∧ d.f F.CAP_STAT_STATE_A = 0 ∧
          vget d.cap.half 0 = {} ∧ d.nand.headAt = c.index ∧ d.nand.headPage = c.page + s.dev.commitPages c) ∧
      (c.placed + s.dev.bricksPerPage < c.bricks.length →
        effect (.nandPageProgrammed true) s [] [.nand] [] fun d =>
          d.nand.pend = some { c with placed := c.placed + s.dev.bricksPerPage } ∧ d.f F.LOG_SEQ_NEXT = s.dev.f F.LOG_SEQ_NEXT) ∧
      (s.dev.nand.bad.contains (s.dev.ringAt c.index).block = false → s.dev.nand.reserve.head? = some r → s.dev.nand.shut = 0 →
        (s.dev.ringAt (s.dev.ringNext c.index 1)).erased = true →
        effect (.nandPageProgrammed false) s [F.LOG_CNT_RETIRED, F.NAND_STAT_SPARES] [.nand, .faults] [5 * 32 + 28] fun d =>
          d.nand.bad = (s.dev.ringAt c.index).block :: s.dev.nand.bad ∧ d.nand.reserve = s.dev.nand.reserve.tail ∧
          d.nand.pend = some { c with index := s.dev.ringNext c.index 1, page := 0, placed := 0 } ∧
          d.f F.LOG_CNT_RETIRED = (s.dev.f F.LOG_CNT_RETIRED + 1) % 2 ^ 16)) ∧
    (s.dev.f F.NAND_STAT_STATE ≠ 1 → s.dev.nand.erase = some j → j < s.dev.nand.ring.length →
      (∀ k : Fin 3, k.val = 0 ∨ s.dev.ringNext s.dev.nand.headAt k = j ∨ (s.dev.ringAt (s.dev.ringNext s.dev.nand.headAt k)).erased = true) →
      effect (.nandEraseDone true) s [] [.nand] [] fun d =>
        d.nand.erase = none ∧ (d.ringAt j).erased = true ∧ d.nand.store = s.dev.nand.store.filter fun e => !s.dev.inBlock (s.dev.ringAt j).block e.1) ∧
    (within 2 3 (s.dev.halfState 0) = false → within 2 3 (s.dev.halfState 1) = false → s.dev.f F.NAND_STAT_STATE = 2 → s.dev.f F.NAND_CFG_PATROL ≠ 0 →
      s.dev.f F.BG_CTL_PATROL = 1 → corr ≤ s.dev.f F.NAND_CFG_RETIRE →
      effect (.nandPatrol j corr true flag) s [F.NAND_STAT_PATROL] [] [5 * 32 + 31] fun d => d.f F.NAND_STAT_PATROL = (!flag).toNat)

/-- R382, R387: FETCH starts a fetch of the brick at INDEX of record SEQ, which ends with the brick in the buffer, RESULT 2, or with RESULT 3 where the record
is not there, 4 and EVB5 source 31 where it does not correct, or 5 where its CRC fails; a FETCH while one runs is not taken (assumption 60); REC_DATA
returns its next 4 bytes and wraps after 1024 reads, and 0 before any fetch.

R267, R390 to R392, R398: a write of NVDATA stores 4 bytes of user NV at NVADDR and changes no other byte, a read returns them, and each moves NVADDR on
by 4; the MRAM scrub counts a corrected word, gives a weak row a spare with EVB5 source 30, marks an uncorrectable word of a slot, and ends its pass
with a fresh age; FLOG_SEL and FLOW_SEL show the entry and the context they name. A clause that meets a point the rules leave open takes the reading of log entries 55, 56 and 60, the model's choice. -/
def Obligations.StorageReads : Prop :=
  (∀ (i : BitVec 10) (corr : Byte) (r : BrickRead) (p : Nat) (x : Nat × Nat) (s : State), s.dev.alive = true →
     (s.dev.nand.fetch = some x →
       effect (.recFetch i) s [F.REC_CTL_INDEX] [] [] fun d => d.nand.fetch = some x ∧ d.f F.REC_CTL_INDEX = i.toNat) ∧
     (s.dev.nand.fetch = some x → leads (.recFetchDone corr r) s fun d => d.nand.fetch = none ∧ d.f F.REC_CTL_FETCH = 0 ∧
       d.f F.REC_CTL_RESULT = (if s.dev.brickAt x.1 x.2 = none then 3 else match r with | .good => 2 | .uncorrectable => 4 | .crcFailed => 5)) ∧
     (s.dev.f F.REC_CTL_RESULT = 0 → effect .recDataRead s [] [.readData] [] fun d => d.readData = 0#32) ∧
     (s.dev.f F.REC_CTL_RESULT ≠ 0 → s.dev.f F.REC_CTL_RESULT ≠ 2 → leads .recDataRead s fun d => d.nand = s.dev.nand) ∧
     (s.dev.nand.fetch = none →
       effect (.recFetch i) s [F.REC_CTL_INDEX, F.REC_CTL_FETCH, F.REC_CTL_RESULT] [.nand] [] fun d =>
         d.nand.fetch = some (s.dev.f F.REC_SEL_SEQ, i.toNat) ∧ d.f F.REC_CTL_INDEX = i.toNat ∧ d.f F.REC_CTL_FETCH = 1 ∧ d.f F.REC_CTL_RESULT = 1) ∧
     (s.dev.nand.fetch = some x → s.dev.brickAt x.1 x.2 = none →
       effect (.recFetchDone corr .good) s [F.REC_CTL_FETCH, F.REC_CTL_RESULT, F.REC_CTL_CORR] [.nand] [] fun d =>
         d.nand.fetch = none ∧ d.f F.REC_CTL_FETCH = 0 ∧ d.f F.REC_CTL_RESULT = 3) ∧
     (s.dev.nand.fetch = some x → s.dev.brickAt x.1 x.2 = some p → corr.toNat ≤ s.dev.f F.NAND_CFG_RETIRE →
       (effect (.recFetchDone corr .good) s [F.REC_CTL_FETCH, F.REC_CTL_RESULT, F.REC_CTL_CORR] [.nand] [] fun d =>
         d.nand.fetch = none ∧ d.f F.REC_CTL_RESULT = 2 ∧ d.f F.REC_CTL_CORR = corr.toNat ∧ d.nand.offset = 0 ∧
         d.nand.buffer = Sparse.get (fun _ => []) s.dev.nand.store p) ∧
       (effect (.recFetchDone corr .uncorrectable) s [F.REC_CTL_FETCH, F.REC_CTL_RESULT, F.REC_CTL_CORR] [.nand] [5 * 32 + 31] fun d =>
         d.f F.REC_CTL_RESULT = 4 ∧ d.f F.REC_CTL_FETCH = 0)) ∧
     (s.dev.f F.REC_CTL_RESULT = 2 →
       effect .recDataRead s [] [.nand, .readData] [] fun d =>
         d.readData = BitVec.ofNat 32 (leAt s.dev.nand.buffer s.dev.nand.offset 4) ∧ d.nand.offset = (s.dev.nand.offset + 4) % 4096)) ∧
  (∀ (w : BitVec 32) (n : BitVec 10) (i : Byte) (a : Fin 0x300000) (rows : List (List Nat)) (unc : Option Nat) (last : Bool) (s : State), s.dev.alive = true →
     (s.dev.f F.BG_CTL_MSCRUB = 1 ∨ s.dev.f F.FUNC_PEND_MSCRUB = 1 → leads (.mramScrub rows unc last) s fun d =>
       d.f F.MRAM_STAT_CORRECTED = min (s.dev.f F.MRAM_STAT_CORRECTED + (rows.flatten.filter fun b => b != 0).length) 255 ∧
       d.f F.MRAM_STAT_SPARE_LEFT ≤ s.dev.f F.MRAM_STAT_SPARE_LEFT ∧ (last = true → d.f F.BG_STAT_SCRUB_AGE_H = 0 ∧ d.recov.scrubUs = 0) ∧
       (unc.isSome = true → d.f F.MRAM_STAT_UNCORR = 1 ∧ d.pendingEvent (5 * 32 + 30) = true)) ∧
     (effect (.nvdataWrite w) s [F.NVADDR_OFFSET] [.nv] [] fun d =>
       wordStored s.dev.nvByte d.nvByte (s.dev.f F.NVADDR_OFFSET) w ∧ d.f F.NVADDR_OFFSET = (s.dev.f F.NVADDR_OFFSET + 4) % 2 ^ 22) ∧
     (effect .nvdataRead s [F.NVADDR_OFFSET] [.readData] [] fun d =>
       (∀ k : Fin 4, BitVec.ofNat 8 (d.readData.toNat / 256 ^ k.val) = s.dev.nvByte (s.dev.f F.NVADDR_OFFSET + k)) ∧
       d.f F.NVADDR_OFFSET = (s.dev.f F.NVADDR_OFFSET + 4) % 2 ^ 22) ∧
     (s.dev.f F.BG_CTL_MSCRUB = 1 →
       (effect (.mramScrub [[1]] none false) s [F.MRAM_STAT_CORRECTED] [] [] fun d =>
         d.f F.MRAM_STAT_CORRECTED = min (s.dev.f F.MRAM_STAT_CORRECTED + 1) 255) ∧
       (s.dev.f F.MRAM_STAT_SPARE_LEFT ≠ 0 →
         effect (.mramScrub [[2]] none false) s [F.MRAM_STAT_CORRECTED, F.MRAM_STAT_SPARE_LEFT] [.faults] [5 * 32 + 30] fun d =>
           d.f F.MRAM_STAT_SPARE_LEFT = s.dev.f F.MRAM_STAT_SPARE_LEFT - 1) ∧
       (effect (.mramScrub [] (some a) true) s [F.MRAM_STAT_UNCORR, F.BG_STAT_SCRUB_AGE_H] [.slots, .recov] [5 * 32 + 30] fun d =>
         d.f F.MRAM_STAT_UNCORR = 1 ∧ d.f F.BG_STAT_SCRUB_AGE_H = 0 ∧ a.val % 0x180000 / 8 ∈ (vget d.slots (a.val / 0x180000)).spoilt ∧
         vget d.slots (1 - a.val / 0x180000) = vget s.dev.slots (1 - a.val / 0x180000))) ∧
     (effect (.flogSelect n) s ([F.FLOG_SEL_ENTRY, F.FLOG_STAT_SEL_VOID] ++ (List.range 8).map F.FLOG_DATA_DATA) [] [] fun d =>
       d.f F.FLOG_SEL_ENTRY = n.toNat ∧
       (Sparse.get (fun _ => {}) s.dev.log.entries n.toNat = ({} : LogEntry) →
         d.f F.FLOG_STAT_SEL_VOID = 1 ∧ ∀ k : Fin 8, d.rd (R.FLOG_DATA k) = 0#32) ∧
       (Sparse.get (fun _ => {}) s.dev.log.entries n.toNat ≠ ({} : LogEntry) →
         ∀ k : Fin 8, d.rd (R.FLOG_DATA k) = (Sparse.get (fun _ => {}) s.dev.log.entries n.toNat).words.getD k 0#32)) ∧
     (s.dev.f F.FLOW_STAT_CAPACITY ≤ i.toNat →
       effect (.flowSelect i) s [F.FLOW_SEL_INDEX, F.FLOW_CTX0_CONSUMER, F.FLOW_CTX0_ROLE, F.FLOW_CTX0_STATE, F.FLOW_CTX0_FLOW_ID, F.FLOW_CTX1_RATE_MAX,
           F.FLOW_CTX1_RATE, F.FLOW_CTX2_ALLOW, F.FLOW_CTX3_AGE, F.FLOW_CTX3_FSEQ, F.FLOW_CTX3_IN, F.FLOW_CTX3_OUT] [] [] fun d =>
         d.f F.FLOW_SEL_INDEX = i.toNat ∧ d.f F.FLOW_CTX0_STATE = 0) ∧
     (i.toNat < s.dev.f F.FLOW_STAT_CAPACITY →
       effect (.flowSelect i) s [F.FLOW_SEL_INDEX, F.FLOW_CTX0_CONSUMER, F.FLOW_CTX0_ROLE, F.FLOW_CTX0_STATE, F.FLOW_CTX0_FLOW_ID, F.FLOW_CTX1_RATE_MAX,
           F.FLOW_CTX1_RATE, F.FLOW_CTX2_ALLOW, F.FLOW_CTX3_AGE, F.FLOW_CTX3_FSEQ, F.FLOW_CTX3_IN, F.FLOW_CTX3_OUT] [] [] fun d =>
         d.f F.FLOW_SEL_INDEX = i.toNat ∧
         d.f F.FLOW_CTX0_STATE = (Sparse.get (fun _ => {}) s.dev.ring.flows i.toNat : FlowCtx).state % 4 ∧
         d.f F.FLOW_CTX0_FLOW_ID = (Sparse.get (fun _ => {}) s.dev.ring.flows i.toNat : FlowCtx).flowId % 2 ^ 16 ∧
         d.f F.FLOW_CTX2_ALLOW = (Sparse.get (fun _ => {}) s.dev.ring.flows i.toNat : FlowCtx).allow % 2 ^ 32))

/-! ### Background work, calibration, debug access and the life cycle (R408 to R423, R443, R456) -/

/-- R408 to R410: a safe point clears the function's bit in FUNC_PEND, and no other, with EVB0 source 10, and for charging the phase is IDLE; BG_CTL takes its
four bits, a function disabled with work in flight is marked in FUNC_PEND and one enabled again is not; an age that passes 24 h raises EVB0 source 13. A clause that meets a point the rules leave open takes the reading of log entry 57, the model's choice. -/
def Obligations.BackgroundControl : Prop :=
  ∀ (f : Func) (w : BitVec 32) (slot scrub : Bool) (s : State), s.dev.alive = true →
    (s.dev.fbit (pendBit f).1 (pendBit f).2 = true → s.dev.atSafePoint f = true →
      leads (.funcSafePoint f) s fun d => d.fbit (pendBit f).1 (pendBit f).2 = false ∧ d.pendingEvent 10 = true ∧
        (f = .chg → chargingPhase (s.dev.f F.CHG_PHASE_PHASE) = true → d.f F.CHG_PHASE_PHASE = 0)) ∧
    (leads (.bgCtlWrite w slot scrub) s fun d =>
      d.f F.BG_CTL_PATROL = (w.getLsbD 0).toNat ∧ d.f F.BG_CTL_SLOT_CHK = (w.getLsbD 1).toNat ∧ d.f F.BG_CTL_MSCRUB = (w.getLsbD 2).toNat ∧
      d.f F.BG_CTL_LENS_AUTO = (w.getLsbD 3).toNat ∧ (w.getLsbD 3 = true → d.f F.FUNC_PEND_LENS = 0)) ∧
    (s.dev.fbit (pendBit f).1 (pendBit f).2 = true → s.dev.atSafePoint f = true →
      (f ≠ .chg → f ≠ .patrol →
        effect (.funcSafePoint f) s [(pendBit f).1] [] [10] fun d =>
          d.f (pendBit f).1 = withBit (s.dev.f (pendBit f).1) (pendBit f).2 false) ∧
      (f = .patrol →
        effect (.funcSafePoint f) s [F.FUNC_PEND_PATROL, F.NAND_STAT_PATROL] [] [10] fun d => d.f F.FUNC_PEND_PATROL = 0 ∧ d.f F.NAND_STAT_PATROL = 0) ∧
      (f = .chg → chargingPhase (s.dev.f F.CHG_PHASE_PHASE) = true →
        leads (.funcSafePoint f) s fun d => d.f F.FUNC_PEND_CHG = 0 ∧ d.f F.CHG_PHASE_PHASE = 0 ∧ d.pendingEvent 10 = true)) ∧
    (s.dev.recov.autoCheck = [] →
      effect (.bgCtlWrite w slot scrub) s [F.BG_CTL_PATROL, F.BG_CTL_SLOT_CHK, F.BG_CTL_MSCRUB, F.BG_CTL_LENS_AUTO, F.FUNC_PEND_PATROL, F.FUNC_PEND_SLOT,
          F.FUNC_PEND_MSCRUB, F.FUNC_PEND_LENS] [] [] fun d =>
        d.f F.BG_CTL_PATROL = (w.getLsbD 0).toNat ∧ d.f F.BG_CTL_SLOT_CHK = (w.getLsbD 1).toNat ∧ d.f F.BG_CTL_MSCRUB = (w.getLsbD 2).toNat ∧
        d.f F.BG_CTL_LENS_AUTO = (w.getLsbD 3).toNat ∧
        (w.getLsbD 1 = true → d.f F.FUNC_PEND_SLOT = 0) ∧
        (w.getLsbD 1 = false → s.dev.f F.BG_CTL_SLOT_CHK = 1 → slot = true → d.f F.FUNC_PEND_SLOT = 1) ∧
        (w.getLsbD 2 = false → s.dev.f F.BG_CTL_MSCRUB = 1 → scrub = true → d.f F.FUNC_PEND_MSCRUB = 1) ∧
        (w.getLsbD 0 = false → s.dev.f F.BG_CTL_PATROL = 1 → s.dev.f F.NAND_STAT_PATROL = 1 → d.f F.FUNC_PEND_PATROL = 1)) ∧
    (s.dev.f F.BG_STAT_SCRUB_AGE_H ≤ 24 → effect (.bgAgeAlarm true) s [F.BG_STAT_SCRUB_AGE_H] [] [13] fun d => d.f F.BG_STAT_SCRUB_AGE_H = 25) ∧
    (s.dev.f F.BG_STAT_SLOT_AGE_H ≤ 24 → effect (.bgAgeAlarm false) s [F.BG_STAT_SLOT_AGE_H] [] [13] fun d => d.f F.BG_STAT_SLOT_AGE_H = 25)

/-- R413, R414: a calibration is requested, admitted while none runs and the foreground conversions of the last 1 ms are at most (100 − MARGIN) % of 20 MS/s, and ends with EVB0 source 14 in PASS or in FAIL, the latter with a fault-log entry; a
test, check or calibration not admitted ends with RESULT 5 and EVB0 source 9, its pending bit clear.

R443, R455, R456, R359: DBG_CTL.OPEN opens debug access with EVB0 source 22, and in SERVICE is refused with REJ; an open debugger halts the core, source
23, and freezes the watchdog unless NOFREEZE is programmed; a resume ends both; where debug access is not open the DMI instruction acts as BYPASS and
neither does anything; the end of a customer task is EVB0 source 25 and a fault-log entry. A clause that meets a point the rules leave open takes the reading of log entries 57, 58 and 77, the model's choice. -/
def Obligations.CalibrationAndDebug : Prop :=
  (∀ (u : Fin 2) (load : Nat) (t : Fin 16) (n : Fin 24) (s : State), s.dev.running = true →
     (s.dev.f (adcPending u) = 0 → s.dev.f (adcResult u) ≠ 1 →
       effect (.adcCalRequest u) s [adcPending u, adcCal u] [] [] fun d => d.f (adcPending u) = 1 ∧ d.f (adcCal u) = 1) ∧
     (s.dev.f (adcPending u) = 1 → s.dev.f F.ST_ADC_RESULT0 ≠ 1 → s.dev.f F.ST_ADC_RESULT1 ≠ 1 → load * 100 ≤ (100 - s.dev.f F.ST_CFG_MARGIN) * 20000 →
       effect (.adcCalAdmit u load) s [adcPending u, adcResult u] [] [] fun d => d.f (adcPending u) = 0 ∧ d.f (adcResult u) = 1) ∧
     (s.dev.f (adcResult u) = 1 →
       (effect (.adcCalEnd u true) s [adcCal u, adcResult u] [] [14] fun d => d.f (adcResult u) = 2 ∧ d.f (adcCal u) = 0) ∧
       (effect (.adcCalEnd u false) s [adcCal u, adcResult u] [.faults] [14] fun d => d.f (adcResult u) = 3 ∧ d.f (adcCal u) = 0)) ∧
     (s.dev.f (F.TILE_STAT_TEST_PENDING t) = 1 →
       effect (.deferredTimeout (.tile t)) s [F.TILE_STAT_TEST_PENDING t, F.TILE_CTL_TEST_START t, F.TILE_TEST_RESULT t] [] [9, 32 + 28] fun d =>
         d.f (F.TILE_STAT_TEST_PENDING t) = 0 ∧ d.f (F.TILE_TEST_RESULT t) = 5) ∧
     (s.dev.f (F.LENS_STAT_PENDING n) = 1 → leads (.deferredTimeout (.lens n)) s fun d =>
       d.f (F.LENS_STAT_PENDING n) = 0 ∧ d.f (F.LENS_STAT_RESULT n) = 5 ∧ d.pendingEvent 9 = true ∧ n.val ∉ d.recov.autoCheck) ∧
     (s.dev.f (F.LENS_STAT_PENDING n) = 1 →
       effect (.deferredTimeout (.lens n)) s [F.LENS_STAT_PENDING n, F.LENS_STAT_RESULT n] [.recov] [9] fun d =>
         d.f (F.LENS_STAT_PENDING n) = 0 ∧ d.f (F.LENS_STAT_RESULT n) = 5) ∧
     (s.dev.f (adcPending u) = 1 →
       effect (.deferredTimeout (.adc u)) s [adcPending u, adcCal u, adcResult u] [] [9] fun d => d.f (adcPending u) = 0 ∧ d.f (adcResult u) = 5)) ∧
  (∀ (s : State), s.dev.alive = true →
     (s.dev.f F.LC_STAT_STATE ≠ 2 → s.dev.f F.DBG_CTL_OPENED = 0 → effect .dbgOpen s [F.DBG_CTL_OPENED] [] [22] fun d => d.f F.DBG_CTL_OPENED = 1) ∧
     (s.dev.f F.LC_STAT_STATE ≠ 2 → s.dev.f F.DBG_CTL_OPENED = 1 → effect .dbgOpen s [] [] [] fun d => d.f F.DBG_CTL_OPENED = 1) ∧
     (s.dev.f F.LC_STAT_STATE = 2 →
       effect .dbgOpen s [F.DBG_CTL_REJ] [] [] fun d => d.f F.DBG_CTL_REJ = 1 ∧ d.f F.DBG_CTL_OPENED = s.dev.f F.DBG_CTL_OPENED) ∧
     (s.dev.f F.DBG_CTL_OPENED = 1 → s.dev.f F.DBG_CTL_HALTED = 0 →
       effect .debugHalt s [F.DBG_CTL_HALTED, F.WDT_STAT_FROZEN] [.tap, .free] [23] fun d =>
         d.f F.DBG_CTL_HALTED = 1 ∧ d.f F.WDT_STAT_FROZEN = 1 - s.dev.f F.WDT_FUSE_NOFREEZE) ∧
     (s.dev.f F.DBG_CTL_OPENED = 0 → ∀ x ∈ [Instr.debugHalt, Instr.debugResume], effect x s [] [.tap] [] fun d =>
       d.f F.DBG_CTL_HALTED = s.dev.f F.DBG_CTL_HALTED ∧ d.tap = { ir := 0x11, captured := [false] }) ∧
     (s.dev.f F.DBG_CTL_OPENED = 1 → s.dev.f F.DBG_CTL_HALTED = 1 →
       effect .debugResume s [F.DBG_CTL_HALTED, F.WDT_STAT_FROZEN] [.tap, .free] [] fun d => d.f F.DBG_CTL_HALTED = 0 ∧ d.f F.WDT_STAT_FROZEN = 0) ∧
     (s.dev.supervisor = true → leads .customerTaskFault s fun d => d.pendingEvent 25 = true ∧ d.log.firstHeld = true ∧ d.f F.FLOG_STAT_FIRST = 1) ∧
     (s.dev.supervisor = true → s.dev.faults = [] →
       effect .customerTaskFault s [] [.faults] [25] fun d => d.log.count = (s.dev.log.count + 1) % 2 ^ 32 ∧ d.log.firstHeld = true))

/-- R420 to R423: an admitted ADVANCE changes the state, makes the wipes, and resets the logic die with cause 10; from BLANK it needs no signature to
COMMISSION or RETURN, elsewhere that of an accepted key; to RETURN both slots are emptied, every key is revoked and the key pair is gone; a reset that falls
into the change leaves it CHANGING; one not admitted is refused with its RESULT and EVB0 source 12, and nothing else changes.

R420, R360: WRITE_KEY puts the coordinates in LC_BUF into an empty slot exactly where they are a point, else RESULT 8; REVOKE_KEY acts exactly where the
signature holds, else RESULT 3 or 2, and never by the key itself; FUSE in BLANK programs the fields that are not 0, once; an OP other than 1 to 4 is
RESULT 1, as is a command outside its states or for a slot it does not have. A refusal raises EVB0 source 12 and changes nothing else; an admitted command
increments LC_NONCE. A clause that meets a point the rules leave open takes the reading of log entry 59, the model's choice. -/
def Obligations.LifeCycle : Prop :=
  (∀ (key : BitVec 2) (target : Byte) (cut : Option (Fin 8)) (c : Fin 8) (r : Nat) (s : State), s.dev.alive = true → s.dev.f F.LC_STAT_BUSY = 0 →
     (s.dev.advanceBar target.toNat = none →
       target = 1 ∨ target = 3 ∧ s.dev.f F.LC_STAT_STATE = 0 ∨ s.dev.lcUnsigned 1 key.toNat target.toNat = none →
       (leads (.lcAdvance key target none) s fun d => d.f F.LC_STAT_STATE = target.toNat ∧ d.f F.LC_STAT_CHANGING = 0 ∧ d.alive = false ∧
         d.pw.resetCause = 10 ∧ d.nv = [] ∧ d.live = {} ∧ d.fmap = Vector.replicate 16 {} ∧ d.nand.store = [] ∧
         (target = 3 → d.f F.LC_STAT_REVOKED = 15 ∧ d.slots = Vector.replicate 2 {} ∧ d.recov.xts = none) ∧
         (target ≠ 3 → d.slots = s.dev.slots)) ∧
       (leads (.lcAdvance key target (some c)) s fun d => d.f F.LC_STAT_STATE = s.dev.f F.LC_STAT_STATE ∧ d.f F.LC_STAT_CHANGING = 1 ∧
         d.recov.lcTarget = some target.toNat ∧ d.alive = false ∧ d.pw.resetCause = c)) ∧
     (s.dev.advanceBar target.toNat = some r → r < 16 →
       effect (.lcAdvance key target cut) s [F.LC_CTL_OP, F.LC_CTL_KEY, F.LC_CTL_ARG, F.LC_STAT_RESULT] [] [12] fun d => d.f F.LC_STAT_RESULT = r) ∧
     (s.dev.advanceBar target.toNat = none → target ≠ 1 → ¬(target = 3 ∧ s.dev.f F.LC_STAT_STATE = 0) →
       s.dev.lcUnsigned 1 key.toNat target.toNat = some r → r < 16 →
       effect (.lcAdvance key target cut) s [F.LC_CTL_OP, F.LC_CTL_KEY, F.LC_CTL_ARG, F.LC_STAT_RESULT] [] [12] fun d => d.f F.LC_STAT_RESULT = r) ∧
     (s.dev.f F.LC_STAT_STATE = 0 →
       (leads (.lcAdvance key 1 none) s fun d =>
         d.f F.LC_STAT_STATE = 1 ∧ d.f F.LC_STAT_CHANGING = 0 ∧ d.alive = false ∧ d.pw.resetCause = 10 ∧ d.nv = [] ∧ d.nand.store = [] ∧
         d.nand.format = true ∧ d.fmap = Vector.replicate 16 {} ∧ d.live = {} ∧ d.f F.FLOG_STAT_NEWEST = 0 ∧ d.f F.CAP_CYCLE_CYCLE = 0 ∧
         d.f F.CHG_RESV_E_UNCAL = 1 ∧ d.slots = s.dev.slots ∧ d.keys = s.dev.keys ∧ d.recov.xts = s.dev.recov.xts.map Config.newKeyPair ∧
         d.f F.LC_NONCE_NONCE = (s.dev.f F.LC_NONCE_NONCE + 1) % 2 ^ 32 ∧ d.pw.time = s.dev.pw.time) ∧
       (leads (.lcAdvance key 3 none) s fun d =>
         d.f F.LC_STAT_STATE = 3 ∧ d.alive = false ∧ d.pw.resetCause = 10 ∧ d.f F.LC_STAT_REVOKED = 15 ∧ d.slots = Vector.replicate 2 {} ∧
         d.recov.xts = none ∧ d.nand.format = false ∧ d.nand.shut = 5 ∧ d.nv = []) ∧
       (leads (.lcAdvance key 1 (some c)) s fun d =>
         d.f F.LC_STAT_STATE = 0 ∧ d.f F.LC_STAT_CHANGING = 1 ∧ d.recov.lcTarget = some 1 ∧ d.alive = false ∧ d.pw.resetCause = c ∧
         d.slots = s.dev.slots ∧ d.nv = s.dev.nv)) ∧
     (s.dev.f F.LC_STAT_STATE = 3 →
       effect (.lcAdvance key target cut) s [F.LC_CTL_OP, F.LC_CTL_KEY, F.LC_CTL_ARG, F.LC_STAT_RESULT] [] [12] fun d =>
         d.f F.LC_STAT_RESULT = 1 ∧ d.f F.LC_STAT_STATE = 3 ∧ d.f F.LC_NONCE_NONCE = s.dev.f F.LC_NONCE_NONCE)) ∧
  (∀ (key : BitVec 2) (k : Fin 4) (arg : Byte) (op : BitVec 4) (s : State), s.dev.alive = true →
     (s.dev.f F.LC_STAT_BUSY = 1 → ∀ x ∈ [Instr.lcAdvance key arg none, .lcWriteKey key arg, .lcRevokeKey key arg, .lcFuse key arg],
       effect x s [F.LC_CTL_OP, F.LC_CTL_KEY, F.LC_CTL_ARG, F.LC_STAT_RESULT] [] [12] fun d => d.f F.LC_STAT_RESULT = 6) ∧
     (s.dev.f F.LC_STAT_BUSY = 0 →
     (s.dev.f F.LC_STAT_STATE ≤ 1 → k.val ≠ 0 →
       (s.dev.fbit F.LC_STAT_PRESENT k = false →
         effect (.lcWriteKey key (BitVec.ofNat 8 k)) s [F.LC_CTL_OP, F.LC_CTL_KEY, F.LC_CTL_ARG, F.LC_STAT_RESULT, F.LC_NONCE_NONCE, F.LC_STAT_BUSY,
             F.LC_STAT_PRESENT] [.keys, .free, .recov] (if Config.validPoint s.dev.lcBuf = true then [] else [12]) fun d =>
             (Config.validPoint s.dev.lcBuf = true → d.f F.LC_STAT_RESULT = 0 ∧ d.fbit F.LC_STAT_PRESENT k = true ∧
               (vget d.keys k).key = some s.dev.lcBuf ∧ d.f F.LC_NONCE_NONCE = (s.dev.f F.LC_NONCE_NONCE + 1) % 2 ^ 32) ∧
             (Config.validPoint s.dev.lcBuf = false → d.f F.LC_STAT_RESULT = 8 ∧ d.keys = s.dev.keys ∧
               d.f F.LC_STAT_PRESENT = s.dev.f F.LC_STAT_PRESENT ∧ d.f F.LC_NONCE_NONCE = s.dev.f F.LC_NONCE_NONCE)) ∧
       (s.dev.fbit F.LC_STAT_PRESENT k = true →
         effect (.lcWriteKey key (BitVec.ofNat 8 k)) s [F.LC_CTL_OP, F.LC_CTL_KEY, F.LC_CTL_ARG, F.LC_STAT_RESULT] [] [12] fun d =>
           d.f F.LC_STAT_RESULT = 4)) ∧
     (1 < s.dev.f F.LC_STAT_STATE ∨ within 1 3 arg.toNat = false →
       effect (.lcWriteKey key arg) s [F.LC_CTL_OP, F.LC_CTL_KEY, F.LC_CTL_ARG, F.LC_STAT_RESULT] [] [12] fun d => d.f F.LC_STAT_RESULT = 1) ∧
     (within 1 2 (s.dev.f F.LC_STAT_STATE) = false ∨ 3 < arg.toNat →
       effect (.lcRevokeKey key arg) s [F.LC_CTL_OP, F.LC_CTL_KEY, F.LC_CTL_ARG, F.LC_STAT_RESULT] [] [12] fun d => d.f F.LC_STAT_RESULT = 1) ∧
     (1 < s.dev.f F.LC_STAT_STATE →
       effect (.lcFuse key arg) s [F.LC_CTL_OP, F.LC_CTL_KEY, F.LC_CTL_ARG, F.LC_STAT_RESULT] [] [12] fun d => d.f F.LC_STAT_RESULT = 1) ∧
     (s.dev.f F.LC_STAT_STATE = 2 → s.dev.ownerKeys = [k.val] →
       effect (.lcRevokeKey key (BitVec.ofNat 8 k)) s [F.LC_CTL_OP, F.LC_CTL_KEY, F.LC_CTL_ARG, F.LC_STAT_RESULT] [] [12] fun d => d.f F.LC_STAT_RESULT = 5) ∧
     (s.dev.f F.LC_STAT_STATE = 1 → s.dev.fuseBar arg.toNat = none →
       effect (.lcFuse key arg) s [F.LC_CTL_OP, F.LC_CTL_KEY, F.LC_CTL_ARG, F.LC_STAT_RESULT, F.LC_NONCE_NONCE, F.LC_STAT_BUSY, F.WDT_FUSE_WINDOW,
             F.WDT_FUSE_NOFREEZE, F.WDT_OPEN_T_TICKS, F.WDT_STAT_WINDOW, F.WDT_STAT_FROZEN]
         [.recov, .free] (if s.dev.lcUnsigned 4 key.toNat arg.toNat = none then [] else [12]) fun d =>
           d.f F.LC_STAT_RESULT = (s.dev.lcUnsigned 4 key.toNat arg.toNat).getD 0 ∧
           (s.dev.lcUnsigned 4 key.toNat arg.toNat = none → arg.toNat % 8 ≠ 0 → d.f F.WDT_FUSE_WINDOW = arg.toNat % 8 ∧ d.recov.fuseWindow = true)) ∧
     (s.dev.f F.LC_STAT_STATE = 1 ∨ s.dev.f F.LC_STAT_STATE = 2 ∧ s.dev.ownerKeys ≠ [k.val] →
       (key.toNat ≠ k.val →
         effect (.lcRevokeKey key (BitVec.ofNat 8 k)) s [F.LC_CTL_OP, F.LC_CTL_KEY, F.LC_CTL_ARG, F.LC_STAT_RESULT, F.LC_NONCE_NONCE, F.LC_STAT_BUSY,
             F.LC_STAT_REVOKED] [.free, .recov] (if s.dev.lcUnsigned 3 key.toNat k = none then [] else [12]) fun d =>
             d.f F.LC_STAT_RESULT = (s.dev.lcUnsigned 3 key.toNat k).getD 0 ∧
             d.f F.LC_STAT_REVOKED = (if s.dev.lcUnsigned 3 key.toNat k = none then withBit (s.dev.f F.LC_STAT_REVOKED) k true
               else s.dev.f F.LC_STAT_REVOKED)) ∧
       (key.toNat = k.val →
         effect (.lcRevokeKey key (BitVec.ofNat 8 k)) s [F.LC_CTL_OP, F.LC_CTL_KEY, F.LC_CTL_ARG, F.LC_STAT_RESULT] [] [12] fun d =>
           d.f F.LC_STAT_RESULT = 3 ∧ d.f F.LC_STAT_REVOKED = s.dev.f F.LC_STAT_REVOKED)) ∧
     (s.dev.f F.LC_STAT_STATE = 0 →
       (s.dev.fuseBar arg.toNat = none →
         effect (.lcFuse key arg) s [F.LC_CTL_OP, F.LC_CTL_KEY, F.LC_CTL_ARG, F.LC_STAT_RESULT, F.LC_NONCE_NONCE, F.LC_STAT_BUSY, F.WDT_FUSE_WINDOW,
             F.WDT_FUSE_NOFREEZE, F.WDT_OPEN_T_TICKS, F.WDT_STAT_WINDOW, F.WDT_STAT_FROZEN]
           [.recov, .free] [] fun d =>
             d.f F.LC_STAT_RESULT = 0 ∧ d.f F.LC_NONCE_NONCE = (s.dev.f F.LC_NONCE_NONCE + 1) % 2 ^ 32 ∧
             d.f F.WDT_FUSE_WINDOW = (if arg.toNat % 8 = 0 then s.dev.f F.WDT_FUSE_WINDOW else arg.toNat % 8) ∧
             d.f F.WDT_FUSE_NOFREEZE = (if arg.toNat / 8 % 2 = 0 then s.dev.f F.WDT_FUSE_NOFREEZE else 1) ∧
             d.recov.fuseWindow = (s.dev.recov.fuseWindow || decide (arg.toNat % 8 ≠ 0)) ∧
             (s.dev.f F.WDT_STAT_ARMED = 1 → d.f F.WDT_OPEN_T_TICKS = s.dev.f F.WDT_PERIOD_T_TICKS * (min 5 (d.f F.WDT_FUSE_WINDOW) + 1) / 8 ∧
               (d.f F.WDT_FUSE_NOFREEZE = 1 → d.f F.WDT_STAT_FROZEN = 0))) ∧
       (arg.toNat % 8 ≠ 0 → s.dev.recov.fuseWindow = true →
         effect (.lcFuse key arg) s [F.LC_CTL_OP, F.LC_CTL_KEY, F.LC_CTL_ARG, F.LC_STAT_RESULT] [] [12] fun d => d.f F.LC_STAT_RESULT = 9)) ∧
     (within 1 4 op.toNat = false →
       effect (.lcInvalidOp op key arg) s [F.LC_CTL_OP, F.LC_CTL_KEY, F.LC_CTL_ARG, F.LC_STAT_RESULT] [] [12] fun d =>
         d.f F.LC_STAT_RESULT = 1 ∧ d.f F.LC_NONCE_NONCE = s.dev.f F.LC_NONCE_NONCE)))

/-! ### Host interface, time, events and DMA (R430 to R454) -/

/-- R433 to R435, R442, R462: a frame shifts out what waited and leaves its own response: NOP; a READ with the register's value and its side effects, an RC field
clearing; a WRITE with the word written; code 03h where no register lies, and 01h for a write that changes no field. What else a READ leaves unchanged is
stated for every register without W1S fields but HOST_STAT and the seven ports whose read has a rule of its own. A clause that meets a point the rules leave open takes the reading of log entries 31 and 61, the model's choice. -/
def Obligations.HostFrames : Prop :=
  ∀ (addr : BitVec 16) (k : Fin 6) (w : BitVec 32) (rw : ReadWorld) (x : AccessWorld) (s : State), s.dev.takesFrames addr.toNat →
    (effect (.hostNop addr) s [F.HOST_STAT_LAST_CODE] [.host] [] fun d =>
      s.dev.replied d (s.dev.response 0 addr.toNat 0#32) ∧ d.host.last = d.host.pending) ∧
    ((regAt addr.toNat).isSome = true → leads (.hostRead addr rw) s fun d => d.host.last = d.host.pending ∧ d.host.first = false ∧
      d.host.pending.map (fun r => (r.status % 64, r.addr, r.data)) = some (0, addr.toNat, [d.readData])) ∧
    (leads (.hostWrite addr w x) s fun d => d.alive = true → d.pw.hostReady = true → d.host.last = d.host.pending ∧ d.host.first = false ∧
      d.host.pending.map (fun r => (r.addr, r.data)) = some (addr.toNat, [w])) ∧
    (regAt addr.toNat = none →
      (effect (.hostRead addr rw) s [F.HOST_STAT_LAST_CODE] [.host, .readData] [] fun d => s.dev.replied d (s.dev.response 3 addr.toNat 0#32)) ∧
      (effect (.hostWrite addr w x) s [F.HOST_STAT_LAST_CODE] [.host] [] fun d => s.dev.replied d (s.dev.response 3 addr.toNat w))) ∧
    (∀ q ∈ regAt addr.toNat, q.mask (fun p => p == .w1s) = 0#32 →
      addr.toNat ∉ [R.HOST_STAT, R.TIME_LO, R.EVF_DATA0, R.IMGDATA, R.NVDATA, R.REC_DATA, R.PTB_FRAC, R.PRISM_TMEAN] → (addr.toNat = R.PWR_STAT → rw.pressed = false) →
      effect (.hostRead addr rw) s [F.HOST_STAT_LAST_CODE, whole addr.toNat] [.host, .readData] [] fun d =>
        s.dev.replied d (s.dev.response 0 addr.toNat (s.dev.rd addr.toNat)) ∧ d.host.last = d.host.pending) ∧
    (effect (.hostRead (BitVec.ofNat 16 R.MRAM_STAT) rw) s [F.HOST_STAT_LAST_CODE, F.MRAM_STAT_CORRECTED] [.host, .readData] [] fun d =>
      s.dev.replied d (s.dev.response 0 R.MRAM_STAT (s.dev.rd R.MRAM_STAT)) ∧ d.f F.MRAM_STAT_CORRECTED = 0) ∧
    (effect (.hostWrite (BitVec.ofNat 16 (R.EVB_INT0 k)) w x) s [F.HOST_STAT_LAST_CODE, F.EVB_INT0_EN k] [.host] [] fun d =>
      s.dev.replied d (s.dev.response 0 (R.EVB_INT0 k) w) ∧ d.rd (R.EVB_INT0 k) = w ∧ d.host.last = d.host.pending) ∧
    (effect (.hostWrite (BitVec.ofNat 16 R.DEVID) w x) s [F.HOST_STAT_LAST_CODE] [.host] [] fun d => s.dev.replied d (s.dev.response 1 R.DEVID w))

/-- R436 to R438: a frame that is not executed changes no register but HOST_STAT: 04h for an address that is not a multiple of 4, 08h while a burst write is
applied, 05h for a bad CRC, counted in CMD_CRC with EVB0 source 17, 06h for an opcode or BLEN that is not allowed, counted in FRAME_ERR with source 18, and
07h for a cut frame, so too; a rise of nCS between frames only ends the selection; REPEAT returns the response of the last executed frame, a stream in its own slot, or 0Ah where there is none.

R431, R433: a frame whose CRC passes and whose opcode and BLEN are allowed does what the command of its opcode does. A clause that meets a point the rules leave open takes the reading of log entries 8, 10 and 61, the model's choice. -/
def Obligations.HostRefusals : Prop :=
  (∀ (addr : BitVec 16) (x : SpiFrame) (r : Response) (s : State), s.dev.alive = true → s.dev.pw.hostReady = true →
     (s.dev.host.burst = [] → addr.toNat % 4 ≠ 0 →
       effect (.hostNop addr) s [F.HOST_STAT_LAST_CODE] [.host] [] fun d =>
         s.dev.replied d (s.dev.response 4 addr.toNat 0#32) ∧ d.host.last = s.dev.host.last) ∧
     (s.dev.host.burst ≠ [] →
       effect (.hostNop addr) s [F.HOST_STAT_LAST_CODE] [.host] [] fun d =>
         s.dev.replied d (s.dev.response 8 addr.toNat 0#32) ∧ d.host.burst = s.dev.host.burst) ∧
     (frameCrcOk x.bits = false →
       effect (.hostFrameReject x) s [F.HOST_STAT_LAST_CODE, F.HOST_STAT_CMD_CRC] [.host] [17] fun d =>
         s.dev.replied d (s.dev.response 5 (frameAddr x.bits) 0#32) ∧ d.f F.HOST_STAT_CMD_CRC = min (s.dev.f F.HOST_STAT_CMD_CRC + 1) 255 ∧
         d.host.last = s.dev.host.last) ∧
     (frameCrcOk x.bits = true → frameOpOk x.bits = false →
       effect (.hostFrameReject x) s [F.HOST_STAT_LAST_CODE, F.HOST_STAT_FRAME_ERR] [.host] [18] fun d =>
         s.dev.replied d (s.dev.response 6 (frameAddr x.bits) 0#32) ∧ d.f F.HOST_STAT_FRAME_ERR = min (s.dev.f F.HOST_STAT_FRAME_ERR + 1) 255) ∧
     (frameCrcOk x.bits = true → frameOpOk x.bits = true → s.dev.host.burst ≠ [] ∨ frameAddr x.bits % 4 ≠ 0 →
       effect (.hostFrameReject x) s [F.HOST_STAT_LAST_CODE] [.host] [] fun d =>
         s.dev.replied d (s.dev.response (if s.dev.host.burst ≠ [] then 8 else 4) (frameAddr x.bits) 0#32) ∧ d.host.last = s.dev.host.last) ∧
     (effect (.ncsFrameCut .between) s [] [.host] [] fun d => d.host = { s.dev.host with selected := false }) ∧
     (effect (.ncsFrameCut .inBurst) s [F.HOST_STAT_LAST_CODE, F.HOST_STAT_FRAME_ERR] [.host] [18] fun d =>
       s.dev.replied d (s.dev.response 7 0 0#32) ∧ d.host.last = s.dev.host.last ∧ d.f F.HOST_STAT_FRAME_ERR = min (s.dev.f F.HOST_STAT_FRAME_ERR + 1) 255) ∧
     (effect (.ncsFrameCut .inFrame) s [F.HOST_STAT_FRAME_ERR] [.host] [18] fun d =>
       d.host.pending = some (s.dev.response 7 0 0#32) ∧ d.host.last = s.dev.host.last ∧
       d.f F.HOST_STAT_FRAME_ERR = min (s.dev.f F.HOST_STAT_FRAME_ERR + 1) 255) ∧
     (s.dev.host.burst = [] → addr.toNat % 4 = 0 →
       (s.dev.host.last = some r → r.stream = false →
         effect (.hostRepeat addr) s [F.HOST_STAT_LAST_CODE] [.host] [] fun d => s.dev.replied d r ∧ d.host.last = some r) ∧
       (s.dev.host.last = some r → r.stream = true →
         effect (.hostRepeat addr) s [F.HOST_STAT_LAST_CODE] [.host] [] fun d =>
           d.host.pending = none ∧ d.host.shifted = r ∧ d.host.last = some r) ∧
       (s.dev.host.last = none →
         effect (.hostRepeat addr) s [F.HOST_STAT_LAST_CODE] [.host] [] fun d => s.dev.replied d (s.dev.response 0x0A 0 0#32)))) ∧
  (∀ (x : SpiFrame) (n : Fin 11) (s : State), s.dev.alive = true → s.dev.pw.hostReady = true →
     frameCrcOk x.bits = true → frameOpOk x.bits = true → frameBlen x.bits = n.val →
     ∀ y ∈ [(0, Instr.hostNop (BitVec.ofNat 16 (frameAddr x.bits))), (1, .hostRead (BitVec.ofNat 16 (frameAddr x.bits)) x.read),
         (2, .hostWrite (BitVec.ofNat 16 (frameAddr x.bits)) (frameData x.bits) x.write), (4, .burstRd (BitVec.ofNat 16 (frameAddr x.bits)) n x.read x.cut),
         (5, .burstRdInc (BitVec.ofNat 16 (frameAddr x.bits)) n x.read x.cut),
         (6, .burstWr (BitVec.ofNat 16 (frameAddr x.bits)) n x.words x.crc x.write), (7, .hostRepeat (BitVec.ofNat 16 (frameAddr x.bits)))],
       frameOp x.bits = y.1 → exec (.hostFrameReject x) s = exec y.2 s)

/-- R440, R441: a burst read leaves in one stream of 2^BLEN words, and no response waits after it; nCS that rises after n words ends the sampling, after one
word at least; an incrementing one beyond FFFCh is refused with 06h; a burst write whose CRC passes waits to be applied and is answered with its count, one
that fails is 09h and nothing of it is applied; the words are then applied in order. What else they leave unchanged is stated for the interrupt masks and for
NVDATA. A clause that meets a point the rules leave open takes the reading of log entry 62, the model's choice. -/
def Obligations.Bursts : Prop :=
  ∀ (addr : BitVec 16) (k : Fin 6) (blen : Fin 11) (two : Fin 3) (ws : List Word) (crc : BitVec 8) (n : Option Nat) (rw : ReadWorld) (x : AccessWorld) (s : State),
    (s.dev.takesFrames addr.toNat →
      (leads (.burstRd addr blen rw n) s fun d => d.host.pending = none ∧ d.host.shifted.stream = true ∧
        d.host.shifted.status % 64 = (if (regAt addr.toNat).isSome then 0 else 3) ∧
        d.host.shifted.data.length = min (max 1 (n.getD (2 ^ blen.val))) (2 ^ blen.val)) ∧
      (addr.toNat + 4 * (2 ^ blen.val - 1) ≤ 0xFFFC → leads (.burstRdInc addr blen rw n) s fun d => d.host.pending = none ∧
        d.host.shifted.stream = true ∧ d.host.shifted.status % 64 = 0 ∧
        d.host.shifted.data.length = min (max 1 (n.getD (2 ^ blen.val))) (2 ^ blen.val)) ∧
      (ws.length = 2 ^ blen.val →
        (burstCrcOk ws crc = true → leads (.burstWr addr blen ws crc x) s fun d => (d.host.burst = ws ∧ d.host.burstAddr = addr.toNat ∧ d.host.burstWorld = x ∨ d.host.burst = []) ∧
          (d.host.pending.map (·.addr)) = some addr.toNat) ∧
        (burstCrcOk ws crc = false → effect (.burstWr addr blen ws crc x) s [F.HOST_STAT_LAST_CODE, F.HOST_STAT_FRAME_ERR] [.host] [18] fun d =>
          d.host.burst = [] ∧ s.dev.replied d (s.dev.response 9 addr.toNat 0#32)))) ∧
    (s.dev.alive = true → leads .burstWrApplied s fun d => d.host.burst = []) ∧
    (s.dev.takesFrames 0 →
      (effect (.burstRd (BitVec.ofNat 16 (R.EVB_INT0 k)) blen rw n) s [F.HOST_STAT_LAST_CODE] [.host, .readData] [] fun d =>
        d.host.pending = none ∧ d.host.shifted.stream = true ∧ d.host.shifted.status % 64 = 0 ∧
        d.host.shifted.data = List.replicate (min (max 1 (n.getD (2 ^ blen.val))) (2 ^ blen.val)) (s.dev.rd (R.EVB_INT0 k))) ∧
      (effect (.burstRdInc (BitVec.ofNat 16 (R.EVB_INT0 k)) (two.castLE (by decide)) rw none) s [F.HOST_STAT_LAST_CODE] [.host, .readData] [] fun d =>
        d.host.pending = none ∧
        d.host.shifted.data =
          [s.dev.rd (R.EVB_INT0 k), s.dev.rd (R.EVB_INT1 k), s.dev.rd (R.EVB_CORE k), s.dev.rd (R.EVB_WAKE k)].take (2 ^ two.val)) ∧
      (0xFFFC < addr.toNat + 4 * (2 ^ blen.val - 1) →
        effect (.burstRdInc addr blen rw n) s [F.HOST_STAT_LAST_CODE, F.HOST_STAT_FRAME_ERR] [.host] [18] fun d =>
          s.dev.replied d (s.dev.response 6 addr.toNat 0#32)) ∧
      (ws.length = 2 ^ blen.val →
        (burstCrcOk ws crc = true → effect (.burstWr (BitVec.ofNat 16 R.NVDATA) blen ws crc x) s [F.HOST_STAT_LAST_CODE] [.host] [] fun d =>
          d.host.burst = ws ∧ d.host.burstAddr = R.NVDATA ∧ s.dev.replied d (s.dev.response 0 R.NVDATA (BitVec.ofNat 32 (2 ^ blen.val)))) ∧
        (burstCrcOk ws crc = false → effect (.burstWr (BitVec.ofNat 16 R.NVDATA) blen ws crc x) s [F.HOST_STAT_LAST_CODE, F.HOST_STAT_FRAME_ERR] [.host] [18] fun d =>
          d.host.burst = [] ∧ s.dev.replied d (s.dev.response 9 R.NVDATA 0#32)))) ∧
    (s.dev.alive = true → s.dev.host.burstAddr = R.NVDATA →
      effect .burstWrApplied s [F.NVADDR_OFFSET] [.nv, .host] [] fun d =>
        d.host.burst = [] ∧ d.f F.NVADDR_OFFSET = (s.dev.f F.NVADDR_OFFSET + 4 * s.dev.host.burst.length) % 2 ^ 22 ∧
        (s.dev.host.burst.length = 1 → wordStored s.dev.nvByte d.nvByte (s.dev.f F.NVADDR_OFFSET) (s.dev.host.burst.headD 0#32)))

/-- R13, R442, R456: a register write by any initiator: an RW field takes the value, a W1C bit written 1 clears, an RO field stays, an LK field takes the value
until the image is in force and stays after, for every register whose write starts no action of its own rule; a debugger writes, by DMI, only while debug
access is open.

R392, R442, R443, R455: the core stores and loads words of its SRAM, of user NV and of the registers at their addresses of the core map; a customer task that
reaches the supervisor's SRAM is ended with EVB0 source 25 and changes nothing there; a register is read by any initiator; of two writes in one logic clock the
host's goes before the core's; a scan of DMI acts as BYPASS until debug access is open, and a low nTRST resets the port. A clause that meets a point the rules leave open takes the reading of log entries 1, 63 and 77, the model's choice. -/
def Obligations.RegisterWrites : Prop :=
  (∀ (o : Origin) (addr : BitVec 16) (k : Fin 6) (t : Fin 16) (w : BitVec 32) (x : AccessWorld) (s : State), s.dev.alive = true →
     (o ≠ .debugger ∨ s.dev.f F.DBG_CTL_OPENED = 1 →
       (∀ q ∈ regAt addr.toNat, q.mask (fun p => p == .w1s) = 0#32 → s.dev.writable q addr.toNat = true →
         s.dev.writeLive addr.toNat w x.t = none → s.dev.writeOwn o addr.toNat w x = none → s.dev.quiet →
         effect (.registerWrite o (.write addr) w { write := x }) s [whole addr.toNat] (if o = .debugger then [.tap, .free] else []) [] fun d =>
           d.rd addr.toNat = ((s.dev.rd addr.toNat &&& ~~~ q.mask s.dev.storesAs) ||| (w &&& q.mask s.dev.storesAs)) &&&
             ~~~ (w &&& q.mask (fun p => p == .w1c))) ∧
       (∀ q ∈ regAt addr.toNat, s.dev.writable q addr.toNat = false →
         effect (.registerWrite o (.write addr) w { write := x }) s [] (if o = .debugger then [.tap, .free] else []) [] fun d => d.rd R.DEVID = s.dev.rd R.DEVID) ∧
       (effect (.registerWrite o (.write (BitVec.ofNat 16 (R.EVB_INT1 k))) w { write := x }) s [F.EVB_INT1_EN k] (if o = .debugger then [.tap, .free] else []) [] fun d => d.rd (R.EVB_INT1 k) = w) ∧
       (s.dev.quiet →
         effect (.registerWrite o (.write (BitVec.ofNat 16 (R.EVB_PEND k))) w { write := x }) s [F.EVB_PEND_PEND k] (if o = .debugger then [.tap, .free] else []) [] fun d =>
           d.rd (R.EVB_PEND k) = s.dev.rd (R.EVB_PEND k) &&& ~~~w) ∧
       (effect (.registerWrite o (.write (BitVec.ofNat 16 R.DEVID)) w { write := x }) s [] (if o = .debugger then [.tap, .free] else []) [] fun d => d.rd R.DEVID = s.dev.rd R.DEVID) ∧
       (effect (.registerWrite o (.write (BitVec.ofNat 16 (R.TILE_SCALE t))) w { write := x }) s [whole (R.TILE_SCALE t)] (if o = .debugger then [.tap, .free] else []) [] fun d =>
         d.rd (R.TILE_SCALE t) = if s.dev.f F.IMGSTAT_STATE = 1 then s.dev.rd (R.TILE_SCALE t) else w)) ∧
     (o = .debugger → s.dev.f F.DBG_CTL_OPENED = 0 → addr.toNat ≠ R.IMGDATA →
       effect (.registerWrite o (.write addr) w { write := x }) s [] [.tap] [] fun d => d.tap = { ir := 0x11, captured := [false] })) ∧
  (∀ (o : Origin) (a : BitVec 32) (sz : Fin 3) (k : Fin 6) (v w : BitVec 32) (s : State), s.dev.alive = true →
     (a.toNat % 4 = 0 →
       (a.toNat < 0x80000 →
         (effect (.registerWrite .core (.store a 2 false) w {}) s [] [.sram] [] fun d => wordStored s.dev.sramByte d.sramByte a.toNat w) ∧
         (effect (.registerWrite .core (.load a 2 false) w {}) s [] [.readData] [] fun d =>
           ∀ i : Fin 4, BitVec.ofNat 8 (d.readData.toNat / 256 ^ i.val) = s.dev.sramByte (a.toNat + i))) ∧
       (within 0x10000000 0x103FFFFF a.toNat = true →
         (effect (.registerWrite .core (.store a 2 false) w {}) s [] [.nv] [] fun d =>
           wordStored s.dev.nvByte d.nvByte (a.toNat - 0x10000000) w) ∧
         (effect (.registerWrite .core (.load a 2 false) w {}) s [] [.readData] [] fun d =>
           ∀ i : Fin 4, BitVec.ofNat 8 (d.readData.toNat / 256 ^ i.val) = s.dev.nvByte (a.toNat - 0x10000000 + i)))) ∧
     (effect (.registerWrite .core (.store (BitVec.ofNat 32 (0x40000000 + R.EVB_INT1 k)) 2 false) w {}) s [F.EVB_INT1_EN k] [] [] fun d =>
       d.rd (R.EVB_INT1 k) = w) ∧
     (within 0x78000 0x7FFFF a.toNat = true → s.dev.supervisor = true → ∀ x ∈ [BusOp.store a sz true, BusOp.load a sz true],
       effect (.registerWrite .core x w {}) s [] [.faults] [25] fun d => d.sram = s.dev.sram ∧ d.readData = s.dev.readData) ∧
     (o ≠ .debugger → effect (.registerWrite o (.read (BitVec.ofNat 16 (R.EVB_INT0 k))) w {}) s [] [.readData] [] fun d =>
       d.readData = s.dev.rd (R.EVB_INT0 k)) ∧
     (∀ x ∈ [Instr.registerWrite .core (.write (BitVec.ofNat 16 (R.EVB_INT1 k))) w { others := [{ by_ := .host, op := .write (BitVec.ofNat 16 (R.EVB_INT1 k)), data := v }] },
         Instr.registerWrite .host (.write (BitVec.ofNat 16 (R.EVB_INT1 k))) v { others := [{ by_ := .core, op := .write (BitVec.ofNat 16 (R.EVB_INT1 k)), data := w }] }],
       leads x s fun d => d.rd (R.EVB_INT1 k) = w) ∧
     (s.dev.f F.DBG_CTL_OPENED = 0 →
       effect (.registerWrite .debugger (.scan 0x11) w {}) s [] [.tap] [] fun d => d.tap = { ir := 0x11, captured := [false] }) ∧
     (effect (.registerWrite .debugger (.scan 0x01) w {}) s [] [.tap, .free] [] fun d => d.tap.ir = 1 ∧ d.tap.captured.length = 34) ∧
     (effect (.registerWrite .debugger .trst w {}) s [] [.tap] [] fun d => d.tap = {}))

/-- R445, R449: TIME_LO returns the low half of the device time and copies the high one into TIME_HI; TIME_SETL sets the time, EVB0 source 24, with a
fault-log entry; EVF_DATA0 pops the oldest entry, or reads 0 and changes nothing; FLUSH empties the FIFO and leaves LOST. -/
def Obligations.TimeAndEvents : Prop :=
  ∀ (w : BitVec 32) (e : FifoEntry) (s : State), s.dev.alive = true →
    (effect .timeLoRead s [F.TIME_HI_TIME] [.readData] [] fun d =>
      d.readData = BitVec.ofNat 32 s.dev.pw.time ∧ d.f F.TIME_HI_TIME = s.dev.pw.time / 2 ^ 32 % 65536) ∧
    (effect (.timeSetlWrite w) s [F.TIME_SETL_TIME] [.pw, .faults] [24] fun d => d.pw.time = s.dev.f F.TIME_SETH_TIME * 2 ^ 32 + w.toNat) ∧
    (s.dev.quiet →
      (s.dev.ev.fifo.head? = some e →
        effect .evfData0Read s [F.EVF_DATA1_TIME] [.ev, .readData] [] fun d =>
          d.ev.fifo = s.dev.ev.fifo.tail ∧ d.f F.EVF_DATA1_TIME = e.time % 2 ^ 32 ∧ F.EVF_DATA0_VALID.read d.readData = 1 ∧
          F.EVF_DATA0_GAP.read d.readData = e.gap.toNat ∧ F.EVF_DATA0_EVENT.read d.readData = e.event % 256 ∧
          F.EVF_DATA0_TIME.read d.readData = e.time / 2 ^ 32 % 65536) ∧
      (s.dev.ev.fifo = [] → effect .evfData0Read s [] [.readData] [] fun d => d.readData = 0#32 ∧ d.ev = s.dev.ev) ∧
      (effect .evfFlush s [] [.ev] [] fun d =>
        d.ev.fifo = [] ∧ d.f F.EVF_STAT_LOST = s.dev.f F.EVF_STAT_LOST ∧ d.f F.EVF_STAT_COUNT = 0))

/-- R453, R454, R460: a transfer stores the word that its register reads at DST + 4 × POS of core SRAM, changes no other byte, and advances POS: EVB0 source 19
at the half, 20 at the end, where POS returns to 0; DMAn_CTL sets POS to 0, and refuses to enable a buffer that would reach the supervisor's SRAM. A clause that meets a point the rules leave open takes the reading of log entry 64, the model's choice. -/
def Obligations.DmaTransfers : Prop :=
  ∀ (n : Fin 8) (k : Fin 6) (w : BitVec 32) (s : State), s.dev.alive = true →
    (s.dev.running = true → s.dev.ev.dmaWait.contains n.val = true → s.dev.f (F.DMA_CTL_LEN n) ≠ 0 →
      s.dev.f (F.DMA_DST_ADDR n) + 4 * s.dev.f (F.DMA_STAT_POS n) + 4 ≤ 0x78000 →
      leads (.dmaTransfer n) s fun d =>
        wordStored s.dev.sramByte d.sramByte (s.dev.f (F.DMA_DST_ADDR n) + 4 * s.dev.f (F.DMA_STAT_POS n)) d.readData ∧
        d.f (F.DMA_STAT_POS n) =
          (if min (s.dev.f (F.DMA_CTL_LEN n)) 4096 ≤ s.dev.f (F.DMA_STAT_POS n) + 1 then 0 else s.dev.f (F.DMA_STAT_POS n) + 1) ∧
        (min (s.dev.f (F.DMA_CTL_LEN n)) 4096 ≤ s.dev.f (F.DMA_STAT_POS n) + 1 → d.pendingEvent 20 = true)) ∧
    (s.dev.running = true → s.dev.ev.dmaWait.contains n.val = true → s.dev.f (F.DMA_SRC_ADDR n) = R.EVB_CORE k → s.dev.f (F.DMA_CTL_LEN n) ≠ 0 →
      s.dev.f (F.DMA_DST_ADDR n) + 4 * s.dev.f (F.DMA_STAT_POS n) + 4 ≤ 0x78000 →
      effect (.dmaTransfer n) s [F.DMA_STAT_POS n] [.ev, .sram, .readData]
        ((if s.dev.f (F.DMA_STAT_POS n) + 1 = min (s.dev.f (F.DMA_CTL_LEN n)) 4096 / 2 then [19] else []) ++
         (if min (s.dev.f (F.DMA_CTL_LEN n)) 4096 ≤ s.dev.f (F.DMA_STAT_POS n) + 1 then [20] else [])) fun d =>
          wordStored s.dev.sramByte d.sramByte (s.dev.f (F.DMA_DST_ADDR n) + 4 * s.dev.f (F.DMA_STAT_POS n)) (s.dev.rd (R.EVB_CORE k)) ∧
          d.f (F.DMA_STAT_POS n) =
            (if min (s.dev.f (F.DMA_CTL_LEN n)) 4096 ≤ s.dev.f (F.DMA_STAT_POS n) + 1 then 0 else s.dev.f (F.DMA_STAT_POS n) + 1)) ∧
    (w.getLsbD 31 = true → 0x78000 < s.dev.f (F.DMA_DST_ADDR n) + 4 * min (w.toNat % 8192) 4096 →
      effect (.dmaCtlWrite n w) s [] [] [] fun d => d.f (F.DMA_CTL_EN n) = s.dev.f (F.DMA_CTL_EN n)) ∧
    (w.getLsbD 31 = false ∨ s.dev.f (F.DMA_DST_ADDR n) + 4 * min (w.toNat % 8192) 4096 ≤ 0x78000 →
      effect (.dmaCtlWrite n w) s [F.DMA_CTL_EN n, F.DMA_CTL_LEN n, F.DMA_STAT_POS n] [] [] fun d =>
        d.f (F.DMA_CTL_EN n) = (w.getLsbD 31).toNat ∧ d.f (F.DMA_CTL_LEN n) = w.toNat % 8192 ∧ d.f (F.DMA_STAT_POS n) = 0)

/-! ### The whole machine -/

/-- A step runs the command at the front of the queue on the state with the queue's rest (the model's form of a block, assumption 1).

Every command completes: it answers a next state, with the queue as it was, and no command ends in a fault or a refusal. -/
def Obligations.StepRunsFrontCommand : Prop :=
  (∀ (c : Instr) (rest : List Instr) (s : State), s.pending = c :: rest → step s = exec c { s with pending := rest }) ∧
  (∀ (i : Instr) (s : State), leads i s fun _ => True)

/-- With no command waiting a step passes time (the model's choice, assumption 6; R200, R444): while the device is on, one microsecond of the device time and
of the block clock; in keep-alive, while VKA powers it, a tick of the 32.768 kHz clock, by which the time goes on from where keep-alive began; in ship mode nothing. -/
def Obligations.IdleSteps : Prop :=
  ∀ s : State, s.pending = [] → s.dev.host.burst = [] →
    ∃ t : State, step s = .next t ∧ t.pending = [] ∧ t.dev.pw.mode = s.dev.pw.mode ∧ t.dev.alive = s.dev.alive ∧
      (s.dev.pw.mode = .on → t.dev.pw.time = (s.dev.pw.time + 1) % 2 ^ 48 ∧ t.dev.pw.clock = s.dev.pw.clock + 1) ∧
      (s.dev.pw.mode = .keepAlive → s.dev.pw.vkaLow = false →
        t.dev.pw.kaTicks = s.dev.pw.kaTicks + 1 ∧ t.dev.pw.time = (s.dev.pw.kaStart + (s.dev.pw.kaTicks + 1) * 1000000 / 32768) % 2 ^ 48) ∧
      (s.dev.pw.mode = .ship → t.dev.pw.time = s.dev.pw.time ∧ ∀ y : Field, endFields.all (fun x => y.apart x) = true → t.dev.f y = s.dev.f y)

/-- What `effect` says of the next state: beside the fields and the parts that it names, a command changes at most what the delivery of its events and the
status fields that follow from the rest change, and the outputs to the core and the host's interrupt balls. A clause that meets a point the rules leave open takes the reading of log entry 11, the model's choice. -/
def Obligations.CommandFrame : Prop :=
  ∀ (i : Instr) (s : State) (fs : List Field) (ps : List Part) (evs : List Nat) (P : Dev → Prop), effect i s fs ps evs P →
    ∃ t : State, exec i s = .next t ∧ t.pending = s.pending ∧ keeps (fs ++ endFields) (ps ++ endParts) s.dev.still t.dev.still

/-- R446, R448: at the end of a command every event it raised is pending, its bank and source by the event number, and a raise under EVBk_WAKE ends the
core's sleep; a pending bit that was set stays set.

R449, R450, R453: raises of one command enter the FIFO in ascending event number with their time; a raise that finds it full is lost and counted in LOST,
and EVB0 source 16 is raised when LOST leaves 0; a raise of the event in TRIG of an enabled channel makes its request, and one that finds the request still
waiting is counted in OVERRUN, EVB0 source 21. Stated where START_EVT and STOP_EVT name no event and the other channels are off. A clause that meets a point the rules leave open takes the reading of log entry 11, the model's choice. -/
def Obligations.EventsAreDelivered : Prop :=
  (∀ (n : Fin 192) (t : Nat) (d : Dev),
     ((n.val, t) ∈ d.raised →
       (finish d).pendingEvent n = true ∧ (d.fbit (F.EVB_WAKE_EN (n / 32)) (n % 32) = true → (finish d).pw.coreWake = true)) ∧
     (d.pendingEvent n = true → (finish d).pendingEvent n = true)) ∧
  (∀ (n m : Fin 192) (t : Nat) (k : Fin 8) (d : Dev), d.alive = true → d.cap.wantOpen = none → d.cap.wantClose = none →
     192 ≤ d.f F.CAP_EVT_START_EVT → 192 ≤ d.f F.CAP_EVT_STOP_EVT → (∀ j : Fin 8, j ≠ k → d.f (F.DMA_CTL_EN j) = 0) →
     (d.raised = [(m.val, t), (n.val, t)] → n < m → d.fbit (F.EVB_FIFO_EN (n / 32)) (n % 32) = true → d.fbit (F.EVB_FIFO_EN (m / 32)) (m % 32) = true →
       d.f (F.DMA_CTL_EN k) = 0 → d.ev.fifo.length ≤ 62 →
       (finish d).ev.fifo = d.ev.fifo ++ [⟨n, t, d.ev.gap⟩, ⟨m, t, false⟩] ∧ (finish d).f F.EVF_STAT_COUNT = d.ev.fifo.length + 2) ∧
     (d.raised = [(n.val, t)] → d.fbit (F.EVB_FIFO_EN (n / 32)) (n % 32) = true → d.fbit (F.EVB_FIFO_EN 0) 16 = false → d.f (F.DMA_CTL_EN k) = 0 →
       d.ev.fifo.length = 64 →
       (finish d).ev.fifo = d.ev.fifo ∧ (finish d).ev.gap = true ∧ (finish d).f F.EVF_STAT_LOST = min (d.f F.EVF_STAT_LOST + 1) 65535 ∧
       (d.f F.EVF_STAT_LOST = 0 → (finish d).pendingEvent 16 = true)) ∧
     (d.raised = [(n.val, t)] → d.f (F.DMA_SRC_TRIG k) = n → d.f (F.DMA_CTL_EN k) = 1 → d.f (F.DMA_CTL_LEN k) ≠ 0 → n.val ≠ 16 → n.val ≠ 21 →
       (d.ev.dmaWait.contains k.val = false → (finish d).ev.dmaWait = d.ev.dmaWait ++ [k.val]) ∧
       (d.ev.dmaWait.contains k.val = true → (finish d).ev.dmaWait = d.ev.dmaWait ∧
         (finish d).f (F.DMA_STAT_OVERRUN k) = min (d.f (F.DMA_STAT_OVERRUN k) + 1) 65535 ∧ (finish d).pendingEvent 21 = true)))

/-- R451: a write of 1 to bit n of EV_SW raises EVB0 source 26 + n, for n = 0 to 5, and no other event, whether the host or the core writes it. -/
def Obligations.SoftwareEvents : Prop :=
  ∀ (bits : BitVec 6) (w : BitVec 32) (o : Origin) (x : AccessWorld) (s : State), s.dev.alive = true →
    (effect (.evSwRaise bits) s [] [] (((List.range 6).filter bits.getLsbD).map (26 + ·)) fun d =>
      ∀ n : Fin 6, bits.getLsbD n = true → d.pendingEvent (26 + n) = true) ∧
    (o ≠ .debugger →
      effect (.registerWrite o (.write (BitVec.ofNat 16 R.EV_SW)) w { write := x }) s [] [] (((List.range 6).filter w.getLsbD).map (26 + ·)) fun d =>
        ∀ n : Fin 6, w.getLsbD n = true → d.pendingEvent (26 + n) = true)

/-- R75: a live write outside its bound leaves the field unchanged, sets IMGSTAT.LIVE_REJ and raises EVB0 source 3, and changes nothing else: for every live
field of R74, the thresholds of a lens and the position and argument of a slot too. An accepted one gives the field the value written, so that no value
is clamped. The slot's position is stated where the position has not moved since the last command. -/
def Obligations.LiveBounds : Prop :=
  ∀ (a : BitVec 16) (w : BitVec 32) (n : Fin 24) (lo hi : Byte) (k : Fin 32) (t : Nat) (frac : BitVec 16) (s : State), s.dev.alive = true →
    (∀ x ∈ liveField a.toNat,
      (s.dev.liveBound x (x.read w) = false → effect (.liveWrite a w) s [F.IMGSTAT_LIVE_REJ] [] [3] fun d => d.f F.IMGSTAT_LIVE_REJ = 1) ∧
      (s.dev.liveBound x (x.read w) = true → s.dev.running = false →
        effect (.liveWrite a w) s [x] [.live] [] fun d => d.f x = x.read w)) ∧
    (s.dev.lensUsed n = false ∨ hi.toNat < lo.toNat →
      effect (.lensThWrite n lo hi) s [F.IMGSTAT_LIVE_REJ] [] [3] fun d => d.f F.IMGSTAT_LIVE_REJ = 1) ∧
    (s.dev.f (F.SLOT_MAP_EN k) = 0 →
      (effect (.liveWrite (BitVec.ofNat 16 (R.SLOT_ARG k)) w) s [F.IMGSTAT_LIVE_REJ] [] [3] fun d => d.f F.IMGSTAT_LIVE_REJ = 1) ∧
      (s.dev.ptbTime t = s.dev →
        effect (.slotPosfWrite k t frac) s [F.IMGSTAT_LIVE_REJ] [] [3] fun d => d.f F.IMGSTAT_LIVE_REJ = 1)) ∧
    (s.dev.f (F.SLOT_MAP_EN k) = 1 →
      effect (.liveWrite (BitVec.ofNat 16 (R.SLOT_ARG k)) w) s [F.SLOT_ARG_ARG k] [.live] [] fun d => d.f (F.SLOT_ARG_ARG k) = (F.SLOT_ARG_ARG k).read w)

/-- R447, R448: after every step, from any state, each interrupt ball is low exactly while a pending bit under its mask is set, the core interrupt is
asserted exactly so under its own, and all are released while the logic die is absent, in keep-alive and in ship mode.

R16, R147, R449: after every step that leaves the logic die running, from any state, the fields that follow from other state agree with it: the FIFO's
count, the presence of the power die's link, compatibility mode, and the crowbar summary. -/
def Obligations.OutputsFollow : Prop :=
  (∀ (s t : State), step s = .next t → intsFollow t.dev) ∧
  (∀ (s t : State), step s = .next t → t.dev.alive = true →
     t.dev.f F.EVF_STAT_COUNT = t.dev.ev.fifo.length % 128 ∧ t.dev.f F.SYSCFG_PWR_DIE_OK = (!t.dev.pw.absent).toNat ∧
     t.dev.f F.SYSCFG_COMPAT = (t.dev.on F.SYSCFG_COMPAT_PIN || t.dev.on F.SYSCFG_COMPAT_IMG).toNat ∧
     t.dev.f F.SYS_STAT_CB_ANY = (decide (∃ c : Fin 6, t.dev.f (F.C_PCTL_CB_LATCH c) ≠ 0)).toNat)

/-- R86, R397, R398, R461, and the map's reset values: at State.reset no command waits, the logic die is in its reset and absent, the memories are empty, and
the registers read the reset values that the spec gives.

The interrupt lines follow the pending bits at reset: all are released. A clause that meets a point the rules leave open takes the reading of log entry 9, the model's choice. -/
def Obligations.ResetState : Prop :=
  (State.reset.pending = [] ∧ State.reset.dev.alive = false ∧ State.reset.dev.pw.absent = true ∧ State.reset.dev.nv = [] ∧ State.reset.dev.sram = [] ∧
   State.reset.dev.rd R.DEVID = 0x74160110#32 ∧ State.reset.dev.rd R.IMGSTAT = 0#32 ∧ State.reset.dev.rd R.MRAM_STAT = 0x2C0#32 ∧
   State.reset.dev.rd R.NVADDR = 0#32 ∧ State.reset.dev.rd R.FLOG_SEL = 0#32 ∧ (∀ t : Fin 16, State.reset.dev.rd (R.TILE_SCALE t) = 0x1D603E8#32) ∧
   (∀ k : Fin 6, State.reset.dev.rd (R.EVB_PEND k) = 0#32) ∧ (∀ t : Fin 16, (vget State.reset.dev.tile t).gates = .off)) ∧
  (intsFollow State.reset.dev ∧ State.reset.dev.balls.nInt0 = false ∧ State.reset.dev.pw.coreInt = false)

/-- The memories keep their canonical form: a write of user NV, of an open slot, of core SRAM by DMA, of a register, and the opening of a slot leave every
memory and the register file with addresses rising and no entry that an unlisted address reads as; State.reset has that form. A clause that meets a point the rules leave open takes the reading of log entries 2 and 65, the model's choice. -/
def Obligations.MemoriesStayCanonical : Prop :=
  Memory.wf State.reset.dev = true ∧
  ∀ (w : BitVec 32) (n : Fin 8) (k : Fin 6) (o : Origin) (x : AccessWorld) (s : State), Memory.wf s.dev = true →
    leads (.nvdataWrite w) s (fun d => Memory.wf d = true) ∧ leads (.imgdataWrite w) s (fun d => Memory.wf d = true) ∧
    (s.dev.f (F.DMA_SRC_ADDR n) = R.EVB_CORE k → leads (.dmaTransfer n) s (fun d => Memory.wf d = true)) ∧ leads (.imgOpen true) s (fun d => Memory.wf d = true) ∧
    leads (.registerWrite o (.write (BitVec.ofNat 16 (R.EVB_INT0 k))) w { write := x }) s (fun d => Memory.wf d = true)
end

