-- ==== Sys2Proof/Laws/Sparse.lean ====
section
/-! SUPPORT. The laws of sparse tables and byte memories: a read after a write, and the canonical form, which every operation keeps. -/
namespace Sys2Proof.Machine

variable {α : Type}

theorem Sparse.get_insert_same (f : Nat → α) (m : List (Nat × α)) (k : Nat) (v : α) : Sparse.get f (Sparse.insert m k v) k = v := by
  induction m with
  | nil => simp [Sparse.insert, Sparse.get]
  | cons x t ih =>
    obtain ⟨a, w⟩ := x
    unfold Sparse.insert
    split
    · simp [Sparse.get]
    · split
      · simp [Sparse.get]
      · simp only [Sparse.get, if_neg ‹¬k = a›, ih]

theorem Sparse.get_insert_ne (f : Nat → α) (m : List (Nat × α)) {j k : Nat} (v : α) (h : j ≠ k) :
    Sparse.get f (Sparse.insert m k v) j = Sparse.get f m j := by
  induction m with
  | nil => simp [Sparse.insert, Sparse.get, h]
  | cons x t ih =>
    obtain ⟨a, w⟩ := x
    unfold Sparse.insert
    split
    · simp [Sparse.get, h]
    · split
      · subst a; simp [Sparse.get, h]
      · simp only [Sparse.get, ih]

theorem Sparse.get_erase_same (f : Nat → α) (m : List (Nat × α)) (k : Nat) : Sparse.get f (Sparse.erase m k) k = f k := by
  induction m with
  | nil => rfl
  | cons x t ih =>
    obtain ⟨a, w⟩ := x
    unfold Sparse.erase
    split
    · exact ih
    · simp only [Sparse.get, if_neg ‹¬k = a›, ih]

theorem Sparse.get_erase_ne (f : Nat → α) (m : List (Nat × α)) {j k : Nat} (h : j ≠ k) :
    Sparse.get f (Sparse.erase m k) j = Sparse.get f m j := by
  induction m with
  | nil => rfl
  | cons x t ih =>
    obtain ⟨a, w⟩ := x
    unfold Sparse.erase
    split
    · subst a; simp only [Sparse.get, if_neg h, ih]
    · simp only [Sparse.get, ih]

variable [DecidableEq α]

/-- A read of the key just written gives the value written. -/
@[simp] theorem Sparse.get_set_same (f : Nat → α) (m : List (Nat × α)) (k : Nat) (v : α) : Sparse.get f (Sparse.set f m k v) k = v := by
  unfold Sparse.set
  split
  · rw [Sparse.get_erase_same]; exact ‹v = f k›.symm
  · exact Sparse.get_insert_same f m k v

/-- A write leaves every other key alone. -/
theorem Sparse.get_set_ne (f : Nat → α) (m : List (Nat × α)) {j k : Nat} (v : α) (h : j ≠ k) :
    Sparse.get f (Sparse.set f m k v) j = Sparse.get f m j := by
  unfold Sparse.set
  split
  · exact Sparse.get_erase_ne f m h
  · exact Sparse.get_insert_ne f m v h

theorem Sparse.wfFrom_mono (f : Nat → α) (m : List (Nat × α)) {i j : Nat} (hij : i ≤ j) (h : Sparse.wfFrom f j m = true) :
    Sparse.wfFrom f i m = true := by
  cases m with
  | nil => rfl
  | cons x t =>
    simp only [Sparse.wfFrom, Bool.and_eq_true, decide_eq_true_eq] at h ⊢
    exact ⟨⟨by omega, h.1.2⟩, h.2⟩

theorem Sparse.wfFrom_erase (f : Nat → α) (m : List (Nat × α)) (k : Nat) {lo : Nat} (h : Sparse.wfFrom f lo m = true) :
    Sparse.wfFrom f lo (Sparse.erase m k) = true := by
  induction m generalizing lo with
  | nil => rfl
  | cons x t ih =>
    obtain ⟨a, w⟩ := x
    simp only [Sparse.wfFrom, Bool.and_eq_true, decide_eq_true_eq] at h
    unfold Sparse.erase
    split
    · exact Sparse.wfFrom_mono f _ (by omega) (ih h.2)
    · simp only [Sparse.wfFrom, Bool.and_eq_true, decide_eq_true_eq]
      exact ⟨h.1, ih h.2⟩

theorem Sparse.wfFrom_insert (f : Nat → α) (m : List (Nat × α)) {k lo : Nat} {v : α} (hv : v ≠ f k) (hk : lo ≤ k)
    (h : Sparse.wfFrom f lo m = true) : Sparse.wfFrom f lo (Sparse.insert m k v) = true := by
  induction m generalizing lo with
  | nil => simp [Sparse.insert, Sparse.wfFrom, hv, hk]
  | cons x t ih =>
    obtain ⟨a, w⟩ := x
    simp only [Sparse.wfFrom, Bool.and_eq_true, decide_eq_true_eq] at h
    unfold Sparse.insert
    split
    · simp only [Sparse.wfFrom, Bool.and_eq_true, decide_eq_true_eq]
      exact ⟨⟨hk, hv⟩, ⟨by omega, h.1.2⟩, h.2⟩
    · split
      · subst a
        simp only [Sparse.wfFrom, Bool.and_eq_true, decide_eq_true_eq]
        exact ⟨⟨hk, hv⟩, h.2⟩
      · simp only [Sparse.wfFrom, Bool.and_eq_true, decide_eq_true_eq]
        exact ⟨h.1, ih (by omega) h.2⟩

/-- A write keeps the canonical form. -/
theorem Sparse.wf_set (f : Nat → α) {m : List (Nat × α)} (k : Nat) (v : α) (h : Sparse.wf f m = true) :
    Sparse.wf f (Sparse.set f m k v) = true := by
  unfold Sparse.set Sparse.wf at *
  split
  · exact Sparse.wfFrom_erase f m k h
  · exact Sparse.wfFrom_insert f m ‹_› (Nat.zero_le k) h

theorem Sparse.wfFrom_filter (f : Nat → α) (p : Nat × α → Bool) {m : List (Nat × α)} {lo : Nat} (h : Sparse.wfFrom f lo m = true) :
    Sparse.wfFrom f lo (m.filter p) = true := by
  induction m generalizing lo with
  | nil => rfl
  | cons x t ih =>
    obtain ⟨a, w⟩ := x
    simp only [Sparse.wfFrom, Bool.and_eq_true, decide_eq_true_eq] at h
    rw [List.filter_cons]
    split
    · simp only [Sparse.wfFrom, Bool.and_eq_true, decide_eq_true_eq]
      exact ⟨h.1, ih h.2⟩
    · exact Sparse.wfFrom_mono f _ (by omega) (ih h.2)

/-! ### Byte memories -/

@[simp] theorem Mem.byte_setByte_same (m : List (Nat × Byte)) (a : Nat) (v : Byte) : Mem.byte (Mem.setByte m a v) a = v :=
  Sparse.get_set_same ..

theorem Mem.byte_setByte_ne (m : List (Nat × Byte)) {a b : Nat} (v : Byte) (h : b ≠ a) : Mem.byte (Mem.setByte m a v) b = Mem.byte m b :=
  Sparse.get_set_ne _ _ _ h

theorem Mem.wf_setByte {m : List (Nat × Byte)} (a : Nat) (v : Byte) (h : Mem.wf m = true) : Mem.wf (Mem.setByte m a v) = true :=
  Sparse.wf_set _ _ _ h

theorem Mem.wf_setWord {m : List (Nat × Byte)} (a : Nat) (w : Word) (h : Mem.wf m = true) : Mem.wf (Mem.setWord m a w) = true :=
  Mem.wf_setByte _ _ (Mem.wf_setByte _ _ (Mem.wf_setByte _ _ (Mem.wf_setByte _ _ h)))

/-- A word write leaves every byte outside its four alone. -/
theorem Mem.byte_setWord_ne (m : List (Nat × Byte)) {a b : Nat} (w : Word) (h : b < a ∨ a + 4 ≤ b) :
    Mem.byte (Mem.setWord m a w) b = Mem.byte m b := by
  unfold Mem.setWord
  rw [Mem.byte_setByte_ne _ _ (by omega), Mem.byte_setByte_ne _ _ (by omega), Mem.byte_setByte_ne _ _ (by omega),
    Mem.byte_setByte_ne _ _ (by omega)]

/-- A read of the word just written gives it back. -/
theorem Mem.word_setWord (m : List (Nat × Byte)) (a : Nat) (w : Word) : Mem.word (Mem.setWord m a w) a = w := by
  have h0 : Mem.byte (Mem.setWord m a w) a = w.extractLsb' 0 8 := by
    unfold Mem.setWord
    rw [Mem.byte_setByte_ne _ _ (by omega), Mem.byte_setByte_ne _ _ (by omega), Mem.byte_setByte_ne _ _ (by omega), Mem.byte_setByte_same]
  have h1 : Mem.byte (Mem.setWord m a w) (a + 1) = w.extractLsb' 8 8 := by
    unfold Mem.setWord
    rw [Mem.byte_setByte_ne _ _ (by omega), Mem.byte_setByte_ne _ _ (by omega), Mem.byte_setByte_same]
  have h2 : Mem.byte (Mem.setWord m a w) (a + 2) = w.extractLsb' 16 8 := by
    unfold Mem.setWord
    rw [Mem.byte_setByte_ne _ _ (by omega), Mem.byte_setByte_same]
  have h3 : Mem.byte (Mem.setWord m a w) (a + 3) = w.extractLsb' 24 8 := by
    unfold Mem.setWord
    rw [Mem.byte_setByte_same]
  unfold Mem.word
  rw [h0, h1, h2, h3]
  ext i hi
  simp only [BitVec.getElem_append, BitVec.getElem_extractLsb']
  repeat' split
  all_goals (rw [← BitVec.getLsbD_eq_getElem]; congr 1; omega)

/-- Clearing a range keeps the canonical form. -/
theorem Mem.wf_clear {m : List (Nat × Byte)} (lo hi : Nat) (h : Mem.wf m = true) : Mem.wf (Mem.clear m lo hi) = true :=
  Sparse.wfFrom_filter _ _ h

/-! ### Arrays -/

@[simp] theorem vget_vset_same {β : Type} [Inhabited β] {n i : Nat} (v : Vector β n) (x : β) (h : i < n) : vget (vset v i x) i = x := by
  simp [vget, vset, h]

theorem vget_vset_ne {β : Type} [Inhabited β] {n i j : Nat} (v : Vector β n) (x : β) (h : j ≠ i) : vget (vset v i x) j = vget v j := by
  unfold vget vset
  by_cases hj : j < n
  · rw [Vector.getElem?_eq_getElem hj, Vector.getElem?_eq_getElem hj, Vector.getElem_setIfInBounds_ne hj (Ne.symm h)]
  · rw [Vector.getElem?_eq_none (by omega), Vector.getElem?_eq_none (by omega)]

end Sys2Proof.Machine
end

