-- ==== Sys2Proof/Laws/Fields.lean ====
section
/-! SUPPORT. The laws of registers and fields: what a read gives after a write of the same field, of another one, of another register. -/
namespace Sys2Proof.Machine

@[simp] theorem Dev.rd_wr_same (d : Dev) (a : Nat) (w : Word) : (d.wr a w).rd a = w := Sparse.get_set_same ..

theorem Dev.rd_wr_ne (d : Dev) {a b : Nat} (w : Word) (h : b ≠ a) : (d.wr a w).rd b = d.rd b := Sparse.get_set_ne _ _ _ h

theorem fieldMask_getLsbD (lo width i : Nat) : (fieldMask lo width).getLsbD i = (decide (i < 32) && decide (lo ≤ i) && decide (i < lo + width)) := by
  unfold fieldMask
  rw [BitVec.getLsbD_ofNat, Nat.testBit_mul_two_pow, Nat.testBit_two_pow_sub_one]
  by_cases h1 : i < 32 <;> by_cases h2 : lo ≤ i <;> by_cases h3 : i < lo + width <;> simp [h1, h2, h3] <;> omega

theorem Field.read_testBit (x : Field) (w : Word) (i : Nat) : (x.read w).testBit i = (decide (i < x.width) && w.getLsbD (x.lo + i)) := by
  unfold Field.read
  rw [Nat.testBit_mod_two_pow, BitVec.testBit_toNat, BitVec.getLsbD_ushiftRight]

theorem Field.write_getLsbD (x : Field) (v : Nat) (w : Word) (i : Nat) (hi : i < 32) :
    (x.write v w).getLsbD i = if x.lo ≤ i ∧ i < x.lo + x.width then v.testBit (i - x.lo) else w.getLsbD i := by
  unfold Field.write
  have h32 : i - x.lo < 32 := by omega
  simp only [BitVec.getLsbD_or, BitVec.getLsbD_and, BitVec.getLsbD_not, BitVec.getLsbD_shiftLeft, BitVec.getLsbD_ofNat, fieldMask_getLsbD, hi, h32]
  by_cases h2 : x.lo ≤ i
  · by_cases h3 : i < x.lo + x.width
    · simp [h2, h3, Nat.not_lt.2 h2]
    · simp [h2, h3]
  · simp [h2]

/-- A field reads the low bits of the value just written to it. -/
theorem Field.read_write_same (x : Field) (v : Nat) (w : Word) (h : x.lo + x.width ≤ 32) : x.read (x.write v w) = v % 2 ^ x.width := by
  apply Nat.eq_of_testBit_eq
  intro i
  rw [Field.read_testBit, Nat.testBit_mod_two_pow]
  by_cases hi : i < x.width
  · rw [Field.write_getLsbD _ _ _ _ (by omega)]
    simp [hi]
  · simp [hi]

/-- A field reads the same after a write of a field that shares no bit with it. -/
theorem Field.read_write_apart (x y : Field) (v : Nat) (w : Word) (h : x.lo + x.width ≤ y.lo ∨ y.lo + y.width ≤ x.lo) :
    x.read (y.write v w) = x.read w := by
  apply Nat.eq_of_testBit_eq
  intro i
  rw [Field.read_testBit, Field.read_testBit]
  by_cases hi : i < x.width
  · by_cases h32 : x.lo + i < 32
    · rw [Field.write_getLsbD _ _ _ _ h32, if_neg (by omega)]
    · rw [BitVec.getLsbD_of_ge _ _ (by omega), BitVec.getLsbD_of_ge _ _ (by omega)]
  · simp [hi]

/-- The value of a field just set. -/
theorem Dev.f_set_same (d : Dev) (x : Field) (v : Nat) (h : x.lo + x.width ≤ 32) : (d.set x v).f x = v % 2 ^ x.width := by
  unfold Dev.f Dev.set
  rw [Dev.rd_wr_same, Field.read_write_same _ _ _ h]

/-- A field that shares no bit with the one just set. -/
theorem Dev.f_set_apart (d : Dev) {x y : Field} (v : Nat) (h : x.apart y = true) : (d.set y v).f x = d.f x := by
  unfold Dev.f Dev.set
  by_cases ha : x.addr = y.addr
  · rw [ha, Dev.rd_wr_same]
    apply Field.read_write_apart
    simpa [Field.apart, ha] using h
  · rw [Dev.rd_wr_ne _ _ ha]

/-- A field of another register. -/
theorem Dev.f_set_ne (d : Dev) {x y : Field} (v : Nat) (h : x.addr ≠ y.addr) : (d.set y v).f x = d.f x :=
  Dev.f_set_apart d v (by simp [Field.apart, h])

theorem Dev.f_wr_apart (d : Dev) {x : Field} {a : Nat} (w : Word) (h : x.apart (whole a) = true) (hw : x.lo < 32) (h0 : 0 < x.width) :
    (d.wr a w).f x = d.f x := by
  unfold Dev.f
  rw [Dev.rd_wr_ne]
  intro ha
  simp [Field.apart, whole, ha] at h
  omega

theorem Dev.rd_set_ne (d : Dev) {x : Field} {a : Nat} (v : Nat) (h : a ≠ x.addr) : (d.set x v).rd a = d.rd a := Dev.rd_wr_ne _ _ h

/-- A field's value fits its width. -/
theorem Dev.f_lt (d : Dev) (x : Field) : d.f x < 2 ^ x.width := Nat.mod_lt _ (Nat.two_pow_pos _)

/-- A field that has just taken the value of another of its width. -/
theorem Dev.f_set_f (d e : Dev) (x y : Field) (h : x.lo + x.width ≤ 32) (hw : y.width = x.width) : (d.set x (e.f y)).f x = e.f y := by
  rw [Dev.f_set_same _ _ _ h, ← hw, Nat.mod_eq_of_lt (e.f_lt y)]

/-- A field that has just taken a value that fits it. -/
theorem Dev.f_set_lt (d : Dev) (x : Field) (v : Nat) (h : x.lo + x.width ≤ 32) (hv : v < 2 ^ x.width) : (d.set x v).f x = v := by
  rw [Dev.f_set_same _ _ _ h, Nat.mod_eq_of_lt hv]

/-- A field depends on the registers alone. -/
theorem Dev.f_congr {d e : Dev} (h : e.regs = d.regs) (x : Field) : e.f x = d.f x := by
  unfold Dev.f Dev.rd; rw [h]

theorem Dev.rd_congr {d e : Dev} (h : e.regs = d.regs) (a : Nat) : e.rd a = d.rd a := by
  unfold Dev.rd; rw [h]

/-- The bit of a number changed by `withBit`. -/
theorem withBit_testBit (v i j : Nat) (b : Bool) : (withBit v i b).testBit j = if j = i then b else v.testBit j := by
  unfold withBit
  by_cases h : v.testBit i = b
  · rw [if_pos (by simpa using h)]
    split
    · subst j; exact h
    · rfl
  · rw [if_neg (by simpa using h), Nat.testBit_xor, Nat.testBit_two_pow]
    by_cases hj : j = i
    · subst j; cases b <;> simp_all
    · simp [hj, Ne.symm hj]

end Sys2Proof.Machine
end

