-- ==== Sys2Proof/Laws/State.lean ====
section
/-! SUPPORT. One law for each part of the state under each named update of it, true by rfl. -/
namespace Sys2Proof.Machine

@[simp] theorem Dev.putRegs_regs (d : Dev) (x : List (Nat × Word)) : (d.putRegs x).regs = x := rfl
@[simp] theorem Dev.putRegs_raised (d : Dev) (x : List (Nat × Word)) : (d.putRegs x).raised = d.raised := rfl
@[simp] theorem Dev.putRegs_faults (d : Dev) (x : List (Nat × Word)) : (d.putRegs x).faults = d.faults := rfl
@[simp] theorem Dev.putRegs_freeCount (d : Dev) (x : List (Nat × Word)) : (d.putRegs x).freeCount = d.freeCount := rfl
@[simp] theorem Dev.putRegs_pw (d : Dev) (x : List (Nat × Word)) : (d.putRegs x).pw = d.pw := rfl
@[simp] theorem Dev.putRegs_balls (d : Dev) (x : List (Nat × Word)) : (d.putRegs x).balls = d.balls := rfl
@[simp] theorem Dev.putRegs_slots (d : Dev) (x : List (Nat × Word)) : (d.putRegs x).slots = d.slots := rfl
@[simp] theorem Dev.putRegs_boot (d : Dev) (x : List (Nat × Word)) : (d.putRegs x).boot = d.boot := rfl
@[simp] theorem Dev.putRegs_live (d : Dev) (x : List (Nat × Word)) : (d.putRegs x).live = d.live := rfl
@[simp] theorem Dev.putRegs_keys (d : Dev) (x : List (Nat × Word)) : (d.putRegs x).keys = d.keys := rfl
@[simp] theorem Dev.putRegs_host (d : Dev) (x : List (Nat × Word)) : (d.putRegs x).host = d.host := rfl
@[simp] theorem Dev.putRegs_ev (d : Dev) (x : List (Nat × Word)) : (d.putRegs x).ev = d.ev := rfl
@[simp] theorem Dev.putRegs_img (d : Dev) (x : List (Nat × Word)) : (d.putRegs x).img = d.img := rfl
@[simp] theorem Dev.putRegs_tile (d : Dev) (x : List (Nat × Word)) : (d.putRegs x).tile = d.tile := rfl
@[simp] theorem Dev.putRegs_fmap (d : Dev) (x : List (Nat × Word)) : (d.putRegs x).fmap = d.fmap := rfl
@[simp] theorem Dev.putRegs_course (d : Dev) (x : List (Nat × Word)) : (d.putRegs x).course = d.course := rfl
@[simp] theorem Dev.putRegs_sys (d : Dev) (x : List (Nat × Word)) : (d.putRegs x).sys = d.sys := rfl
@[simp] theorem Dev.putRegs_port (d : Dev) (x : List (Nat × Word)) : (d.putRegs x).port = d.port := rfl
@[simp] theorem Dev.putRegs_path (d : Dev) (x : List (Nat × Word)) : (d.putRegs x).path = d.path := rfl
@[simp] theorem Dev.putRegs_chg (d : Dev) (x : List (Nat × Word)) : (d.putRegs x).chg = d.chg := rfl
@[simp] theorem Dev.putRegs_ret (d : Dev) (x : List (Nat × Word)) : (d.putRegs x).ret = d.ret := rfl
@[simp] theorem Dev.putRegs_log (d : Dev) (x : List (Nat × Word)) : (d.putRegs x).log = d.log := rfl
@[simp] theorem Dev.putRegs_lamp (d : Dev) (x : List (Nat × Word)) : (d.putRegs x).lamp = d.lamp := rfl
@[simp] theorem Dev.putRegs_ring (d : Dev) (x : List (Nat × Word)) : (d.putRegs x).ring = d.ring := rfl
@[simp] theorem Dev.putRegs_serv (d : Dev) (x : List (Nat × Word)) : (d.putRegs x).serv = d.serv := rfl
@[simp] theorem Dev.putRegs_ptb (d : Dev) (x : List (Nat × Word)) : (d.putRegs x).ptb = d.ptb := rfl
@[simp] theorem Dev.putRegs_slotPos (d : Dev) (x : List (Nat × Word)) : (d.putRegs x).slotPos = d.slotPos := rfl
@[simp] theorem Dev.putRegs_gtSet (d : Dev) (x : List (Nat × Word)) : (d.putRegs x).gtSet = d.gtSet := rfl
@[simp] theorem Dev.putRegs_lens (d : Dev) (x : List (Nat × Word)) : (d.putRegs x).lens = d.lens := rfl
@[simp] theorem Dev.putRegs_sensor (d : Dev) (x : List (Nat × Word)) : (d.putRegs x).sensor = d.sensor := rfl
@[simp] theorem Dev.putRegs_wdt (d : Dev) (x : List (Nat × Word)) : (d.putRegs x).wdt = d.wdt := rfl
@[simp] theorem Dev.putRegs_prism (d : Dev) (x : List (Nat × Word)) : (d.putRegs x).prism = d.prism := rfl
@[simp] theorem Dev.putRegs_cap (d : Dev) (x : List (Nat × Word)) : (d.putRegs x).cap = d.cap := rfl
@[simp] theorem Dev.putRegs_nand (d : Dev) (x : List (Nat × Word)) : (d.putRegs x).nand = d.nand := rfl
@[simp] theorem Dev.putRegs_recov (d : Dev) (x : List (Nat × Word)) : (d.putRegs x).recov = d.recov := rfl
@[simp] theorem Dev.putRegs_tap (d : Dev) (x : List (Nat × Word)) : (d.putRegs x).tap = d.tap := rfl
@[simp] theorem Dev.putRegs_nv (d : Dev) (x : List (Nat × Word)) : (d.putRegs x).nv = d.nv := rfl
@[simp] theorem Dev.putRegs_sram (d : Dev) (x : List (Nat × Word)) : (d.putRegs x).sram = d.sram := rfl
@[simp] theorem Dev.putRegs_readData (d : Dev) (x : List (Nat × Word)) : (d.putRegs x).readData = d.readData := rfl

@[simp] theorem Dev.putRaised_regs (d : Dev) (x : List (Nat × Nat)) : (d.putRaised x).regs = d.regs := rfl
@[simp] theorem Dev.putRaised_raised (d : Dev) (x : List (Nat × Nat)) : (d.putRaised x).raised = x := rfl
@[simp] theorem Dev.putRaised_faults (d : Dev) (x : List (Nat × Nat)) : (d.putRaised x).faults = d.faults := rfl
@[simp] theorem Dev.putRaised_freeCount (d : Dev) (x : List (Nat × Nat)) : (d.putRaised x).freeCount = d.freeCount := rfl
@[simp] theorem Dev.putRaised_pw (d : Dev) (x : List (Nat × Nat)) : (d.putRaised x).pw = d.pw := rfl
@[simp] theorem Dev.putRaised_balls (d : Dev) (x : List (Nat × Nat)) : (d.putRaised x).balls = d.balls := rfl
@[simp] theorem Dev.putRaised_slots (d : Dev) (x : List (Nat × Nat)) : (d.putRaised x).slots = d.slots := rfl
@[simp] theorem Dev.putRaised_boot (d : Dev) (x : List (Nat × Nat)) : (d.putRaised x).boot = d.boot := rfl
@[simp] theorem Dev.putRaised_live (d : Dev) (x : List (Nat × Nat)) : (d.putRaised x).live = d.live := rfl
@[simp] theorem Dev.putRaised_keys (d : Dev) (x : List (Nat × Nat)) : (d.putRaised x).keys = d.keys := rfl
@[simp] theorem Dev.putRaised_host (d : Dev) (x : List (Nat × Nat)) : (d.putRaised x).host = d.host := rfl
@[simp] theorem Dev.putRaised_ev (d : Dev) (x : List (Nat × Nat)) : (d.putRaised x).ev = d.ev := rfl
@[simp] theorem Dev.putRaised_img (d : Dev) (x : List (Nat × Nat)) : (d.putRaised x).img = d.img := rfl
@[simp] theorem Dev.putRaised_tile (d : Dev) (x : List (Nat × Nat)) : (d.putRaised x).tile = d.tile := rfl
@[simp] theorem Dev.putRaised_fmap (d : Dev) (x : List (Nat × Nat)) : (d.putRaised x).fmap = d.fmap := rfl
@[simp] theorem Dev.putRaised_course (d : Dev) (x : List (Nat × Nat)) : (d.putRaised x).course = d.course := rfl
@[simp] theorem Dev.putRaised_sys (d : Dev) (x : List (Nat × Nat)) : (d.putRaised x).sys = d.sys := rfl
@[simp] theorem Dev.putRaised_port (d : Dev) (x : List (Nat × Nat)) : (d.putRaised x).port = d.port := rfl
@[simp] theorem Dev.putRaised_path (d : Dev) (x : List (Nat × Nat)) : (d.putRaised x).path = d.path := rfl
@[simp] theorem Dev.putRaised_chg (d : Dev) (x : List (Nat × Nat)) : (d.putRaised x).chg = d.chg := rfl
@[simp] theorem Dev.putRaised_ret (d : Dev) (x : List (Nat × Nat)) : (d.putRaised x).ret = d.ret := rfl
@[simp] theorem Dev.putRaised_log (d : Dev) (x : List (Nat × Nat)) : (d.putRaised x).log = d.log := rfl
@[simp] theorem Dev.putRaised_lamp (d : Dev) (x : List (Nat × Nat)) : (d.putRaised x).lamp = d.lamp := rfl
@[simp] theorem Dev.putRaised_ring (d : Dev) (x : List (Nat × Nat)) : (d.putRaised x).ring = d.ring := rfl
@[simp] theorem Dev.putRaised_serv (d : Dev) (x : List (Nat × Nat)) : (d.putRaised x).serv = d.serv := rfl
@[simp] theorem Dev.putRaised_ptb (d : Dev) (x : List (Nat × Nat)) : (d.putRaised x).ptb = d.ptb := rfl
@[simp] theorem Dev.putRaised_slotPos (d : Dev) (x : List (Nat × Nat)) : (d.putRaised x).slotPos = d.slotPos := rfl
@[simp] theorem Dev.putRaised_gtSet (d : Dev) (x : List (Nat × Nat)) : (d.putRaised x).gtSet = d.gtSet := rfl
@[simp] theorem Dev.putRaised_lens (d : Dev) (x : List (Nat × Nat)) : (d.putRaised x).lens = d.lens := rfl
@[simp] theorem Dev.putRaised_sensor (d : Dev) (x : List (Nat × Nat)) : (d.putRaised x).sensor = d.sensor := rfl
@[simp] theorem Dev.putRaised_wdt (d : Dev) (x : List (Nat × Nat)) : (d.putRaised x).wdt = d.wdt := rfl
@[simp] theorem Dev.putRaised_prism (d : Dev) (x : List (Nat × Nat)) : (d.putRaised x).prism = d.prism := rfl
@[simp] theorem Dev.putRaised_cap (d : Dev) (x : List (Nat × Nat)) : (d.putRaised x).cap = d.cap := rfl
@[simp] theorem Dev.putRaised_nand (d : Dev) (x : List (Nat × Nat)) : (d.putRaised x).nand = d.nand := rfl
@[simp] theorem Dev.putRaised_recov (d : Dev) (x : List (Nat × Nat)) : (d.putRaised x).recov = d.recov := rfl
@[simp] theorem Dev.putRaised_tap (d : Dev) (x : List (Nat × Nat)) : (d.putRaised x).tap = d.tap := rfl
@[simp] theorem Dev.putRaised_nv (d : Dev) (x : List (Nat × Nat)) : (d.putRaised x).nv = d.nv := rfl
@[simp] theorem Dev.putRaised_sram (d : Dev) (x : List (Nat × Nat)) : (d.putRaised x).sram = d.sram := rfl
@[simp] theorem Dev.putRaised_readData (d : Dev) (x : List (Nat × Nat)) : (d.putRaised x).readData = d.readData := rfl

@[simp] theorem Dev.putFaults_regs (d : Dev) (x : List LogReq) : (d.putFaults x).regs = d.regs := rfl
@[simp] theorem Dev.putFaults_raised (d : Dev) (x : List LogReq) : (d.putFaults x).raised = d.raised := rfl
@[simp] theorem Dev.putFaults_faults (d : Dev) (x : List LogReq) : (d.putFaults x).faults = x := rfl
@[simp] theorem Dev.putFaults_freeCount (d : Dev) (x : List LogReq) : (d.putFaults x).freeCount = d.freeCount := rfl
@[simp] theorem Dev.putFaults_pw (d : Dev) (x : List LogReq) : (d.putFaults x).pw = d.pw := rfl
@[simp] theorem Dev.putFaults_balls (d : Dev) (x : List LogReq) : (d.putFaults x).balls = d.balls := rfl
@[simp] theorem Dev.putFaults_slots (d : Dev) (x : List LogReq) : (d.putFaults x).slots = d.slots := rfl
@[simp] theorem Dev.putFaults_boot (d : Dev) (x : List LogReq) : (d.putFaults x).boot = d.boot := rfl
@[simp] theorem Dev.putFaults_live (d : Dev) (x : List LogReq) : (d.putFaults x).live = d.live := rfl
@[simp] theorem Dev.putFaults_keys (d : Dev) (x : List LogReq) : (d.putFaults x).keys = d.keys := rfl
@[simp] theorem Dev.putFaults_host (d : Dev) (x : List LogReq) : (d.putFaults x).host = d.host := rfl
@[simp] theorem Dev.putFaults_ev (d : Dev) (x : List LogReq) : (d.putFaults x).ev = d.ev := rfl
@[simp] theorem Dev.putFaults_img (d : Dev) (x : List LogReq) : (d.putFaults x).img = d.img := rfl
@[simp] theorem Dev.putFaults_tile (d : Dev) (x : List LogReq) : (d.putFaults x).tile = d.tile := rfl
@[simp] theorem Dev.putFaults_fmap (d : Dev) (x : List LogReq) : (d.putFaults x).fmap = d.fmap := rfl
@[simp] theorem Dev.putFaults_course (d : Dev) (x : List LogReq) : (d.putFaults x).course = d.course := rfl
@[simp] theorem Dev.putFaults_sys (d : Dev) (x : List LogReq) : (d.putFaults x).sys = d.sys := rfl
@[simp] theorem Dev.putFaults_port (d : Dev) (x : List LogReq) : (d.putFaults x).port = d.port := rfl
@[simp] theorem Dev.putFaults_path (d : Dev) (x : List LogReq) : (d.putFaults x).path = d.path := rfl
@[simp] theorem Dev.putFaults_chg (d : Dev) (x : List LogReq) : (d.putFaults x).chg = d.chg := rfl
@[simp] theorem Dev.putFaults_ret (d : Dev) (x : List LogReq) : (d.putFaults x).ret = d.ret := rfl
@[simp] theorem Dev.putFaults_log (d : Dev) (x : List LogReq) : (d.putFaults x).log = d.log := rfl
@[simp] theorem Dev.putFaults_lamp (d : Dev) (x : List LogReq) : (d.putFaults x).lamp = d.lamp := rfl
@[simp] theorem Dev.putFaults_ring (d : Dev) (x : List LogReq) : (d.putFaults x).ring = d.ring := rfl
@[simp] theorem Dev.putFaults_serv (d : Dev) (x : List LogReq) : (d.putFaults x).serv = d.serv := rfl
@[simp] theorem Dev.putFaults_ptb (d : Dev) (x : List LogReq) : (d.putFaults x).ptb = d.ptb := rfl
@[simp] theorem Dev.putFaults_slotPos (d : Dev) (x : List LogReq) : (d.putFaults x).slotPos = d.slotPos := rfl
@[simp] theorem Dev.putFaults_gtSet (d : Dev) (x : List LogReq) : (d.putFaults x).gtSet = d.gtSet := rfl
@[simp] theorem Dev.putFaults_lens (d : Dev) (x : List LogReq) : (d.putFaults x).lens = d.lens := rfl
@[simp] theorem Dev.putFaults_sensor (d : Dev) (x : List LogReq) : (d.putFaults x).sensor = d.sensor := rfl
@[simp] theorem Dev.putFaults_wdt (d : Dev) (x : List LogReq) : (d.putFaults x).wdt = d.wdt := rfl
@[simp] theorem Dev.putFaults_prism (d : Dev) (x : List LogReq) : (d.putFaults x).prism = d.prism := rfl
@[simp] theorem Dev.putFaults_cap (d : Dev) (x : List LogReq) : (d.putFaults x).cap = d.cap := rfl
@[simp] theorem Dev.putFaults_nand (d : Dev) (x : List LogReq) : (d.putFaults x).nand = d.nand := rfl
@[simp] theorem Dev.putFaults_recov (d : Dev) (x : List LogReq) : (d.putFaults x).recov = d.recov := rfl
@[simp] theorem Dev.putFaults_tap (d : Dev) (x : List LogReq) : (d.putFaults x).tap = d.tap := rfl
@[simp] theorem Dev.putFaults_nv (d : Dev) (x : List LogReq) : (d.putFaults x).nv = d.nv := rfl
@[simp] theorem Dev.putFaults_sram (d : Dev) (x : List LogReq) : (d.putFaults x).sram = d.sram := rfl
@[simp] theorem Dev.putFaults_readData (d : Dev) (x : List LogReq) : (d.putFaults x).readData = d.readData := rfl

@[simp] theorem Dev.putFreeCount_regs (d : Dev) (x : Nat) : (d.putFreeCount x).regs = d.regs := rfl
@[simp] theorem Dev.putFreeCount_raised (d : Dev) (x : Nat) : (d.putFreeCount x).raised = d.raised := rfl
@[simp] theorem Dev.putFreeCount_faults (d : Dev) (x : Nat) : (d.putFreeCount x).faults = d.faults := rfl
@[simp] theorem Dev.putFreeCount_freeCount (d : Dev) (x : Nat) : (d.putFreeCount x).freeCount = x := rfl
@[simp] theorem Dev.putFreeCount_pw (d : Dev) (x : Nat) : (d.putFreeCount x).pw = d.pw := rfl
@[simp] theorem Dev.putFreeCount_balls (d : Dev) (x : Nat) : (d.putFreeCount x).balls = d.balls := rfl
@[simp] theorem Dev.putFreeCount_slots (d : Dev) (x : Nat) : (d.putFreeCount x).slots = d.slots := rfl
@[simp] theorem Dev.putFreeCount_boot (d : Dev) (x : Nat) : (d.putFreeCount x).boot = d.boot := rfl
@[simp] theorem Dev.putFreeCount_live (d : Dev) (x : Nat) : (d.putFreeCount x).live = d.live := rfl
@[simp] theorem Dev.putFreeCount_keys (d : Dev) (x : Nat) : (d.putFreeCount x).keys = d.keys := rfl
@[simp] theorem Dev.putFreeCount_host (d : Dev) (x : Nat) : (d.putFreeCount x).host = d.host := rfl
@[simp] theorem Dev.putFreeCount_ev (d : Dev) (x : Nat) : (d.putFreeCount x).ev = d.ev := rfl
@[simp] theorem Dev.putFreeCount_img (d : Dev) (x : Nat) : (d.putFreeCount x).img = d.img := rfl
@[simp] theorem Dev.putFreeCount_tile (d : Dev) (x : Nat) : (d.putFreeCount x).tile = d.tile := rfl
@[simp] theorem Dev.putFreeCount_fmap (d : Dev) (x : Nat) : (d.putFreeCount x).fmap = d.fmap := rfl
@[simp] theorem Dev.putFreeCount_course (d : Dev) (x : Nat) : (d.putFreeCount x).course = d.course := rfl
@[simp] theorem Dev.putFreeCount_sys (d : Dev) (x : Nat) : (d.putFreeCount x).sys = d.sys := rfl
@[simp] theorem Dev.putFreeCount_port (d : Dev) (x : Nat) : (d.putFreeCount x).port = d.port := rfl
@[simp] theorem Dev.putFreeCount_path (d : Dev) (x : Nat) : (d.putFreeCount x).path = d.path := rfl
@[simp] theorem Dev.putFreeCount_chg (d : Dev) (x : Nat) : (d.putFreeCount x).chg = d.chg := rfl
@[simp] theorem Dev.putFreeCount_ret (d : Dev) (x : Nat) : (d.putFreeCount x).ret = d.ret := rfl
@[simp] theorem Dev.putFreeCount_log (d : Dev) (x : Nat) : (d.putFreeCount x).log = d.log := rfl
@[simp] theorem Dev.putFreeCount_lamp (d : Dev) (x : Nat) : (d.putFreeCount x).lamp = d.lamp := rfl
@[simp] theorem Dev.putFreeCount_ring (d : Dev) (x : Nat) : (d.putFreeCount x).ring = d.ring := rfl
@[simp] theorem Dev.putFreeCount_serv (d : Dev) (x : Nat) : (d.putFreeCount x).serv = d.serv := rfl
@[simp] theorem Dev.putFreeCount_ptb (d : Dev) (x : Nat) : (d.putFreeCount x).ptb = d.ptb := rfl
@[simp] theorem Dev.putFreeCount_slotPos (d : Dev) (x : Nat) : (d.putFreeCount x).slotPos = d.slotPos := rfl
@[simp] theorem Dev.putFreeCount_gtSet (d : Dev) (x : Nat) : (d.putFreeCount x).gtSet = d.gtSet := rfl
@[simp] theorem Dev.putFreeCount_lens (d : Dev) (x : Nat) : (d.putFreeCount x).lens = d.lens := rfl
@[simp] theorem Dev.putFreeCount_sensor (d : Dev) (x : Nat) : (d.putFreeCount x).sensor = d.sensor := rfl
@[simp] theorem Dev.putFreeCount_wdt (d : Dev) (x : Nat) : (d.putFreeCount x).wdt = d.wdt := rfl
@[simp] theorem Dev.putFreeCount_prism (d : Dev) (x : Nat) : (d.putFreeCount x).prism = d.prism := rfl
@[simp] theorem Dev.putFreeCount_cap (d : Dev) (x : Nat) : (d.putFreeCount x).cap = d.cap := rfl
@[simp] theorem Dev.putFreeCount_nand (d : Dev) (x : Nat) : (d.putFreeCount x).nand = d.nand := rfl
@[simp] theorem Dev.putFreeCount_recov (d : Dev) (x : Nat) : (d.putFreeCount x).recov = d.recov := rfl
@[simp] theorem Dev.putFreeCount_tap (d : Dev) (x : Nat) : (d.putFreeCount x).tap = d.tap := rfl
@[simp] theorem Dev.putFreeCount_nv (d : Dev) (x : Nat) : (d.putFreeCount x).nv = d.nv := rfl
@[simp] theorem Dev.putFreeCount_sram (d : Dev) (x : Nat) : (d.putFreeCount x).sram = d.sram := rfl
@[simp] theorem Dev.putFreeCount_readData (d : Dev) (x : Nat) : (d.putFreeCount x).readData = d.readData := rfl

@[simp] theorem Dev.putPw_regs (d : Dev) (x : PowerState) : (d.putPw x).regs = d.regs := rfl
@[simp] theorem Dev.putPw_raised (d : Dev) (x : PowerState) : (d.putPw x).raised = d.raised := rfl
@[simp] theorem Dev.putPw_faults (d : Dev) (x : PowerState) : (d.putPw x).faults = d.faults := rfl
@[simp] theorem Dev.putPw_freeCount (d : Dev) (x : PowerState) : (d.putPw x).freeCount = d.freeCount := rfl
@[simp] theorem Dev.putPw_pw (d : Dev) (x : PowerState) : (d.putPw x).pw = x := rfl
@[simp] theorem Dev.putPw_balls (d : Dev) (x : PowerState) : (d.putPw x).balls = d.balls := rfl
@[simp] theorem Dev.putPw_slots (d : Dev) (x : PowerState) : (d.putPw x).slots = d.slots := rfl
@[simp] theorem Dev.putPw_boot (d : Dev) (x : PowerState) : (d.putPw x).boot = d.boot := rfl
@[simp] theorem Dev.putPw_live (d : Dev) (x : PowerState) : (d.putPw x).live = d.live := rfl
@[simp] theorem Dev.putPw_keys (d : Dev) (x : PowerState) : (d.putPw x).keys = d.keys := rfl
@[simp] theorem Dev.putPw_host (d : Dev) (x : PowerState) : (d.putPw x).host = d.host := rfl
@[simp] theorem Dev.putPw_ev (d : Dev) (x : PowerState) : (d.putPw x).ev = d.ev := rfl
@[simp] theorem Dev.putPw_img (d : Dev) (x : PowerState) : (d.putPw x).img = d.img := rfl
@[simp] theorem Dev.putPw_tile (d : Dev) (x : PowerState) : (d.putPw x).tile = d.tile := rfl
@[simp] theorem Dev.putPw_fmap (d : Dev) (x : PowerState) : (d.putPw x).fmap = d.fmap := rfl
@[simp] theorem Dev.putPw_course (d : Dev) (x : PowerState) : (d.putPw x).course = d.course := rfl
@[simp] theorem Dev.putPw_sys (d : Dev) (x : PowerState) : (d.putPw x).sys = d.sys := rfl
@[simp] theorem Dev.putPw_port (d : Dev) (x : PowerState) : (d.putPw x).port = d.port := rfl
@[simp] theorem Dev.putPw_path (d : Dev) (x : PowerState) : (d.putPw x).path = d.path := rfl
@[simp] theorem Dev.putPw_chg (d : Dev) (x : PowerState) : (d.putPw x).chg = d.chg := rfl
@[simp] theorem Dev.putPw_ret (d : Dev) (x : PowerState) : (d.putPw x).ret = d.ret := rfl
@[simp] theorem Dev.putPw_log (d : Dev) (x : PowerState) : (d.putPw x).log = d.log := rfl
@[simp] theorem Dev.putPw_lamp (d : Dev) (x : PowerState) : (d.putPw x).lamp = d.lamp := rfl
@[simp] theorem Dev.putPw_ring (d : Dev) (x : PowerState) : (d.putPw x).ring = d.ring := rfl
@[simp] theorem Dev.putPw_serv (d : Dev) (x : PowerState) : (d.putPw x).serv = d.serv := rfl
@[simp] theorem Dev.putPw_ptb (d : Dev) (x : PowerState) : (d.putPw x).ptb = d.ptb := rfl
@[simp] theorem Dev.putPw_slotPos (d : Dev) (x : PowerState) : (d.putPw x).slotPos = d.slotPos := rfl
@[simp] theorem Dev.putPw_gtSet (d : Dev) (x : PowerState) : (d.putPw x).gtSet = d.gtSet := rfl
@[simp] theorem Dev.putPw_lens (d : Dev) (x : PowerState) : (d.putPw x).lens = d.lens := rfl
@[simp] theorem Dev.putPw_sensor (d : Dev) (x : PowerState) : (d.putPw x).sensor = d.sensor := rfl
@[simp] theorem Dev.putPw_wdt (d : Dev) (x : PowerState) : (d.putPw x).wdt = d.wdt := rfl
@[simp] theorem Dev.putPw_prism (d : Dev) (x : PowerState) : (d.putPw x).prism = d.prism := rfl
@[simp] theorem Dev.putPw_cap (d : Dev) (x : PowerState) : (d.putPw x).cap = d.cap := rfl
@[simp] theorem Dev.putPw_nand (d : Dev) (x : PowerState) : (d.putPw x).nand = d.nand := rfl
@[simp] theorem Dev.putPw_recov (d : Dev) (x : PowerState) : (d.putPw x).recov = d.recov := rfl
@[simp] theorem Dev.putPw_tap (d : Dev) (x : PowerState) : (d.putPw x).tap = d.tap := rfl
@[simp] theorem Dev.putPw_nv (d : Dev) (x : PowerState) : (d.putPw x).nv = d.nv := rfl
@[simp] theorem Dev.putPw_sram (d : Dev) (x : PowerState) : (d.putPw x).sram = d.sram := rfl
@[simp] theorem Dev.putPw_readData (d : Dev) (x : PowerState) : (d.putPw x).readData = d.readData := rfl

@[simp] theorem Dev.putBalls_regs (d : Dev) (x : Balls) : (d.putBalls x).regs = d.regs := rfl
@[simp] theorem Dev.putBalls_raised (d : Dev) (x : Balls) : (d.putBalls x).raised = d.raised := rfl
@[simp] theorem Dev.putBalls_faults (d : Dev) (x : Balls) : (d.putBalls x).faults = d.faults := rfl
@[simp] theorem Dev.putBalls_freeCount (d : Dev) (x : Balls) : (d.putBalls x).freeCount = d.freeCount := rfl
@[simp] theorem Dev.putBalls_pw (d : Dev) (x : Balls) : (d.putBalls x).pw = d.pw := rfl
@[simp] theorem Dev.putBalls_balls (d : Dev) (x : Balls) : (d.putBalls x).balls = x := rfl
@[simp] theorem Dev.putBalls_slots (d : Dev) (x : Balls) : (d.putBalls x).slots = d.slots := rfl
@[simp] theorem Dev.putBalls_boot (d : Dev) (x : Balls) : (d.putBalls x).boot = d.boot := rfl
@[simp] theorem Dev.putBalls_live (d : Dev) (x : Balls) : (d.putBalls x).live = d.live := rfl
@[simp] theorem Dev.putBalls_keys (d : Dev) (x : Balls) : (d.putBalls x).keys = d.keys := rfl
@[simp] theorem Dev.putBalls_host (d : Dev) (x : Balls) : (d.putBalls x).host = d.host := rfl
@[simp] theorem Dev.putBalls_ev (d : Dev) (x : Balls) : (d.putBalls x).ev = d.ev := rfl
@[simp] theorem Dev.putBalls_img (d : Dev) (x : Balls) : (d.putBalls x).img = d.img := rfl
@[simp] theorem Dev.putBalls_tile (d : Dev) (x : Balls) : (d.putBalls x).tile = d.tile := rfl
@[simp] theorem Dev.putBalls_fmap (d : Dev) (x : Balls) : (d.putBalls x).fmap = d.fmap := rfl
@[simp] theorem Dev.putBalls_course (d : Dev) (x : Balls) : (d.putBalls x).course = d.course := rfl
@[simp] theorem Dev.putBalls_sys (d : Dev) (x : Balls) : (d.putBalls x).sys = d.sys := rfl
@[simp] theorem Dev.putBalls_port (d : Dev) (x : Balls) : (d.putBalls x).port = d.port := rfl
@[simp] theorem Dev.putBalls_path (d : Dev) (x : Balls) : (d.putBalls x).path = d.path := rfl
@[simp] theorem Dev.putBalls_chg (d : Dev) (x : Balls) : (d.putBalls x).chg = d.chg := rfl
@[simp] theorem Dev.putBalls_ret (d : Dev) (x : Balls) : (d.putBalls x).ret = d.ret := rfl
@[simp] theorem Dev.putBalls_log (d : Dev) (x : Balls) : (d.putBalls x).log = d.log := rfl
@[simp] theorem Dev.putBalls_lamp (d : Dev) (x : Balls) : (d.putBalls x).lamp = d.lamp := rfl
@[simp] theorem Dev.putBalls_ring (d : Dev) (x : Balls) : (d.putBalls x).ring = d.ring := rfl
@[simp] theorem Dev.putBalls_serv (d : Dev) (x : Balls) : (d.putBalls x).serv = d.serv := rfl
@[simp] theorem Dev.putBalls_ptb (d : Dev) (x : Balls) : (d.putBalls x).ptb = d.ptb := rfl
@[simp] theorem Dev.putBalls_slotPos (d : Dev) (x : Balls) : (d.putBalls x).slotPos = d.slotPos := rfl
@[simp] theorem Dev.putBalls_gtSet (d : Dev) (x : Balls) : (d.putBalls x).gtSet = d.gtSet := rfl
@[simp] theorem Dev.putBalls_lens (d : Dev) (x : Balls) : (d.putBalls x).lens = d.lens := rfl
@[simp] theorem Dev.putBalls_sensor (d : Dev) (x : Balls) : (d.putBalls x).sensor = d.sensor := rfl
@[simp] theorem Dev.putBalls_wdt (d : Dev) (x : Balls) : (d.putBalls x).wdt = d.wdt := rfl
@[simp] theorem Dev.putBalls_prism (d : Dev) (x : Balls) : (d.putBalls x).prism = d.prism := rfl
@[simp] theorem Dev.putBalls_cap (d : Dev) (x : Balls) : (d.putBalls x).cap = d.cap := rfl
@[simp] theorem Dev.putBalls_nand (d : Dev) (x : Balls) : (d.putBalls x).nand = d.nand := rfl
@[simp] theorem Dev.putBalls_recov (d : Dev) (x : Balls) : (d.putBalls x).recov = d.recov := rfl
@[simp] theorem Dev.putBalls_tap (d : Dev) (x : Balls) : (d.putBalls x).tap = d.tap := rfl
@[simp] theorem Dev.putBalls_nv (d : Dev) (x : Balls) : (d.putBalls x).nv = d.nv := rfl
@[simp] theorem Dev.putBalls_sram (d : Dev) (x : Balls) : (d.putBalls x).sram = d.sram := rfl
@[simp] theorem Dev.putBalls_readData (d : Dev) (x : Balls) : (d.putBalls x).readData = d.readData := rfl

@[simp] theorem Dev.putSlots_regs (d : Dev) (x : Vector Slot 2) : (d.putSlots x).regs = d.regs := rfl
@[simp] theorem Dev.putSlots_raised (d : Dev) (x : Vector Slot 2) : (d.putSlots x).raised = d.raised := rfl
@[simp] theorem Dev.putSlots_faults (d : Dev) (x : Vector Slot 2) : (d.putSlots x).faults = d.faults := rfl
@[simp] theorem Dev.putSlots_freeCount (d : Dev) (x : Vector Slot 2) : (d.putSlots x).freeCount = d.freeCount := rfl
@[simp] theorem Dev.putSlots_pw (d : Dev) (x : Vector Slot 2) : (d.putSlots x).pw = d.pw := rfl
@[simp] theorem Dev.putSlots_balls (d : Dev) (x : Vector Slot 2) : (d.putSlots x).balls = d.balls := rfl
@[simp] theorem Dev.putSlots_slots (d : Dev) (x : Vector Slot 2) : (d.putSlots x).slots = x := rfl
@[simp] theorem Dev.putSlots_boot (d : Dev) (x : Vector Slot 2) : (d.putSlots x).boot = d.boot := rfl
@[simp] theorem Dev.putSlots_live (d : Dev) (x : Vector Slot 2) : (d.putSlots x).live = d.live := rfl
@[simp] theorem Dev.putSlots_keys (d : Dev) (x : Vector Slot 2) : (d.putSlots x).keys = d.keys := rfl
@[simp] theorem Dev.putSlots_host (d : Dev) (x : Vector Slot 2) : (d.putSlots x).host = d.host := rfl
@[simp] theorem Dev.putSlots_ev (d : Dev) (x : Vector Slot 2) : (d.putSlots x).ev = d.ev := rfl
@[simp] theorem Dev.putSlots_img (d : Dev) (x : Vector Slot 2) : (d.putSlots x).img = d.img := rfl
@[simp] theorem Dev.putSlots_tile (d : Dev) (x : Vector Slot 2) : (d.putSlots x).tile = d.tile := rfl
@[simp] theorem Dev.putSlots_fmap (d : Dev) (x : Vector Slot 2) : (d.putSlots x).fmap = d.fmap := rfl
@[simp] theorem Dev.putSlots_course (d : Dev) (x : Vector Slot 2) : (d.putSlots x).course = d.course := rfl
@[simp] theorem Dev.putSlots_sys (d : Dev) (x : Vector Slot 2) : (d.putSlots x).sys = d.sys := rfl
@[simp] theorem Dev.putSlots_port (d : Dev) (x : Vector Slot 2) : (d.putSlots x).port = d.port := rfl
@[simp] theorem Dev.putSlots_path (d : Dev) (x : Vector Slot 2) : (d.putSlots x).path = d.path := rfl
@[simp] theorem Dev.putSlots_chg (d : Dev) (x : Vector Slot 2) : (d.putSlots x).chg = d.chg := rfl
@[simp] theorem Dev.putSlots_ret (d : Dev) (x : Vector Slot 2) : (d.putSlots x).ret = d.ret := rfl
@[simp] theorem Dev.putSlots_log (d : Dev) (x : Vector Slot 2) : (d.putSlots x).log = d.log := rfl
@[simp] theorem Dev.putSlots_lamp (d : Dev) (x : Vector Slot 2) : (d.putSlots x).lamp = d.lamp := rfl
@[simp] theorem Dev.putSlots_ring (d : Dev) (x : Vector Slot 2) : (d.putSlots x).ring = d.ring := rfl
@[simp] theorem Dev.putSlots_serv (d : Dev) (x : Vector Slot 2) : (d.putSlots x).serv = d.serv := rfl
@[simp] theorem Dev.putSlots_ptb (d : Dev) (x : Vector Slot 2) : (d.putSlots x).ptb = d.ptb := rfl
@[simp] theorem Dev.putSlots_slotPos (d : Dev) (x : Vector Slot 2) : (d.putSlots x).slotPos = d.slotPos := rfl
@[simp] theorem Dev.putSlots_gtSet (d : Dev) (x : Vector Slot 2) : (d.putSlots x).gtSet = d.gtSet := rfl
@[simp] theorem Dev.putSlots_lens (d : Dev) (x : Vector Slot 2) : (d.putSlots x).lens = d.lens := rfl
@[simp] theorem Dev.putSlots_sensor (d : Dev) (x : Vector Slot 2) : (d.putSlots x).sensor = d.sensor := rfl
@[simp] theorem Dev.putSlots_wdt (d : Dev) (x : Vector Slot 2) : (d.putSlots x).wdt = d.wdt := rfl
@[simp] theorem Dev.putSlots_prism (d : Dev) (x : Vector Slot 2) : (d.putSlots x).prism = d.prism := rfl
@[simp] theorem Dev.putSlots_cap (d : Dev) (x : Vector Slot 2) : (d.putSlots x).cap = d.cap := rfl
@[simp] theorem Dev.putSlots_nand (d : Dev) (x : Vector Slot 2) : (d.putSlots x).nand = d.nand := rfl
@[simp] theorem Dev.putSlots_recov (d : Dev) (x : Vector Slot 2) : (d.putSlots x).recov = d.recov := rfl
@[simp] theorem Dev.putSlots_tap (d : Dev) (x : Vector Slot 2) : (d.putSlots x).tap = d.tap := rfl
@[simp] theorem Dev.putSlots_nv (d : Dev) (x : Vector Slot 2) : (d.putSlots x).nv = d.nv := rfl
@[simp] theorem Dev.putSlots_sram (d : Dev) (x : Vector Slot 2) : (d.putSlots x).sram = d.sram := rfl
@[simp] theorem Dev.putSlots_readData (d : Dev) (x : Vector Slot 2) : (d.putSlots x).readData = d.readData := rfl

@[simp] theorem Dev.putBoot_regs (d : Dev) (x : BootRecord) : (d.putBoot x).regs = d.regs := rfl
@[simp] theorem Dev.putBoot_raised (d : Dev) (x : BootRecord) : (d.putBoot x).raised = d.raised := rfl
@[simp] theorem Dev.putBoot_faults (d : Dev) (x : BootRecord) : (d.putBoot x).faults = d.faults := rfl
@[simp] theorem Dev.putBoot_freeCount (d : Dev) (x : BootRecord) : (d.putBoot x).freeCount = d.freeCount := rfl
@[simp] theorem Dev.putBoot_pw (d : Dev) (x : BootRecord) : (d.putBoot x).pw = d.pw := rfl
@[simp] theorem Dev.putBoot_balls (d : Dev) (x : BootRecord) : (d.putBoot x).balls = d.balls := rfl
@[simp] theorem Dev.putBoot_slots (d : Dev) (x : BootRecord) : (d.putBoot x).slots = d.slots := rfl
@[simp] theorem Dev.putBoot_boot (d : Dev) (x : BootRecord) : (d.putBoot x).boot = x := rfl
@[simp] theorem Dev.putBoot_live (d : Dev) (x : BootRecord) : (d.putBoot x).live = d.live := rfl
@[simp] theorem Dev.putBoot_keys (d : Dev) (x : BootRecord) : (d.putBoot x).keys = d.keys := rfl
@[simp] theorem Dev.putBoot_host (d : Dev) (x : BootRecord) : (d.putBoot x).host = d.host := rfl
@[simp] theorem Dev.putBoot_ev (d : Dev) (x : BootRecord) : (d.putBoot x).ev = d.ev := rfl
@[simp] theorem Dev.putBoot_img (d : Dev) (x : BootRecord) : (d.putBoot x).img = d.img := rfl
@[simp] theorem Dev.putBoot_tile (d : Dev) (x : BootRecord) : (d.putBoot x).tile = d.tile := rfl
@[simp] theorem Dev.putBoot_fmap (d : Dev) (x : BootRecord) : (d.putBoot x).fmap = d.fmap := rfl
@[simp] theorem Dev.putBoot_course (d : Dev) (x : BootRecord) : (d.putBoot x).course = d.course := rfl
@[simp] theorem Dev.putBoot_sys (d : Dev) (x : BootRecord) : (d.putBoot x).sys = d.sys := rfl
@[simp] theorem Dev.putBoot_port (d : Dev) (x : BootRecord) : (d.putBoot x).port = d.port := rfl
@[simp] theorem Dev.putBoot_path (d : Dev) (x : BootRecord) : (d.putBoot x).path = d.path := rfl
@[simp] theorem Dev.putBoot_chg (d : Dev) (x : BootRecord) : (d.putBoot x).chg = d.chg := rfl
@[simp] theorem Dev.putBoot_ret (d : Dev) (x : BootRecord) : (d.putBoot x).ret = d.ret := rfl
@[simp] theorem Dev.putBoot_log (d : Dev) (x : BootRecord) : (d.putBoot x).log = d.log := rfl
@[simp] theorem Dev.putBoot_lamp (d : Dev) (x : BootRecord) : (d.putBoot x).lamp = d.lamp := rfl
@[simp] theorem Dev.putBoot_ring (d : Dev) (x : BootRecord) : (d.putBoot x).ring = d.ring := rfl
@[simp] theorem Dev.putBoot_serv (d : Dev) (x : BootRecord) : (d.putBoot x).serv = d.serv := rfl
@[simp] theorem Dev.putBoot_ptb (d : Dev) (x : BootRecord) : (d.putBoot x).ptb = d.ptb := rfl
@[simp] theorem Dev.putBoot_slotPos (d : Dev) (x : BootRecord) : (d.putBoot x).slotPos = d.slotPos := rfl
@[simp] theorem Dev.putBoot_gtSet (d : Dev) (x : BootRecord) : (d.putBoot x).gtSet = d.gtSet := rfl
@[simp] theorem Dev.putBoot_lens (d : Dev) (x : BootRecord) : (d.putBoot x).lens = d.lens := rfl
@[simp] theorem Dev.putBoot_sensor (d : Dev) (x : BootRecord) : (d.putBoot x).sensor = d.sensor := rfl
@[simp] theorem Dev.putBoot_wdt (d : Dev) (x : BootRecord) : (d.putBoot x).wdt = d.wdt := rfl
@[simp] theorem Dev.putBoot_prism (d : Dev) (x : BootRecord) : (d.putBoot x).prism = d.prism := rfl
@[simp] theorem Dev.putBoot_cap (d : Dev) (x : BootRecord) : (d.putBoot x).cap = d.cap := rfl
@[simp] theorem Dev.putBoot_nand (d : Dev) (x : BootRecord) : (d.putBoot x).nand = d.nand := rfl
@[simp] theorem Dev.putBoot_recov (d : Dev) (x : BootRecord) : (d.putBoot x).recov = d.recov := rfl
@[simp] theorem Dev.putBoot_tap (d : Dev) (x : BootRecord) : (d.putBoot x).tap = d.tap := rfl
@[simp] theorem Dev.putBoot_nv (d : Dev) (x : BootRecord) : (d.putBoot x).nv = d.nv := rfl
@[simp] theorem Dev.putBoot_sram (d : Dev) (x : BootRecord) : (d.putBoot x).sram = d.sram := rfl
@[simp] theorem Dev.putBoot_readData (d : Dev) (x : BootRecord) : (d.putBoot x).readData = d.readData := rfl

@[simp] theorem Dev.putLive_regs (d : Dev) (x : LiveRecord) : (d.putLive x).regs = d.regs := rfl
@[simp] theorem Dev.putLive_raised (d : Dev) (x : LiveRecord) : (d.putLive x).raised = d.raised := rfl
@[simp] theorem Dev.putLive_faults (d : Dev) (x : LiveRecord) : (d.putLive x).faults = d.faults := rfl
@[simp] theorem Dev.putLive_freeCount (d : Dev) (x : LiveRecord) : (d.putLive x).freeCount = d.freeCount := rfl
@[simp] theorem Dev.putLive_pw (d : Dev) (x : LiveRecord) : (d.putLive x).pw = d.pw := rfl
@[simp] theorem Dev.putLive_balls (d : Dev) (x : LiveRecord) : (d.putLive x).balls = d.balls := rfl
@[simp] theorem Dev.putLive_slots (d : Dev) (x : LiveRecord) : (d.putLive x).slots = d.slots := rfl
@[simp] theorem Dev.putLive_boot (d : Dev) (x : LiveRecord) : (d.putLive x).boot = d.boot := rfl
@[simp] theorem Dev.putLive_live (d : Dev) (x : LiveRecord) : (d.putLive x).live = x := rfl
@[simp] theorem Dev.putLive_keys (d : Dev) (x : LiveRecord) : (d.putLive x).keys = d.keys := rfl
@[simp] theorem Dev.putLive_host (d : Dev) (x : LiveRecord) : (d.putLive x).host = d.host := rfl
@[simp] theorem Dev.putLive_ev (d : Dev) (x : LiveRecord) : (d.putLive x).ev = d.ev := rfl
@[simp] theorem Dev.putLive_img (d : Dev) (x : LiveRecord) : (d.putLive x).img = d.img := rfl
@[simp] theorem Dev.putLive_tile (d : Dev) (x : LiveRecord) : (d.putLive x).tile = d.tile := rfl
@[simp] theorem Dev.putLive_fmap (d : Dev) (x : LiveRecord) : (d.putLive x).fmap = d.fmap := rfl
@[simp] theorem Dev.putLive_course (d : Dev) (x : LiveRecord) : (d.putLive x).course = d.course := rfl
@[simp] theorem Dev.putLive_sys (d : Dev) (x : LiveRecord) : (d.putLive x).sys = d.sys := rfl
@[simp] theorem Dev.putLive_port (d : Dev) (x : LiveRecord) : (d.putLive x).port = d.port := rfl
@[simp] theorem Dev.putLive_path (d : Dev) (x : LiveRecord) : (d.putLive x).path = d.path := rfl
@[simp] theorem Dev.putLive_chg (d : Dev) (x : LiveRecord) : (d.putLive x).chg = d.chg := rfl
@[simp] theorem Dev.putLive_ret (d : Dev) (x : LiveRecord) : (d.putLive x).ret = d.ret := rfl
@[simp] theorem Dev.putLive_log (d : Dev) (x : LiveRecord) : (d.putLive x).log = d.log := rfl
@[simp] theorem Dev.putLive_lamp (d : Dev) (x : LiveRecord) : (d.putLive x).lamp = d.lamp := rfl
@[simp] theorem Dev.putLive_ring (d : Dev) (x : LiveRecord) : (d.putLive x).ring = d.ring := rfl
@[simp] theorem Dev.putLive_serv (d : Dev) (x : LiveRecord) : (d.putLive x).serv = d.serv := rfl
@[simp] theorem Dev.putLive_ptb (d : Dev) (x : LiveRecord) : (d.putLive x).ptb = d.ptb := rfl
@[simp] theorem Dev.putLive_slotPos (d : Dev) (x : LiveRecord) : (d.putLive x).slotPos = d.slotPos := rfl
@[simp] theorem Dev.putLive_gtSet (d : Dev) (x : LiveRecord) : (d.putLive x).gtSet = d.gtSet := rfl
@[simp] theorem Dev.putLive_lens (d : Dev) (x : LiveRecord) : (d.putLive x).lens = d.lens := rfl
@[simp] theorem Dev.putLive_sensor (d : Dev) (x : LiveRecord) : (d.putLive x).sensor = d.sensor := rfl
@[simp] theorem Dev.putLive_wdt (d : Dev) (x : LiveRecord) : (d.putLive x).wdt = d.wdt := rfl
@[simp] theorem Dev.putLive_prism (d : Dev) (x : LiveRecord) : (d.putLive x).prism = d.prism := rfl
@[simp] theorem Dev.putLive_cap (d : Dev) (x : LiveRecord) : (d.putLive x).cap = d.cap := rfl
@[simp] theorem Dev.putLive_nand (d : Dev) (x : LiveRecord) : (d.putLive x).nand = d.nand := rfl
@[simp] theorem Dev.putLive_recov (d : Dev) (x : LiveRecord) : (d.putLive x).recov = d.recov := rfl
@[simp] theorem Dev.putLive_tap (d : Dev) (x : LiveRecord) : (d.putLive x).tap = d.tap := rfl
@[simp] theorem Dev.putLive_nv (d : Dev) (x : LiveRecord) : (d.putLive x).nv = d.nv := rfl
@[simp] theorem Dev.putLive_sram (d : Dev) (x : LiveRecord) : (d.putLive x).sram = d.sram := rfl
@[simp] theorem Dev.putLive_readData (d : Dev) (x : LiveRecord) : (d.putLive x).readData = d.readData := rfl

@[simp] theorem Dev.putKeys_regs (d : Dev) (x : Vector KeySlot 4) : (d.putKeys x).regs = d.regs := rfl
@[simp] theorem Dev.putKeys_raised (d : Dev) (x : Vector KeySlot 4) : (d.putKeys x).raised = d.raised := rfl
@[simp] theorem Dev.putKeys_faults (d : Dev) (x : Vector KeySlot 4) : (d.putKeys x).faults = d.faults := rfl
@[simp] theorem Dev.putKeys_freeCount (d : Dev) (x : Vector KeySlot 4) : (d.putKeys x).freeCount = d.freeCount := rfl
@[simp] theorem Dev.putKeys_pw (d : Dev) (x : Vector KeySlot 4) : (d.putKeys x).pw = d.pw := rfl
@[simp] theorem Dev.putKeys_balls (d : Dev) (x : Vector KeySlot 4) : (d.putKeys x).balls = d.balls := rfl
@[simp] theorem Dev.putKeys_slots (d : Dev) (x : Vector KeySlot 4) : (d.putKeys x).slots = d.slots := rfl
@[simp] theorem Dev.putKeys_boot (d : Dev) (x : Vector KeySlot 4) : (d.putKeys x).boot = d.boot := rfl
@[simp] theorem Dev.putKeys_live (d : Dev) (x : Vector KeySlot 4) : (d.putKeys x).live = d.live := rfl
@[simp] theorem Dev.putKeys_keys (d : Dev) (x : Vector KeySlot 4) : (d.putKeys x).keys = x := rfl
@[simp] theorem Dev.putKeys_host (d : Dev) (x : Vector KeySlot 4) : (d.putKeys x).host = d.host := rfl
@[simp] theorem Dev.putKeys_ev (d : Dev) (x : Vector KeySlot 4) : (d.putKeys x).ev = d.ev := rfl
@[simp] theorem Dev.putKeys_img (d : Dev) (x : Vector KeySlot 4) : (d.putKeys x).img = d.img := rfl
@[simp] theorem Dev.putKeys_tile (d : Dev) (x : Vector KeySlot 4) : (d.putKeys x).tile = d.tile := rfl
@[simp] theorem Dev.putKeys_fmap (d : Dev) (x : Vector KeySlot 4) : (d.putKeys x).fmap = d.fmap := rfl
@[simp] theorem Dev.putKeys_course (d : Dev) (x : Vector KeySlot 4) : (d.putKeys x).course = d.course := rfl
@[simp] theorem Dev.putKeys_sys (d : Dev) (x : Vector KeySlot 4) : (d.putKeys x).sys = d.sys := rfl
@[simp] theorem Dev.putKeys_port (d : Dev) (x : Vector KeySlot 4) : (d.putKeys x).port = d.port := rfl
@[simp] theorem Dev.putKeys_path (d : Dev) (x : Vector KeySlot 4) : (d.putKeys x).path = d.path := rfl
@[simp] theorem Dev.putKeys_chg (d : Dev) (x : Vector KeySlot 4) : (d.putKeys x).chg = d.chg := rfl
@[simp] theorem Dev.putKeys_ret (d : Dev) (x : Vector KeySlot 4) : (d.putKeys x).ret = d.ret := rfl
@[simp] theorem Dev.putKeys_log (d : Dev) (x : Vector KeySlot 4) : (d.putKeys x).log = d.log := rfl
@[simp] theorem Dev.putKeys_lamp (d : Dev) (x : Vector KeySlot 4) : (d.putKeys x).lamp = d.lamp := rfl
@[simp] theorem Dev.putKeys_ring (d : Dev) (x : Vector KeySlot 4) : (d.putKeys x).ring = d.ring := rfl
@[simp] theorem Dev.putKeys_serv (d : Dev) (x : Vector KeySlot 4) : (d.putKeys x).serv = d.serv := rfl
@[simp] theorem Dev.putKeys_ptb (d : Dev) (x : Vector KeySlot 4) : (d.putKeys x).ptb = d.ptb := rfl
@[simp] theorem Dev.putKeys_slotPos (d : Dev) (x : Vector KeySlot 4) : (d.putKeys x).slotPos = d.slotPos := rfl
@[simp] theorem Dev.putKeys_gtSet (d : Dev) (x : Vector KeySlot 4) : (d.putKeys x).gtSet = d.gtSet := rfl
@[simp] theorem Dev.putKeys_lens (d : Dev) (x : Vector KeySlot 4) : (d.putKeys x).lens = d.lens := rfl
@[simp] theorem Dev.putKeys_sensor (d : Dev) (x : Vector KeySlot 4) : (d.putKeys x).sensor = d.sensor := rfl
@[simp] theorem Dev.putKeys_wdt (d : Dev) (x : Vector KeySlot 4) : (d.putKeys x).wdt = d.wdt := rfl
@[simp] theorem Dev.putKeys_prism (d : Dev) (x : Vector KeySlot 4) : (d.putKeys x).prism = d.prism := rfl
@[simp] theorem Dev.putKeys_cap (d : Dev) (x : Vector KeySlot 4) : (d.putKeys x).cap = d.cap := rfl
@[simp] theorem Dev.putKeys_nand (d : Dev) (x : Vector KeySlot 4) : (d.putKeys x).nand = d.nand := rfl
@[simp] theorem Dev.putKeys_recov (d : Dev) (x : Vector KeySlot 4) : (d.putKeys x).recov = d.recov := rfl
@[simp] theorem Dev.putKeys_tap (d : Dev) (x : Vector KeySlot 4) : (d.putKeys x).tap = d.tap := rfl
@[simp] theorem Dev.putKeys_nv (d : Dev) (x : Vector KeySlot 4) : (d.putKeys x).nv = d.nv := rfl
@[simp] theorem Dev.putKeys_sram (d : Dev) (x : Vector KeySlot 4) : (d.putKeys x).sram = d.sram := rfl
@[simp] theorem Dev.putKeys_readData (d : Dev) (x : Vector KeySlot 4) : (d.putKeys x).readData = d.readData := rfl

@[simp] theorem Dev.putHost_regs (d : Dev) (x : HostPort) : (d.putHost x).regs = d.regs := rfl
@[simp] theorem Dev.putHost_raised (d : Dev) (x : HostPort) : (d.putHost x).raised = d.raised := rfl
@[simp] theorem Dev.putHost_faults (d : Dev) (x : HostPort) : (d.putHost x).faults = d.faults := rfl
@[simp] theorem Dev.putHost_freeCount (d : Dev) (x : HostPort) : (d.putHost x).freeCount = d.freeCount := rfl
@[simp] theorem Dev.putHost_pw (d : Dev) (x : HostPort) : (d.putHost x).pw = d.pw := rfl
@[simp] theorem Dev.putHost_balls (d : Dev) (x : HostPort) : (d.putHost x).balls = d.balls := rfl
@[simp] theorem Dev.putHost_slots (d : Dev) (x : HostPort) : (d.putHost x).slots = d.slots := rfl
@[simp] theorem Dev.putHost_boot (d : Dev) (x : HostPort) : (d.putHost x).boot = d.boot := rfl
@[simp] theorem Dev.putHost_live (d : Dev) (x : HostPort) : (d.putHost x).live = d.live := rfl
@[simp] theorem Dev.putHost_keys (d : Dev) (x : HostPort) : (d.putHost x).keys = d.keys := rfl
@[simp] theorem Dev.putHost_host (d : Dev) (x : HostPort) : (d.putHost x).host = x := rfl
@[simp] theorem Dev.putHost_ev (d : Dev) (x : HostPort) : (d.putHost x).ev = d.ev := rfl
@[simp] theorem Dev.putHost_img (d : Dev) (x : HostPort) : (d.putHost x).img = d.img := rfl
@[simp] theorem Dev.putHost_tile (d : Dev) (x : HostPort) : (d.putHost x).tile = d.tile := rfl
@[simp] theorem Dev.putHost_fmap (d : Dev) (x : HostPort) : (d.putHost x).fmap = d.fmap := rfl
@[simp] theorem Dev.putHost_course (d : Dev) (x : HostPort) : (d.putHost x).course = d.course := rfl
@[simp] theorem Dev.putHost_sys (d : Dev) (x : HostPort) : (d.putHost x).sys = d.sys := rfl
@[simp] theorem Dev.putHost_port (d : Dev) (x : HostPort) : (d.putHost x).port = d.port := rfl
@[simp] theorem Dev.putHost_path (d : Dev) (x : HostPort) : (d.putHost x).path = d.path := rfl
@[simp] theorem Dev.putHost_chg (d : Dev) (x : HostPort) : (d.putHost x).chg = d.chg := rfl
@[simp] theorem Dev.putHost_ret (d : Dev) (x : HostPort) : (d.putHost x).ret = d.ret := rfl
@[simp] theorem Dev.putHost_log (d : Dev) (x : HostPort) : (d.putHost x).log = d.log := rfl
@[simp] theorem Dev.putHost_lamp (d : Dev) (x : HostPort) : (d.putHost x).lamp = d.lamp := rfl
@[simp] theorem Dev.putHost_ring (d : Dev) (x : HostPort) : (d.putHost x).ring = d.ring := rfl
@[simp] theorem Dev.putHost_serv (d : Dev) (x : HostPort) : (d.putHost x).serv = d.serv := rfl
@[simp] theorem Dev.putHost_ptb (d : Dev) (x : HostPort) : (d.putHost x).ptb = d.ptb := rfl
@[simp] theorem Dev.putHost_slotPos (d : Dev) (x : HostPort) : (d.putHost x).slotPos = d.slotPos := rfl
@[simp] theorem Dev.putHost_gtSet (d : Dev) (x : HostPort) : (d.putHost x).gtSet = d.gtSet := rfl
@[simp] theorem Dev.putHost_lens (d : Dev) (x : HostPort) : (d.putHost x).lens = d.lens := rfl
@[simp] theorem Dev.putHost_sensor (d : Dev) (x : HostPort) : (d.putHost x).sensor = d.sensor := rfl
@[simp] theorem Dev.putHost_wdt (d : Dev) (x : HostPort) : (d.putHost x).wdt = d.wdt := rfl
@[simp] theorem Dev.putHost_prism (d : Dev) (x : HostPort) : (d.putHost x).prism = d.prism := rfl
@[simp] theorem Dev.putHost_cap (d : Dev) (x : HostPort) : (d.putHost x).cap = d.cap := rfl
@[simp] theorem Dev.putHost_nand (d : Dev) (x : HostPort) : (d.putHost x).nand = d.nand := rfl
@[simp] theorem Dev.putHost_recov (d : Dev) (x : HostPort) : (d.putHost x).recov = d.recov := rfl
@[simp] theorem Dev.putHost_tap (d : Dev) (x : HostPort) : (d.putHost x).tap = d.tap := rfl
@[simp] theorem Dev.putHost_nv (d : Dev) (x : HostPort) : (d.putHost x).nv = d.nv := rfl
@[simp] theorem Dev.putHost_sram (d : Dev) (x : HostPort) : (d.putHost x).sram = d.sram := rfl
@[simp] theorem Dev.putHost_readData (d : Dev) (x : HostPort) : (d.putHost x).readData = d.readData := rfl

@[simp] theorem Dev.putEv_regs (d : Dev) (x : EventState) : (d.putEv x).regs = d.regs := rfl
@[simp] theorem Dev.putEv_raised (d : Dev) (x : EventState) : (d.putEv x).raised = d.raised := rfl
@[simp] theorem Dev.putEv_faults (d : Dev) (x : EventState) : (d.putEv x).faults = d.faults := rfl
@[simp] theorem Dev.putEv_freeCount (d : Dev) (x : EventState) : (d.putEv x).freeCount = d.freeCount := rfl
@[simp] theorem Dev.putEv_pw (d : Dev) (x : EventState) : (d.putEv x).pw = d.pw := rfl
@[simp] theorem Dev.putEv_balls (d : Dev) (x : EventState) : (d.putEv x).balls = d.balls := rfl
@[simp] theorem Dev.putEv_slots (d : Dev) (x : EventState) : (d.putEv x).slots = d.slots := rfl
@[simp] theorem Dev.putEv_boot (d : Dev) (x : EventState) : (d.putEv x).boot = d.boot := rfl
@[simp] theorem Dev.putEv_live (d : Dev) (x : EventState) : (d.putEv x).live = d.live := rfl
@[simp] theorem Dev.putEv_keys (d : Dev) (x : EventState) : (d.putEv x).keys = d.keys := rfl
@[simp] theorem Dev.putEv_host (d : Dev) (x : EventState) : (d.putEv x).host = d.host := rfl
@[simp] theorem Dev.putEv_ev (d : Dev) (x : EventState) : (d.putEv x).ev = x := rfl
@[simp] theorem Dev.putEv_img (d : Dev) (x : EventState) : (d.putEv x).img = d.img := rfl
@[simp] theorem Dev.putEv_tile (d : Dev) (x : EventState) : (d.putEv x).tile = d.tile := rfl
@[simp] theorem Dev.putEv_fmap (d : Dev) (x : EventState) : (d.putEv x).fmap = d.fmap := rfl
@[simp] theorem Dev.putEv_course (d : Dev) (x : EventState) : (d.putEv x).course = d.course := rfl
@[simp] theorem Dev.putEv_sys (d : Dev) (x : EventState) : (d.putEv x).sys = d.sys := rfl
@[simp] theorem Dev.putEv_port (d : Dev) (x : EventState) : (d.putEv x).port = d.port := rfl
@[simp] theorem Dev.putEv_path (d : Dev) (x : EventState) : (d.putEv x).path = d.path := rfl
@[simp] theorem Dev.putEv_chg (d : Dev) (x : EventState) : (d.putEv x).chg = d.chg := rfl
@[simp] theorem Dev.putEv_ret (d : Dev) (x : EventState) : (d.putEv x).ret = d.ret := rfl
@[simp] theorem Dev.putEv_log (d : Dev) (x : EventState) : (d.putEv x).log = d.log := rfl
@[simp] theorem Dev.putEv_lamp (d : Dev) (x : EventState) : (d.putEv x).lamp = d.lamp := rfl
@[simp] theorem Dev.putEv_ring (d : Dev) (x : EventState) : (d.putEv x).ring = d.ring := rfl
@[simp] theorem Dev.putEv_serv (d : Dev) (x : EventState) : (d.putEv x).serv = d.serv := rfl
@[simp] theorem Dev.putEv_ptb (d : Dev) (x : EventState) : (d.putEv x).ptb = d.ptb := rfl
@[simp] theorem Dev.putEv_slotPos (d : Dev) (x : EventState) : (d.putEv x).slotPos = d.slotPos := rfl
@[simp] theorem Dev.putEv_gtSet (d : Dev) (x : EventState) : (d.putEv x).gtSet = d.gtSet := rfl
@[simp] theorem Dev.putEv_lens (d : Dev) (x : EventState) : (d.putEv x).lens = d.lens := rfl
@[simp] theorem Dev.putEv_sensor (d : Dev) (x : EventState) : (d.putEv x).sensor = d.sensor := rfl
@[simp] theorem Dev.putEv_wdt (d : Dev) (x : EventState) : (d.putEv x).wdt = d.wdt := rfl
@[simp] theorem Dev.putEv_prism (d : Dev) (x : EventState) : (d.putEv x).prism = d.prism := rfl
@[simp] theorem Dev.putEv_cap (d : Dev) (x : EventState) : (d.putEv x).cap = d.cap := rfl
@[simp] theorem Dev.putEv_nand (d : Dev) (x : EventState) : (d.putEv x).nand = d.nand := rfl
@[simp] theorem Dev.putEv_recov (d : Dev) (x : EventState) : (d.putEv x).recov = d.recov := rfl
@[simp] theorem Dev.putEv_tap (d : Dev) (x : EventState) : (d.putEv x).tap = d.tap := rfl
@[simp] theorem Dev.putEv_nv (d : Dev) (x : EventState) : (d.putEv x).nv = d.nv := rfl
@[simp] theorem Dev.putEv_sram (d : Dev) (x : EventState) : (d.putEv x).sram = d.sram := rfl
@[simp] theorem Dev.putEv_readData (d : Dev) (x : EventState) : (d.putEv x).readData = d.readData := rfl

@[simp] theorem Dev.putImg_regs (d : Dev) (x : ImgState) : (d.putImg x).regs = d.regs := rfl
@[simp] theorem Dev.putImg_raised (d : Dev) (x : ImgState) : (d.putImg x).raised = d.raised := rfl
@[simp] theorem Dev.putImg_faults (d : Dev) (x : ImgState) : (d.putImg x).faults = d.faults := rfl
@[simp] theorem Dev.putImg_freeCount (d : Dev) (x : ImgState) : (d.putImg x).freeCount = d.freeCount := rfl
@[simp] theorem Dev.putImg_pw (d : Dev) (x : ImgState) : (d.putImg x).pw = d.pw := rfl
@[simp] theorem Dev.putImg_balls (d : Dev) (x : ImgState) : (d.putImg x).balls = d.balls := rfl
@[simp] theorem Dev.putImg_slots (d : Dev) (x : ImgState) : (d.putImg x).slots = d.slots := rfl
@[simp] theorem Dev.putImg_boot (d : Dev) (x : ImgState) : (d.putImg x).boot = d.boot := rfl
@[simp] theorem Dev.putImg_live (d : Dev) (x : ImgState) : (d.putImg x).live = d.live := rfl
@[simp] theorem Dev.putImg_keys (d : Dev) (x : ImgState) : (d.putImg x).keys = d.keys := rfl
@[simp] theorem Dev.putImg_host (d : Dev) (x : ImgState) : (d.putImg x).host = d.host := rfl
@[simp] theorem Dev.putImg_ev (d : Dev) (x : ImgState) : (d.putImg x).ev = d.ev := rfl
@[simp] theorem Dev.putImg_img (d : Dev) (x : ImgState) : (d.putImg x).img = x := rfl
@[simp] theorem Dev.putImg_tile (d : Dev) (x : ImgState) : (d.putImg x).tile = d.tile := rfl
@[simp] theorem Dev.putImg_fmap (d : Dev) (x : ImgState) : (d.putImg x).fmap = d.fmap := rfl
@[simp] theorem Dev.putImg_course (d : Dev) (x : ImgState) : (d.putImg x).course = d.course := rfl
@[simp] theorem Dev.putImg_sys (d : Dev) (x : ImgState) : (d.putImg x).sys = d.sys := rfl
@[simp] theorem Dev.putImg_port (d : Dev) (x : ImgState) : (d.putImg x).port = d.port := rfl
@[simp] theorem Dev.putImg_path (d : Dev) (x : ImgState) : (d.putImg x).path = d.path := rfl
@[simp] theorem Dev.putImg_chg (d : Dev) (x : ImgState) : (d.putImg x).chg = d.chg := rfl
@[simp] theorem Dev.putImg_ret (d : Dev) (x : ImgState) : (d.putImg x).ret = d.ret := rfl
@[simp] theorem Dev.putImg_log (d : Dev) (x : ImgState) : (d.putImg x).log = d.log := rfl
@[simp] theorem Dev.putImg_lamp (d : Dev) (x : ImgState) : (d.putImg x).lamp = d.lamp := rfl
@[simp] theorem Dev.putImg_ring (d : Dev) (x : ImgState) : (d.putImg x).ring = d.ring := rfl
@[simp] theorem Dev.putImg_serv (d : Dev) (x : ImgState) : (d.putImg x).serv = d.serv := rfl
@[simp] theorem Dev.putImg_ptb (d : Dev) (x : ImgState) : (d.putImg x).ptb = d.ptb := rfl
@[simp] theorem Dev.putImg_slotPos (d : Dev) (x : ImgState) : (d.putImg x).slotPos = d.slotPos := rfl
@[simp] theorem Dev.putImg_gtSet (d : Dev) (x : ImgState) : (d.putImg x).gtSet = d.gtSet := rfl
@[simp] theorem Dev.putImg_lens (d : Dev) (x : ImgState) : (d.putImg x).lens = d.lens := rfl
@[simp] theorem Dev.putImg_sensor (d : Dev) (x : ImgState) : (d.putImg x).sensor = d.sensor := rfl
@[simp] theorem Dev.putImg_wdt (d : Dev) (x : ImgState) : (d.putImg x).wdt = d.wdt := rfl
@[simp] theorem Dev.putImg_prism (d : Dev) (x : ImgState) : (d.putImg x).prism = d.prism := rfl
@[simp] theorem Dev.putImg_cap (d : Dev) (x : ImgState) : (d.putImg x).cap = d.cap := rfl
@[simp] theorem Dev.putImg_nand (d : Dev) (x : ImgState) : (d.putImg x).nand = d.nand := rfl
@[simp] theorem Dev.putImg_recov (d : Dev) (x : ImgState) : (d.putImg x).recov = d.recov := rfl
@[simp] theorem Dev.putImg_tap (d : Dev) (x : ImgState) : (d.putImg x).tap = d.tap := rfl
@[simp] theorem Dev.putImg_nv (d : Dev) (x : ImgState) : (d.putImg x).nv = d.nv := rfl
@[simp] theorem Dev.putImg_sram (d : Dev) (x : ImgState) : (d.putImg x).sram = d.sram := rfl
@[simp] theorem Dev.putImg_readData (d : Dev) (x : ImgState) : (d.putImg x).readData = d.readData := rfl

@[simp] theorem Dev.putTile_regs (d : Dev) (x : Vector Tile 16) : (d.putTile x).regs = d.regs := rfl
@[simp] theorem Dev.putTile_raised (d : Dev) (x : Vector Tile 16) : (d.putTile x).raised = d.raised := rfl
@[simp] theorem Dev.putTile_faults (d : Dev) (x : Vector Tile 16) : (d.putTile x).faults = d.faults := rfl
@[simp] theorem Dev.putTile_freeCount (d : Dev) (x : Vector Tile 16) : (d.putTile x).freeCount = d.freeCount := rfl
@[simp] theorem Dev.putTile_pw (d : Dev) (x : Vector Tile 16) : (d.putTile x).pw = d.pw := rfl
@[simp] theorem Dev.putTile_balls (d : Dev) (x : Vector Tile 16) : (d.putTile x).balls = d.balls := rfl
@[simp] theorem Dev.putTile_slots (d : Dev) (x : Vector Tile 16) : (d.putTile x).slots = d.slots := rfl
@[simp] theorem Dev.putTile_boot (d : Dev) (x : Vector Tile 16) : (d.putTile x).boot = d.boot := rfl
@[simp] theorem Dev.putTile_live (d : Dev) (x : Vector Tile 16) : (d.putTile x).live = d.live := rfl
@[simp] theorem Dev.putTile_keys (d : Dev) (x : Vector Tile 16) : (d.putTile x).keys = d.keys := rfl
@[simp] theorem Dev.putTile_host (d : Dev) (x : Vector Tile 16) : (d.putTile x).host = d.host := rfl
@[simp] theorem Dev.putTile_ev (d : Dev) (x : Vector Tile 16) : (d.putTile x).ev = d.ev := rfl
@[simp] theorem Dev.putTile_img (d : Dev) (x : Vector Tile 16) : (d.putTile x).img = d.img := rfl
@[simp] theorem Dev.putTile_tile (d : Dev) (x : Vector Tile 16) : (d.putTile x).tile = x := rfl
@[simp] theorem Dev.putTile_fmap (d : Dev) (x : Vector Tile 16) : (d.putTile x).fmap = d.fmap := rfl
@[simp] theorem Dev.putTile_course (d : Dev) (x : Vector Tile 16) : (d.putTile x).course = d.course := rfl
@[simp] theorem Dev.putTile_sys (d : Dev) (x : Vector Tile 16) : (d.putTile x).sys = d.sys := rfl
@[simp] theorem Dev.putTile_port (d : Dev) (x : Vector Tile 16) : (d.putTile x).port = d.port := rfl
@[simp] theorem Dev.putTile_path (d : Dev) (x : Vector Tile 16) : (d.putTile x).path = d.path := rfl
@[simp] theorem Dev.putTile_chg (d : Dev) (x : Vector Tile 16) : (d.putTile x).chg = d.chg := rfl
@[simp] theorem Dev.putTile_ret (d : Dev) (x : Vector Tile 16) : (d.putTile x).ret = d.ret := rfl
@[simp] theorem Dev.putTile_log (d : Dev) (x : Vector Tile 16) : (d.putTile x).log = d.log := rfl
@[simp] theorem Dev.putTile_lamp (d : Dev) (x : Vector Tile 16) : (d.putTile x).lamp = d.lamp := rfl
@[simp] theorem Dev.putTile_ring (d : Dev) (x : Vector Tile 16) : (d.putTile x).ring = d.ring := rfl
@[simp] theorem Dev.putTile_serv (d : Dev) (x : Vector Tile 16) : (d.putTile x).serv = d.serv := rfl
@[simp] theorem Dev.putTile_ptb (d : Dev) (x : Vector Tile 16) : (d.putTile x).ptb = d.ptb := rfl
@[simp] theorem Dev.putTile_slotPos (d : Dev) (x : Vector Tile 16) : (d.putTile x).slotPos = d.slotPos := rfl
@[simp] theorem Dev.putTile_gtSet (d : Dev) (x : Vector Tile 16) : (d.putTile x).gtSet = d.gtSet := rfl
@[simp] theorem Dev.putTile_lens (d : Dev) (x : Vector Tile 16) : (d.putTile x).lens = d.lens := rfl
@[simp] theorem Dev.putTile_sensor (d : Dev) (x : Vector Tile 16) : (d.putTile x).sensor = d.sensor := rfl
@[simp] theorem Dev.putTile_wdt (d : Dev) (x : Vector Tile 16) : (d.putTile x).wdt = d.wdt := rfl
@[simp] theorem Dev.putTile_prism (d : Dev) (x : Vector Tile 16) : (d.putTile x).prism = d.prism := rfl
@[simp] theorem Dev.putTile_cap (d : Dev) (x : Vector Tile 16) : (d.putTile x).cap = d.cap := rfl
@[simp] theorem Dev.putTile_nand (d : Dev) (x : Vector Tile 16) : (d.putTile x).nand = d.nand := rfl
@[simp] theorem Dev.putTile_recov (d : Dev) (x : Vector Tile 16) : (d.putTile x).recov = d.recov := rfl
@[simp] theorem Dev.putTile_tap (d : Dev) (x : Vector Tile 16) : (d.putTile x).tap = d.tap := rfl
@[simp] theorem Dev.putTile_nv (d : Dev) (x : Vector Tile 16) : (d.putTile x).nv = d.nv := rfl
@[simp] theorem Dev.putTile_sram (d : Dev) (x : Vector Tile 16) : (d.putTile x).sram = d.sram := rfl
@[simp] theorem Dev.putTile_readData (d : Dev) (x : Vector Tile 16) : (d.putTile x).readData = d.readData := rfl

@[simp] theorem Dev.putFmap_regs (d : Dev) (x : Vector FailEntry 16) : (d.putFmap x).regs = d.regs := rfl
@[simp] theorem Dev.putFmap_raised (d : Dev) (x : Vector FailEntry 16) : (d.putFmap x).raised = d.raised := rfl
@[simp] theorem Dev.putFmap_faults (d : Dev) (x : Vector FailEntry 16) : (d.putFmap x).faults = d.faults := rfl
@[simp] theorem Dev.putFmap_freeCount (d : Dev) (x : Vector FailEntry 16) : (d.putFmap x).freeCount = d.freeCount := rfl
@[simp] theorem Dev.putFmap_pw (d : Dev) (x : Vector FailEntry 16) : (d.putFmap x).pw = d.pw := rfl
@[simp] theorem Dev.putFmap_balls (d : Dev) (x : Vector FailEntry 16) : (d.putFmap x).balls = d.balls := rfl
@[simp] theorem Dev.putFmap_slots (d : Dev) (x : Vector FailEntry 16) : (d.putFmap x).slots = d.slots := rfl
@[simp] theorem Dev.putFmap_boot (d : Dev) (x : Vector FailEntry 16) : (d.putFmap x).boot = d.boot := rfl
@[simp] theorem Dev.putFmap_live (d : Dev) (x : Vector FailEntry 16) : (d.putFmap x).live = d.live := rfl
@[simp] theorem Dev.putFmap_keys (d : Dev) (x : Vector FailEntry 16) : (d.putFmap x).keys = d.keys := rfl
@[simp] theorem Dev.putFmap_host (d : Dev) (x : Vector FailEntry 16) : (d.putFmap x).host = d.host := rfl
@[simp] theorem Dev.putFmap_ev (d : Dev) (x : Vector FailEntry 16) : (d.putFmap x).ev = d.ev := rfl
@[simp] theorem Dev.putFmap_img (d : Dev) (x : Vector FailEntry 16) : (d.putFmap x).img = d.img := rfl
@[simp] theorem Dev.putFmap_tile (d : Dev) (x : Vector FailEntry 16) : (d.putFmap x).tile = d.tile := rfl
@[simp] theorem Dev.putFmap_fmap (d : Dev) (x : Vector FailEntry 16) : (d.putFmap x).fmap = x := rfl
@[simp] theorem Dev.putFmap_course (d : Dev) (x : Vector FailEntry 16) : (d.putFmap x).course = d.course := rfl
@[simp] theorem Dev.putFmap_sys (d : Dev) (x : Vector FailEntry 16) : (d.putFmap x).sys = d.sys := rfl
@[simp] theorem Dev.putFmap_port (d : Dev) (x : Vector FailEntry 16) : (d.putFmap x).port = d.port := rfl
@[simp] theorem Dev.putFmap_path (d : Dev) (x : Vector FailEntry 16) : (d.putFmap x).path = d.path := rfl
@[simp] theorem Dev.putFmap_chg (d : Dev) (x : Vector FailEntry 16) : (d.putFmap x).chg = d.chg := rfl
@[simp] theorem Dev.putFmap_ret (d : Dev) (x : Vector FailEntry 16) : (d.putFmap x).ret = d.ret := rfl
@[simp] theorem Dev.putFmap_log (d : Dev) (x : Vector FailEntry 16) : (d.putFmap x).log = d.log := rfl
@[simp] theorem Dev.putFmap_lamp (d : Dev) (x : Vector FailEntry 16) : (d.putFmap x).lamp = d.lamp := rfl
@[simp] theorem Dev.putFmap_ring (d : Dev) (x : Vector FailEntry 16) : (d.putFmap x).ring = d.ring := rfl
@[simp] theorem Dev.putFmap_serv (d : Dev) (x : Vector FailEntry 16) : (d.putFmap x).serv = d.serv := rfl
@[simp] theorem Dev.putFmap_ptb (d : Dev) (x : Vector FailEntry 16) : (d.putFmap x).ptb = d.ptb := rfl
@[simp] theorem Dev.putFmap_slotPos (d : Dev) (x : Vector FailEntry 16) : (d.putFmap x).slotPos = d.slotPos := rfl
@[simp] theorem Dev.putFmap_gtSet (d : Dev) (x : Vector FailEntry 16) : (d.putFmap x).gtSet = d.gtSet := rfl
@[simp] theorem Dev.putFmap_lens (d : Dev) (x : Vector FailEntry 16) : (d.putFmap x).lens = d.lens := rfl
@[simp] theorem Dev.putFmap_sensor (d : Dev) (x : Vector FailEntry 16) : (d.putFmap x).sensor = d.sensor := rfl
@[simp] theorem Dev.putFmap_wdt (d : Dev) (x : Vector FailEntry 16) : (d.putFmap x).wdt = d.wdt := rfl
@[simp] theorem Dev.putFmap_prism (d : Dev) (x : Vector FailEntry 16) : (d.putFmap x).prism = d.prism := rfl
@[simp] theorem Dev.putFmap_cap (d : Dev) (x : Vector FailEntry 16) : (d.putFmap x).cap = d.cap := rfl
@[simp] theorem Dev.putFmap_nand (d : Dev) (x : Vector FailEntry 16) : (d.putFmap x).nand = d.nand := rfl
@[simp] theorem Dev.putFmap_recov (d : Dev) (x : Vector FailEntry 16) : (d.putFmap x).recov = d.recov := rfl
@[simp] theorem Dev.putFmap_tap (d : Dev) (x : Vector FailEntry 16) : (d.putFmap x).tap = d.tap := rfl
@[simp] theorem Dev.putFmap_nv (d : Dev) (x : Vector FailEntry 16) : (d.putFmap x).nv = d.nv := rfl
@[simp] theorem Dev.putFmap_sram (d : Dev) (x : Vector FailEntry 16) : (d.putFmap x).sram = d.sram := rfl
@[simp] theorem Dev.putFmap_readData (d : Dev) (x : Vector FailEntry 16) : (d.putFmap x).readData = d.readData := rfl

@[simp] theorem Dev.putCourse_regs (d : Dev) (x : Vector Course 6) : (d.putCourse x).regs = d.regs := rfl
@[simp] theorem Dev.putCourse_raised (d : Dev) (x : Vector Course 6) : (d.putCourse x).raised = d.raised := rfl
@[simp] theorem Dev.putCourse_faults (d : Dev) (x : Vector Course 6) : (d.putCourse x).faults = d.faults := rfl
@[simp] theorem Dev.putCourse_freeCount (d : Dev) (x : Vector Course 6) : (d.putCourse x).freeCount = d.freeCount := rfl
@[simp] theorem Dev.putCourse_pw (d : Dev) (x : Vector Course 6) : (d.putCourse x).pw = d.pw := rfl
@[simp] theorem Dev.putCourse_balls (d : Dev) (x : Vector Course 6) : (d.putCourse x).balls = d.balls := rfl
@[simp] theorem Dev.putCourse_slots (d : Dev) (x : Vector Course 6) : (d.putCourse x).slots = d.slots := rfl
@[simp] theorem Dev.putCourse_boot (d : Dev) (x : Vector Course 6) : (d.putCourse x).boot = d.boot := rfl
@[simp] theorem Dev.putCourse_live (d : Dev) (x : Vector Course 6) : (d.putCourse x).live = d.live := rfl
@[simp] theorem Dev.putCourse_keys (d : Dev) (x : Vector Course 6) : (d.putCourse x).keys = d.keys := rfl
@[simp] theorem Dev.putCourse_host (d : Dev) (x : Vector Course 6) : (d.putCourse x).host = d.host := rfl
@[simp] theorem Dev.putCourse_ev (d : Dev) (x : Vector Course 6) : (d.putCourse x).ev = d.ev := rfl
@[simp] theorem Dev.putCourse_img (d : Dev) (x : Vector Course 6) : (d.putCourse x).img = d.img := rfl
@[simp] theorem Dev.putCourse_tile (d : Dev) (x : Vector Course 6) : (d.putCourse x).tile = d.tile := rfl
@[simp] theorem Dev.putCourse_fmap (d : Dev) (x : Vector Course 6) : (d.putCourse x).fmap = d.fmap := rfl
@[simp] theorem Dev.putCourse_course (d : Dev) (x : Vector Course 6) : (d.putCourse x).course = x := rfl
@[simp] theorem Dev.putCourse_sys (d : Dev) (x : Vector Course 6) : (d.putCourse x).sys = d.sys := rfl
@[simp] theorem Dev.putCourse_port (d : Dev) (x : Vector Course 6) : (d.putCourse x).port = d.port := rfl
@[simp] theorem Dev.putCourse_path (d : Dev) (x : Vector Course 6) : (d.putCourse x).path = d.path := rfl
@[simp] theorem Dev.putCourse_chg (d : Dev) (x : Vector Course 6) : (d.putCourse x).chg = d.chg := rfl
@[simp] theorem Dev.putCourse_ret (d : Dev) (x : Vector Course 6) : (d.putCourse x).ret = d.ret := rfl
@[simp] theorem Dev.putCourse_log (d : Dev) (x : Vector Course 6) : (d.putCourse x).log = d.log := rfl
@[simp] theorem Dev.putCourse_lamp (d : Dev) (x : Vector Course 6) : (d.putCourse x).lamp = d.lamp := rfl
@[simp] theorem Dev.putCourse_ring (d : Dev) (x : Vector Course 6) : (d.putCourse x).ring = d.ring := rfl
@[simp] theorem Dev.putCourse_serv (d : Dev) (x : Vector Course 6) : (d.putCourse x).serv = d.serv := rfl
@[simp] theorem Dev.putCourse_ptb (d : Dev) (x : Vector Course 6) : (d.putCourse x).ptb = d.ptb := rfl
@[simp] theorem Dev.putCourse_slotPos (d : Dev) (x : Vector Course 6) : (d.putCourse x).slotPos = d.slotPos := rfl
@[simp] theorem Dev.putCourse_gtSet (d : Dev) (x : Vector Course 6) : (d.putCourse x).gtSet = d.gtSet := rfl
@[simp] theorem Dev.putCourse_lens (d : Dev) (x : Vector Course 6) : (d.putCourse x).lens = d.lens := rfl
@[simp] theorem Dev.putCourse_sensor (d : Dev) (x : Vector Course 6) : (d.putCourse x).sensor = d.sensor := rfl
@[simp] theorem Dev.putCourse_wdt (d : Dev) (x : Vector Course 6) : (d.putCourse x).wdt = d.wdt := rfl
@[simp] theorem Dev.putCourse_prism (d : Dev) (x : Vector Course 6) : (d.putCourse x).prism = d.prism := rfl
@[simp] theorem Dev.putCourse_cap (d : Dev) (x : Vector Course 6) : (d.putCourse x).cap = d.cap := rfl
@[simp] theorem Dev.putCourse_nand (d : Dev) (x : Vector Course 6) : (d.putCourse x).nand = d.nand := rfl
@[simp] theorem Dev.putCourse_recov (d : Dev) (x : Vector Course 6) : (d.putCourse x).recov = d.recov := rfl
@[simp] theorem Dev.putCourse_tap (d : Dev) (x : Vector Course 6) : (d.putCourse x).tap = d.tap := rfl
@[simp] theorem Dev.putCourse_nv (d : Dev) (x : Vector Course 6) : (d.putCourse x).nv = d.nv := rfl
@[simp] theorem Dev.putCourse_sram (d : Dev) (x : Vector Course 6) : (d.putCourse x).sram = d.sram := rfl
@[simp] theorem Dev.putCourse_readData (d : Dev) (x : Vector Course 6) : (d.putCourse x).readData = d.readData := rfl

@[simp] theorem Dev.putSys_regs (d : Dev) (x : SysLoop) : (d.putSys x).regs = d.regs := rfl
@[simp] theorem Dev.putSys_raised (d : Dev) (x : SysLoop) : (d.putSys x).raised = d.raised := rfl
@[simp] theorem Dev.putSys_faults (d : Dev) (x : SysLoop) : (d.putSys x).faults = d.faults := rfl
@[simp] theorem Dev.putSys_freeCount (d : Dev) (x : SysLoop) : (d.putSys x).freeCount = d.freeCount := rfl
@[simp] theorem Dev.putSys_pw (d : Dev) (x : SysLoop) : (d.putSys x).pw = d.pw := rfl
@[simp] theorem Dev.putSys_balls (d : Dev) (x : SysLoop) : (d.putSys x).balls = d.balls := rfl
@[simp] theorem Dev.putSys_slots (d : Dev) (x : SysLoop) : (d.putSys x).slots = d.slots := rfl
@[simp] theorem Dev.putSys_boot (d : Dev) (x : SysLoop) : (d.putSys x).boot = d.boot := rfl
@[simp] theorem Dev.putSys_live (d : Dev) (x : SysLoop) : (d.putSys x).live = d.live := rfl
@[simp] theorem Dev.putSys_keys (d : Dev) (x : SysLoop) : (d.putSys x).keys = d.keys := rfl
@[simp] theorem Dev.putSys_host (d : Dev) (x : SysLoop) : (d.putSys x).host = d.host := rfl
@[simp] theorem Dev.putSys_ev (d : Dev) (x : SysLoop) : (d.putSys x).ev = d.ev := rfl
@[simp] theorem Dev.putSys_img (d : Dev) (x : SysLoop) : (d.putSys x).img = d.img := rfl
@[simp] theorem Dev.putSys_tile (d : Dev) (x : SysLoop) : (d.putSys x).tile = d.tile := rfl
@[simp] theorem Dev.putSys_fmap (d : Dev) (x : SysLoop) : (d.putSys x).fmap = d.fmap := rfl
@[simp] theorem Dev.putSys_course (d : Dev) (x : SysLoop) : (d.putSys x).course = d.course := rfl
@[simp] theorem Dev.putSys_sys (d : Dev) (x : SysLoop) : (d.putSys x).sys = x := rfl
@[simp] theorem Dev.putSys_port (d : Dev) (x : SysLoop) : (d.putSys x).port = d.port := rfl
@[simp] theorem Dev.putSys_path (d : Dev) (x : SysLoop) : (d.putSys x).path = d.path := rfl
@[simp] theorem Dev.putSys_chg (d : Dev) (x : SysLoop) : (d.putSys x).chg = d.chg := rfl
@[simp] theorem Dev.putSys_ret (d : Dev) (x : SysLoop) : (d.putSys x).ret = d.ret := rfl
@[simp] theorem Dev.putSys_log (d : Dev) (x : SysLoop) : (d.putSys x).log = d.log := rfl
@[simp] theorem Dev.putSys_lamp (d : Dev) (x : SysLoop) : (d.putSys x).lamp = d.lamp := rfl
@[simp] theorem Dev.putSys_ring (d : Dev) (x : SysLoop) : (d.putSys x).ring = d.ring := rfl
@[simp] theorem Dev.putSys_serv (d : Dev) (x : SysLoop) : (d.putSys x).serv = d.serv := rfl
@[simp] theorem Dev.putSys_ptb (d : Dev) (x : SysLoop) : (d.putSys x).ptb = d.ptb := rfl
@[simp] theorem Dev.putSys_slotPos (d : Dev) (x : SysLoop) : (d.putSys x).slotPos = d.slotPos := rfl
@[simp] theorem Dev.putSys_gtSet (d : Dev) (x : SysLoop) : (d.putSys x).gtSet = d.gtSet := rfl
@[simp] theorem Dev.putSys_lens (d : Dev) (x : SysLoop) : (d.putSys x).lens = d.lens := rfl
@[simp] theorem Dev.putSys_sensor (d : Dev) (x : SysLoop) : (d.putSys x).sensor = d.sensor := rfl
@[simp] theorem Dev.putSys_wdt (d : Dev) (x : SysLoop) : (d.putSys x).wdt = d.wdt := rfl
@[simp] theorem Dev.putSys_prism (d : Dev) (x : SysLoop) : (d.putSys x).prism = d.prism := rfl
@[simp] theorem Dev.putSys_cap (d : Dev) (x : SysLoop) : (d.putSys x).cap = d.cap := rfl
@[simp] theorem Dev.putSys_nand (d : Dev) (x : SysLoop) : (d.putSys x).nand = d.nand := rfl
@[simp] theorem Dev.putSys_recov (d : Dev) (x : SysLoop) : (d.putSys x).recov = d.recov := rfl
@[simp] theorem Dev.putSys_tap (d : Dev) (x : SysLoop) : (d.putSys x).tap = d.tap := rfl
@[simp] theorem Dev.putSys_nv (d : Dev) (x : SysLoop) : (d.putSys x).nv = d.nv := rfl
@[simp] theorem Dev.putSys_sram (d : Dev) (x : SysLoop) : (d.putSys x).sram = d.sram := rfl
@[simp] theorem Dev.putSys_readData (d : Dev) (x : SysLoop) : (d.putSys x).readData = d.readData := rfl

@[simp] theorem Dev.putPort_regs (d : Dev) (x : Vector Port 5) : (d.putPort x).regs = d.regs := rfl
@[simp] theorem Dev.putPort_raised (d : Dev) (x : Vector Port 5) : (d.putPort x).raised = d.raised := rfl
@[simp] theorem Dev.putPort_faults (d : Dev) (x : Vector Port 5) : (d.putPort x).faults = d.faults := rfl
@[simp] theorem Dev.putPort_freeCount (d : Dev) (x : Vector Port 5) : (d.putPort x).freeCount = d.freeCount := rfl
@[simp] theorem Dev.putPort_pw (d : Dev) (x : Vector Port 5) : (d.putPort x).pw = d.pw := rfl
@[simp] theorem Dev.putPort_balls (d : Dev) (x : Vector Port 5) : (d.putPort x).balls = d.balls := rfl
@[simp] theorem Dev.putPort_slots (d : Dev) (x : Vector Port 5) : (d.putPort x).slots = d.slots := rfl
@[simp] theorem Dev.putPort_boot (d : Dev) (x : Vector Port 5) : (d.putPort x).boot = d.boot := rfl
@[simp] theorem Dev.putPort_live (d : Dev) (x : Vector Port 5) : (d.putPort x).live = d.live := rfl
@[simp] theorem Dev.putPort_keys (d : Dev) (x : Vector Port 5) : (d.putPort x).keys = d.keys := rfl
@[simp] theorem Dev.putPort_host (d : Dev) (x : Vector Port 5) : (d.putPort x).host = d.host := rfl
@[simp] theorem Dev.putPort_ev (d : Dev) (x : Vector Port 5) : (d.putPort x).ev = d.ev := rfl
@[simp] theorem Dev.putPort_img (d : Dev) (x : Vector Port 5) : (d.putPort x).img = d.img := rfl
@[simp] theorem Dev.putPort_tile (d : Dev) (x : Vector Port 5) : (d.putPort x).tile = d.tile := rfl
@[simp] theorem Dev.putPort_fmap (d : Dev) (x : Vector Port 5) : (d.putPort x).fmap = d.fmap := rfl
@[simp] theorem Dev.putPort_course (d : Dev) (x : Vector Port 5) : (d.putPort x).course = d.course := rfl
@[simp] theorem Dev.putPort_sys (d : Dev) (x : Vector Port 5) : (d.putPort x).sys = d.sys := rfl
@[simp] theorem Dev.putPort_port (d : Dev) (x : Vector Port 5) : (d.putPort x).port = x := rfl
@[simp] theorem Dev.putPort_path (d : Dev) (x : Vector Port 5) : (d.putPort x).path = d.path := rfl
@[simp] theorem Dev.putPort_chg (d : Dev) (x : Vector Port 5) : (d.putPort x).chg = d.chg := rfl
@[simp] theorem Dev.putPort_ret (d : Dev) (x : Vector Port 5) : (d.putPort x).ret = d.ret := rfl
@[simp] theorem Dev.putPort_log (d : Dev) (x : Vector Port 5) : (d.putPort x).log = d.log := rfl
@[simp] theorem Dev.putPort_lamp (d : Dev) (x : Vector Port 5) : (d.putPort x).lamp = d.lamp := rfl
@[simp] theorem Dev.putPort_ring (d : Dev) (x : Vector Port 5) : (d.putPort x).ring = d.ring := rfl
@[simp] theorem Dev.putPort_serv (d : Dev) (x : Vector Port 5) : (d.putPort x).serv = d.serv := rfl
@[simp] theorem Dev.putPort_ptb (d : Dev) (x : Vector Port 5) : (d.putPort x).ptb = d.ptb := rfl
@[simp] theorem Dev.putPort_slotPos (d : Dev) (x : Vector Port 5) : (d.putPort x).slotPos = d.slotPos := rfl
@[simp] theorem Dev.putPort_gtSet (d : Dev) (x : Vector Port 5) : (d.putPort x).gtSet = d.gtSet := rfl
@[simp] theorem Dev.putPort_lens (d : Dev) (x : Vector Port 5) : (d.putPort x).lens = d.lens := rfl
@[simp] theorem Dev.putPort_sensor (d : Dev) (x : Vector Port 5) : (d.putPort x).sensor = d.sensor := rfl
@[simp] theorem Dev.putPort_wdt (d : Dev) (x : Vector Port 5) : (d.putPort x).wdt = d.wdt := rfl
@[simp] theorem Dev.putPort_prism (d : Dev) (x : Vector Port 5) : (d.putPort x).prism = d.prism := rfl
@[simp] theorem Dev.putPort_cap (d : Dev) (x : Vector Port 5) : (d.putPort x).cap = d.cap := rfl
@[simp] theorem Dev.putPort_nand (d : Dev) (x : Vector Port 5) : (d.putPort x).nand = d.nand := rfl
@[simp] theorem Dev.putPort_recov (d : Dev) (x : Vector Port 5) : (d.putPort x).recov = d.recov := rfl
@[simp] theorem Dev.putPort_tap (d : Dev) (x : Vector Port 5) : (d.putPort x).tap = d.tap := rfl
@[simp] theorem Dev.putPort_nv (d : Dev) (x : Vector Port 5) : (d.putPort x).nv = d.nv := rfl
@[simp] theorem Dev.putPort_sram (d : Dev) (x : Vector Port 5) : (d.putPort x).sram = d.sram := rfl
@[simp] theorem Dev.putPort_readData (d : Dev) (x : Vector Port 5) : (d.putPort x).readData = d.readData := rfl

@[simp] theorem Dev.putPath_regs (d : Dev) (x : Path) : (d.putPath x).regs = d.regs := rfl
@[simp] theorem Dev.putPath_raised (d : Dev) (x : Path) : (d.putPath x).raised = d.raised := rfl
@[simp] theorem Dev.putPath_faults (d : Dev) (x : Path) : (d.putPath x).faults = d.faults := rfl
@[simp] theorem Dev.putPath_freeCount (d : Dev) (x : Path) : (d.putPath x).freeCount = d.freeCount := rfl
@[simp] theorem Dev.putPath_pw (d : Dev) (x : Path) : (d.putPath x).pw = d.pw := rfl
@[simp] theorem Dev.putPath_balls (d : Dev) (x : Path) : (d.putPath x).balls = d.balls := rfl
@[simp] theorem Dev.putPath_slots (d : Dev) (x : Path) : (d.putPath x).slots = d.slots := rfl
@[simp] theorem Dev.putPath_boot (d : Dev) (x : Path) : (d.putPath x).boot = d.boot := rfl
@[simp] theorem Dev.putPath_live (d : Dev) (x : Path) : (d.putPath x).live = d.live := rfl
@[simp] theorem Dev.putPath_keys (d : Dev) (x : Path) : (d.putPath x).keys = d.keys := rfl
@[simp] theorem Dev.putPath_host (d : Dev) (x : Path) : (d.putPath x).host = d.host := rfl
@[simp] theorem Dev.putPath_ev (d : Dev) (x : Path) : (d.putPath x).ev = d.ev := rfl
@[simp] theorem Dev.putPath_img (d : Dev) (x : Path) : (d.putPath x).img = d.img := rfl
@[simp] theorem Dev.putPath_tile (d : Dev) (x : Path) : (d.putPath x).tile = d.tile := rfl
@[simp] theorem Dev.putPath_fmap (d : Dev) (x : Path) : (d.putPath x).fmap = d.fmap := rfl
@[simp] theorem Dev.putPath_course (d : Dev) (x : Path) : (d.putPath x).course = d.course := rfl
@[simp] theorem Dev.putPath_sys (d : Dev) (x : Path) : (d.putPath x).sys = d.sys := rfl
@[simp] theorem Dev.putPath_port (d : Dev) (x : Path) : (d.putPath x).port = d.port := rfl
@[simp] theorem Dev.putPath_path (d : Dev) (x : Path) : (d.putPath x).path = x := rfl
@[simp] theorem Dev.putPath_chg (d : Dev) (x : Path) : (d.putPath x).chg = d.chg := rfl
@[simp] theorem Dev.putPath_ret (d : Dev) (x : Path) : (d.putPath x).ret = d.ret := rfl
@[simp] theorem Dev.putPath_log (d : Dev) (x : Path) : (d.putPath x).log = d.log := rfl
@[simp] theorem Dev.putPath_lamp (d : Dev) (x : Path) : (d.putPath x).lamp = d.lamp := rfl
@[simp] theorem Dev.putPath_ring (d : Dev) (x : Path) : (d.putPath x).ring = d.ring := rfl
@[simp] theorem Dev.putPath_serv (d : Dev) (x : Path) : (d.putPath x).serv = d.serv := rfl
@[simp] theorem Dev.putPath_ptb (d : Dev) (x : Path) : (d.putPath x).ptb = d.ptb := rfl
@[simp] theorem Dev.putPath_slotPos (d : Dev) (x : Path) : (d.putPath x).slotPos = d.slotPos := rfl
@[simp] theorem Dev.putPath_gtSet (d : Dev) (x : Path) : (d.putPath x).gtSet = d.gtSet := rfl
@[simp] theorem Dev.putPath_lens (d : Dev) (x : Path) : (d.putPath x).lens = d.lens := rfl
@[simp] theorem Dev.putPath_sensor (d : Dev) (x : Path) : (d.putPath x).sensor = d.sensor := rfl
@[simp] theorem Dev.putPath_wdt (d : Dev) (x : Path) : (d.putPath x).wdt = d.wdt := rfl
@[simp] theorem Dev.putPath_prism (d : Dev) (x : Path) : (d.putPath x).prism = d.prism := rfl
@[simp] theorem Dev.putPath_cap (d : Dev) (x : Path) : (d.putPath x).cap = d.cap := rfl
@[simp] theorem Dev.putPath_nand (d : Dev) (x : Path) : (d.putPath x).nand = d.nand := rfl
@[simp] theorem Dev.putPath_recov (d : Dev) (x : Path) : (d.putPath x).recov = d.recov := rfl
@[simp] theorem Dev.putPath_tap (d : Dev) (x : Path) : (d.putPath x).tap = d.tap := rfl
@[simp] theorem Dev.putPath_nv (d : Dev) (x : Path) : (d.putPath x).nv = d.nv := rfl
@[simp] theorem Dev.putPath_sram (d : Dev) (x : Path) : (d.putPath x).sram = d.sram := rfl
@[simp] theorem Dev.putPath_readData (d : Dev) (x : Path) : (d.putPath x).readData = d.readData := rfl

@[simp] theorem Dev.putChg_regs (d : Dev) (x : Charger) : (d.putChg x).regs = d.regs := rfl
@[simp] theorem Dev.putChg_raised (d : Dev) (x : Charger) : (d.putChg x).raised = d.raised := rfl
@[simp] theorem Dev.putChg_faults (d : Dev) (x : Charger) : (d.putChg x).faults = d.faults := rfl
@[simp] theorem Dev.putChg_freeCount (d : Dev) (x : Charger) : (d.putChg x).freeCount = d.freeCount := rfl
@[simp] theorem Dev.putChg_pw (d : Dev) (x : Charger) : (d.putChg x).pw = d.pw := rfl
@[simp] theorem Dev.putChg_balls (d : Dev) (x : Charger) : (d.putChg x).balls = d.balls := rfl
@[simp] theorem Dev.putChg_slots (d : Dev) (x : Charger) : (d.putChg x).slots = d.slots := rfl
@[simp] theorem Dev.putChg_boot (d : Dev) (x : Charger) : (d.putChg x).boot = d.boot := rfl
@[simp] theorem Dev.putChg_live (d : Dev) (x : Charger) : (d.putChg x).live = d.live := rfl
@[simp] theorem Dev.putChg_keys (d : Dev) (x : Charger) : (d.putChg x).keys = d.keys := rfl
@[simp] theorem Dev.putChg_host (d : Dev) (x : Charger) : (d.putChg x).host = d.host := rfl
@[simp] theorem Dev.putChg_ev (d : Dev) (x : Charger) : (d.putChg x).ev = d.ev := rfl
@[simp] theorem Dev.putChg_img (d : Dev) (x : Charger) : (d.putChg x).img = d.img := rfl
@[simp] theorem Dev.putChg_tile (d : Dev) (x : Charger) : (d.putChg x).tile = d.tile := rfl
@[simp] theorem Dev.putChg_fmap (d : Dev) (x : Charger) : (d.putChg x).fmap = d.fmap := rfl
@[simp] theorem Dev.putChg_course (d : Dev) (x : Charger) : (d.putChg x).course = d.course := rfl
@[simp] theorem Dev.putChg_sys (d : Dev) (x : Charger) : (d.putChg x).sys = d.sys := rfl
@[simp] theorem Dev.putChg_port (d : Dev) (x : Charger) : (d.putChg x).port = d.port := rfl
@[simp] theorem Dev.putChg_path (d : Dev) (x : Charger) : (d.putChg x).path = d.path := rfl
@[simp] theorem Dev.putChg_chg (d : Dev) (x : Charger) : (d.putChg x).chg = x := rfl
@[simp] theorem Dev.putChg_ret (d : Dev) (x : Charger) : (d.putChg x).ret = d.ret := rfl
@[simp] theorem Dev.putChg_log (d : Dev) (x : Charger) : (d.putChg x).log = d.log := rfl
@[simp] theorem Dev.putChg_lamp (d : Dev) (x : Charger) : (d.putChg x).lamp = d.lamp := rfl
@[simp] theorem Dev.putChg_ring (d : Dev) (x : Charger) : (d.putChg x).ring = d.ring := rfl
@[simp] theorem Dev.putChg_serv (d : Dev) (x : Charger) : (d.putChg x).serv = d.serv := rfl
@[simp] theorem Dev.putChg_ptb (d : Dev) (x : Charger) : (d.putChg x).ptb = d.ptb := rfl
@[simp] theorem Dev.putChg_slotPos (d : Dev) (x : Charger) : (d.putChg x).slotPos = d.slotPos := rfl
@[simp] theorem Dev.putChg_gtSet (d : Dev) (x : Charger) : (d.putChg x).gtSet = d.gtSet := rfl
@[simp] theorem Dev.putChg_lens (d : Dev) (x : Charger) : (d.putChg x).lens = d.lens := rfl
@[simp] theorem Dev.putChg_sensor (d : Dev) (x : Charger) : (d.putChg x).sensor = d.sensor := rfl
@[simp] theorem Dev.putChg_wdt (d : Dev) (x : Charger) : (d.putChg x).wdt = d.wdt := rfl
@[simp] theorem Dev.putChg_prism (d : Dev) (x : Charger) : (d.putChg x).prism = d.prism := rfl
@[simp] theorem Dev.putChg_cap (d : Dev) (x : Charger) : (d.putChg x).cap = d.cap := rfl
@[simp] theorem Dev.putChg_nand (d : Dev) (x : Charger) : (d.putChg x).nand = d.nand := rfl
@[simp] theorem Dev.putChg_recov (d : Dev) (x : Charger) : (d.putChg x).recov = d.recov := rfl
@[simp] theorem Dev.putChg_tap (d : Dev) (x : Charger) : (d.putChg x).tap = d.tap := rfl
@[simp] theorem Dev.putChg_nv (d : Dev) (x : Charger) : (d.putChg x).nv = d.nv := rfl
@[simp] theorem Dev.putChg_sram (d : Dev) (x : Charger) : (d.putChg x).sram = d.sram := rfl
@[simp] theorem Dev.putChg_readData (d : Dev) (x : Charger) : (d.putChg x).readData = d.readData := rfl

@[simp] theorem Dev.putRet_regs (d : Dev) (x : Retained) : (d.putRet x).regs = d.regs := rfl
@[simp] theorem Dev.putRet_raised (d : Dev) (x : Retained) : (d.putRet x).raised = d.raised := rfl
@[simp] theorem Dev.putRet_faults (d : Dev) (x : Retained) : (d.putRet x).faults = d.faults := rfl
@[simp] theorem Dev.putRet_freeCount (d : Dev) (x : Retained) : (d.putRet x).freeCount = d.freeCount := rfl
@[simp] theorem Dev.putRet_pw (d : Dev) (x : Retained) : (d.putRet x).pw = d.pw := rfl
@[simp] theorem Dev.putRet_balls (d : Dev) (x : Retained) : (d.putRet x).balls = d.balls := rfl
@[simp] theorem Dev.putRet_slots (d : Dev) (x : Retained) : (d.putRet x).slots = d.slots := rfl
@[simp] theorem Dev.putRet_boot (d : Dev) (x : Retained) : (d.putRet x).boot = d.boot := rfl
@[simp] theorem Dev.putRet_live (d : Dev) (x : Retained) : (d.putRet x).live = d.live := rfl
@[simp] theorem Dev.putRet_keys (d : Dev) (x : Retained) : (d.putRet x).keys = d.keys := rfl
@[simp] theorem Dev.putRet_host (d : Dev) (x : Retained) : (d.putRet x).host = d.host := rfl
@[simp] theorem Dev.putRet_ev (d : Dev) (x : Retained) : (d.putRet x).ev = d.ev := rfl
@[simp] theorem Dev.putRet_img (d : Dev) (x : Retained) : (d.putRet x).img = d.img := rfl
@[simp] theorem Dev.putRet_tile (d : Dev) (x : Retained) : (d.putRet x).tile = d.tile := rfl
@[simp] theorem Dev.putRet_fmap (d : Dev) (x : Retained) : (d.putRet x).fmap = d.fmap := rfl
@[simp] theorem Dev.putRet_course (d : Dev) (x : Retained) : (d.putRet x).course = d.course := rfl
@[simp] theorem Dev.putRet_sys (d : Dev) (x : Retained) : (d.putRet x).sys = d.sys := rfl
@[simp] theorem Dev.putRet_port (d : Dev) (x : Retained) : (d.putRet x).port = d.port := rfl
@[simp] theorem Dev.putRet_path (d : Dev) (x : Retained) : (d.putRet x).path = d.path := rfl
@[simp] theorem Dev.putRet_chg (d : Dev) (x : Retained) : (d.putRet x).chg = d.chg := rfl
@[simp] theorem Dev.putRet_ret (d : Dev) (x : Retained) : (d.putRet x).ret = x := rfl
@[simp] theorem Dev.putRet_log (d : Dev) (x : Retained) : (d.putRet x).log = d.log := rfl
@[simp] theorem Dev.putRet_lamp (d : Dev) (x : Retained) : (d.putRet x).lamp = d.lamp := rfl
@[simp] theorem Dev.putRet_ring (d : Dev) (x : Retained) : (d.putRet x).ring = d.ring := rfl
@[simp] theorem Dev.putRet_serv (d : Dev) (x : Retained) : (d.putRet x).serv = d.serv := rfl
@[simp] theorem Dev.putRet_ptb (d : Dev) (x : Retained) : (d.putRet x).ptb = d.ptb := rfl
@[simp] theorem Dev.putRet_slotPos (d : Dev) (x : Retained) : (d.putRet x).slotPos = d.slotPos := rfl
@[simp] theorem Dev.putRet_gtSet (d : Dev) (x : Retained) : (d.putRet x).gtSet = d.gtSet := rfl
@[simp] theorem Dev.putRet_lens (d : Dev) (x : Retained) : (d.putRet x).lens = d.lens := rfl
@[simp] theorem Dev.putRet_sensor (d : Dev) (x : Retained) : (d.putRet x).sensor = d.sensor := rfl
@[simp] theorem Dev.putRet_wdt (d : Dev) (x : Retained) : (d.putRet x).wdt = d.wdt := rfl
@[simp] theorem Dev.putRet_prism (d : Dev) (x : Retained) : (d.putRet x).prism = d.prism := rfl
@[simp] theorem Dev.putRet_cap (d : Dev) (x : Retained) : (d.putRet x).cap = d.cap := rfl
@[simp] theorem Dev.putRet_nand (d : Dev) (x : Retained) : (d.putRet x).nand = d.nand := rfl
@[simp] theorem Dev.putRet_recov (d : Dev) (x : Retained) : (d.putRet x).recov = d.recov := rfl
@[simp] theorem Dev.putRet_tap (d : Dev) (x : Retained) : (d.putRet x).tap = d.tap := rfl
@[simp] theorem Dev.putRet_nv (d : Dev) (x : Retained) : (d.putRet x).nv = d.nv := rfl
@[simp] theorem Dev.putRet_sram (d : Dev) (x : Retained) : (d.putRet x).sram = d.sram := rfl
@[simp] theorem Dev.putRet_readData (d : Dev) (x : Retained) : (d.putRet x).readData = d.readData := rfl

@[simp] theorem Dev.putLog_regs (d : Dev) (x : FaultLog) : (d.putLog x).regs = d.regs := rfl
@[simp] theorem Dev.putLog_raised (d : Dev) (x : FaultLog) : (d.putLog x).raised = d.raised := rfl
@[simp] theorem Dev.putLog_faults (d : Dev) (x : FaultLog) : (d.putLog x).faults = d.faults := rfl
@[simp] theorem Dev.putLog_freeCount (d : Dev) (x : FaultLog) : (d.putLog x).freeCount = d.freeCount := rfl
@[simp] theorem Dev.putLog_pw (d : Dev) (x : FaultLog) : (d.putLog x).pw = d.pw := rfl
@[simp] theorem Dev.putLog_balls (d : Dev) (x : FaultLog) : (d.putLog x).balls = d.balls := rfl
@[simp] theorem Dev.putLog_slots (d : Dev) (x : FaultLog) : (d.putLog x).slots = d.slots := rfl
@[simp] theorem Dev.putLog_boot (d : Dev) (x : FaultLog) : (d.putLog x).boot = d.boot := rfl
@[simp] theorem Dev.putLog_live (d : Dev) (x : FaultLog) : (d.putLog x).live = d.live := rfl
@[simp] theorem Dev.putLog_keys (d : Dev) (x : FaultLog) : (d.putLog x).keys = d.keys := rfl
@[simp] theorem Dev.putLog_host (d : Dev) (x : FaultLog) : (d.putLog x).host = d.host := rfl
@[simp] theorem Dev.putLog_ev (d : Dev) (x : FaultLog) : (d.putLog x).ev = d.ev := rfl
@[simp] theorem Dev.putLog_img (d : Dev) (x : FaultLog) : (d.putLog x).img = d.img := rfl
@[simp] theorem Dev.putLog_tile (d : Dev) (x : FaultLog) : (d.putLog x).tile = d.tile := rfl
@[simp] theorem Dev.putLog_fmap (d : Dev) (x : FaultLog) : (d.putLog x).fmap = d.fmap := rfl
@[simp] theorem Dev.putLog_course (d : Dev) (x : FaultLog) : (d.putLog x).course = d.course := rfl
@[simp] theorem Dev.putLog_sys (d : Dev) (x : FaultLog) : (d.putLog x).sys = d.sys := rfl
@[simp] theorem Dev.putLog_port (d : Dev) (x : FaultLog) : (d.putLog x).port = d.port := rfl
@[simp] theorem Dev.putLog_path (d : Dev) (x : FaultLog) : (d.putLog x).path = d.path := rfl
@[simp] theorem Dev.putLog_chg (d : Dev) (x : FaultLog) : (d.putLog x).chg = d.chg := rfl
@[simp] theorem Dev.putLog_ret (d : Dev) (x : FaultLog) : (d.putLog x).ret = d.ret := rfl
@[simp] theorem Dev.putLog_log (d : Dev) (x : FaultLog) : (d.putLog x).log = x := rfl
@[simp] theorem Dev.putLog_lamp (d : Dev) (x : FaultLog) : (d.putLog x).lamp = d.lamp := rfl
@[simp] theorem Dev.putLog_ring (d : Dev) (x : FaultLog) : (d.putLog x).ring = d.ring := rfl
@[simp] theorem Dev.putLog_serv (d : Dev) (x : FaultLog) : (d.putLog x).serv = d.serv := rfl
@[simp] theorem Dev.putLog_ptb (d : Dev) (x : FaultLog) : (d.putLog x).ptb = d.ptb := rfl
@[simp] theorem Dev.putLog_slotPos (d : Dev) (x : FaultLog) : (d.putLog x).slotPos = d.slotPos := rfl
@[simp] theorem Dev.putLog_gtSet (d : Dev) (x : FaultLog) : (d.putLog x).gtSet = d.gtSet := rfl
@[simp] theorem Dev.putLog_lens (d : Dev) (x : FaultLog) : (d.putLog x).lens = d.lens := rfl
@[simp] theorem Dev.putLog_sensor (d : Dev) (x : FaultLog) : (d.putLog x).sensor = d.sensor := rfl
@[simp] theorem Dev.putLog_wdt (d : Dev) (x : FaultLog) : (d.putLog x).wdt = d.wdt := rfl
@[simp] theorem Dev.putLog_prism (d : Dev) (x : FaultLog) : (d.putLog x).prism = d.prism := rfl
@[simp] theorem Dev.putLog_cap (d : Dev) (x : FaultLog) : (d.putLog x).cap = d.cap := rfl
@[simp] theorem Dev.putLog_nand (d : Dev) (x : FaultLog) : (d.putLog x).nand = d.nand := rfl
@[simp] theorem Dev.putLog_recov (d : Dev) (x : FaultLog) : (d.putLog x).recov = d.recov := rfl
@[simp] theorem Dev.putLog_tap (d : Dev) (x : FaultLog) : (d.putLog x).tap = d.tap := rfl
@[simp] theorem Dev.putLog_nv (d : Dev) (x : FaultLog) : (d.putLog x).nv = d.nv := rfl
@[simp] theorem Dev.putLog_sram (d : Dev) (x : FaultLog) : (d.putLog x).sram = d.sram := rfl
@[simp] theorem Dev.putLog_readData (d : Dev) (x : FaultLog) : (d.putLog x).readData = d.readData := rfl

@[simp] theorem Dev.putLamp_regs (d : Dev) (x : Vector Lamp 2) : (d.putLamp x).regs = d.regs := rfl
@[simp] theorem Dev.putLamp_raised (d : Dev) (x : Vector Lamp 2) : (d.putLamp x).raised = d.raised := rfl
@[simp] theorem Dev.putLamp_faults (d : Dev) (x : Vector Lamp 2) : (d.putLamp x).faults = d.faults := rfl
@[simp] theorem Dev.putLamp_freeCount (d : Dev) (x : Vector Lamp 2) : (d.putLamp x).freeCount = d.freeCount := rfl
@[simp] theorem Dev.putLamp_pw (d : Dev) (x : Vector Lamp 2) : (d.putLamp x).pw = d.pw := rfl
@[simp] theorem Dev.putLamp_balls (d : Dev) (x : Vector Lamp 2) : (d.putLamp x).balls = d.balls := rfl
@[simp] theorem Dev.putLamp_slots (d : Dev) (x : Vector Lamp 2) : (d.putLamp x).slots = d.slots := rfl
@[simp] theorem Dev.putLamp_boot (d : Dev) (x : Vector Lamp 2) : (d.putLamp x).boot = d.boot := rfl
@[simp] theorem Dev.putLamp_live (d : Dev) (x : Vector Lamp 2) : (d.putLamp x).live = d.live := rfl
@[simp] theorem Dev.putLamp_keys (d : Dev) (x : Vector Lamp 2) : (d.putLamp x).keys = d.keys := rfl
@[simp] theorem Dev.putLamp_host (d : Dev) (x : Vector Lamp 2) : (d.putLamp x).host = d.host := rfl
@[simp] theorem Dev.putLamp_ev (d : Dev) (x : Vector Lamp 2) : (d.putLamp x).ev = d.ev := rfl
@[simp] theorem Dev.putLamp_img (d : Dev) (x : Vector Lamp 2) : (d.putLamp x).img = d.img := rfl
@[simp] theorem Dev.putLamp_tile (d : Dev) (x : Vector Lamp 2) : (d.putLamp x).tile = d.tile := rfl
@[simp] theorem Dev.putLamp_fmap (d : Dev) (x : Vector Lamp 2) : (d.putLamp x).fmap = d.fmap := rfl
@[simp] theorem Dev.putLamp_course (d : Dev) (x : Vector Lamp 2) : (d.putLamp x).course = d.course := rfl
@[simp] theorem Dev.putLamp_sys (d : Dev) (x : Vector Lamp 2) : (d.putLamp x).sys = d.sys := rfl
@[simp] theorem Dev.putLamp_port (d : Dev) (x : Vector Lamp 2) : (d.putLamp x).port = d.port := rfl
@[simp] theorem Dev.putLamp_path (d : Dev) (x : Vector Lamp 2) : (d.putLamp x).path = d.path := rfl
@[simp] theorem Dev.putLamp_chg (d : Dev) (x : Vector Lamp 2) : (d.putLamp x).chg = d.chg := rfl
@[simp] theorem Dev.putLamp_ret (d : Dev) (x : Vector Lamp 2) : (d.putLamp x).ret = d.ret := rfl
@[simp] theorem Dev.putLamp_log (d : Dev) (x : Vector Lamp 2) : (d.putLamp x).log = d.log := rfl
@[simp] theorem Dev.putLamp_lamp (d : Dev) (x : Vector Lamp 2) : (d.putLamp x).lamp = x := rfl
@[simp] theorem Dev.putLamp_ring (d : Dev) (x : Vector Lamp 2) : (d.putLamp x).ring = d.ring := rfl
@[simp] theorem Dev.putLamp_serv (d : Dev) (x : Vector Lamp 2) : (d.putLamp x).serv = d.serv := rfl
@[simp] theorem Dev.putLamp_ptb (d : Dev) (x : Vector Lamp 2) : (d.putLamp x).ptb = d.ptb := rfl
@[simp] theorem Dev.putLamp_slotPos (d : Dev) (x : Vector Lamp 2) : (d.putLamp x).slotPos = d.slotPos := rfl
@[simp] theorem Dev.putLamp_gtSet (d : Dev) (x : Vector Lamp 2) : (d.putLamp x).gtSet = d.gtSet := rfl
@[simp] theorem Dev.putLamp_lens (d : Dev) (x : Vector Lamp 2) : (d.putLamp x).lens = d.lens := rfl
@[simp] theorem Dev.putLamp_sensor (d : Dev) (x : Vector Lamp 2) : (d.putLamp x).sensor = d.sensor := rfl
@[simp] theorem Dev.putLamp_wdt (d : Dev) (x : Vector Lamp 2) : (d.putLamp x).wdt = d.wdt := rfl
@[simp] theorem Dev.putLamp_prism (d : Dev) (x : Vector Lamp 2) : (d.putLamp x).prism = d.prism := rfl
@[simp] theorem Dev.putLamp_cap (d : Dev) (x : Vector Lamp 2) : (d.putLamp x).cap = d.cap := rfl
@[simp] theorem Dev.putLamp_nand (d : Dev) (x : Vector Lamp 2) : (d.putLamp x).nand = d.nand := rfl
@[simp] theorem Dev.putLamp_recov (d : Dev) (x : Vector Lamp 2) : (d.putLamp x).recov = d.recov := rfl
@[simp] theorem Dev.putLamp_tap (d : Dev) (x : Vector Lamp 2) : (d.putLamp x).tap = d.tap := rfl
@[simp] theorem Dev.putLamp_nv (d : Dev) (x : Vector Lamp 2) : (d.putLamp x).nv = d.nv := rfl
@[simp] theorem Dev.putLamp_sram (d : Dev) (x : Vector Lamp 2) : (d.putLamp x).sram = d.sram := rfl
@[simp] theorem Dev.putLamp_readData (d : Dev) (x : Vector Lamp 2) : (d.putLamp x).readData = d.readData := rfl

@[simp] theorem Dev.putRing_regs (d : Dev) (x : Ring) : (d.putRing x).regs = d.regs := rfl
@[simp] theorem Dev.putRing_raised (d : Dev) (x : Ring) : (d.putRing x).raised = d.raised := rfl
@[simp] theorem Dev.putRing_faults (d : Dev) (x : Ring) : (d.putRing x).faults = d.faults := rfl
@[simp] theorem Dev.putRing_freeCount (d : Dev) (x : Ring) : (d.putRing x).freeCount = d.freeCount := rfl
@[simp] theorem Dev.putRing_pw (d : Dev) (x : Ring) : (d.putRing x).pw = d.pw := rfl
@[simp] theorem Dev.putRing_balls (d : Dev) (x : Ring) : (d.putRing x).balls = d.balls := rfl
@[simp] theorem Dev.putRing_slots (d : Dev) (x : Ring) : (d.putRing x).slots = d.slots := rfl
@[simp] theorem Dev.putRing_boot (d : Dev) (x : Ring) : (d.putRing x).boot = d.boot := rfl
@[simp] theorem Dev.putRing_live (d : Dev) (x : Ring) : (d.putRing x).live = d.live := rfl
@[simp] theorem Dev.putRing_keys (d : Dev) (x : Ring) : (d.putRing x).keys = d.keys := rfl
@[simp] theorem Dev.putRing_host (d : Dev) (x : Ring) : (d.putRing x).host = d.host := rfl
@[simp] theorem Dev.putRing_ev (d : Dev) (x : Ring) : (d.putRing x).ev = d.ev := rfl
@[simp] theorem Dev.putRing_img (d : Dev) (x : Ring) : (d.putRing x).img = d.img := rfl
@[simp] theorem Dev.putRing_tile (d : Dev) (x : Ring) : (d.putRing x).tile = d.tile := rfl
@[simp] theorem Dev.putRing_fmap (d : Dev) (x : Ring) : (d.putRing x).fmap = d.fmap := rfl
@[simp] theorem Dev.putRing_course (d : Dev) (x : Ring) : (d.putRing x).course = d.course := rfl
@[simp] theorem Dev.putRing_sys (d : Dev) (x : Ring) : (d.putRing x).sys = d.sys := rfl
@[simp] theorem Dev.putRing_port (d : Dev) (x : Ring) : (d.putRing x).port = d.port := rfl
@[simp] theorem Dev.putRing_path (d : Dev) (x : Ring) : (d.putRing x).path = d.path := rfl
@[simp] theorem Dev.putRing_chg (d : Dev) (x : Ring) : (d.putRing x).chg = d.chg := rfl
@[simp] theorem Dev.putRing_ret (d : Dev) (x : Ring) : (d.putRing x).ret = d.ret := rfl
@[simp] theorem Dev.putRing_log (d : Dev) (x : Ring) : (d.putRing x).log = d.log := rfl
@[simp] theorem Dev.putRing_lamp (d : Dev) (x : Ring) : (d.putRing x).lamp = d.lamp := rfl
@[simp] theorem Dev.putRing_ring (d : Dev) (x : Ring) : (d.putRing x).ring = x := rfl
@[simp] theorem Dev.putRing_serv (d : Dev) (x : Ring) : (d.putRing x).serv = d.serv := rfl
@[simp] theorem Dev.putRing_ptb (d : Dev) (x : Ring) : (d.putRing x).ptb = d.ptb := rfl
@[simp] theorem Dev.putRing_slotPos (d : Dev) (x : Ring) : (d.putRing x).slotPos = d.slotPos := rfl
@[simp] theorem Dev.putRing_gtSet (d : Dev) (x : Ring) : (d.putRing x).gtSet = d.gtSet := rfl
@[simp] theorem Dev.putRing_lens (d : Dev) (x : Ring) : (d.putRing x).lens = d.lens := rfl
@[simp] theorem Dev.putRing_sensor (d : Dev) (x : Ring) : (d.putRing x).sensor = d.sensor := rfl
@[simp] theorem Dev.putRing_wdt (d : Dev) (x : Ring) : (d.putRing x).wdt = d.wdt := rfl
@[simp] theorem Dev.putRing_prism (d : Dev) (x : Ring) : (d.putRing x).prism = d.prism := rfl
@[simp] theorem Dev.putRing_cap (d : Dev) (x : Ring) : (d.putRing x).cap = d.cap := rfl
@[simp] theorem Dev.putRing_nand (d : Dev) (x : Ring) : (d.putRing x).nand = d.nand := rfl
@[simp] theorem Dev.putRing_recov (d : Dev) (x : Ring) : (d.putRing x).recov = d.recov := rfl
@[simp] theorem Dev.putRing_tap (d : Dev) (x : Ring) : (d.putRing x).tap = d.tap := rfl
@[simp] theorem Dev.putRing_nv (d : Dev) (x : Ring) : (d.putRing x).nv = d.nv := rfl
@[simp] theorem Dev.putRing_sram (d : Dev) (x : Ring) : (d.putRing x).sram = d.sram := rfl
@[simp] theorem Dev.putRing_readData (d : Dev) (x : Ring) : (d.putRing x).readData = d.readData := rfl

@[simp] theorem Dev.putServ_regs (d : Dev) (x : Serv) : (d.putServ x).regs = d.regs := rfl
@[simp] theorem Dev.putServ_raised (d : Dev) (x : Serv) : (d.putServ x).raised = d.raised := rfl
@[simp] theorem Dev.putServ_faults (d : Dev) (x : Serv) : (d.putServ x).faults = d.faults := rfl
@[simp] theorem Dev.putServ_freeCount (d : Dev) (x : Serv) : (d.putServ x).freeCount = d.freeCount := rfl
@[simp] theorem Dev.putServ_pw (d : Dev) (x : Serv) : (d.putServ x).pw = d.pw := rfl
@[simp] theorem Dev.putServ_balls (d : Dev) (x : Serv) : (d.putServ x).balls = d.balls := rfl
@[simp] theorem Dev.putServ_slots (d : Dev) (x : Serv) : (d.putServ x).slots = d.slots := rfl
@[simp] theorem Dev.putServ_boot (d : Dev) (x : Serv) : (d.putServ x).boot = d.boot := rfl
@[simp] theorem Dev.putServ_live (d : Dev) (x : Serv) : (d.putServ x).live = d.live := rfl
@[simp] theorem Dev.putServ_keys (d : Dev) (x : Serv) : (d.putServ x).keys = d.keys := rfl
@[simp] theorem Dev.putServ_host (d : Dev) (x : Serv) : (d.putServ x).host = d.host := rfl
@[simp] theorem Dev.putServ_ev (d : Dev) (x : Serv) : (d.putServ x).ev = d.ev := rfl
@[simp] theorem Dev.putServ_img (d : Dev) (x : Serv) : (d.putServ x).img = d.img := rfl
@[simp] theorem Dev.putServ_tile (d : Dev) (x : Serv) : (d.putServ x).tile = d.tile := rfl
@[simp] theorem Dev.putServ_fmap (d : Dev) (x : Serv) : (d.putServ x).fmap = d.fmap := rfl
@[simp] theorem Dev.putServ_course (d : Dev) (x : Serv) : (d.putServ x).course = d.course := rfl
@[simp] theorem Dev.putServ_sys (d : Dev) (x : Serv) : (d.putServ x).sys = d.sys := rfl
@[simp] theorem Dev.putServ_port (d : Dev) (x : Serv) : (d.putServ x).port = d.port := rfl
@[simp] theorem Dev.putServ_path (d : Dev) (x : Serv) : (d.putServ x).path = d.path := rfl
@[simp] theorem Dev.putServ_chg (d : Dev) (x : Serv) : (d.putServ x).chg = d.chg := rfl
@[simp] theorem Dev.putServ_ret (d : Dev) (x : Serv) : (d.putServ x).ret = d.ret := rfl
@[simp] theorem Dev.putServ_log (d : Dev) (x : Serv) : (d.putServ x).log = d.log := rfl
@[simp] theorem Dev.putServ_lamp (d : Dev) (x : Serv) : (d.putServ x).lamp = d.lamp := rfl
@[simp] theorem Dev.putServ_ring (d : Dev) (x : Serv) : (d.putServ x).ring = d.ring := rfl
@[simp] theorem Dev.putServ_serv (d : Dev) (x : Serv) : (d.putServ x).serv = x := rfl
@[simp] theorem Dev.putServ_ptb (d : Dev) (x : Serv) : (d.putServ x).ptb = d.ptb := rfl
@[simp] theorem Dev.putServ_slotPos (d : Dev) (x : Serv) : (d.putServ x).slotPos = d.slotPos := rfl
@[simp] theorem Dev.putServ_gtSet (d : Dev) (x : Serv) : (d.putServ x).gtSet = d.gtSet := rfl
@[simp] theorem Dev.putServ_lens (d : Dev) (x : Serv) : (d.putServ x).lens = d.lens := rfl
@[simp] theorem Dev.putServ_sensor (d : Dev) (x : Serv) : (d.putServ x).sensor = d.sensor := rfl
@[simp] theorem Dev.putServ_wdt (d : Dev) (x : Serv) : (d.putServ x).wdt = d.wdt := rfl
@[simp] theorem Dev.putServ_prism (d : Dev) (x : Serv) : (d.putServ x).prism = d.prism := rfl
@[simp] theorem Dev.putServ_cap (d : Dev) (x : Serv) : (d.putServ x).cap = d.cap := rfl
@[simp] theorem Dev.putServ_nand (d : Dev) (x : Serv) : (d.putServ x).nand = d.nand := rfl
@[simp] theorem Dev.putServ_recov (d : Dev) (x : Serv) : (d.putServ x).recov = d.recov := rfl
@[simp] theorem Dev.putServ_tap (d : Dev) (x : Serv) : (d.putServ x).tap = d.tap := rfl
@[simp] theorem Dev.putServ_nv (d : Dev) (x : Serv) : (d.putServ x).nv = d.nv := rfl
@[simp] theorem Dev.putServ_sram (d : Dev) (x : Serv) : (d.putServ x).sram = d.sram := rfl
@[simp] theorem Dev.putServ_readData (d : Dev) (x : Serv) : (d.putServ x).readData = d.readData := rfl

@[simp] theorem Dev.putPtb_regs (d : Dev) (x : Ptb) : (d.putPtb x).regs = d.regs := rfl
@[simp] theorem Dev.putPtb_raised (d : Dev) (x : Ptb) : (d.putPtb x).raised = d.raised := rfl
@[simp] theorem Dev.putPtb_faults (d : Dev) (x : Ptb) : (d.putPtb x).faults = d.faults := rfl
@[simp] theorem Dev.putPtb_freeCount (d : Dev) (x : Ptb) : (d.putPtb x).freeCount = d.freeCount := rfl
@[simp] theorem Dev.putPtb_pw (d : Dev) (x : Ptb) : (d.putPtb x).pw = d.pw := rfl
@[simp] theorem Dev.putPtb_balls (d : Dev) (x : Ptb) : (d.putPtb x).balls = d.balls := rfl
@[simp] theorem Dev.putPtb_slots (d : Dev) (x : Ptb) : (d.putPtb x).slots = d.slots := rfl
@[simp] theorem Dev.putPtb_boot (d : Dev) (x : Ptb) : (d.putPtb x).boot = d.boot := rfl
@[simp] theorem Dev.putPtb_live (d : Dev) (x : Ptb) : (d.putPtb x).live = d.live := rfl
@[simp] theorem Dev.putPtb_keys (d : Dev) (x : Ptb) : (d.putPtb x).keys = d.keys := rfl
@[simp] theorem Dev.putPtb_host (d : Dev) (x : Ptb) : (d.putPtb x).host = d.host := rfl
@[simp] theorem Dev.putPtb_ev (d : Dev) (x : Ptb) : (d.putPtb x).ev = d.ev := rfl
@[simp] theorem Dev.putPtb_img (d : Dev) (x : Ptb) : (d.putPtb x).img = d.img := rfl
@[simp] theorem Dev.putPtb_tile (d : Dev) (x : Ptb) : (d.putPtb x).tile = d.tile := rfl
@[simp] theorem Dev.putPtb_fmap (d : Dev) (x : Ptb) : (d.putPtb x).fmap = d.fmap := rfl
@[simp] theorem Dev.putPtb_course (d : Dev) (x : Ptb) : (d.putPtb x).course = d.course := rfl
@[simp] theorem Dev.putPtb_sys (d : Dev) (x : Ptb) : (d.putPtb x).sys = d.sys := rfl
@[simp] theorem Dev.putPtb_port (d : Dev) (x : Ptb) : (d.putPtb x).port = d.port := rfl
@[simp] theorem Dev.putPtb_path (d : Dev) (x : Ptb) : (d.putPtb x).path = d.path := rfl
@[simp] theorem Dev.putPtb_chg (d : Dev) (x : Ptb) : (d.putPtb x).chg = d.chg := rfl
@[simp] theorem Dev.putPtb_ret (d : Dev) (x : Ptb) : (d.putPtb x).ret = d.ret := rfl
@[simp] theorem Dev.putPtb_log (d : Dev) (x : Ptb) : (d.putPtb x).log = d.log := rfl
@[simp] theorem Dev.putPtb_lamp (d : Dev) (x : Ptb) : (d.putPtb x).lamp = d.lamp := rfl
@[simp] theorem Dev.putPtb_ring (d : Dev) (x : Ptb) : (d.putPtb x).ring = d.ring := rfl
@[simp] theorem Dev.putPtb_serv (d : Dev) (x : Ptb) : (d.putPtb x).serv = d.serv := rfl
@[simp] theorem Dev.putPtb_ptb (d : Dev) (x : Ptb) : (d.putPtb x).ptb = x := rfl
@[simp] theorem Dev.putPtb_slotPos (d : Dev) (x : Ptb) : (d.putPtb x).slotPos = d.slotPos := rfl
@[simp] theorem Dev.putPtb_gtSet (d : Dev) (x : Ptb) : (d.putPtb x).gtSet = d.gtSet := rfl
@[simp] theorem Dev.putPtb_lens (d : Dev) (x : Ptb) : (d.putPtb x).lens = d.lens := rfl
@[simp] theorem Dev.putPtb_sensor (d : Dev) (x : Ptb) : (d.putPtb x).sensor = d.sensor := rfl
@[simp] theorem Dev.putPtb_wdt (d : Dev) (x : Ptb) : (d.putPtb x).wdt = d.wdt := rfl
@[simp] theorem Dev.putPtb_prism (d : Dev) (x : Ptb) : (d.putPtb x).prism = d.prism := rfl
@[simp] theorem Dev.putPtb_cap (d : Dev) (x : Ptb) : (d.putPtb x).cap = d.cap := rfl
@[simp] theorem Dev.putPtb_nand (d : Dev) (x : Ptb) : (d.putPtb x).nand = d.nand := rfl
@[simp] theorem Dev.putPtb_recov (d : Dev) (x : Ptb) : (d.putPtb x).recov = d.recov := rfl
@[simp] theorem Dev.putPtb_tap (d : Dev) (x : Ptb) : (d.putPtb x).tap = d.tap := rfl
@[simp] theorem Dev.putPtb_nv (d : Dev) (x : Ptb) : (d.putPtb x).nv = d.nv := rfl
@[simp] theorem Dev.putPtb_sram (d : Dev) (x : Ptb) : (d.putPtb x).sram = d.sram := rfl
@[simp] theorem Dev.putPtb_readData (d : Dev) (x : Ptb) : (d.putPtb x).readData = d.readData := rfl

@[simp] theorem Dev.putSlotPos_regs (d : Dev) (x : Vector Nat 32) : (d.putSlotPos x).regs = d.regs := rfl
@[simp] theorem Dev.putSlotPos_raised (d : Dev) (x : Vector Nat 32) : (d.putSlotPos x).raised = d.raised := rfl
@[simp] theorem Dev.putSlotPos_faults (d : Dev) (x : Vector Nat 32) : (d.putSlotPos x).faults = d.faults := rfl
@[simp] theorem Dev.putSlotPos_freeCount (d : Dev) (x : Vector Nat 32) : (d.putSlotPos x).freeCount = d.freeCount := rfl
@[simp] theorem Dev.putSlotPos_pw (d : Dev) (x : Vector Nat 32) : (d.putSlotPos x).pw = d.pw := rfl
@[simp] theorem Dev.putSlotPos_balls (d : Dev) (x : Vector Nat 32) : (d.putSlotPos x).balls = d.balls := rfl
@[simp] theorem Dev.putSlotPos_slots (d : Dev) (x : Vector Nat 32) : (d.putSlotPos x).slots = d.slots := rfl
@[simp] theorem Dev.putSlotPos_boot (d : Dev) (x : Vector Nat 32) : (d.putSlotPos x).boot = d.boot := rfl
@[simp] theorem Dev.putSlotPos_live (d : Dev) (x : Vector Nat 32) : (d.putSlotPos x).live = d.live := rfl
@[simp] theorem Dev.putSlotPos_keys (d : Dev) (x : Vector Nat 32) : (d.putSlotPos x).keys = d.keys := rfl
@[simp] theorem Dev.putSlotPos_host (d : Dev) (x : Vector Nat 32) : (d.putSlotPos x).host = d.host := rfl
@[simp] theorem Dev.putSlotPos_ev (d : Dev) (x : Vector Nat 32) : (d.putSlotPos x).ev = d.ev := rfl
@[simp] theorem Dev.putSlotPos_img (d : Dev) (x : Vector Nat 32) : (d.putSlotPos x).img = d.img := rfl
@[simp] theorem Dev.putSlotPos_tile (d : Dev) (x : Vector Nat 32) : (d.putSlotPos x).tile = d.tile := rfl
@[simp] theorem Dev.putSlotPos_fmap (d : Dev) (x : Vector Nat 32) : (d.putSlotPos x).fmap = d.fmap := rfl
@[simp] theorem Dev.putSlotPos_course (d : Dev) (x : Vector Nat 32) : (d.putSlotPos x).course = d.course := rfl
@[simp] theorem Dev.putSlotPos_sys (d : Dev) (x : Vector Nat 32) : (d.putSlotPos x).sys = d.sys := rfl
@[simp] theorem Dev.putSlotPos_port (d : Dev) (x : Vector Nat 32) : (d.putSlotPos x).port = d.port := rfl
@[simp] theorem Dev.putSlotPos_path (d : Dev) (x : Vector Nat 32) : (d.putSlotPos x).path = d.path := rfl
@[simp] theorem Dev.putSlotPos_chg (d : Dev) (x : Vector Nat 32) : (d.putSlotPos x).chg = d.chg := rfl
@[simp] theorem Dev.putSlotPos_ret (d : Dev) (x : Vector Nat 32) : (d.putSlotPos x).ret = d.ret := rfl
@[simp] theorem Dev.putSlotPos_log (d : Dev) (x : Vector Nat 32) : (d.putSlotPos x).log = d.log := rfl
@[simp] theorem Dev.putSlotPos_lamp (d : Dev) (x : Vector Nat 32) : (d.putSlotPos x).lamp = d.lamp := rfl
@[simp] theorem Dev.putSlotPos_ring (d : Dev) (x : Vector Nat 32) : (d.putSlotPos x).ring = d.ring := rfl
@[simp] theorem Dev.putSlotPos_serv (d : Dev) (x : Vector Nat 32) : (d.putSlotPos x).serv = d.serv := rfl
@[simp] theorem Dev.putSlotPos_ptb (d : Dev) (x : Vector Nat 32) : (d.putSlotPos x).ptb = d.ptb := rfl
@[simp] theorem Dev.putSlotPos_slotPos (d : Dev) (x : Vector Nat 32) : (d.putSlotPos x).slotPos = x := rfl
@[simp] theorem Dev.putSlotPos_gtSet (d : Dev) (x : Vector Nat 32) : (d.putSlotPos x).gtSet = d.gtSet := rfl
@[simp] theorem Dev.putSlotPos_lens (d : Dev) (x : Vector Nat 32) : (d.putSlotPos x).lens = d.lens := rfl
@[simp] theorem Dev.putSlotPos_sensor (d : Dev) (x : Vector Nat 32) : (d.putSlotPos x).sensor = d.sensor := rfl
@[simp] theorem Dev.putSlotPos_wdt (d : Dev) (x : Vector Nat 32) : (d.putSlotPos x).wdt = d.wdt := rfl
@[simp] theorem Dev.putSlotPos_prism (d : Dev) (x : Vector Nat 32) : (d.putSlotPos x).prism = d.prism := rfl
@[simp] theorem Dev.putSlotPos_cap (d : Dev) (x : Vector Nat 32) : (d.putSlotPos x).cap = d.cap := rfl
@[simp] theorem Dev.putSlotPos_nand (d : Dev) (x : Vector Nat 32) : (d.putSlotPos x).nand = d.nand := rfl
@[simp] theorem Dev.putSlotPos_recov (d : Dev) (x : Vector Nat 32) : (d.putSlotPos x).recov = d.recov := rfl
@[simp] theorem Dev.putSlotPos_tap (d : Dev) (x : Vector Nat 32) : (d.putSlotPos x).tap = d.tap := rfl
@[simp] theorem Dev.putSlotPos_nv (d : Dev) (x : Vector Nat 32) : (d.putSlotPos x).nv = d.nv := rfl
@[simp] theorem Dev.putSlotPos_sram (d : Dev) (x : Vector Nat 32) : (d.putSlotPos x).sram = d.sram := rfl
@[simp] theorem Dev.putSlotPos_readData (d : Dev) (x : Vector Nat 32) : (d.putSlotPos x).readData = d.readData := rfl

@[simp] theorem Dev.putGtSet_regs (d : Dev) (x : List Nat) : (d.putGtSet x).regs = d.regs := rfl
@[simp] theorem Dev.putGtSet_raised (d : Dev) (x : List Nat) : (d.putGtSet x).raised = d.raised := rfl
@[simp] theorem Dev.putGtSet_faults (d : Dev) (x : List Nat) : (d.putGtSet x).faults = d.faults := rfl
@[simp] theorem Dev.putGtSet_freeCount (d : Dev) (x : List Nat) : (d.putGtSet x).freeCount = d.freeCount := rfl
@[simp] theorem Dev.putGtSet_pw (d : Dev) (x : List Nat) : (d.putGtSet x).pw = d.pw := rfl
@[simp] theorem Dev.putGtSet_balls (d : Dev) (x : List Nat) : (d.putGtSet x).balls = d.balls := rfl
@[simp] theorem Dev.putGtSet_slots (d : Dev) (x : List Nat) : (d.putGtSet x).slots = d.slots := rfl
@[simp] theorem Dev.putGtSet_boot (d : Dev) (x : List Nat) : (d.putGtSet x).boot = d.boot := rfl
@[simp] theorem Dev.putGtSet_live (d : Dev) (x : List Nat) : (d.putGtSet x).live = d.live := rfl
@[simp] theorem Dev.putGtSet_keys (d : Dev) (x : List Nat) : (d.putGtSet x).keys = d.keys := rfl
@[simp] theorem Dev.putGtSet_host (d : Dev) (x : List Nat) : (d.putGtSet x).host = d.host := rfl
@[simp] theorem Dev.putGtSet_ev (d : Dev) (x : List Nat) : (d.putGtSet x).ev = d.ev := rfl
@[simp] theorem Dev.putGtSet_img (d : Dev) (x : List Nat) : (d.putGtSet x).img = d.img := rfl
@[simp] theorem Dev.putGtSet_tile (d : Dev) (x : List Nat) : (d.putGtSet x).tile = d.tile := rfl
@[simp] theorem Dev.putGtSet_fmap (d : Dev) (x : List Nat) : (d.putGtSet x).fmap = d.fmap := rfl
@[simp] theorem Dev.putGtSet_course (d : Dev) (x : List Nat) : (d.putGtSet x).course = d.course := rfl
@[simp] theorem Dev.putGtSet_sys (d : Dev) (x : List Nat) : (d.putGtSet x).sys = d.sys := rfl
@[simp] theorem Dev.putGtSet_port (d : Dev) (x : List Nat) : (d.putGtSet x).port = d.port := rfl
@[simp] theorem Dev.putGtSet_path (d : Dev) (x : List Nat) : (d.putGtSet x).path = d.path := rfl
@[simp] theorem Dev.putGtSet_chg (d : Dev) (x : List Nat) : (d.putGtSet x).chg = d.chg := rfl
@[simp] theorem Dev.putGtSet_ret (d : Dev) (x : List Nat) : (d.putGtSet x).ret = d.ret := rfl
@[simp] theorem Dev.putGtSet_log (d : Dev) (x : List Nat) : (d.putGtSet x).log = d.log := rfl
@[simp] theorem Dev.putGtSet_lamp (d : Dev) (x : List Nat) : (d.putGtSet x).lamp = d.lamp := rfl
@[simp] theorem Dev.putGtSet_ring (d : Dev) (x : List Nat) : (d.putGtSet x).ring = d.ring := rfl
@[simp] theorem Dev.putGtSet_serv (d : Dev) (x : List Nat) : (d.putGtSet x).serv = d.serv := rfl
@[simp] theorem Dev.putGtSet_ptb (d : Dev) (x : List Nat) : (d.putGtSet x).ptb = d.ptb := rfl
@[simp] theorem Dev.putGtSet_slotPos (d : Dev) (x : List Nat) : (d.putGtSet x).slotPos = d.slotPos := rfl
@[simp] theorem Dev.putGtSet_gtSet (d : Dev) (x : List Nat) : (d.putGtSet x).gtSet = x := rfl
@[simp] theorem Dev.putGtSet_lens (d : Dev) (x : List Nat) : (d.putGtSet x).lens = d.lens := rfl
@[simp] theorem Dev.putGtSet_sensor (d : Dev) (x : List Nat) : (d.putGtSet x).sensor = d.sensor := rfl
@[simp] theorem Dev.putGtSet_wdt (d : Dev) (x : List Nat) : (d.putGtSet x).wdt = d.wdt := rfl
@[simp] theorem Dev.putGtSet_prism (d : Dev) (x : List Nat) : (d.putGtSet x).prism = d.prism := rfl
@[simp] theorem Dev.putGtSet_cap (d : Dev) (x : List Nat) : (d.putGtSet x).cap = d.cap := rfl
@[simp] theorem Dev.putGtSet_nand (d : Dev) (x : List Nat) : (d.putGtSet x).nand = d.nand := rfl
@[simp] theorem Dev.putGtSet_recov (d : Dev) (x : List Nat) : (d.putGtSet x).recov = d.recov := rfl
@[simp] theorem Dev.putGtSet_tap (d : Dev) (x : List Nat) : (d.putGtSet x).tap = d.tap := rfl
@[simp] theorem Dev.putGtSet_nv (d : Dev) (x : List Nat) : (d.putGtSet x).nv = d.nv := rfl
@[simp] theorem Dev.putGtSet_sram (d : Dev) (x : List Nat) : (d.putGtSet x).sram = d.sram := rfl
@[simp] theorem Dev.putGtSet_readData (d : Dev) (x : List Nat) : (d.putGtSet x).readData = d.readData := rfl

@[simp] theorem Dev.putLens_regs (d : Dev) (x : Vector Lens 24) : (d.putLens x).regs = d.regs := rfl
@[simp] theorem Dev.putLens_raised (d : Dev) (x : Vector Lens 24) : (d.putLens x).raised = d.raised := rfl
@[simp] theorem Dev.putLens_faults (d : Dev) (x : Vector Lens 24) : (d.putLens x).faults = d.faults := rfl
@[simp] theorem Dev.putLens_freeCount (d : Dev) (x : Vector Lens 24) : (d.putLens x).freeCount = d.freeCount := rfl
@[simp] theorem Dev.putLens_pw (d : Dev) (x : Vector Lens 24) : (d.putLens x).pw = d.pw := rfl
@[simp] theorem Dev.putLens_balls (d : Dev) (x : Vector Lens 24) : (d.putLens x).balls = d.balls := rfl
@[simp] theorem Dev.putLens_slots (d : Dev) (x : Vector Lens 24) : (d.putLens x).slots = d.slots := rfl
@[simp] theorem Dev.putLens_boot (d : Dev) (x : Vector Lens 24) : (d.putLens x).boot = d.boot := rfl
@[simp] theorem Dev.putLens_live (d : Dev) (x : Vector Lens 24) : (d.putLens x).live = d.live := rfl
@[simp] theorem Dev.putLens_keys (d : Dev) (x : Vector Lens 24) : (d.putLens x).keys = d.keys := rfl
@[simp] theorem Dev.putLens_host (d : Dev) (x : Vector Lens 24) : (d.putLens x).host = d.host := rfl
@[simp] theorem Dev.putLens_ev (d : Dev) (x : Vector Lens 24) : (d.putLens x).ev = d.ev := rfl
@[simp] theorem Dev.putLens_img (d : Dev) (x : Vector Lens 24) : (d.putLens x).img = d.img := rfl
@[simp] theorem Dev.putLens_tile (d : Dev) (x : Vector Lens 24) : (d.putLens x).tile = d.tile := rfl
@[simp] theorem Dev.putLens_fmap (d : Dev) (x : Vector Lens 24) : (d.putLens x).fmap = d.fmap := rfl
@[simp] theorem Dev.putLens_course (d : Dev) (x : Vector Lens 24) : (d.putLens x).course = d.course := rfl
@[simp] theorem Dev.putLens_sys (d : Dev) (x : Vector Lens 24) : (d.putLens x).sys = d.sys := rfl
@[simp] theorem Dev.putLens_port (d : Dev) (x : Vector Lens 24) : (d.putLens x).port = d.port := rfl
@[simp] theorem Dev.putLens_path (d : Dev) (x : Vector Lens 24) : (d.putLens x).path = d.path := rfl
@[simp] theorem Dev.putLens_chg (d : Dev) (x : Vector Lens 24) : (d.putLens x).chg = d.chg := rfl
@[simp] theorem Dev.putLens_ret (d : Dev) (x : Vector Lens 24) : (d.putLens x).ret = d.ret := rfl
@[simp] theorem Dev.putLens_log (d : Dev) (x : Vector Lens 24) : (d.putLens x).log = d.log := rfl
@[simp] theorem Dev.putLens_lamp (d : Dev) (x : Vector Lens 24) : (d.putLens x).lamp = d.lamp := rfl
@[simp] theorem Dev.putLens_ring (d : Dev) (x : Vector Lens 24) : (d.putLens x).ring = d.ring := rfl
@[simp] theorem Dev.putLens_serv (d : Dev) (x : Vector Lens 24) : (d.putLens x).serv = d.serv := rfl
@[simp] theorem Dev.putLens_ptb (d : Dev) (x : Vector Lens 24) : (d.putLens x).ptb = d.ptb := rfl
@[simp] theorem Dev.putLens_slotPos (d : Dev) (x : Vector Lens 24) : (d.putLens x).slotPos = d.slotPos := rfl
@[simp] theorem Dev.putLens_gtSet (d : Dev) (x : Vector Lens 24) : (d.putLens x).gtSet = d.gtSet := rfl
@[simp] theorem Dev.putLens_lens (d : Dev) (x : Vector Lens 24) : (d.putLens x).lens = x := rfl
@[simp] theorem Dev.putLens_sensor (d : Dev) (x : Vector Lens 24) : (d.putLens x).sensor = d.sensor := rfl
@[simp] theorem Dev.putLens_wdt (d : Dev) (x : Vector Lens 24) : (d.putLens x).wdt = d.wdt := rfl
@[simp] theorem Dev.putLens_prism (d : Dev) (x : Vector Lens 24) : (d.putLens x).prism = d.prism := rfl
@[simp] theorem Dev.putLens_cap (d : Dev) (x : Vector Lens 24) : (d.putLens x).cap = d.cap := rfl
@[simp] theorem Dev.putLens_nand (d : Dev) (x : Vector Lens 24) : (d.putLens x).nand = d.nand := rfl
@[simp] theorem Dev.putLens_recov (d : Dev) (x : Vector Lens 24) : (d.putLens x).recov = d.recov := rfl
@[simp] theorem Dev.putLens_tap (d : Dev) (x : Vector Lens 24) : (d.putLens x).tap = d.tap := rfl
@[simp] theorem Dev.putLens_nv (d : Dev) (x : Vector Lens 24) : (d.putLens x).nv = d.nv := rfl
@[simp] theorem Dev.putLens_sram (d : Dev) (x : Vector Lens 24) : (d.putLens x).sram = d.sram := rfl
@[simp] theorem Dev.putLens_readData (d : Dev) (x : Vector Lens 24) : (d.putLens x).readData = d.readData := rfl

@[simp] theorem Dev.putSensor_regs (d : Dev) (x : Vector Sensor 12) : (d.putSensor x).regs = d.regs := rfl
@[simp] theorem Dev.putSensor_raised (d : Dev) (x : Vector Sensor 12) : (d.putSensor x).raised = d.raised := rfl
@[simp] theorem Dev.putSensor_faults (d : Dev) (x : Vector Sensor 12) : (d.putSensor x).faults = d.faults := rfl
@[simp] theorem Dev.putSensor_freeCount (d : Dev) (x : Vector Sensor 12) : (d.putSensor x).freeCount = d.freeCount := rfl
@[simp] theorem Dev.putSensor_pw (d : Dev) (x : Vector Sensor 12) : (d.putSensor x).pw = d.pw := rfl
@[simp] theorem Dev.putSensor_balls (d : Dev) (x : Vector Sensor 12) : (d.putSensor x).balls = d.balls := rfl
@[simp] theorem Dev.putSensor_slots (d : Dev) (x : Vector Sensor 12) : (d.putSensor x).slots = d.slots := rfl
@[simp] theorem Dev.putSensor_boot (d : Dev) (x : Vector Sensor 12) : (d.putSensor x).boot = d.boot := rfl
@[simp] theorem Dev.putSensor_live (d : Dev) (x : Vector Sensor 12) : (d.putSensor x).live = d.live := rfl
@[simp] theorem Dev.putSensor_keys (d : Dev) (x : Vector Sensor 12) : (d.putSensor x).keys = d.keys := rfl
@[simp] theorem Dev.putSensor_host (d : Dev) (x : Vector Sensor 12) : (d.putSensor x).host = d.host := rfl
@[simp] theorem Dev.putSensor_ev (d : Dev) (x : Vector Sensor 12) : (d.putSensor x).ev = d.ev := rfl
@[simp] theorem Dev.putSensor_img (d : Dev) (x : Vector Sensor 12) : (d.putSensor x).img = d.img := rfl
@[simp] theorem Dev.putSensor_tile (d : Dev) (x : Vector Sensor 12) : (d.putSensor x).tile = d.tile := rfl
@[simp] theorem Dev.putSensor_fmap (d : Dev) (x : Vector Sensor 12) : (d.putSensor x).fmap = d.fmap := rfl
@[simp] theorem Dev.putSensor_course (d : Dev) (x : Vector Sensor 12) : (d.putSensor x).course = d.course := rfl
@[simp] theorem Dev.putSensor_sys (d : Dev) (x : Vector Sensor 12) : (d.putSensor x).sys = d.sys := rfl
@[simp] theorem Dev.putSensor_port (d : Dev) (x : Vector Sensor 12) : (d.putSensor x).port = d.port := rfl
@[simp] theorem Dev.putSensor_path (d : Dev) (x : Vector Sensor 12) : (d.putSensor x).path = d.path := rfl
@[simp] theorem Dev.putSensor_chg (d : Dev) (x : Vector Sensor 12) : (d.putSensor x).chg = d.chg := rfl
@[simp] theorem Dev.putSensor_ret (d : Dev) (x : Vector Sensor 12) : (d.putSensor x).ret = d.ret := rfl
@[simp] theorem Dev.putSensor_log (d : Dev) (x : Vector Sensor 12) : (d.putSensor x).log = d.log := rfl
@[simp] theorem Dev.putSensor_lamp (d : Dev) (x : Vector Sensor 12) : (d.putSensor x).lamp = d.lamp := rfl
@[simp] theorem Dev.putSensor_ring (d : Dev) (x : Vector Sensor 12) : (d.putSensor x).ring = d.ring := rfl
@[simp] theorem Dev.putSensor_serv (d : Dev) (x : Vector Sensor 12) : (d.putSensor x).serv = d.serv := rfl
@[simp] theorem Dev.putSensor_ptb (d : Dev) (x : Vector Sensor 12) : (d.putSensor x).ptb = d.ptb := rfl
@[simp] theorem Dev.putSensor_slotPos (d : Dev) (x : Vector Sensor 12) : (d.putSensor x).slotPos = d.slotPos := rfl
@[simp] theorem Dev.putSensor_gtSet (d : Dev) (x : Vector Sensor 12) : (d.putSensor x).gtSet = d.gtSet := rfl
@[simp] theorem Dev.putSensor_lens (d : Dev) (x : Vector Sensor 12) : (d.putSensor x).lens = d.lens := rfl
@[simp] theorem Dev.putSensor_sensor (d : Dev) (x : Vector Sensor 12) : (d.putSensor x).sensor = x := rfl
@[simp] theorem Dev.putSensor_wdt (d : Dev) (x : Vector Sensor 12) : (d.putSensor x).wdt = d.wdt := rfl
@[simp] theorem Dev.putSensor_prism (d : Dev) (x : Vector Sensor 12) : (d.putSensor x).prism = d.prism := rfl
@[simp] theorem Dev.putSensor_cap (d : Dev) (x : Vector Sensor 12) : (d.putSensor x).cap = d.cap := rfl
@[simp] theorem Dev.putSensor_nand (d : Dev) (x : Vector Sensor 12) : (d.putSensor x).nand = d.nand := rfl
@[simp] theorem Dev.putSensor_recov (d : Dev) (x : Vector Sensor 12) : (d.putSensor x).recov = d.recov := rfl
@[simp] theorem Dev.putSensor_tap (d : Dev) (x : Vector Sensor 12) : (d.putSensor x).tap = d.tap := rfl
@[simp] theorem Dev.putSensor_nv (d : Dev) (x : Vector Sensor 12) : (d.putSensor x).nv = d.nv := rfl
@[simp] theorem Dev.putSensor_sram (d : Dev) (x : Vector Sensor 12) : (d.putSensor x).sram = d.sram := rfl
@[simp] theorem Dev.putSensor_readData (d : Dev) (x : Vector Sensor 12) : (d.putSensor x).readData = d.readData := rfl

@[simp] theorem Dev.putWdt_regs (d : Dev) (x : Wdt) : (d.putWdt x).regs = d.regs := rfl
@[simp] theorem Dev.putWdt_raised (d : Dev) (x : Wdt) : (d.putWdt x).raised = d.raised := rfl
@[simp] theorem Dev.putWdt_faults (d : Dev) (x : Wdt) : (d.putWdt x).faults = d.faults := rfl
@[simp] theorem Dev.putWdt_freeCount (d : Dev) (x : Wdt) : (d.putWdt x).freeCount = d.freeCount := rfl
@[simp] theorem Dev.putWdt_pw (d : Dev) (x : Wdt) : (d.putWdt x).pw = d.pw := rfl
@[simp] theorem Dev.putWdt_balls (d : Dev) (x : Wdt) : (d.putWdt x).balls = d.balls := rfl
@[simp] theorem Dev.putWdt_slots (d : Dev) (x : Wdt) : (d.putWdt x).slots = d.slots := rfl
@[simp] theorem Dev.putWdt_boot (d : Dev) (x : Wdt) : (d.putWdt x).boot = d.boot := rfl
@[simp] theorem Dev.putWdt_live (d : Dev) (x : Wdt) : (d.putWdt x).live = d.live := rfl
@[simp] theorem Dev.putWdt_keys (d : Dev) (x : Wdt) : (d.putWdt x).keys = d.keys := rfl
@[simp] theorem Dev.putWdt_host (d : Dev) (x : Wdt) : (d.putWdt x).host = d.host := rfl
@[simp] theorem Dev.putWdt_ev (d : Dev) (x : Wdt) : (d.putWdt x).ev = d.ev := rfl
@[simp] theorem Dev.putWdt_img (d : Dev) (x : Wdt) : (d.putWdt x).img = d.img := rfl
@[simp] theorem Dev.putWdt_tile (d : Dev) (x : Wdt) : (d.putWdt x).tile = d.tile := rfl
@[simp] theorem Dev.putWdt_fmap (d : Dev) (x : Wdt) : (d.putWdt x).fmap = d.fmap := rfl
@[simp] theorem Dev.putWdt_course (d : Dev) (x : Wdt) : (d.putWdt x).course = d.course := rfl
@[simp] theorem Dev.putWdt_sys (d : Dev) (x : Wdt) : (d.putWdt x).sys = d.sys := rfl
@[simp] theorem Dev.putWdt_port (d : Dev) (x : Wdt) : (d.putWdt x).port = d.port := rfl
@[simp] theorem Dev.putWdt_path (d : Dev) (x : Wdt) : (d.putWdt x).path = d.path := rfl
@[simp] theorem Dev.putWdt_chg (d : Dev) (x : Wdt) : (d.putWdt x).chg = d.chg := rfl
@[simp] theorem Dev.putWdt_ret (d : Dev) (x : Wdt) : (d.putWdt x).ret = d.ret := rfl
@[simp] theorem Dev.putWdt_log (d : Dev) (x : Wdt) : (d.putWdt x).log = d.log := rfl
@[simp] theorem Dev.putWdt_lamp (d : Dev) (x : Wdt) : (d.putWdt x).lamp = d.lamp := rfl
@[simp] theorem Dev.putWdt_ring (d : Dev) (x : Wdt) : (d.putWdt x).ring = d.ring := rfl
@[simp] theorem Dev.putWdt_serv (d : Dev) (x : Wdt) : (d.putWdt x).serv = d.serv := rfl
@[simp] theorem Dev.putWdt_ptb (d : Dev) (x : Wdt) : (d.putWdt x).ptb = d.ptb := rfl
@[simp] theorem Dev.putWdt_slotPos (d : Dev) (x : Wdt) : (d.putWdt x).slotPos = d.slotPos := rfl
@[simp] theorem Dev.putWdt_gtSet (d : Dev) (x : Wdt) : (d.putWdt x).gtSet = d.gtSet := rfl
@[simp] theorem Dev.putWdt_lens (d : Dev) (x : Wdt) : (d.putWdt x).lens = d.lens := rfl
@[simp] theorem Dev.putWdt_sensor (d : Dev) (x : Wdt) : (d.putWdt x).sensor = d.sensor := rfl
@[simp] theorem Dev.putWdt_wdt (d : Dev) (x : Wdt) : (d.putWdt x).wdt = x := rfl
@[simp] theorem Dev.putWdt_prism (d : Dev) (x : Wdt) : (d.putWdt x).prism = d.prism := rfl
@[simp] theorem Dev.putWdt_cap (d : Dev) (x : Wdt) : (d.putWdt x).cap = d.cap := rfl
@[simp] theorem Dev.putWdt_nand (d : Dev) (x : Wdt) : (d.putWdt x).nand = d.nand := rfl
@[simp] theorem Dev.putWdt_recov (d : Dev) (x : Wdt) : (d.putWdt x).recov = d.recov := rfl
@[simp] theorem Dev.putWdt_tap (d : Dev) (x : Wdt) : (d.putWdt x).tap = d.tap := rfl
@[simp] theorem Dev.putWdt_nv (d : Dev) (x : Wdt) : (d.putWdt x).nv = d.nv := rfl
@[simp] theorem Dev.putWdt_sram (d : Dev) (x : Wdt) : (d.putWdt x).sram = d.sram := rfl
@[simp] theorem Dev.putWdt_readData (d : Dev) (x : Wdt) : (d.putWdt x).readData = d.readData := rfl

@[simp] theorem Dev.putPrism_regs (d : Dev) (x : Prism) : (d.putPrism x).regs = d.regs := rfl
@[simp] theorem Dev.putPrism_raised (d : Dev) (x : Prism) : (d.putPrism x).raised = d.raised := rfl
@[simp] theorem Dev.putPrism_faults (d : Dev) (x : Prism) : (d.putPrism x).faults = d.faults := rfl
@[simp] theorem Dev.putPrism_freeCount (d : Dev) (x : Prism) : (d.putPrism x).freeCount = d.freeCount := rfl
@[simp] theorem Dev.putPrism_pw (d : Dev) (x : Prism) : (d.putPrism x).pw = d.pw := rfl
@[simp] theorem Dev.putPrism_balls (d : Dev) (x : Prism) : (d.putPrism x).balls = d.balls := rfl
@[simp] theorem Dev.putPrism_slots (d : Dev) (x : Prism) : (d.putPrism x).slots = d.slots := rfl
@[simp] theorem Dev.putPrism_boot (d : Dev) (x : Prism) : (d.putPrism x).boot = d.boot := rfl
@[simp] theorem Dev.putPrism_live (d : Dev) (x : Prism) : (d.putPrism x).live = d.live := rfl
@[simp] theorem Dev.putPrism_keys (d : Dev) (x : Prism) : (d.putPrism x).keys = d.keys := rfl
@[simp] theorem Dev.putPrism_host (d : Dev) (x : Prism) : (d.putPrism x).host = d.host := rfl
@[simp] theorem Dev.putPrism_ev (d : Dev) (x : Prism) : (d.putPrism x).ev = d.ev := rfl
@[simp] theorem Dev.putPrism_img (d : Dev) (x : Prism) : (d.putPrism x).img = d.img := rfl
@[simp] theorem Dev.putPrism_tile (d : Dev) (x : Prism) : (d.putPrism x).tile = d.tile := rfl
@[simp] theorem Dev.putPrism_fmap (d : Dev) (x : Prism) : (d.putPrism x).fmap = d.fmap := rfl
@[simp] theorem Dev.putPrism_course (d : Dev) (x : Prism) : (d.putPrism x).course = d.course := rfl
@[simp] theorem Dev.putPrism_sys (d : Dev) (x : Prism) : (d.putPrism x).sys = d.sys := rfl
@[simp] theorem Dev.putPrism_port (d : Dev) (x : Prism) : (d.putPrism x).port = d.port := rfl
@[simp] theorem Dev.putPrism_path (d : Dev) (x : Prism) : (d.putPrism x).path = d.path := rfl
@[simp] theorem Dev.putPrism_chg (d : Dev) (x : Prism) : (d.putPrism x).chg = d.chg := rfl
@[simp] theorem Dev.putPrism_ret (d : Dev) (x : Prism) : (d.putPrism x).ret = d.ret := rfl
@[simp] theorem Dev.putPrism_log (d : Dev) (x : Prism) : (d.putPrism x).log = d.log := rfl
@[simp] theorem Dev.putPrism_lamp (d : Dev) (x : Prism) : (d.putPrism x).lamp = d.lamp := rfl
@[simp] theorem Dev.putPrism_ring (d : Dev) (x : Prism) : (d.putPrism x).ring = d.ring := rfl
@[simp] theorem Dev.putPrism_serv (d : Dev) (x : Prism) : (d.putPrism x).serv = d.serv := rfl
@[simp] theorem Dev.putPrism_ptb (d : Dev) (x : Prism) : (d.putPrism x).ptb = d.ptb := rfl
@[simp] theorem Dev.putPrism_slotPos (d : Dev) (x : Prism) : (d.putPrism x).slotPos = d.slotPos := rfl
@[simp] theorem Dev.putPrism_gtSet (d : Dev) (x : Prism) : (d.putPrism x).gtSet = d.gtSet := rfl
@[simp] theorem Dev.putPrism_lens (d : Dev) (x : Prism) : (d.putPrism x).lens = d.lens := rfl
@[simp] theorem Dev.putPrism_sensor (d : Dev) (x : Prism) : (d.putPrism x).sensor = d.sensor := rfl
@[simp] theorem Dev.putPrism_wdt (d : Dev) (x : Prism) : (d.putPrism x).wdt = d.wdt := rfl
@[simp] theorem Dev.putPrism_prism (d : Dev) (x : Prism) : (d.putPrism x).prism = x := rfl
@[simp] theorem Dev.putPrism_cap (d : Dev) (x : Prism) : (d.putPrism x).cap = d.cap := rfl
@[simp] theorem Dev.putPrism_nand (d : Dev) (x : Prism) : (d.putPrism x).nand = d.nand := rfl
@[simp] theorem Dev.putPrism_recov (d : Dev) (x : Prism) : (d.putPrism x).recov = d.recov := rfl
@[simp] theorem Dev.putPrism_tap (d : Dev) (x : Prism) : (d.putPrism x).tap = d.tap := rfl
@[simp] theorem Dev.putPrism_nv (d : Dev) (x : Prism) : (d.putPrism x).nv = d.nv := rfl
@[simp] theorem Dev.putPrism_sram (d : Dev) (x : Prism) : (d.putPrism x).sram = d.sram := rfl
@[simp] theorem Dev.putPrism_readData (d : Dev) (x : Prism) : (d.putPrism x).readData = d.readData := rfl

@[simp] theorem Dev.putCap_regs (d : Dev) (x : Capture) : (d.putCap x).regs = d.regs := rfl
@[simp] theorem Dev.putCap_raised (d : Dev) (x : Capture) : (d.putCap x).raised = d.raised := rfl
@[simp] theorem Dev.putCap_faults (d : Dev) (x : Capture) : (d.putCap x).faults = d.faults := rfl
@[simp] theorem Dev.putCap_freeCount (d : Dev) (x : Capture) : (d.putCap x).freeCount = d.freeCount := rfl
@[simp] theorem Dev.putCap_pw (d : Dev) (x : Capture) : (d.putCap x).pw = d.pw := rfl
@[simp] theorem Dev.putCap_balls (d : Dev) (x : Capture) : (d.putCap x).balls = d.balls := rfl
@[simp] theorem Dev.putCap_slots (d : Dev) (x : Capture) : (d.putCap x).slots = d.slots := rfl
@[simp] theorem Dev.putCap_boot (d : Dev) (x : Capture) : (d.putCap x).boot = d.boot := rfl
@[simp] theorem Dev.putCap_live (d : Dev) (x : Capture) : (d.putCap x).live = d.live := rfl
@[simp] theorem Dev.putCap_keys (d : Dev) (x : Capture) : (d.putCap x).keys = d.keys := rfl
@[simp] theorem Dev.putCap_host (d : Dev) (x : Capture) : (d.putCap x).host = d.host := rfl
@[simp] theorem Dev.putCap_ev (d : Dev) (x : Capture) : (d.putCap x).ev = d.ev := rfl
@[simp] theorem Dev.putCap_img (d : Dev) (x : Capture) : (d.putCap x).img = d.img := rfl
@[simp] theorem Dev.putCap_tile (d : Dev) (x : Capture) : (d.putCap x).tile = d.tile := rfl
@[simp] theorem Dev.putCap_fmap (d : Dev) (x : Capture) : (d.putCap x).fmap = d.fmap := rfl
@[simp] theorem Dev.putCap_course (d : Dev) (x : Capture) : (d.putCap x).course = d.course := rfl
@[simp] theorem Dev.putCap_sys (d : Dev) (x : Capture) : (d.putCap x).sys = d.sys := rfl
@[simp] theorem Dev.putCap_port (d : Dev) (x : Capture) : (d.putCap x).port = d.port := rfl
@[simp] theorem Dev.putCap_path (d : Dev) (x : Capture) : (d.putCap x).path = d.path := rfl
@[simp] theorem Dev.putCap_chg (d : Dev) (x : Capture) : (d.putCap x).chg = d.chg := rfl
@[simp] theorem Dev.putCap_ret (d : Dev) (x : Capture) : (d.putCap x).ret = d.ret := rfl
@[simp] theorem Dev.putCap_log (d : Dev) (x : Capture) : (d.putCap x).log = d.log := rfl
@[simp] theorem Dev.putCap_lamp (d : Dev) (x : Capture) : (d.putCap x).lamp = d.lamp := rfl
@[simp] theorem Dev.putCap_ring (d : Dev) (x : Capture) : (d.putCap x).ring = d.ring := rfl
@[simp] theorem Dev.putCap_serv (d : Dev) (x : Capture) : (d.putCap x).serv = d.serv := rfl
@[simp] theorem Dev.putCap_ptb (d : Dev) (x : Capture) : (d.putCap x).ptb = d.ptb := rfl
@[simp] theorem Dev.putCap_slotPos (d : Dev) (x : Capture) : (d.putCap x).slotPos = d.slotPos := rfl
@[simp] theorem Dev.putCap_gtSet (d : Dev) (x : Capture) : (d.putCap x).gtSet = d.gtSet := rfl
@[simp] theorem Dev.putCap_lens (d : Dev) (x : Capture) : (d.putCap x).lens = d.lens := rfl
@[simp] theorem Dev.putCap_sensor (d : Dev) (x : Capture) : (d.putCap x).sensor = d.sensor := rfl
@[simp] theorem Dev.putCap_wdt (d : Dev) (x : Capture) : (d.putCap x).wdt = d.wdt := rfl
@[simp] theorem Dev.putCap_prism (d : Dev) (x : Capture) : (d.putCap x).prism = d.prism := rfl
@[simp] theorem Dev.putCap_cap (d : Dev) (x : Capture) : (d.putCap x).cap = x := rfl
@[simp] theorem Dev.putCap_nand (d : Dev) (x : Capture) : (d.putCap x).nand = d.nand := rfl
@[simp] theorem Dev.putCap_recov (d : Dev) (x : Capture) : (d.putCap x).recov = d.recov := rfl
@[simp] theorem Dev.putCap_tap (d : Dev) (x : Capture) : (d.putCap x).tap = d.tap := rfl
@[simp] theorem Dev.putCap_nv (d : Dev) (x : Capture) : (d.putCap x).nv = d.nv := rfl
@[simp] theorem Dev.putCap_sram (d : Dev) (x : Capture) : (d.putCap x).sram = d.sram := rfl
@[simp] theorem Dev.putCap_readData (d : Dev) (x : Capture) : (d.putCap x).readData = d.readData := rfl

@[simp] theorem Dev.putNand_regs (d : Dev) (x : Nand) : (d.putNand x).regs = d.regs := rfl
@[simp] theorem Dev.putNand_raised (d : Dev) (x : Nand) : (d.putNand x).raised = d.raised := rfl
@[simp] theorem Dev.putNand_faults (d : Dev) (x : Nand) : (d.putNand x).faults = d.faults := rfl
@[simp] theorem Dev.putNand_freeCount (d : Dev) (x : Nand) : (d.putNand x).freeCount = d.freeCount := rfl
@[simp] theorem Dev.putNand_pw (d : Dev) (x : Nand) : (d.putNand x).pw = d.pw := rfl
@[simp] theorem Dev.putNand_balls (d : Dev) (x : Nand) : (d.putNand x).balls = d.balls := rfl
@[simp] theorem Dev.putNand_slots (d : Dev) (x : Nand) : (d.putNand x).slots = d.slots := rfl
@[simp] theorem Dev.putNand_boot (d : Dev) (x : Nand) : (d.putNand x).boot = d.boot := rfl
@[simp] theorem Dev.putNand_live (d : Dev) (x : Nand) : (d.putNand x).live = d.live := rfl
@[simp] theorem Dev.putNand_keys (d : Dev) (x : Nand) : (d.putNand x).keys = d.keys := rfl
@[simp] theorem Dev.putNand_host (d : Dev) (x : Nand) : (d.putNand x).host = d.host := rfl
@[simp] theorem Dev.putNand_ev (d : Dev) (x : Nand) : (d.putNand x).ev = d.ev := rfl
@[simp] theorem Dev.putNand_img (d : Dev) (x : Nand) : (d.putNand x).img = d.img := rfl
@[simp] theorem Dev.putNand_tile (d : Dev) (x : Nand) : (d.putNand x).tile = d.tile := rfl
@[simp] theorem Dev.putNand_fmap (d : Dev) (x : Nand) : (d.putNand x).fmap = d.fmap := rfl
@[simp] theorem Dev.putNand_course (d : Dev) (x : Nand) : (d.putNand x).course = d.course := rfl
@[simp] theorem Dev.putNand_sys (d : Dev) (x : Nand) : (d.putNand x).sys = d.sys := rfl
@[simp] theorem Dev.putNand_port (d : Dev) (x : Nand) : (d.putNand x).port = d.port := rfl
@[simp] theorem Dev.putNand_path (d : Dev) (x : Nand) : (d.putNand x).path = d.path := rfl
@[simp] theorem Dev.putNand_chg (d : Dev) (x : Nand) : (d.putNand x).chg = d.chg := rfl
@[simp] theorem Dev.putNand_ret (d : Dev) (x : Nand) : (d.putNand x).ret = d.ret := rfl
@[simp] theorem Dev.putNand_log (d : Dev) (x : Nand) : (d.putNand x).log = d.log := rfl
@[simp] theorem Dev.putNand_lamp (d : Dev) (x : Nand) : (d.putNand x).lamp = d.lamp := rfl
@[simp] theorem Dev.putNand_ring (d : Dev) (x : Nand) : (d.putNand x).ring = d.ring := rfl
@[simp] theorem Dev.putNand_serv (d : Dev) (x : Nand) : (d.putNand x).serv = d.serv := rfl
@[simp] theorem Dev.putNand_ptb (d : Dev) (x : Nand) : (d.putNand x).ptb = d.ptb := rfl
@[simp] theorem Dev.putNand_slotPos (d : Dev) (x : Nand) : (d.putNand x).slotPos = d.slotPos := rfl
@[simp] theorem Dev.putNand_gtSet (d : Dev) (x : Nand) : (d.putNand x).gtSet = d.gtSet := rfl
@[simp] theorem Dev.putNand_lens (d : Dev) (x : Nand) : (d.putNand x).lens = d.lens := rfl
@[simp] theorem Dev.putNand_sensor (d : Dev) (x : Nand) : (d.putNand x).sensor = d.sensor := rfl
@[simp] theorem Dev.putNand_wdt (d : Dev) (x : Nand) : (d.putNand x).wdt = d.wdt := rfl
@[simp] theorem Dev.putNand_prism (d : Dev) (x : Nand) : (d.putNand x).prism = d.prism := rfl
@[simp] theorem Dev.putNand_cap (d : Dev) (x : Nand) : (d.putNand x).cap = d.cap := rfl
@[simp] theorem Dev.putNand_nand (d : Dev) (x : Nand) : (d.putNand x).nand = x := rfl
@[simp] theorem Dev.putNand_recov (d : Dev) (x : Nand) : (d.putNand x).recov = d.recov := rfl
@[simp] theorem Dev.putNand_tap (d : Dev) (x : Nand) : (d.putNand x).tap = d.tap := rfl
@[simp] theorem Dev.putNand_nv (d : Dev) (x : Nand) : (d.putNand x).nv = d.nv := rfl
@[simp] theorem Dev.putNand_sram (d : Dev) (x : Nand) : (d.putNand x).sram = d.sram := rfl
@[simp] theorem Dev.putNand_readData (d : Dev) (x : Nand) : (d.putNand x).readData = d.readData := rfl

@[simp] theorem Dev.putRecov_regs (d : Dev) (x : Recovery) : (d.putRecov x).regs = d.regs := rfl
@[simp] theorem Dev.putRecov_raised (d : Dev) (x : Recovery) : (d.putRecov x).raised = d.raised := rfl
@[simp] theorem Dev.putRecov_faults (d : Dev) (x : Recovery) : (d.putRecov x).faults = d.faults := rfl
@[simp] theorem Dev.putRecov_freeCount (d : Dev) (x : Recovery) : (d.putRecov x).freeCount = d.freeCount := rfl
@[simp] theorem Dev.putRecov_pw (d : Dev) (x : Recovery) : (d.putRecov x).pw = d.pw := rfl
@[simp] theorem Dev.putRecov_balls (d : Dev) (x : Recovery) : (d.putRecov x).balls = d.balls := rfl
@[simp] theorem Dev.putRecov_slots (d : Dev) (x : Recovery) : (d.putRecov x).slots = d.slots := rfl
@[simp] theorem Dev.putRecov_boot (d : Dev) (x : Recovery) : (d.putRecov x).boot = d.boot := rfl
@[simp] theorem Dev.putRecov_live (d : Dev) (x : Recovery) : (d.putRecov x).live = d.live := rfl
@[simp] theorem Dev.putRecov_keys (d : Dev) (x : Recovery) : (d.putRecov x).keys = d.keys := rfl
@[simp] theorem Dev.putRecov_host (d : Dev) (x : Recovery) : (d.putRecov x).host = d.host := rfl
@[simp] theorem Dev.putRecov_ev (d : Dev) (x : Recovery) : (d.putRecov x).ev = d.ev := rfl
@[simp] theorem Dev.putRecov_img (d : Dev) (x : Recovery) : (d.putRecov x).img = d.img := rfl
@[simp] theorem Dev.putRecov_tile (d : Dev) (x : Recovery) : (d.putRecov x).tile = d.tile := rfl
@[simp] theorem Dev.putRecov_fmap (d : Dev) (x : Recovery) : (d.putRecov x).fmap = d.fmap := rfl
@[simp] theorem Dev.putRecov_course (d : Dev) (x : Recovery) : (d.putRecov x).course = d.course := rfl
@[simp] theorem Dev.putRecov_sys (d : Dev) (x : Recovery) : (d.putRecov x).sys = d.sys := rfl
@[simp] theorem Dev.putRecov_port (d : Dev) (x : Recovery) : (d.putRecov x).port = d.port := rfl
@[simp] theorem Dev.putRecov_path (d : Dev) (x : Recovery) : (d.putRecov x).path = d.path := rfl
@[simp] theorem Dev.putRecov_chg (d : Dev) (x : Recovery) : (d.putRecov x).chg = d.chg := rfl
@[simp] theorem Dev.putRecov_ret (d : Dev) (x : Recovery) : (d.putRecov x).ret = d.ret := rfl
@[simp] theorem Dev.putRecov_log (d : Dev) (x : Recovery) : (d.putRecov x).log = d.log := rfl
@[simp] theorem Dev.putRecov_lamp (d : Dev) (x : Recovery) : (d.putRecov x).lamp = d.lamp := rfl
@[simp] theorem Dev.putRecov_ring (d : Dev) (x : Recovery) : (d.putRecov x).ring = d.ring := rfl
@[simp] theorem Dev.putRecov_serv (d : Dev) (x : Recovery) : (d.putRecov x).serv = d.serv := rfl
@[simp] theorem Dev.putRecov_ptb (d : Dev) (x : Recovery) : (d.putRecov x).ptb = d.ptb := rfl
@[simp] theorem Dev.putRecov_slotPos (d : Dev) (x : Recovery) : (d.putRecov x).slotPos = d.slotPos := rfl
@[simp] theorem Dev.putRecov_gtSet (d : Dev) (x : Recovery) : (d.putRecov x).gtSet = d.gtSet := rfl
@[simp] theorem Dev.putRecov_lens (d : Dev) (x : Recovery) : (d.putRecov x).lens = d.lens := rfl
@[simp] theorem Dev.putRecov_sensor (d : Dev) (x : Recovery) : (d.putRecov x).sensor = d.sensor := rfl
@[simp] theorem Dev.putRecov_wdt (d : Dev) (x : Recovery) : (d.putRecov x).wdt = d.wdt := rfl
@[simp] theorem Dev.putRecov_prism (d : Dev) (x : Recovery) : (d.putRecov x).prism = d.prism := rfl
@[simp] theorem Dev.putRecov_cap (d : Dev) (x : Recovery) : (d.putRecov x).cap = d.cap := rfl
@[simp] theorem Dev.putRecov_nand (d : Dev) (x : Recovery) : (d.putRecov x).nand = d.nand := rfl
@[simp] theorem Dev.putRecov_recov (d : Dev) (x : Recovery) : (d.putRecov x).recov = x := rfl
@[simp] theorem Dev.putRecov_tap (d : Dev) (x : Recovery) : (d.putRecov x).tap = d.tap := rfl
@[simp] theorem Dev.putRecov_nv (d : Dev) (x : Recovery) : (d.putRecov x).nv = d.nv := rfl
@[simp] theorem Dev.putRecov_sram (d : Dev) (x : Recovery) : (d.putRecov x).sram = d.sram := rfl
@[simp] theorem Dev.putRecov_readData (d : Dev) (x : Recovery) : (d.putRecov x).readData = d.readData := rfl

@[simp] theorem Dev.putTap_regs (d : Dev) (x : Tap) : (d.putTap x).regs = d.regs := rfl
@[simp] theorem Dev.putTap_raised (d : Dev) (x : Tap) : (d.putTap x).raised = d.raised := rfl
@[simp] theorem Dev.putTap_faults (d : Dev) (x : Tap) : (d.putTap x).faults = d.faults := rfl
@[simp] theorem Dev.putTap_freeCount (d : Dev) (x : Tap) : (d.putTap x).freeCount = d.freeCount := rfl
@[simp] theorem Dev.putTap_pw (d : Dev) (x : Tap) : (d.putTap x).pw = d.pw := rfl
@[simp] theorem Dev.putTap_balls (d : Dev) (x : Tap) : (d.putTap x).balls = d.balls := rfl
@[simp] theorem Dev.putTap_slots (d : Dev) (x : Tap) : (d.putTap x).slots = d.slots := rfl
@[simp] theorem Dev.putTap_boot (d : Dev) (x : Tap) : (d.putTap x).boot = d.boot := rfl
@[simp] theorem Dev.putTap_live (d : Dev) (x : Tap) : (d.putTap x).live = d.live := rfl
@[simp] theorem Dev.putTap_keys (d : Dev) (x : Tap) : (d.putTap x).keys = d.keys := rfl
@[simp] theorem Dev.putTap_host (d : Dev) (x : Tap) : (d.putTap x).host = d.host := rfl
@[simp] theorem Dev.putTap_ev (d : Dev) (x : Tap) : (d.putTap x).ev = d.ev := rfl
@[simp] theorem Dev.putTap_img (d : Dev) (x : Tap) : (d.putTap x).img = d.img := rfl
@[simp] theorem Dev.putTap_tile (d : Dev) (x : Tap) : (d.putTap x).tile = d.tile := rfl
@[simp] theorem Dev.putTap_fmap (d : Dev) (x : Tap) : (d.putTap x).fmap = d.fmap := rfl
@[simp] theorem Dev.putTap_course (d : Dev) (x : Tap) : (d.putTap x).course = d.course := rfl
@[simp] theorem Dev.putTap_sys (d : Dev) (x : Tap) : (d.putTap x).sys = d.sys := rfl
@[simp] theorem Dev.putTap_port (d : Dev) (x : Tap) : (d.putTap x).port = d.port := rfl
@[simp] theorem Dev.putTap_path (d : Dev) (x : Tap) : (d.putTap x).path = d.path := rfl
@[simp] theorem Dev.putTap_chg (d : Dev) (x : Tap) : (d.putTap x).chg = d.chg := rfl
@[simp] theorem Dev.putTap_ret (d : Dev) (x : Tap) : (d.putTap x).ret = d.ret := rfl
@[simp] theorem Dev.putTap_log (d : Dev) (x : Tap) : (d.putTap x).log = d.log := rfl
@[simp] theorem Dev.putTap_lamp (d : Dev) (x : Tap) : (d.putTap x).lamp = d.lamp := rfl
@[simp] theorem Dev.putTap_ring (d : Dev) (x : Tap) : (d.putTap x).ring = d.ring := rfl
@[simp] theorem Dev.putTap_serv (d : Dev) (x : Tap) : (d.putTap x).serv = d.serv := rfl
@[simp] theorem Dev.putTap_ptb (d : Dev) (x : Tap) : (d.putTap x).ptb = d.ptb := rfl
@[simp] theorem Dev.putTap_slotPos (d : Dev) (x : Tap) : (d.putTap x).slotPos = d.slotPos := rfl
@[simp] theorem Dev.putTap_gtSet (d : Dev) (x : Tap) : (d.putTap x).gtSet = d.gtSet := rfl
@[simp] theorem Dev.putTap_lens (d : Dev) (x : Tap) : (d.putTap x).lens = d.lens := rfl
@[simp] theorem Dev.putTap_sensor (d : Dev) (x : Tap) : (d.putTap x).sensor = d.sensor := rfl
@[simp] theorem Dev.putTap_wdt (d : Dev) (x : Tap) : (d.putTap x).wdt = d.wdt := rfl
@[simp] theorem Dev.putTap_prism (d : Dev) (x : Tap) : (d.putTap x).prism = d.prism := rfl
@[simp] theorem Dev.putTap_cap (d : Dev) (x : Tap) : (d.putTap x).cap = d.cap := rfl
@[simp] theorem Dev.putTap_nand (d : Dev) (x : Tap) : (d.putTap x).nand = d.nand := rfl
@[simp] theorem Dev.putTap_recov (d : Dev) (x : Tap) : (d.putTap x).recov = d.recov := rfl
@[simp] theorem Dev.putTap_tap (d : Dev) (x : Tap) : (d.putTap x).tap = x := rfl
@[simp] theorem Dev.putTap_nv (d : Dev) (x : Tap) : (d.putTap x).nv = d.nv := rfl
@[simp] theorem Dev.putTap_sram (d : Dev) (x : Tap) : (d.putTap x).sram = d.sram := rfl
@[simp] theorem Dev.putTap_readData (d : Dev) (x : Tap) : (d.putTap x).readData = d.readData := rfl

@[simp] theorem Dev.putNv_regs (d : Dev) (x : List (Nat × Byte)) : (d.putNv x).regs = d.regs := rfl
@[simp] theorem Dev.putNv_raised (d : Dev) (x : List (Nat × Byte)) : (d.putNv x).raised = d.raised := rfl
@[simp] theorem Dev.putNv_faults (d : Dev) (x : List (Nat × Byte)) : (d.putNv x).faults = d.faults := rfl
@[simp] theorem Dev.putNv_freeCount (d : Dev) (x : List (Nat × Byte)) : (d.putNv x).freeCount = d.freeCount := rfl
@[simp] theorem Dev.putNv_pw (d : Dev) (x : List (Nat × Byte)) : (d.putNv x).pw = d.pw := rfl
@[simp] theorem Dev.putNv_balls (d : Dev) (x : List (Nat × Byte)) : (d.putNv x).balls = d.balls := rfl
@[simp] theorem Dev.putNv_slots (d : Dev) (x : List (Nat × Byte)) : (d.putNv x).slots = d.slots := rfl
@[simp] theorem Dev.putNv_boot (d : Dev) (x : List (Nat × Byte)) : (d.putNv x).boot = d.boot := rfl
@[simp] theorem Dev.putNv_live (d : Dev) (x : List (Nat × Byte)) : (d.putNv x).live = d.live := rfl
@[simp] theorem Dev.putNv_keys (d : Dev) (x : List (Nat × Byte)) : (d.putNv x).keys = d.keys := rfl
@[simp] theorem Dev.putNv_host (d : Dev) (x : List (Nat × Byte)) : (d.putNv x).host = d.host := rfl
@[simp] theorem Dev.putNv_ev (d : Dev) (x : List (Nat × Byte)) : (d.putNv x).ev = d.ev := rfl
@[simp] theorem Dev.putNv_img (d : Dev) (x : List (Nat × Byte)) : (d.putNv x).img = d.img := rfl
@[simp] theorem Dev.putNv_tile (d : Dev) (x : List (Nat × Byte)) : (d.putNv x).tile = d.tile := rfl
@[simp] theorem Dev.putNv_fmap (d : Dev) (x : List (Nat × Byte)) : (d.putNv x).fmap = d.fmap := rfl
@[simp] theorem Dev.putNv_course (d : Dev) (x : List (Nat × Byte)) : (d.putNv x).course = d.course := rfl
@[simp] theorem Dev.putNv_sys (d : Dev) (x : List (Nat × Byte)) : (d.putNv x).sys = d.sys := rfl
@[simp] theorem Dev.putNv_port (d : Dev) (x : List (Nat × Byte)) : (d.putNv x).port = d.port := rfl
@[simp] theorem Dev.putNv_path (d : Dev) (x : List (Nat × Byte)) : (d.putNv x).path = d.path := rfl
@[simp] theorem Dev.putNv_chg (d : Dev) (x : List (Nat × Byte)) : (d.putNv x).chg = d.chg := rfl
@[simp] theorem Dev.putNv_ret (d : Dev) (x : List (Nat × Byte)) : (d.putNv x).ret = d.ret := rfl
@[simp] theorem Dev.putNv_log (d : Dev) (x : List (Nat × Byte)) : (d.putNv x).log = d.log := rfl
@[simp] theorem Dev.putNv_lamp (d : Dev) (x : List (Nat × Byte)) : (d.putNv x).lamp = d.lamp := rfl
@[simp] theorem Dev.putNv_ring (d : Dev) (x : List (Nat × Byte)) : (d.putNv x).ring = d.ring := rfl
@[simp] theorem Dev.putNv_serv (d : Dev) (x : List (Nat × Byte)) : (d.putNv x).serv = d.serv := rfl
@[simp] theorem Dev.putNv_ptb (d : Dev) (x : List (Nat × Byte)) : (d.putNv x).ptb = d.ptb := rfl
@[simp] theorem Dev.putNv_slotPos (d : Dev) (x : List (Nat × Byte)) : (d.putNv x).slotPos = d.slotPos := rfl
@[simp] theorem Dev.putNv_gtSet (d : Dev) (x : List (Nat × Byte)) : (d.putNv x).gtSet = d.gtSet := rfl
@[simp] theorem Dev.putNv_lens (d : Dev) (x : List (Nat × Byte)) : (d.putNv x).lens = d.lens := rfl
@[simp] theorem Dev.putNv_sensor (d : Dev) (x : List (Nat × Byte)) : (d.putNv x).sensor = d.sensor := rfl
@[simp] theorem Dev.putNv_wdt (d : Dev) (x : List (Nat × Byte)) : (d.putNv x).wdt = d.wdt := rfl
@[simp] theorem Dev.putNv_prism (d : Dev) (x : List (Nat × Byte)) : (d.putNv x).prism = d.prism := rfl
@[simp] theorem Dev.putNv_cap (d : Dev) (x : List (Nat × Byte)) : (d.putNv x).cap = d.cap := rfl
@[simp] theorem Dev.putNv_nand (d : Dev) (x : List (Nat × Byte)) : (d.putNv x).nand = d.nand := rfl
@[simp] theorem Dev.putNv_recov (d : Dev) (x : List (Nat × Byte)) : (d.putNv x).recov = d.recov := rfl
@[simp] theorem Dev.putNv_tap (d : Dev) (x : List (Nat × Byte)) : (d.putNv x).tap = d.tap := rfl
@[simp] theorem Dev.putNv_nv (d : Dev) (x : List (Nat × Byte)) : (d.putNv x).nv = x := rfl
@[simp] theorem Dev.putNv_sram (d : Dev) (x : List (Nat × Byte)) : (d.putNv x).sram = d.sram := rfl
@[simp] theorem Dev.putNv_readData (d : Dev) (x : List (Nat × Byte)) : (d.putNv x).readData = d.readData := rfl

@[simp] theorem Dev.putSram_regs (d : Dev) (x : List (Nat × Byte)) : (d.putSram x).regs = d.regs := rfl
@[simp] theorem Dev.putSram_raised (d : Dev) (x : List (Nat × Byte)) : (d.putSram x).raised = d.raised := rfl
@[simp] theorem Dev.putSram_faults (d : Dev) (x : List (Nat × Byte)) : (d.putSram x).faults = d.faults := rfl
@[simp] theorem Dev.putSram_freeCount (d : Dev) (x : List (Nat × Byte)) : (d.putSram x).freeCount = d.freeCount := rfl
@[simp] theorem Dev.putSram_pw (d : Dev) (x : List (Nat × Byte)) : (d.putSram x).pw = d.pw := rfl
@[simp] theorem Dev.putSram_balls (d : Dev) (x : List (Nat × Byte)) : (d.putSram x).balls = d.balls := rfl
@[simp] theorem Dev.putSram_slots (d : Dev) (x : List (Nat × Byte)) : (d.putSram x).slots = d.slots := rfl
@[simp] theorem Dev.putSram_boot (d : Dev) (x : List (Nat × Byte)) : (d.putSram x).boot = d.boot := rfl
@[simp] theorem Dev.putSram_live (d : Dev) (x : List (Nat × Byte)) : (d.putSram x).live = d.live := rfl
@[simp] theorem Dev.putSram_keys (d : Dev) (x : List (Nat × Byte)) : (d.putSram x).keys = d.keys := rfl
@[simp] theorem Dev.putSram_host (d : Dev) (x : List (Nat × Byte)) : (d.putSram x).host = d.host := rfl
@[simp] theorem Dev.putSram_ev (d : Dev) (x : List (Nat × Byte)) : (d.putSram x).ev = d.ev := rfl
@[simp] theorem Dev.putSram_img (d : Dev) (x : List (Nat × Byte)) : (d.putSram x).img = d.img := rfl
@[simp] theorem Dev.putSram_tile (d : Dev) (x : List (Nat × Byte)) : (d.putSram x).tile = d.tile := rfl
@[simp] theorem Dev.putSram_fmap (d : Dev) (x : List (Nat × Byte)) : (d.putSram x).fmap = d.fmap := rfl
@[simp] theorem Dev.putSram_course (d : Dev) (x : List (Nat × Byte)) : (d.putSram x).course = d.course := rfl
@[simp] theorem Dev.putSram_sys (d : Dev) (x : List (Nat × Byte)) : (d.putSram x).sys = d.sys := rfl
@[simp] theorem Dev.putSram_port (d : Dev) (x : List (Nat × Byte)) : (d.putSram x).port = d.port := rfl
@[simp] theorem Dev.putSram_path (d : Dev) (x : List (Nat × Byte)) : (d.putSram x).path = d.path := rfl
@[simp] theorem Dev.putSram_chg (d : Dev) (x : List (Nat × Byte)) : (d.putSram x).chg = d.chg := rfl
@[simp] theorem Dev.putSram_ret (d : Dev) (x : List (Nat × Byte)) : (d.putSram x).ret = d.ret := rfl
@[simp] theorem Dev.putSram_log (d : Dev) (x : List (Nat × Byte)) : (d.putSram x).log = d.log := rfl
@[simp] theorem Dev.putSram_lamp (d : Dev) (x : List (Nat × Byte)) : (d.putSram x).lamp = d.lamp := rfl
@[simp] theorem Dev.putSram_ring (d : Dev) (x : List (Nat × Byte)) : (d.putSram x).ring = d.ring := rfl
@[simp] theorem Dev.putSram_serv (d : Dev) (x : List (Nat × Byte)) : (d.putSram x).serv = d.serv := rfl
@[simp] theorem Dev.putSram_ptb (d : Dev) (x : List (Nat × Byte)) : (d.putSram x).ptb = d.ptb := rfl
@[simp] theorem Dev.putSram_slotPos (d : Dev) (x : List (Nat × Byte)) : (d.putSram x).slotPos = d.slotPos := rfl
@[simp] theorem Dev.putSram_gtSet (d : Dev) (x : List (Nat × Byte)) : (d.putSram x).gtSet = d.gtSet := rfl
@[simp] theorem Dev.putSram_lens (d : Dev) (x : List (Nat × Byte)) : (d.putSram x).lens = d.lens := rfl
@[simp] theorem Dev.putSram_sensor (d : Dev) (x : List (Nat × Byte)) : (d.putSram x).sensor = d.sensor := rfl
@[simp] theorem Dev.putSram_wdt (d : Dev) (x : List (Nat × Byte)) : (d.putSram x).wdt = d.wdt := rfl
@[simp] theorem Dev.putSram_prism (d : Dev) (x : List (Nat × Byte)) : (d.putSram x).prism = d.prism := rfl
@[simp] theorem Dev.putSram_cap (d : Dev) (x : List (Nat × Byte)) : (d.putSram x).cap = d.cap := rfl
@[simp] theorem Dev.putSram_nand (d : Dev) (x : List (Nat × Byte)) : (d.putSram x).nand = d.nand := rfl
@[simp] theorem Dev.putSram_recov (d : Dev) (x : List (Nat × Byte)) : (d.putSram x).recov = d.recov := rfl
@[simp] theorem Dev.putSram_tap (d : Dev) (x : List (Nat × Byte)) : (d.putSram x).tap = d.tap := rfl
@[simp] theorem Dev.putSram_nv (d : Dev) (x : List (Nat × Byte)) : (d.putSram x).nv = d.nv := rfl
@[simp] theorem Dev.putSram_sram (d : Dev) (x : List (Nat × Byte)) : (d.putSram x).sram = x := rfl
@[simp] theorem Dev.putSram_readData (d : Dev) (x : List (Nat × Byte)) : (d.putSram x).readData = d.readData := rfl

@[simp] theorem Dev.putReadData_regs (d : Dev) (x : Word) : (d.putReadData x).regs = d.regs := rfl
@[simp] theorem Dev.putReadData_raised (d : Dev) (x : Word) : (d.putReadData x).raised = d.raised := rfl
@[simp] theorem Dev.putReadData_faults (d : Dev) (x : Word) : (d.putReadData x).faults = d.faults := rfl
@[simp] theorem Dev.putReadData_freeCount (d : Dev) (x : Word) : (d.putReadData x).freeCount = d.freeCount := rfl
@[simp] theorem Dev.putReadData_pw (d : Dev) (x : Word) : (d.putReadData x).pw = d.pw := rfl
@[simp] theorem Dev.putReadData_balls (d : Dev) (x : Word) : (d.putReadData x).balls = d.balls := rfl
@[simp] theorem Dev.putReadData_slots (d : Dev) (x : Word) : (d.putReadData x).slots = d.slots := rfl
@[simp] theorem Dev.putReadData_boot (d : Dev) (x : Word) : (d.putReadData x).boot = d.boot := rfl
@[simp] theorem Dev.putReadData_live (d : Dev) (x : Word) : (d.putReadData x).live = d.live := rfl
@[simp] theorem Dev.putReadData_keys (d : Dev) (x : Word) : (d.putReadData x).keys = d.keys := rfl
@[simp] theorem Dev.putReadData_host (d : Dev) (x : Word) : (d.putReadData x).host = d.host := rfl
@[simp] theorem Dev.putReadData_ev (d : Dev) (x : Word) : (d.putReadData x).ev = d.ev := rfl
@[simp] theorem Dev.putReadData_img (d : Dev) (x : Word) : (d.putReadData x).img = d.img := rfl
@[simp] theorem Dev.putReadData_tile (d : Dev) (x : Word) : (d.putReadData x).tile = d.tile := rfl
@[simp] theorem Dev.putReadData_fmap (d : Dev) (x : Word) : (d.putReadData x).fmap = d.fmap := rfl
@[simp] theorem Dev.putReadData_course (d : Dev) (x : Word) : (d.putReadData x).course = d.course := rfl
@[simp] theorem Dev.putReadData_sys (d : Dev) (x : Word) : (d.putReadData x).sys = d.sys := rfl
@[simp] theorem Dev.putReadData_port (d : Dev) (x : Word) : (d.putReadData x).port = d.port := rfl
@[simp] theorem Dev.putReadData_path (d : Dev) (x : Word) : (d.putReadData x).path = d.path := rfl
@[simp] theorem Dev.putReadData_chg (d : Dev) (x : Word) : (d.putReadData x).chg = d.chg := rfl
@[simp] theorem Dev.putReadData_ret (d : Dev) (x : Word) : (d.putReadData x).ret = d.ret := rfl
@[simp] theorem Dev.putReadData_log (d : Dev) (x : Word) : (d.putReadData x).log = d.log := rfl
@[simp] theorem Dev.putReadData_lamp (d : Dev) (x : Word) : (d.putReadData x).lamp = d.lamp := rfl
@[simp] theorem Dev.putReadData_ring (d : Dev) (x : Word) : (d.putReadData x).ring = d.ring := rfl
@[simp] theorem Dev.putReadData_serv (d : Dev) (x : Word) : (d.putReadData x).serv = d.serv := rfl
@[simp] theorem Dev.putReadData_ptb (d : Dev) (x : Word) : (d.putReadData x).ptb = d.ptb := rfl
@[simp] theorem Dev.putReadData_slotPos (d : Dev) (x : Word) : (d.putReadData x).slotPos = d.slotPos := rfl
@[simp] theorem Dev.putReadData_gtSet (d : Dev) (x : Word) : (d.putReadData x).gtSet = d.gtSet := rfl
@[simp] theorem Dev.putReadData_lens (d : Dev) (x : Word) : (d.putReadData x).lens = d.lens := rfl
@[simp] theorem Dev.putReadData_sensor (d : Dev) (x : Word) : (d.putReadData x).sensor = d.sensor := rfl
@[simp] theorem Dev.putReadData_wdt (d : Dev) (x : Word) : (d.putReadData x).wdt = d.wdt := rfl
@[simp] theorem Dev.putReadData_prism (d : Dev) (x : Word) : (d.putReadData x).prism = d.prism := rfl
@[simp] theorem Dev.putReadData_cap (d : Dev) (x : Word) : (d.putReadData x).cap = d.cap := rfl
@[simp] theorem Dev.putReadData_nand (d : Dev) (x : Word) : (d.putReadData x).nand = d.nand := rfl
@[simp] theorem Dev.putReadData_recov (d : Dev) (x : Word) : (d.putReadData x).recov = d.recov := rfl
@[simp] theorem Dev.putReadData_tap (d : Dev) (x : Word) : (d.putReadData x).tap = d.tap := rfl
@[simp] theorem Dev.putReadData_nv (d : Dev) (x : Word) : (d.putReadData x).nv = d.nv := rfl
@[simp] theorem Dev.putReadData_sram (d : Dev) (x : Word) : (d.putReadData x).sram = d.sram := rfl
@[simp] theorem Dev.putReadData_readData (d : Dev) (x : Word) : (d.putReadData x).readData = x := rfl

/-! ### A register written -/

@[simp] theorem Dev.wr_raised (d : Dev) (a : Nat) (w : Word) : (d.wr a w).raised = d.raised := rfl
@[simp] theorem Dev.wr_faults (d : Dev) (a : Nat) (w : Word) : (d.wr a w).faults = d.faults := rfl
@[simp] theorem Dev.wr_freeCount (d : Dev) (a : Nat) (w : Word) : (d.wr a w).freeCount = d.freeCount := rfl
@[simp] theorem Dev.wr_pw (d : Dev) (a : Nat) (w : Word) : (d.wr a w).pw = d.pw := rfl
@[simp] theorem Dev.wr_balls (d : Dev) (a : Nat) (w : Word) : (d.wr a w).balls = d.balls := rfl
@[simp] theorem Dev.wr_slots (d : Dev) (a : Nat) (w : Word) : (d.wr a w).slots = d.slots := rfl
@[simp] theorem Dev.wr_boot (d : Dev) (a : Nat) (w : Word) : (d.wr a w).boot = d.boot := rfl
@[simp] theorem Dev.wr_live (d : Dev) (a : Nat) (w : Word) : (d.wr a w).live = d.live := rfl
@[simp] theorem Dev.wr_keys (d : Dev) (a : Nat) (w : Word) : (d.wr a w).keys = d.keys := rfl
@[simp] theorem Dev.wr_host (d : Dev) (a : Nat) (w : Word) : (d.wr a w).host = d.host := rfl
@[simp] theorem Dev.wr_ev (d : Dev) (a : Nat) (w : Word) : (d.wr a w).ev = d.ev := rfl
@[simp] theorem Dev.wr_img (d : Dev) (a : Nat) (w : Word) : (d.wr a w).img = d.img := rfl
@[simp] theorem Dev.wr_tile (d : Dev) (a : Nat) (w : Word) : (d.wr a w).tile = d.tile := rfl
@[simp] theorem Dev.wr_fmap (d : Dev) (a : Nat) (w : Word) : (d.wr a w).fmap = d.fmap := rfl
@[simp] theorem Dev.wr_course (d : Dev) (a : Nat) (w : Word) : (d.wr a w).course = d.course := rfl
@[simp] theorem Dev.wr_sys (d : Dev) (a : Nat) (w : Word) : (d.wr a w).sys = d.sys := rfl
@[simp] theorem Dev.wr_port (d : Dev) (a : Nat) (w : Word) : (d.wr a w).port = d.port := rfl
@[simp] theorem Dev.wr_path (d : Dev) (a : Nat) (w : Word) : (d.wr a w).path = d.path := rfl
@[simp] theorem Dev.wr_chg (d : Dev) (a : Nat) (w : Word) : (d.wr a w).chg = d.chg := rfl
@[simp] theorem Dev.wr_ret (d : Dev) (a : Nat) (w : Word) : (d.wr a w).ret = d.ret := rfl
@[simp] theorem Dev.wr_log (d : Dev) (a : Nat) (w : Word) : (d.wr a w).log = d.log := rfl
@[simp] theorem Dev.wr_lamp (d : Dev) (a : Nat) (w : Word) : (d.wr a w).lamp = d.lamp := rfl
@[simp] theorem Dev.wr_ring (d : Dev) (a : Nat) (w : Word) : (d.wr a w).ring = d.ring := rfl
@[simp] theorem Dev.wr_serv (d : Dev) (a : Nat) (w : Word) : (d.wr a w).serv = d.serv := rfl
@[simp] theorem Dev.wr_ptb (d : Dev) (a : Nat) (w : Word) : (d.wr a w).ptb = d.ptb := rfl
@[simp] theorem Dev.wr_slotPos (d : Dev) (a : Nat) (w : Word) : (d.wr a w).slotPos = d.slotPos := rfl
@[simp] theorem Dev.wr_gtSet (d : Dev) (a : Nat) (w : Word) : (d.wr a w).gtSet = d.gtSet := rfl
@[simp] theorem Dev.wr_lens (d : Dev) (a : Nat) (w : Word) : (d.wr a w).lens = d.lens := rfl
@[simp] theorem Dev.wr_sensor (d : Dev) (a : Nat) (w : Word) : (d.wr a w).sensor = d.sensor := rfl
@[simp] theorem Dev.wr_wdt (d : Dev) (a : Nat) (w : Word) : (d.wr a w).wdt = d.wdt := rfl
@[simp] theorem Dev.wr_prism (d : Dev) (a : Nat) (w : Word) : (d.wr a w).prism = d.prism := rfl
@[simp] theorem Dev.wr_cap (d : Dev) (a : Nat) (w : Word) : (d.wr a w).cap = d.cap := rfl
@[simp] theorem Dev.wr_nand (d : Dev) (a : Nat) (w : Word) : (d.wr a w).nand = d.nand := rfl
@[simp] theorem Dev.wr_recov (d : Dev) (a : Nat) (w : Word) : (d.wr a w).recov = d.recov := rfl
@[simp] theorem Dev.wr_tap (d : Dev) (a : Nat) (w : Word) : (d.wr a w).tap = d.tap := rfl
@[simp] theorem Dev.wr_nv (d : Dev) (a : Nat) (w : Word) : (d.wr a w).nv = d.nv := rfl
@[simp] theorem Dev.wr_sram (d : Dev) (a : Nat) (w : Word) : (d.wr a w).sram = d.sram := rfl
@[simp] theorem Dev.wr_readData (d : Dev) (a : Nat) (w : Word) : (d.wr a w).readData = d.readData := rfl

@[simp] theorem Dev.set_raised (d : Dev) (x : Field) (v : Nat) : (d.set x v).raised = d.raised := rfl
@[simp] theorem Dev.set_faults (d : Dev) (x : Field) (v : Nat) : (d.set x v).faults = d.faults := rfl
@[simp] theorem Dev.set_freeCount (d : Dev) (x : Field) (v : Nat) : (d.set x v).freeCount = d.freeCount := rfl
@[simp] theorem Dev.set_pw (d : Dev) (x : Field) (v : Nat) : (d.set x v).pw = d.pw := rfl
@[simp] theorem Dev.set_balls (d : Dev) (x : Field) (v : Nat) : (d.set x v).balls = d.balls := rfl
@[simp] theorem Dev.set_slots (d : Dev) (x : Field) (v : Nat) : (d.set x v).slots = d.slots := rfl
@[simp] theorem Dev.set_boot (d : Dev) (x : Field) (v : Nat) : (d.set x v).boot = d.boot := rfl
@[simp] theorem Dev.set_live (d : Dev) (x : Field) (v : Nat) : (d.set x v).live = d.live := rfl
@[simp] theorem Dev.set_keys (d : Dev) (x : Field) (v : Nat) : (d.set x v).keys = d.keys := rfl
@[simp] theorem Dev.set_host (d : Dev) (x : Field) (v : Nat) : (d.set x v).host = d.host := rfl
@[simp] theorem Dev.set_ev (d : Dev) (x : Field) (v : Nat) : (d.set x v).ev = d.ev := rfl
@[simp] theorem Dev.set_img (d : Dev) (x : Field) (v : Nat) : (d.set x v).img = d.img := rfl
@[simp] theorem Dev.set_tile (d : Dev) (x : Field) (v : Nat) : (d.set x v).tile = d.tile := rfl
@[simp] theorem Dev.set_fmap (d : Dev) (x : Field) (v : Nat) : (d.set x v).fmap = d.fmap := rfl
@[simp] theorem Dev.set_course (d : Dev) (x : Field) (v : Nat) : (d.set x v).course = d.course := rfl
@[simp] theorem Dev.set_sys (d : Dev) (x : Field) (v : Nat) : (d.set x v).sys = d.sys := rfl
@[simp] theorem Dev.set_port (d : Dev) (x : Field) (v : Nat) : (d.set x v).port = d.port := rfl
@[simp] theorem Dev.set_path (d : Dev) (x : Field) (v : Nat) : (d.set x v).path = d.path := rfl
@[simp] theorem Dev.set_chg (d : Dev) (x : Field) (v : Nat) : (d.set x v).chg = d.chg := rfl
@[simp] theorem Dev.set_ret (d : Dev) (x : Field) (v : Nat) : (d.set x v).ret = d.ret := rfl
@[simp] theorem Dev.set_log (d : Dev) (x : Field) (v : Nat) : (d.set x v).log = d.log := rfl
@[simp] theorem Dev.set_lamp (d : Dev) (x : Field) (v : Nat) : (d.set x v).lamp = d.lamp := rfl
@[simp] theorem Dev.set_ring (d : Dev) (x : Field) (v : Nat) : (d.set x v).ring = d.ring := rfl
@[simp] theorem Dev.set_serv (d : Dev) (x : Field) (v : Nat) : (d.set x v).serv = d.serv := rfl
@[simp] theorem Dev.set_ptb (d : Dev) (x : Field) (v : Nat) : (d.set x v).ptb = d.ptb := rfl
@[simp] theorem Dev.set_slotPos (d : Dev) (x : Field) (v : Nat) : (d.set x v).slotPos = d.slotPos := rfl
@[simp] theorem Dev.set_gtSet (d : Dev) (x : Field) (v : Nat) : (d.set x v).gtSet = d.gtSet := rfl
@[simp] theorem Dev.set_lens (d : Dev) (x : Field) (v : Nat) : (d.set x v).lens = d.lens := rfl
@[simp] theorem Dev.set_sensor (d : Dev) (x : Field) (v : Nat) : (d.set x v).sensor = d.sensor := rfl
@[simp] theorem Dev.set_wdt (d : Dev) (x : Field) (v : Nat) : (d.set x v).wdt = d.wdt := rfl
@[simp] theorem Dev.set_prism (d : Dev) (x : Field) (v : Nat) : (d.set x v).prism = d.prism := rfl
@[simp] theorem Dev.set_cap (d : Dev) (x : Field) (v : Nat) : (d.set x v).cap = d.cap := rfl
@[simp] theorem Dev.set_nand (d : Dev) (x : Field) (v : Nat) : (d.set x v).nand = d.nand := rfl
@[simp] theorem Dev.set_recov (d : Dev) (x : Field) (v : Nat) : (d.set x v).recov = d.recov := rfl
@[simp] theorem Dev.set_tap (d : Dev) (x : Field) (v : Nat) : (d.set x v).tap = d.tap := rfl
@[simp] theorem Dev.set_nv (d : Dev) (x : Field) (v : Nat) : (d.set x v).nv = d.nv := rfl
@[simp] theorem Dev.set_sram (d : Dev) (x : Field) (v : Nat) : (d.set x v).sram = d.sram := rfl
@[simp] theorem Dev.set_readData (d : Dev) (x : Field) (v : Nat) : (d.set x v).readData = d.readData := rfl

/-! ### An event, or a log entry, asked for -/

@[simp] theorem Dev.raise_regs (d : Dev) (b n : Nat) : (d.raise b n).regs = d.regs := by unfold Dev.raise; split <;> rfl
@[simp] theorem Dev.raise_faults (d : Dev) (b n : Nat) : (d.raise b n).faults = d.faults := by unfold Dev.raise; split <;> rfl
@[simp] theorem Dev.raise_freeCount (d : Dev) (b n : Nat) : (d.raise b n).freeCount = d.freeCount := by unfold Dev.raise; split <;> rfl
@[simp] theorem Dev.raise_pw (d : Dev) (b n : Nat) : (d.raise b n).pw = d.pw := by unfold Dev.raise; split <;> rfl
@[simp] theorem Dev.raise_balls (d : Dev) (b n : Nat) : (d.raise b n).balls = d.balls := by unfold Dev.raise; split <;> rfl
@[simp] theorem Dev.raise_slots (d : Dev) (b n : Nat) : (d.raise b n).slots = d.slots := by unfold Dev.raise; split <;> rfl
@[simp] theorem Dev.raise_boot (d : Dev) (b n : Nat) : (d.raise b n).boot = d.boot := by unfold Dev.raise; split <;> rfl
@[simp] theorem Dev.raise_live (d : Dev) (b n : Nat) : (d.raise b n).live = d.live := by unfold Dev.raise; split <;> rfl
@[simp] theorem Dev.raise_keys (d : Dev) (b n : Nat) : (d.raise b n).keys = d.keys := by unfold Dev.raise; split <;> rfl
@[simp] theorem Dev.raise_host (d : Dev) (b n : Nat) : (d.raise b n).host = d.host := by unfold Dev.raise; split <;> rfl
@[simp] theorem Dev.raise_ev (d : Dev) (b n : Nat) : (d.raise b n).ev = d.ev := by unfold Dev.raise; split <;> rfl
@[simp] theorem Dev.raise_img (d : Dev) (b n : Nat) : (d.raise b n).img = d.img := by unfold Dev.raise; split <;> rfl
@[simp] theorem Dev.raise_tile (d : Dev) (b n : Nat) : (d.raise b n).tile = d.tile := by unfold Dev.raise; split <;> rfl
@[simp] theorem Dev.raise_fmap (d : Dev) (b n : Nat) : (d.raise b n).fmap = d.fmap := by unfold Dev.raise; split <;> rfl
@[simp] theorem Dev.raise_course (d : Dev) (b n : Nat) : (d.raise b n).course = d.course := by unfold Dev.raise; split <;> rfl
@[simp] theorem Dev.raise_sys (d : Dev) (b n : Nat) : (d.raise b n).sys = d.sys := by unfold Dev.raise; split <;> rfl
@[simp] theorem Dev.raise_port (d : Dev) (b n : Nat) : (d.raise b n).port = d.port := by unfold Dev.raise; split <;> rfl
@[simp] theorem Dev.raise_path (d : Dev) (b n : Nat) : (d.raise b n).path = d.path := by unfold Dev.raise; split <;> rfl
@[simp] theorem Dev.raise_chg (d : Dev) (b n : Nat) : (d.raise b n).chg = d.chg := by unfold Dev.raise; split <;> rfl
@[simp] theorem Dev.raise_ret (d : Dev) (b n : Nat) : (d.raise b n).ret = d.ret := by unfold Dev.raise; split <;> rfl
@[simp] theorem Dev.raise_log (d : Dev) (b n : Nat) : (d.raise b n).log = d.log := by unfold Dev.raise; split <;> rfl
@[simp] theorem Dev.raise_lamp (d : Dev) (b n : Nat) : (d.raise b n).lamp = d.lamp := by unfold Dev.raise; split <;> rfl
@[simp] theorem Dev.raise_ring (d : Dev) (b n : Nat) : (d.raise b n).ring = d.ring := by unfold Dev.raise; split <;> rfl
@[simp] theorem Dev.raise_serv (d : Dev) (b n : Nat) : (d.raise b n).serv = d.serv := by unfold Dev.raise; split <;> rfl
@[simp] theorem Dev.raise_ptb (d : Dev) (b n : Nat) : (d.raise b n).ptb = d.ptb := by unfold Dev.raise; split <;> rfl
@[simp] theorem Dev.raise_slotPos (d : Dev) (b n : Nat) : (d.raise b n).slotPos = d.slotPos := by unfold Dev.raise; split <;> rfl
@[simp] theorem Dev.raise_gtSet (d : Dev) (b n : Nat) : (d.raise b n).gtSet = d.gtSet := by unfold Dev.raise; split <;> rfl
@[simp] theorem Dev.raise_lens (d : Dev) (b n : Nat) : (d.raise b n).lens = d.lens := by unfold Dev.raise; split <;> rfl
@[simp] theorem Dev.raise_sensor (d : Dev) (b n : Nat) : (d.raise b n).sensor = d.sensor := by unfold Dev.raise; split <;> rfl
@[simp] theorem Dev.raise_wdt (d : Dev) (b n : Nat) : (d.raise b n).wdt = d.wdt := by unfold Dev.raise; split <;> rfl
@[simp] theorem Dev.raise_prism (d : Dev) (b n : Nat) : (d.raise b n).prism = d.prism := by unfold Dev.raise; split <;> rfl
@[simp] theorem Dev.raise_cap (d : Dev) (b n : Nat) : (d.raise b n).cap = d.cap := by unfold Dev.raise; split <;> rfl
@[simp] theorem Dev.raise_nand (d : Dev) (b n : Nat) : (d.raise b n).nand = d.nand := by unfold Dev.raise; split <;> rfl
@[simp] theorem Dev.raise_recov (d : Dev) (b n : Nat) : (d.raise b n).recov = d.recov := by unfold Dev.raise; split <;> rfl
@[simp] theorem Dev.raise_tap (d : Dev) (b n : Nat) : (d.raise b n).tap = d.tap := by unfold Dev.raise; split <;> rfl
@[simp] theorem Dev.raise_nv (d : Dev) (b n : Nat) : (d.raise b n).nv = d.nv := by unfold Dev.raise; split <;> rfl
@[simp] theorem Dev.raise_sram (d : Dev) (b n : Nat) : (d.raise b n).sram = d.sram := by unfold Dev.raise; split <;> rfl
@[simp] theorem Dev.raise_readData (d : Dev) (b n : Nat) : (d.raise b n).readData = d.readData := by unfold Dev.raise; split <;> rfl

@[simp] theorem Dev.logFault_regs (d : Dev) (b n : Nat) (w : List Word) : (d.logFault b n w).regs = d.regs := by unfold Dev.logFault; split <;> rfl
@[simp] theorem Dev.logFault_raised (d : Dev) (b n : Nat) (w : List Word) : (d.logFault b n w).raised = d.raised := by unfold Dev.logFault; split <;> rfl
@[simp] theorem Dev.logFault_freeCount (d : Dev) (b n : Nat) (w : List Word) : (d.logFault b n w).freeCount = d.freeCount := by unfold Dev.logFault; split <;> rfl
@[simp] theorem Dev.logFault_pw (d : Dev) (b n : Nat) (w : List Word) : (d.logFault b n w).pw = d.pw := by unfold Dev.logFault; split <;> rfl
@[simp] theorem Dev.logFault_balls (d : Dev) (b n : Nat) (w : List Word) : (d.logFault b n w).balls = d.balls := by unfold Dev.logFault; split <;> rfl
@[simp] theorem Dev.logFault_slots (d : Dev) (b n : Nat) (w : List Word) : (d.logFault b n w).slots = d.slots := by unfold Dev.logFault; split <;> rfl
@[simp] theorem Dev.logFault_boot (d : Dev) (b n : Nat) (w : List Word) : (d.logFault b n w).boot = d.boot := by unfold Dev.logFault; split <;> rfl
@[simp] theorem Dev.logFault_live (d : Dev) (b n : Nat) (w : List Word) : (d.logFault b n w).live = d.live := by unfold Dev.logFault; split <;> rfl
@[simp] theorem Dev.logFault_keys (d : Dev) (b n : Nat) (w : List Word) : (d.logFault b n w).keys = d.keys := by unfold Dev.logFault; split <;> rfl
@[simp] theorem Dev.logFault_host (d : Dev) (b n : Nat) (w : List Word) : (d.logFault b n w).host = d.host := by unfold Dev.logFault; split <;> rfl
@[simp] theorem Dev.logFault_ev (d : Dev) (b n : Nat) (w : List Word) : (d.logFault b n w).ev = d.ev := by unfold Dev.logFault; split <;> rfl
@[simp] theorem Dev.logFault_img (d : Dev) (b n : Nat) (w : List Word) : (d.logFault b n w).img = d.img := by unfold Dev.logFault; split <;> rfl
@[simp] theorem Dev.logFault_tile (d : Dev) (b n : Nat) (w : List Word) : (d.logFault b n w).tile = d.tile := by unfold Dev.logFault; split <;> rfl
@[simp] theorem Dev.logFault_fmap (d : Dev) (b n : Nat) (w : List Word) : (d.logFault b n w).fmap = d.fmap := by unfold Dev.logFault; split <;> rfl
@[simp] theorem Dev.logFault_course (d : Dev) (b n : Nat) (w : List Word) : (d.logFault b n w).course = d.course := by unfold Dev.logFault; split <;> rfl
@[simp] theorem Dev.logFault_sys (d : Dev) (b n : Nat) (w : List Word) : (d.logFault b n w).sys = d.sys := by unfold Dev.logFault; split <;> rfl
@[simp] theorem Dev.logFault_port (d : Dev) (b n : Nat) (w : List Word) : (d.logFault b n w).port = d.port := by unfold Dev.logFault; split <;> rfl
@[simp] theorem Dev.logFault_path (d : Dev) (b n : Nat) (w : List Word) : (d.logFault b n w).path = d.path := by unfold Dev.logFault; split <;> rfl
@[simp] theorem Dev.logFault_chg (d : Dev) (b n : Nat) (w : List Word) : (d.logFault b n w).chg = d.chg := by unfold Dev.logFault; split <;> rfl
@[simp] theorem Dev.logFault_ret (d : Dev) (b n : Nat) (w : List Word) : (d.logFault b n w).ret = d.ret := by unfold Dev.logFault; split <;> rfl
@[simp] theorem Dev.logFault_log (d : Dev) (b n : Nat) (w : List Word) : (d.logFault b n w).log = d.log := by unfold Dev.logFault; split <;> rfl
@[simp] theorem Dev.logFault_lamp (d : Dev) (b n : Nat) (w : List Word) : (d.logFault b n w).lamp = d.lamp := by unfold Dev.logFault; split <;> rfl
@[simp] theorem Dev.logFault_ring (d : Dev) (b n : Nat) (w : List Word) : (d.logFault b n w).ring = d.ring := by unfold Dev.logFault; split <;> rfl
@[simp] theorem Dev.logFault_serv (d : Dev) (b n : Nat) (w : List Word) : (d.logFault b n w).serv = d.serv := by unfold Dev.logFault; split <;> rfl
@[simp] theorem Dev.logFault_ptb (d : Dev) (b n : Nat) (w : List Word) : (d.logFault b n w).ptb = d.ptb := by unfold Dev.logFault; split <;> rfl
@[simp] theorem Dev.logFault_slotPos (d : Dev) (b n : Nat) (w : List Word) : (d.logFault b n w).slotPos = d.slotPos := by unfold Dev.logFault; split <;> rfl
@[simp] theorem Dev.logFault_gtSet (d : Dev) (b n : Nat) (w : List Word) : (d.logFault b n w).gtSet = d.gtSet := by unfold Dev.logFault; split <;> rfl
@[simp] theorem Dev.logFault_lens (d : Dev) (b n : Nat) (w : List Word) : (d.logFault b n w).lens = d.lens := by unfold Dev.logFault; split <;> rfl
@[simp] theorem Dev.logFault_sensor (d : Dev) (b n : Nat) (w : List Word) : (d.logFault b n w).sensor = d.sensor := by unfold Dev.logFault; split <;> rfl
@[simp] theorem Dev.logFault_wdt (d : Dev) (b n : Nat) (w : List Word) : (d.logFault b n w).wdt = d.wdt := by unfold Dev.logFault; split <;> rfl
@[simp] theorem Dev.logFault_prism (d : Dev) (b n : Nat) (w : List Word) : (d.logFault b n w).prism = d.prism := by unfold Dev.logFault; split <;> rfl
@[simp] theorem Dev.logFault_cap (d : Dev) (b n : Nat) (w : List Word) : (d.logFault b n w).cap = d.cap := by unfold Dev.logFault; split <;> rfl
@[simp] theorem Dev.logFault_nand (d : Dev) (b n : Nat) (w : List Word) : (d.logFault b n w).nand = d.nand := by unfold Dev.logFault; split <;> rfl
@[simp] theorem Dev.logFault_recov (d : Dev) (b n : Nat) (w : List Word) : (d.logFault b n w).recov = d.recov := by unfold Dev.logFault; split <;> rfl
@[simp] theorem Dev.logFault_tap (d : Dev) (b n : Nat) (w : List Word) : (d.logFault b n w).tap = d.tap := by unfold Dev.logFault; split <;> rfl
@[simp] theorem Dev.logFault_nv (d : Dev) (b n : Nat) (w : List Word) : (d.logFault b n w).nv = d.nv := by unfold Dev.logFault; split <;> rfl
@[simp] theorem Dev.logFault_sram (d : Dev) (b n : Nat) (w : List Word) : (d.logFault b n w).sram = d.sram := by unfold Dev.logFault; split <;> rfl
@[simp] theorem Dev.logFault_readData (d : Dev) (b n : Nat) (w : List Word) : (d.logFault b n w).readData = d.readData := by unfold Dev.logFault; split <;> rfl

@[simp] theorem Dev.fault_regs (d : Dev) (b n : Nat) (l : List Nat) : (d.fault b n l).regs = d.regs := by simp [Dev.fault]

/-! ### What depends on one part alone -/

@[simp] theorem Dev.f_putRaised (d : Dev) (y : List (Nat × Nat)) (x : Field) : (d.putRaised y).f x = d.f x := rfl
@[simp] theorem Dev.rd_putRaised (d : Dev) (y : List (Nat × Nat)) (a : Nat) : (d.putRaised y).rd a = d.rd a := rfl
@[simp] theorem Dev.f_putFaults (d : Dev) (y : List LogReq) (x : Field) : (d.putFaults y).f x = d.f x := rfl
@[simp] theorem Dev.rd_putFaults (d : Dev) (y : List LogReq) (a : Nat) : (d.putFaults y).rd a = d.rd a := rfl
@[simp] theorem Dev.f_putFreeCount (d : Dev) (y : Nat) (x : Field) : (d.putFreeCount y).f x = d.f x := rfl
@[simp] theorem Dev.rd_putFreeCount (d : Dev) (y : Nat) (a : Nat) : (d.putFreeCount y).rd a = d.rd a := rfl
@[simp] theorem Dev.f_putPw (d : Dev) (y : PowerState) (x : Field) : (d.putPw y).f x = d.f x := rfl
@[simp] theorem Dev.rd_putPw (d : Dev) (y : PowerState) (a : Nat) : (d.putPw y).rd a = d.rd a := rfl
@[simp] theorem Dev.f_putBalls (d : Dev) (y : Balls) (x : Field) : (d.putBalls y).f x = d.f x := rfl
@[simp] theorem Dev.rd_putBalls (d : Dev) (y : Balls) (a : Nat) : (d.putBalls y).rd a = d.rd a := rfl
@[simp] theorem Dev.f_putSlots (d : Dev) (y : Vector Slot 2) (x : Field) : (d.putSlots y).f x = d.f x := rfl
@[simp] theorem Dev.rd_putSlots (d : Dev) (y : Vector Slot 2) (a : Nat) : (d.putSlots y).rd a = d.rd a := rfl
@[simp] theorem Dev.f_putBoot (d : Dev) (y : BootRecord) (x : Field) : (d.putBoot y).f x = d.f x := rfl
@[simp] theorem Dev.rd_putBoot (d : Dev) (y : BootRecord) (a : Nat) : (d.putBoot y).rd a = d.rd a := rfl
@[simp] theorem Dev.f_putLive (d : Dev) (y : LiveRecord) (x : Field) : (d.putLive y).f x = d.f x := rfl
@[simp] theorem Dev.rd_putLive (d : Dev) (y : LiveRecord) (a : Nat) : (d.putLive y).rd a = d.rd a := rfl
@[simp] theorem Dev.f_putKeys (d : Dev) (y : Vector KeySlot 4) (x : Field) : (d.putKeys y).f x = d.f x := rfl
@[simp] theorem Dev.rd_putKeys (d : Dev) (y : Vector KeySlot 4) (a : Nat) : (d.putKeys y).rd a = d.rd a := rfl
@[simp] theorem Dev.f_putHost (d : Dev) (y : HostPort) (x : Field) : (d.putHost y).f x = d.f x := rfl
@[simp] theorem Dev.rd_putHost (d : Dev) (y : HostPort) (a : Nat) : (d.putHost y).rd a = d.rd a := rfl
@[simp] theorem Dev.f_putEv (d : Dev) (y : EventState) (x : Field) : (d.putEv y).f x = d.f x := rfl
@[simp] theorem Dev.rd_putEv (d : Dev) (y : EventState) (a : Nat) : (d.putEv y).rd a = d.rd a := rfl
@[simp] theorem Dev.f_putImg (d : Dev) (y : ImgState) (x : Field) : (d.putImg y).f x = d.f x := rfl
@[simp] theorem Dev.rd_putImg (d : Dev) (y : ImgState) (a : Nat) : (d.putImg y).rd a = d.rd a := rfl
@[simp] theorem Dev.f_putTile (d : Dev) (y : Vector Tile 16) (x : Field) : (d.putTile y).f x = d.f x := rfl
@[simp] theorem Dev.rd_putTile (d : Dev) (y : Vector Tile 16) (a : Nat) : (d.putTile y).rd a = d.rd a := rfl
@[simp] theorem Dev.f_putFmap (d : Dev) (y : Vector FailEntry 16) (x : Field) : (d.putFmap y).f x = d.f x := rfl
@[simp] theorem Dev.rd_putFmap (d : Dev) (y : Vector FailEntry 16) (a : Nat) : (d.putFmap y).rd a = d.rd a := rfl
@[simp] theorem Dev.f_putCourse (d : Dev) (y : Vector Course 6) (x : Field) : (d.putCourse y).f x = d.f x := rfl
@[simp] theorem Dev.rd_putCourse (d : Dev) (y : Vector Course 6) (a : Nat) : (d.putCourse y).rd a = d.rd a := rfl
@[simp] theorem Dev.f_putSys (d : Dev) (y : SysLoop) (x : Field) : (d.putSys y).f x = d.f x := rfl
@[simp] theorem Dev.rd_putSys (d : Dev) (y : SysLoop) (a : Nat) : (d.putSys y).rd a = d.rd a := rfl
@[simp] theorem Dev.f_putPort (d : Dev) (y : Vector Port 5) (x : Field) : (d.putPort y).f x = d.f x := rfl
@[simp] theorem Dev.rd_putPort (d : Dev) (y : Vector Port 5) (a : Nat) : (d.putPort y).rd a = d.rd a := rfl
@[simp] theorem Dev.f_putPath (d : Dev) (y : Path) (x : Field) : (d.putPath y).f x = d.f x := rfl
@[simp] theorem Dev.rd_putPath (d : Dev) (y : Path) (a : Nat) : (d.putPath y).rd a = d.rd a := rfl
@[simp] theorem Dev.f_putChg (d : Dev) (y : Charger) (x : Field) : (d.putChg y).f x = d.f x := rfl
@[simp] theorem Dev.rd_putChg (d : Dev) (y : Charger) (a : Nat) : (d.putChg y).rd a = d.rd a := rfl
@[simp] theorem Dev.f_putRet (d : Dev) (y : Retained) (x : Field) : (d.putRet y).f x = d.f x := rfl
@[simp] theorem Dev.rd_putRet (d : Dev) (y : Retained) (a : Nat) : (d.putRet y).rd a = d.rd a := rfl
@[simp] theorem Dev.f_putLog (d : Dev) (y : FaultLog) (x : Field) : (d.putLog y).f x = d.f x := rfl
@[simp] theorem Dev.rd_putLog (d : Dev) (y : FaultLog) (a : Nat) : (d.putLog y).rd a = d.rd a := rfl
@[simp] theorem Dev.f_putLamp (d : Dev) (y : Vector Lamp 2) (x : Field) : (d.putLamp y).f x = d.f x := rfl
@[simp] theorem Dev.rd_putLamp (d : Dev) (y : Vector Lamp 2) (a : Nat) : (d.putLamp y).rd a = d.rd a := rfl
@[simp] theorem Dev.f_putRing (d : Dev) (y : Ring) (x : Field) : (d.putRing y).f x = d.f x := rfl
@[simp] theorem Dev.rd_putRing (d : Dev) (y : Ring) (a : Nat) : (d.putRing y).rd a = d.rd a := rfl
@[simp] theorem Dev.f_putServ (d : Dev) (y : Serv) (x : Field) : (d.putServ y).f x = d.f x := rfl
@[simp] theorem Dev.rd_putServ (d : Dev) (y : Serv) (a : Nat) : (d.putServ y).rd a = d.rd a := rfl
@[simp] theorem Dev.f_putPtb (d : Dev) (y : Ptb) (x : Field) : (d.putPtb y).f x = d.f x := rfl
@[simp] theorem Dev.rd_putPtb (d : Dev) (y : Ptb) (a : Nat) : (d.putPtb y).rd a = d.rd a := rfl
@[simp] theorem Dev.f_putSlotPos (d : Dev) (y : Vector Nat 32) (x : Field) : (d.putSlotPos y).f x = d.f x := rfl
@[simp] theorem Dev.rd_putSlotPos (d : Dev) (y : Vector Nat 32) (a : Nat) : (d.putSlotPos y).rd a = d.rd a := rfl
@[simp] theorem Dev.f_putGtSet (d : Dev) (y : List Nat) (x : Field) : (d.putGtSet y).f x = d.f x := rfl
@[simp] theorem Dev.rd_putGtSet (d : Dev) (y : List Nat) (a : Nat) : (d.putGtSet y).rd a = d.rd a := rfl
@[simp] theorem Dev.f_putLens (d : Dev) (y : Vector Lens 24) (x : Field) : (d.putLens y).f x = d.f x := rfl
@[simp] theorem Dev.rd_putLens (d : Dev) (y : Vector Lens 24) (a : Nat) : (d.putLens y).rd a = d.rd a := rfl
@[simp] theorem Dev.f_putSensor (d : Dev) (y : Vector Sensor 12) (x : Field) : (d.putSensor y).f x = d.f x := rfl
@[simp] theorem Dev.rd_putSensor (d : Dev) (y : Vector Sensor 12) (a : Nat) : (d.putSensor y).rd a = d.rd a := rfl
@[simp] theorem Dev.f_putWdt (d : Dev) (y : Wdt) (x : Field) : (d.putWdt y).f x = d.f x := rfl
@[simp] theorem Dev.rd_putWdt (d : Dev) (y : Wdt) (a : Nat) : (d.putWdt y).rd a = d.rd a := rfl
@[simp] theorem Dev.f_putPrism (d : Dev) (y : Prism) (x : Field) : (d.putPrism y).f x = d.f x := rfl
@[simp] theorem Dev.rd_putPrism (d : Dev) (y : Prism) (a : Nat) : (d.putPrism y).rd a = d.rd a := rfl
@[simp] theorem Dev.f_putCap (d : Dev) (y : Capture) (x : Field) : (d.putCap y).f x = d.f x := rfl
@[simp] theorem Dev.rd_putCap (d : Dev) (y : Capture) (a : Nat) : (d.putCap y).rd a = d.rd a := rfl
@[simp] theorem Dev.f_putNand (d : Dev) (y : Nand) (x : Field) : (d.putNand y).f x = d.f x := rfl
@[simp] theorem Dev.rd_putNand (d : Dev) (y : Nand) (a : Nat) : (d.putNand y).rd a = d.rd a := rfl
@[simp] theorem Dev.f_putRecov (d : Dev) (y : Recovery) (x : Field) : (d.putRecov y).f x = d.f x := rfl
@[simp] theorem Dev.rd_putRecov (d : Dev) (y : Recovery) (a : Nat) : (d.putRecov y).rd a = d.rd a := rfl
@[simp] theorem Dev.f_putTap (d : Dev) (y : Tap) (x : Field) : (d.putTap y).f x = d.f x := rfl
@[simp] theorem Dev.rd_putTap (d : Dev) (y : Tap) (a : Nat) : (d.putTap y).rd a = d.rd a := rfl
@[simp] theorem Dev.f_putNv (d : Dev) (y : List (Nat × Byte)) (x : Field) : (d.putNv y).f x = d.f x := rfl
@[simp] theorem Dev.rd_putNv (d : Dev) (y : List (Nat × Byte)) (a : Nat) : (d.putNv y).rd a = d.rd a := rfl
@[simp] theorem Dev.f_putSram (d : Dev) (y : List (Nat × Byte)) (x : Field) : (d.putSram y).f x = d.f x := rfl
@[simp] theorem Dev.rd_putSram (d : Dev) (y : List (Nat × Byte)) (a : Nat) : (d.putSram y).rd a = d.rd a := rfl
@[simp] theorem Dev.f_putReadData (d : Dev) (y : Word) (x : Field) : (d.putReadData y).f x = d.f x := rfl
@[simp] theorem Dev.rd_putReadData (d : Dev) (y : Word) (a : Nat) : (d.putReadData y).rd a = d.rd a := rfl

@[simp] theorem Dev.f_raise (d : Dev) (b n : Nat) (x : Field) : (d.raise b n).f x = d.f x := by unfold Dev.raise; split <;> rfl
@[simp] theorem Dev.rd_raise (d : Dev) (b n a : Nat) : (d.raise b n).rd a = d.rd a := by unfold Dev.raise; split <;> rfl
@[simp] theorem Dev.f_logFault (d : Dev) (b n : Nat) (w : List Word) (x : Field) : (d.logFault b n w).f x = d.f x := by
  unfold Dev.logFault; split <;> rfl
@[simp] theorem Dev.rd_logFault (d : Dev) (b n : Nat) (w : List Word) (a : Nat) : (d.logFault b n w).rd a = d.rd a := by
  unfold Dev.logFault; split <;> rfl
@[simp] theorem Dev.alive_set (d : Dev) (x : Field) (v : Nat) : (d.set x v).alive = d.alive := rfl
@[simp] theorem Dev.running_set (d : Dev) (x : Field) (v : Nat) : (d.set x v).running = d.running := rfl
@[simp] theorem Dev.alive_raise (d : Dev) (b n : Nat) : (d.raise b n).alive = d.alive := by unfold Dev.alive; simp
@[simp] theorem Dev.running_raise (d : Dev) (b n : Nat) : (d.raise b n).running = d.running := by unfold Dev.running Dev.alive; simp
@[simp] theorem Dev.alive_logFault (d : Dev) (b n : Nat) (w : List Word) : (d.logFault b n w).alive = d.alive := by unfold Dev.alive; simp
@[simp] theorem Dev.running_logFault (d : Dev) (b n : Nat) (w : List Word) : (d.logFault b n w).running = d.running := by
  unfold Dev.running Dev.alive; simp

@[simp] theorem Dev.alive_putRaised (d : Dev) (y : List (Nat × Nat)) : (d.putRaised y).alive = d.alive := rfl
@[simp] theorem Dev.running_putRaised (d : Dev) (y : List (Nat × Nat)) : (d.putRaised y).running = d.running := rfl
@[simp] theorem Dev.alive_putFaults (d : Dev) (y : List LogReq) : (d.putFaults y).alive = d.alive := rfl
@[simp] theorem Dev.running_putFaults (d : Dev) (y : List LogReq) : (d.putFaults y).running = d.running := rfl
@[simp] theorem Dev.alive_putFreeCount (d : Dev) (y : Nat) : (d.putFreeCount y).alive = d.alive := rfl
@[simp] theorem Dev.running_putFreeCount (d : Dev) (y : Nat) : (d.putFreeCount y).running = d.running := rfl
@[simp] theorem Dev.alive_putBalls (d : Dev) (y : Balls) : (d.putBalls y).alive = d.alive := rfl
@[simp] theorem Dev.running_putBalls (d : Dev) (y : Balls) : (d.putBalls y).running = d.running := rfl
@[simp] theorem Dev.alive_putSlots (d : Dev) (y : Vector Slot 2) : (d.putSlots y).alive = d.alive := rfl
@[simp] theorem Dev.running_putSlots (d : Dev) (y : Vector Slot 2) : (d.putSlots y).running = d.running := rfl
@[simp] theorem Dev.alive_putBoot (d : Dev) (y : BootRecord) : (d.putBoot y).alive = d.alive := rfl
@[simp] theorem Dev.running_putBoot (d : Dev) (y : BootRecord) : (d.putBoot y).running = d.running := rfl
@[simp] theorem Dev.alive_putLive (d : Dev) (y : LiveRecord) : (d.putLive y).alive = d.alive := rfl
@[simp] theorem Dev.running_putLive (d : Dev) (y : LiveRecord) : (d.putLive y).running = d.running := rfl
@[simp] theorem Dev.alive_putKeys (d : Dev) (y : Vector KeySlot 4) : (d.putKeys y).alive = d.alive := rfl
@[simp] theorem Dev.running_putKeys (d : Dev) (y : Vector KeySlot 4) : (d.putKeys y).running = d.running := rfl
@[simp] theorem Dev.alive_putHost (d : Dev) (y : HostPort) : (d.putHost y).alive = d.alive := rfl
@[simp] theorem Dev.running_putHost (d : Dev) (y : HostPort) : (d.putHost y).running = d.running := rfl
@[simp] theorem Dev.alive_putEv (d : Dev) (y : EventState) : (d.putEv y).alive = d.alive := rfl
@[simp] theorem Dev.running_putEv (d : Dev) (y : EventState) : (d.putEv y).running = d.running := rfl
@[simp] theorem Dev.alive_putImg (d : Dev) (y : ImgState) : (d.putImg y).alive = d.alive := rfl
@[simp] theorem Dev.running_putImg (d : Dev) (y : ImgState) : (d.putImg y).running = d.running := rfl
@[simp] theorem Dev.alive_putTile (d : Dev) (y : Vector Tile 16) : (d.putTile y).alive = d.alive := rfl
@[simp] theorem Dev.running_putTile (d : Dev) (y : Vector Tile 16) : (d.putTile y).running = d.running := rfl
@[simp] theorem Dev.alive_putFmap (d : Dev) (y : Vector FailEntry 16) : (d.putFmap y).alive = d.alive := rfl
@[simp] theorem Dev.running_putFmap (d : Dev) (y : Vector FailEntry 16) : (d.putFmap y).running = d.running := rfl
@[simp] theorem Dev.alive_putCourse (d : Dev) (y : Vector Course 6) : (d.putCourse y).alive = d.alive := rfl
@[simp] theorem Dev.running_putCourse (d : Dev) (y : Vector Course 6) : (d.putCourse y).running = d.running := rfl
@[simp] theorem Dev.alive_putSys (d : Dev) (y : SysLoop) : (d.putSys y).alive = d.alive := rfl
@[simp] theorem Dev.running_putSys (d : Dev) (y : SysLoop) : (d.putSys y).running = d.running := rfl
@[simp] theorem Dev.alive_putPort (d : Dev) (y : Vector Port 5) : (d.putPort y).alive = d.alive := rfl
@[simp] theorem Dev.running_putPort (d : Dev) (y : Vector Port 5) : (d.putPort y).running = d.running := rfl
@[simp] theorem Dev.alive_putPath (d : Dev) (y : Path) : (d.putPath y).alive = d.alive := rfl
@[simp] theorem Dev.running_putPath (d : Dev) (y : Path) : (d.putPath y).running = d.running := rfl
@[simp] theorem Dev.alive_putChg (d : Dev) (y : Charger) : (d.putChg y).alive = d.alive := rfl
@[simp] theorem Dev.running_putChg (d : Dev) (y : Charger) : (d.putChg y).running = d.running := rfl
@[simp] theorem Dev.alive_putRet (d : Dev) (y : Retained) : (d.putRet y).alive = d.alive := rfl
@[simp] theorem Dev.running_putRet (d : Dev) (y : Retained) : (d.putRet y).running = d.running := rfl
@[simp] theorem Dev.alive_putLog (d : Dev) (y : FaultLog) : (d.putLog y).alive = d.alive := rfl
@[simp] theorem Dev.running_putLog (d : Dev) (y : FaultLog) : (d.putLog y).running = d.running := rfl
@[simp] theorem Dev.alive_putLamp (d : Dev) (y : Vector Lamp 2) : (d.putLamp y).alive = d.alive := rfl
@[simp] theorem Dev.running_putLamp (d : Dev) (y : Vector Lamp 2) : (d.putLamp y).running = d.running := rfl
@[simp] theorem Dev.alive_putRing (d : Dev) (y : Ring) : (d.putRing y).alive = d.alive := rfl
@[simp] theorem Dev.running_putRing (d : Dev) (y : Ring) : (d.putRing y).running = d.running := rfl
@[simp] theorem Dev.alive_putServ (d : Dev) (y : Serv) : (d.putServ y).alive = d.alive := rfl
@[simp] theorem Dev.running_putServ (d : Dev) (y : Serv) : (d.putServ y).running = d.running := rfl
@[simp] theorem Dev.alive_putPtb (d : Dev) (y : Ptb) : (d.putPtb y).alive = d.alive := rfl
@[simp] theorem Dev.running_putPtb (d : Dev) (y : Ptb) : (d.putPtb y).running = d.running := rfl
@[simp] theorem Dev.alive_putSlotPos (d : Dev) (y : Vector Nat 32) : (d.putSlotPos y).alive = d.alive := rfl
@[simp] theorem Dev.running_putSlotPos (d : Dev) (y : Vector Nat 32) : (d.putSlotPos y).running = d.running := rfl
@[simp] theorem Dev.alive_putGtSet (d : Dev) (y : List Nat) : (d.putGtSet y).alive = d.alive := rfl
@[simp] theorem Dev.running_putGtSet (d : Dev) (y : List Nat) : (d.putGtSet y).running = d.running := rfl
@[simp] theorem Dev.alive_putLens (d : Dev) (y : Vector Lens 24) : (d.putLens y).alive = d.alive := rfl
@[simp] theorem Dev.running_putLens (d : Dev) (y : Vector Lens 24) : (d.putLens y).running = d.running := rfl
@[simp] theorem Dev.alive_putSensor (d : Dev) (y : Vector Sensor 12) : (d.putSensor y).alive = d.alive := rfl
@[simp] theorem Dev.running_putSensor (d : Dev) (y : Vector Sensor 12) : (d.putSensor y).running = d.running := rfl
@[simp] theorem Dev.alive_putWdt (d : Dev) (y : Wdt) : (d.putWdt y).alive = d.alive := rfl
@[simp] theorem Dev.running_putWdt (d : Dev) (y : Wdt) : (d.putWdt y).running = d.running := rfl
@[simp] theorem Dev.alive_putPrism (d : Dev) (y : Prism) : (d.putPrism y).alive = d.alive := rfl
@[simp] theorem Dev.running_putPrism (d : Dev) (y : Prism) : (d.putPrism y).running = d.running := rfl
@[simp] theorem Dev.alive_putCap (d : Dev) (y : Capture) : (d.putCap y).alive = d.alive := rfl
@[simp] theorem Dev.running_putCap (d : Dev) (y : Capture) : (d.putCap y).running = d.running := rfl
@[simp] theorem Dev.alive_putNand (d : Dev) (y : Nand) : (d.putNand y).alive = d.alive := rfl
@[simp] theorem Dev.running_putNand (d : Dev) (y : Nand) : (d.putNand y).running = d.running := rfl
@[simp] theorem Dev.alive_putRecov (d : Dev) (y : Recovery) : (d.putRecov y).alive = d.alive := rfl
@[simp] theorem Dev.running_putRecov (d : Dev) (y : Recovery) : (d.putRecov y).running = d.running := rfl
@[simp] theorem Dev.alive_putTap (d : Dev) (y : Tap) : (d.putTap y).alive = d.alive := rfl
@[simp] theorem Dev.running_putTap (d : Dev) (y : Tap) : (d.putTap y).running = d.running := rfl
@[simp] theorem Dev.alive_putNv (d : Dev) (y : List (Nat × Byte)) : (d.putNv y).alive = d.alive := rfl
@[simp] theorem Dev.running_putNv (d : Dev) (y : List (Nat × Byte)) : (d.putNv y).running = d.running := rfl
@[simp] theorem Dev.alive_putSram (d : Dev) (y : List (Nat × Byte)) : (d.putSram y).alive = d.alive := rfl
@[simp] theorem Dev.running_putSram (d : Dev) (y : List (Nat × Byte)) : (d.putSram y).running = d.running := rfl
@[simp] theorem Dev.alive_putReadData (d : Dev) (y : Word) : (d.putReadData y).alive = d.alive := rfl
@[simp] theorem Dev.running_putReadData (d : Dev) (y : Word) : (d.putReadData y).running = d.running := rfl

/-- The raises of an alive device. -/
theorem Dev.raise_raised (d : Dev) (b n : Nat) (h : d.alive = true) : (d.raise b n).raised = d.raised ++ [(b * 32 + n, d.pw.time)] := by
  simp [Dev.raise, h, Dev.putRaised]

/-- The outcome of every meaning. -/
theorem done_eq (s : State) (d : Dev) : done s d = .next { s with dev := finish d } := rfl

end Sys2Proof.Machine
end

