-- ==== Sys2Proof/Laws/Finish.lean ====
section
/-! SUPPORT. What the end of a command changes: one law for each operation of Machine/Flags.lean and for the capture windows that an event opens
and closes. -/
namespace Sys2Proof.Machine

/-- `e` is `d` but for what the end of a command may change. -/
structure EndSame (d e : Dev) : Prop where
  field : ∀ x : Field, endFields.all (fun y => x.apart y) = true → e.f x = d.f x
  rest  : e.still.rest endParts = d.still.rest endParts

theorem EndSame.refl (d : Dev) : EndSame d d := ⟨fun _ _ => rfl, rfl⟩

theorem EndSame.trans {a b c : Dev} (h : EndSame a b) (g : EndSame b c) : EndSame a c :=
  ⟨fun x hx => (g.field x hx).trans (h.field x hx), g.rest.trans h.rest⟩

/-- A change of other parts alone. -/
theorem EndSame.of_regs {d e : Dev} (h : e.regs = d.regs) (g : e.still.rest endParts = d.still.rest endParts) : EndSame d e :=
  ⟨fun x _ => Dev.f_congr h x, g⟩

theorem EndSame.set (d : Dev) {y : Field} (v : Nat) (h : y ∈ endFields) : EndSame d (d.set y v) :=
  ⟨fun _ hx => Dev.f_set_apart d v (List.all_eq_true.1 hx _ h), rfl⟩

theorem EndSame.setB (d : Dev) {y : Field} (b : Bool) (h : y ∈ endFields) : EndSame d (d.setB y b) := .set d _ h

theorem EndSame.putRaised (d : Dev) (x : List (Nat × Nat)) : EndSame d (d.putRaised x) := ⟨fun _ _ => rfl, rfl⟩
theorem EndSame.putFaults (d : Dev) (x : List LogReq) : EndSame d (d.putFaults x) := ⟨fun _ _ => rfl, rfl⟩
theorem EndSame.putFreeCount (d : Dev) (x : Nat) : EndSame d (d.putFreeCount x) := ⟨fun _ _ => rfl, rfl⟩
theorem EndSame.putEv (d : Dev) (x : EventState) : EndSame d (d.putEv x) := ⟨fun _ _ => rfl, rfl⟩
theorem EndSame.putLog (d : Dev) (x : FaultLog) : EndSame d (d.putLog x) := ⟨fun _ _ => rfl, rfl⟩
theorem EndSame.putCap (d : Dev) (x : Capture) : EndSame d (d.putCap x) := ⟨fun _ _ => rfl, rfl⟩
theorem EndSame.putNand (d : Dev) (x : Nand) : EndSame d (d.putNand x) := ⟨fun _ _ => rfl, rfl⟩
theorem EndSame.wake (d : Dev) (b : Bool) : EndSame d (d.putPw { d.pw with coreWake := b }) := ⟨fun _ _ => rfl, rfl⟩

theorem EndSame.ite {c : Prop} [Decidable c] {d a b : Dev} (ha : EndSame d a) (hb : EndSame d b) : EndSame d (if c then a else b) := by
  split
  · exact ha
  · exact hb

theorem EndSame.raise (d : Dev) (b n : Nat) : EndSame d (d.raise b n) := .ite (.putRaised _ _) (.refl d)

theorem EndSame.logFault (d : Dev) (b n : Nat) (w : List Word) : EndSame d (d.logFault b n w) := .ite (.putFaults _ _) (.refl d)

theorem EndSame.incSat (d : Dev) {y : Field} (h : y ∈ endFields) : EndSame d (d.incSat y) := .set d _ h

theorem EndSame.inc (d : Dev) {y : Field} (h : y ∈ endFields) : EndSame d (d.inc y) := .set d _ h

theorem EndSame.foldl {β : Type} (g : Dev → β → Dev) (l : List β) (hg : ∀ d, ∀ x ∈ l, EndSame d (g d x)) (d : Dev) : EndSame d (l.foldl g d) := by
  induction l generalizing d with
  | nil => exact .refl d
  | cons x t ih =>
    exact (hg d x (List.mem_cons_self ..)).trans (ih (fun d y hy => hg d y (List.mem_cons_of_mem _ hy)) _)

theorem EndSame.each (n : Nat) (g : Dev → Nat → Dev) (hg : ∀ d, ∀ k < n, EndSame d (g d k)) (d : Dev) : EndSame d (d.each n g) :=
  .foldl g _ (fun d k hk => hg d k (List.mem_range.1 hk)) d

theorem mem_end_pend {k : Nat} (h : k < 6) : F.EVB_PEND_PEND k ∈ endFields :=
  (by decide : ∀ k : Fin 6, F.EVB_PEND_PEND k ∈ endFields) ⟨k, h⟩

theorem mem_end_overrun {k : Nat} (h : k < 8) : F.DMA_STAT_OVERRUN k ∈ endFields :=
  (by decide : ∀ k : Fin 8, F.DMA_STAT_OVERRUN k ∈ endFields) ⟨k, h⟩

theorem mem_end_limited {k : Nat} (h : k < 5) : F.PORT_STAT_LIMITED k ∈ endFields :=
  (by decide : ∀ k : Fin 5, F.PORT_STAT_LIMITED k ∈ endFields) ⟨k, h⟩

theorem mem_end_course {c : Nat} (h : c < 6) : F.C_STAT_HEALTHY c ∈ endFields ∧ F.C_STAT_WORKCFG c ∈ endFields ∧ F.C_STAT_RUNNING c ∈ endFields ∧
    F.C_STAT_LIMIT_CUT c ∈ endFields ∧ F.C_STAT_SPARE_ARMING c ∈ endFields ∧ F.C_STAT_NO_SPARE c ∈ endFields ∧
    F.C_STAT_TEST_ACTIVE c ∈ endFields ∧ F.C_STAT_COURSE_FAIL c ∈ endFields :=
  (by decide : ∀ c : Fin 6, F.C_STAT_HEALTHY c ∈ endFields ∧ F.C_STAT_WORKCFG c ∈ endFields ∧ F.C_STAT_RUNNING c ∈ endFields ∧
    F.C_STAT_LIMIT_CUT c ∈ endFields ∧ F.C_STAT_SPARE_ARMING c ∈ endFields ∧ F.C_STAT_NO_SPARE c ∈ endFields ∧
    F.C_STAT_TEST_ACTIVE c ∈ endFields ∧ F.C_STAT_COURSE_FAIL c ∈ endFields) ⟨c, h⟩

theorem mem_end_state (h : Nat) : (if (h == 0) = true then F.CAP_STAT_STATE_A else F.CAP_STAT_STATE_B) ∈ endFields := by
  split <;> decide

/-! ### Delivery -/

theorem EndSame.dmaRequest (d : Dev) {n : Nat} (h : n < 8) : EndSame d (d.dmaRequest n) :=
  .ite (.refl d) (.ite (.trans (.incSat d (mem_end_overrun h)) (.raise _ _ _)) (.putEv _ _))

theorem EndSame.fifoPush (d : Dev) (n t : Nat) : EndSame d (d.fifoPush n t) := by
  unfold Dev.fifoPush
  have h : ∀ x, EndSame d ((d.incSat F.EVF_STAT_LOST).putEv x) := fun x => .trans (.incSat d (by decide)) (.putEv _ _)
  exact .ite (.refl d) (.ite (.putEv _ _) (.ite (.trans (h _) (.raise _ _ _)) (h _)))

theorem EndSame.deliver (d : Dev) (x : Nat × Nat) : EndSame d (d.deliver x) := by
  unfold Dev.deliver
  dsimp only
  refine .trans ?_ (.each _ _ (fun d k hk => .ite (.dmaRequest d hk) (.refl d)) _)
  refine .trans ?_ (.fifoPush _ _ _)
  have h : EndSame d (d.setBit (F.EVB_PEND_PEND (x.1 % 192 / 32)) (x.1 % 192 % 32) true) := .set d _ (mem_end_pend (by omega))
  exact .ite (h.trans (.wake _ _)) h

/-! ### Capture windows -/

theorem EndSame.shutStore (d : Dev) (k : Nat) : EndSame d (d.shutStore k) :=
  .ite (.refl d) (.trans (.trans (.putNand d _) (.set _ _ (by decide))) (.raise _ _ _))

theorem EndSame.startErase (d : Dev) (j : Nat) : EndSame d (d.startErase j) :=
  .trans (.set d _ (y := F.LOG_TAIL_OLDEST) (by decide)) (.putNand _ _)

theorem EndSame.eraseAhead (d : Dev) : EndSame d d.eraseAhead := by
  unfold Dev.eraseAhead
  refine .ite (.refl d) ?_
  split
  · exact .refl d
  · exact .ite (.shutStore _ _) (.ite (.refl d) (.startErase _ _))

theorem EndSame.missWindow (d : Dev) : EndSame d d.missWindow := .trans (.incSat d (by decide)) (.raise _ _ _)

theorem EndSame.modHalf (d : Dev) (h : Nat) (g : Half → Half) : EndSame d (d.modHalf h g) := .putCap _ _

theorem EndSame.takeFrame (d : Dev) : EndSame d d.takeFrame := by
  unfold Dev.takeFrame
  dsimp only
  exact .trans (.trans (.trans (.modHalf d _ _) (.inc _ (y := F.CAP_FRAMES_FRAMES) (by decide))) (.putCap _ _)) (.putFreeCount _ _)

theorem EndSame.openWindow (d : Dev) (c : Nat) : EndSame d (d.openWindow c) := by
  unfold Dev.openWindow
  refine .ite (.refl d) ?_
  dsimp only
  refine .trans (.inc d (y := F.CAP_CYCLE_CYCLE) (by decide)) ?_
  split
  · exact .missWindow _
  · refine .ite (.missWindow _) ?_
    refine .trans (.trans (.trans ?_ (.takeFrame _)) (.raise _ _ _)) (.eraseAhead _)
    refine .trans ?_ (.inc _ (by decide))
    refine .trans (.trans ?_ (.set _ _ (by decide))) (.set _ _ (by decide))
    exact .trans (.trans (.modHalf _ _ _) (.set _ _ (mem_end_state _))) (.set _ _ (by decide))

theorem EndSame.freeHalf (d : Dev) (h : Nat) : EndSame d (d.freeHalf h) := .trans (.putCap d _) (.set _ _ (mem_end_state _))

theorem EndSame.closeWindow (d : Dev) (c : Nat) : EndSame d (d.closeWindow c) := by
  unfold Dev.closeWindow
  refine .ite (.refl d) ?_
  dsimp only
  have h : ∀ g, EndSame d (((d.modHalf (d.f F.CAP_STAT_HALF) g).set F.CAP_STAT_OPEN 0).raise 5 24) := fun g =>
    .trans (.trans (.modHalf d _ g) (.set _ _ (by decide))) (.raise _ _ _)
  exact .ite (.trans (.trans (h _) (.freeHalf _ _)) (.incSat _ (by decide))) (.trans (.trans (h _) (.putCap _ _)) (.set _ _ (mem_end_state _)))

theorem EndSame.windows (d : Dev) : EndSame d d.windows := by
  unfold Dev.windows
  dsimp only
  generalize d.cap.wantClose = c
  generalize d.cap.wantOpen = o
  refine .trans (.putCap d { d.cap with wantOpen := none, wantClose := none }) ?_
  generalize d.putCap { d.cap with wantOpen := none, wantClose := none } = d
  cases c <;> cases o
  · exact .refl _
  · exact .openWindow _ _
  · exact .closeWindow _ _
  · exact .trans (.closeWindow _ _) (.openWindow _ _)

theorem EndSame.windowEvents (d : Dev) (rs : List (Nat × Nat)) : EndSame d (d.windowEvents rs) := by
  unfold Dev.windowEvents
  dsimp only
  have h : ∀ c : Bool, EndSame d (if c = true then d.askClose 1 else d) := fun c => .ite (.putCap _ _) (.refl d)
  exact .ite ((h _).trans (.putCap _ _)) (h _)

theorem EndSame.deliverAll (n : Nat) (d : Dev) : EndSame d (Dev.deliverAll n d) := by
  induction n generalizing d with
  | zero => exact .refl d
  | succ n ih =>
    unfold Dev.deliverAll
    refine .ite (.refl d) (.trans ?_ (ih _))
    refine .trans (.trans ?_ (.windowEvents _ _)) (.windows _)
    exact .trans (.putRaised d []) (.foldl _ _ (fun d x _ => .deliver d x) _)

/-! ### The fault log and the fields that follow -/

theorem EndSame.writeLog (d : Dev) (q : LogReq) : EndSame d (d.writeLog q) := by
  unfold Dev.writeLog
  dsimp only
  exact .trans (.trans (.set d _ (y := F.FLOG_STAT_NEWEST) (by decide)) (.set _ _ (y := F.FLOG_STAT_FIRST) (by decide))) (.putLog _ _)

theorem EndSame.writeLogs (d : Dev) : EndSame d d.writeLogs := .trans (.putFaults d []) (.foldl _ _ (fun d q _ => .writeLog d q) _)

theorem EndSame.settleInts (d : Dev) : EndSame d d.settleInts := ⟨fun _ _ => rfl, rfl⟩

theorem EndSame.settleCourse (d : Dev) {c : Nat} (h : c < 6) : EndSame d (d.settleCourse c) := by
  obtain ⟨h1, h2, h3, h4, h5, h6, h7, h8⟩ := mem_end_course h
  unfold Dev.settleCourse
  dsimp only
  have g := fun u v w x y z k => ((((((EndSame.set d u h1).trans (.set _ v h2)).trans (.set _ w h3)).trans (.setB _ x h4)).trans
    (.setB _ y h5)).trans (.setB _ z h6)).trans (.setB _ k h7)
  exact .ite (.trans (g _ _ _ _ _ _ _) (.set _ _ h8)) (g _ _ _ _ _ _ _)

theorem EndSame.settleSys (d : Dev) : EndSame d d.settleSys :=
  .trans (.setB d _ (y := F.SYS_STAT_CB_ANY) (by decide)) (.setB _ _ (y := F.SYS_STAT_BELOW_MIN) (by decide))

theorem EndSame.settlePorts (d : Dev) : EndSame d d.settlePorts :=
  .trans (.trans (.each _ _ (fun d p hp => .setB d _ (mem_end_limited hp)) d) (.set _ 1 (y := F.PORT_STAT_CONTRACT 0) (by decide)))
    (.setB _ _ (y := F.PATH_STAT_RETURN_PEND) (by decide))

theorem EndSame.settle (d : Dev) : EndSame d d.settle := by
  unfold Dev.settle
  refine .trans (.set d d.ev.fifo.length (y := F.EVF_STAT_COUNT) (by decide)) (.ite (.settleInts _) (.trans ?_ (.settleInts _)))
  refine .trans ?_ (.setB _ _ (y := F.SYSCFG_PWR_DIE_OK) (by decide))
  refine .trans (.trans (.trans (.trans ?_ (.each _ _ (fun d c hc => .settleCourse d hc) _)) (.settleSys _)) (.settlePorts _))
    (.setB _ _ (y := F.PATH_STAT_HOT) (by decide))
  exact .setB _ _ (y := F.SYSCFG_COMPAT) (by decide)

/-- What the end of a command changes. -/
theorem EndSame.finish (d : Dev) : EndSame d (finish d) :=
  .trans (.trans (.trans (.wake d false) (.deliverAll 8 _)) (.writeLogs _)) (.settle _)

/-- A field that shares no bit with one that the end of a command may change. -/
theorem Dev.f_finish (d : Dev) {x : Field} (h : endFields.all (fun y => x.apart y) = true) : (finish d).f x = d.f x :=
  (EndSame.finish d).field x h

end Sys2Proof.Machine
end

