-- ==== Sys2Proof/Laws/Keeps.lean ====
section
/-! SUPPORT. The laws of `keeps`: what each operation lets a claim leave unchanged. -/
namespace Sys2Proof.Machine

@[simp] theorem Dev.rest_set (ps : List Part) (d : Dev) (x : Field) (v : Nat) : (d.set x v).rest ps = d.rest ps := rfl
@[simp] theorem Dev.rest_wr (ps : List Part) (d : Dev) (a : Nat) (w : Word) : (d.wr a w).rest ps = d.rest ps := rfl
@[simp] theorem Dev.rest_raise (ps : List Part) (d : Dev) (b n : Nat) : (d.raise b n).rest ps = d.rest ps := by
  unfold Dev.raise; split <;> rfl
theorem Dev.rest_putFaults {ps : List Part} (d : Dev) (x : List LogReq) (h : ps.contains .faults = true) : (d.putFaults x).rest ps = d.rest ps := by
  simp only [Dev.rest, h, Dev.putFaults]; rfl
theorem Dev.rest_putFreeCount {ps : List Part} (d : Dev) (x : Nat) (h : ps.contains .free = true) : (d.putFreeCount x).rest ps = d.rest ps := by
  simp only [Dev.rest, h, Dev.putFreeCount]; rfl
theorem Dev.rest_putPw {ps : List Part} (d : Dev) (x : PowerState) (h : ps.contains .pw = true) : (d.putPw x).rest ps = d.rest ps := by
  simp only [Dev.rest, h, Dev.putPw]; rfl
theorem Dev.rest_putBalls {ps : List Part} (d : Dev) (x : Balls) (h : ps.contains .balls = true) : (d.putBalls x).rest ps = d.rest ps := by
  simp only [Dev.rest, h, Dev.putBalls]; rfl
theorem Dev.rest_putSlots {ps : List Part} (d : Dev) (x : Vector Slot 2) (h : ps.contains .slots = true) : (d.putSlots x).rest ps = d.rest ps := by
  simp only [Dev.rest, h, Dev.putSlots]; rfl
theorem Dev.rest_putBoot {ps : List Part} (d : Dev) (x : BootRecord) (h : ps.contains .boot = true) : (d.putBoot x).rest ps = d.rest ps := by
  simp only [Dev.rest, h, Dev.putBoot]; rfl
theorem Dev.rest_putLive {ps : List Part} (d : Dev) (x : LiveRecord) (h : ps.contains .live = true) : (d.putLive x).rest ps = d.rest ps := by
  simp only [Dev.rest, h, Dev.putLive]; rfl
theorem Dev.rest_putKeys {ps : List Part} (d : Dev) (x : Vector KeySlot 4) (h : ps.contains .keys = true) : (d.putKeys x).rest ps = d.rest ps := by
  simp only [Dev.rest, h, Dev.putKeys]; rfl
theorem Dev.rest_putHost {ps : List Part} (d : Dev) (x : HostPort) (h : ps.contains .host = true) : (d.putHost x).rest ps = d.rest ps := by
  simp only [Dev.rest, h, Dev.putHost]; rfl
theorem Dev.rest_putEv {ps : List Part} (d : Dev) (x : EventState) (h : ps.contains .ev = true) : (d.putEv x).rest ps = d.rest ps := by
  simp only [Dev.rest, h, Dev.putEv]; rfl
theorem Dev.rest_putImg {ps : List Part} (d : Dev) (x : ImgState) (h : ps.contains .img = true) : (d.putImg x).rest ps = d.rest ps := by
  simp only [Dev.rest, h, Dev.putImg]; rfl
theorem Dev.rest_putTile {ps : List Part} (d : Dev) (x : Vector Tile 16) (h : ps.contains .tile = true) : (d.putTile x).rest ps = d.rest ps := by
  simp only [Dev.rest, h, Dev.putTile]; rfl
theorem Dev.rest_putFmap {ps : List Part} (d : Dev) (x : Vector FailEntry 16) (h : ps.contains .fmap = true) : (d.putFmap x).rest ps = d.rest ps := by
  simp only [Dev.rest, h, Dev.putFmap]; rfl
theorem Dev.rest_putCourse {ps : List Part} (d : Dev) (x : Vector Course 6) (h : ps.contains .course = true) : (d.putCourse x).rest ps = d.rest ps := by
  simp only [Dev.rest, h, Dev.putCourse]; rfl
theorem Dev.rest_putSys {ps : List Part} (d : Dev) (x : SysLoop) (h : ps.contains .sys = true) : (d.putSys x).rest ps = d.rest ps := by
  simp only [Dev.rest, h, Dev.putSys]; rfl
theorem Dev.rest_putPort {ps : List Part} (d : Dev) (x : Vector Port 5) (h : ps.contains .port = true) : (d.putPort x).rest ps = d.rest ps := by
  simp only [Dev.rest, h, Dev.putPort]; rfl
theorem Dev.rest_putPath {ps : List Part} (d : Dev) (x : Path) (h : ps.contains .path = true) : (d.putPath x).rest ps = d.rest ps := by
  simp only [Dev.rest, h, Dev.putPath]; rfl
theorem Dev.rest_putChg {ps : List Part} (d : Dev) (x : Charger) (h : ps.contains .chg = true) : (d.putChg x).rest ps = d.rest ps := by
  simp only [Dev.rest, h, Dev.putChg]; rfl
theorem Dev.rest_putRet {ps : List Part} (d : Dev) (x : Retained) (h : ps.contains .ret = true) : (d.putRet x).rest ps = d.rest ps := by
  simp only [Dev.rest, h, Dev.putRet]; rfl
theorem Dev.rest_putLog {ps : List Part} (d : Dev) (x : FaultLog) (h : ps.contains .log = true) : (d.putLog x).rest ps = d.rest ps := by
  simp only [Dev.rest, h, Dev.putLog]; rfl
theorem Dev.rest_putLamp {ps : List Part} (d : Dev) (x : Vector Lamp 2) (h : ps.contains .lamp = true) : (d.putLamp x).rest ps = d.rest ps := by
  simp only [Dev.rest, h, Dev.putLamp]; rfl
theorem Dev.rest_putRing {ps : List Part} (d : Dev) (x : Ring) (h : ps.contains .ring = true) : (d.putRing x).rest ps = d.rest ps := by
  simp only [Dev.rest, h, Dev.putRing]; rfl
theorem Dev.rest_putServ {ps : List Part} (d : Dev) (x : Serv) (h : ps.contains .serv = true) : (d.putServ x).rest ps = d.rest ps := by
  simp only [Dev.rest, h, Dev.putServ]; rfl
theorem Dev.rest_putPtb {ps : List Part} (d : Dev) (x : Ptb) (h : ps.contains .ptb = true) : (d.putPtb x).rest ps = d.rest ps := by
  simp only [Dev.rest, h, Dev.putPtb]; rfl
theorem Dev.rest_putSlotPos {ps : List Part} (d : Dev) (x : Vector Nat 32) (h : ps.contains .slotPos = true) : (d.putSlotPos x).rest ps = d.rest ps := by
  simp only [Dev.rest, h, Dev.putSlotPos]; rfl
theorem Dev.rest_putGtSet {ps : List Part} (d : Dev) (x : List Nat) (h : ps.contains .gtSet = true) : (d.putGtSet x).rest ps = d.rest ps := by
  simp only [Dev.rest, h, Dev.putGtSet]; rfl
theorem Dev.rest_putLens {ps : List Part} (d : Dev) (x : Vector Lens 24) (h : ps.contains .lens = true) : (d.putLens x).rest ps = d.rest ps := by
  simp only [Dev.rest, h, Dev.putLens]; rfl
theorem Dev.rest_putSensor {ps : List Part} (d : Dev) (x : Vector Sensor 12) (h : ps.contains .sensor = true) : (d.putSensor x).rest ps = d.rest ps := by
  simp only [Dev.rest, h, Dev.putSensor]; rfl
theorem Dev.rest_putWdt {ps : List Part} (d : Dev) (x : Wdt) (h : ps.contains .wdt = true) : (d.putWdt x).rest ps = d.rest ps := by
  simp only [Dev.rest, h, Dev.putWdt]; rfl
theorem Dev.rest_putPrism {ps : List Part} (d : Dev) (x : Prism) (h : ps.contains .prism = true) : (d.putPrism x).rest ps = d.rest ps := by
  simp only [Dev.rest, h, Dev.putPrism]; rfl
theorem Dev.rest_putCap {ps : List Part} (d : Dev) (x : Capture) (h : ps.contains .cap = true) : (d.putCap x).rest ps = d.rest ps := by
  simp only [Dev.rest, h, Dev.putCap]; rfl
theorem Dev.rest_putNand {ps : List Part} (d : Dev) (x : Nand) (h : ps.contains .nand = true) : (d.putNand x).rest ps = d.rest ps := by
  simp only [Dev.rest, h, Dev.putNand]; rfl
theorem Dev.rest_putRecov {ps : List Part} (d : Dev) (x : Recovery) (h : ps.contains .recov = true) : (d.putRecov x).rest ps = d.rest ps := by
  simp only [Dev.rest, h, Dev.putRecov]; rfl
theorem Dev.rest_putNv {ps : List Part} (d : Dev) (x : List (Nat × Byte)) (h : ps.contains .nv = true) : (d.putNv x).rest ps = d.rest ps := by
  simp only [Dev.rest, h, Dev.putNv]; rfl
theorem Dev.rest_putTap {ps : List Part} (d : Dev) (x : Tap) (h : ps.contains .tap = true) : (d.putTap x).rest ps = d.rest ps := by
  simp only [Dev.rest, h, Dev.putTap]; rfl
theorem Dev.rest_putSram {ps : List Part} (d : Dev) (x : List (Nat × Byte)) (h : ps.contains .sram = true) : (d.putSram x).rest ps = d.rest ps := by
  simp only [Dev.rest, h, Dev.putSram]; rfl
theorem Dev.rest_putReadData {ps : List Part} (d : Dev) (x : Word) (h : ps.contains .readData = true) : (d.putReadData x).rest ps = d.rest ps := by
  simp only [Dev.rest, h, Dev.putReadData]; rfl
theorem Dev.rest_logFault {ps : List Part} (d : Dev) (b n : Nat) (w : List Word) (h : ps.contains .faults = true) :
    (d.logFault b n w).rest ps = d.rest ps := by
  unfold Dev.logFault; split
  · exact d.rest_putFaults _ h
  · rfl

variable {fs : List Field} {ps : List Part} {d e : Dev}

theorem keeps.refl : keeps fs ps d d := ⟨fun _ _ => rfl, rfl⟩

theorem keeps.trans {c : Dev} (h : keeps fs ps d e) (g : keeps fs ps e c) : keeps fs ps d c :=
  ⟨fun y hy => (g.1 y hy).trans (h.1 y hy), g.2.trans h.2⟩

theorem keeps.ite {c : Prop} [Decidable c] {a b : Dev} (ha : keeps fs ps d a) (hb : keeps fs ps d b) : keeps fs ps d (if c then a else b) := by
  split
  · exact ha
  · exact hb

theorem keeps.set {x : Field} (v : Nat) (hx : x ∈ fs) (h : keeps fs ps d e) : keeps fs ps d (e.set x v) :=
  ⟨fun y hy => (Dev.f_set_apart e v (List.all_eq_true.1 hy x hx)).trans (h.1 y hy), h.2⟩
theorem keeps.setB {x : Field} (v : Bool) (hx : x ∈ fs) (h : keeps fs ps d e) : keeps fs ps d (e.setB x v) := h.set _ hx
theorem keeps.setI {x : Field} (v : Int) (hx : x ∈ fs) (h : keeps fs ps d e) : keeps fs ps d (e.setI x v) := h.set _ hx
theorem keeps.inc {x : Field} (hx : x ∈ fs) (h : keeps fs ps d e) : keeps fs ps d (e.inc x) := h.set _ hx
theorem keeps.incSat {x : Field} (hx : x ∈ fs) (h : keeps fs ps d e) : keeps fs ps d (e.incSat x) := h.set _ hx
theorem keeps.addSat {x : Field} (v : Nat) (hx : x ∈ fs) (h : keeps fs ps d e) : keeps fs ps d (e.addSat x v) := h.set _ hx
theorem keeps.setBit {x : Field} (i : Nat) (v : Bool) (hx : x ∈ fs) (h : keeps fs ps d e) : keeps fs ps d (e.setBit x i v) := h.set _ hx
theorem keeps.raise (b n : Nat) (h : keeps fs ps d e) : keeps fs ps d (e.raise b n) :=
  ⟨fun y hy => (Dev.f_raise e b n y).trans (h.1 y hy), (Dev.rest_raise ps e b n).trans h.2⟩
theorem keeps.logFault (b n : Nat) (w : List Word) (hp : ps.contains .faults = true) (h : keeps fs ps d e) : keeps fs ps d (e.logFault b n w) :=
  ⟨fun y hy => (Dev.f_logFault e b n w y).trans (h.1 y hy), (e.rest_logFault b n w hp).trans h.2⟩
theorem keeps.fault (b n : Nat) (l : List Nat) (hp : ps.contains .faults = true) (h : keeps fs ps d e) : keeps fs ps d (e.fault b n l) :=
  (h.raise b n).logFault b n _ hp
theorem keeps.putFaults (x : List LogReq) (hp : ps.contains .faults = true) (h : keeps fs ps d e) : keeps fs ps d (e.putFaults x) :=
  ⟨h.1, (e.rest_putFaults x hp).trans h.2⟩
theorem keeps.putFreeCount (x : Nat) (hp : ps.contains .free = true) (h : keeps fs ps d e) : keeps fs ps d (e.putFreeCount x) :=
  ⟨h.1, (e.rest_putFreeCount x hp).trans h.2⟩
theorem keeps.putPw (x : PowerState) (hp : ps.contains .pw = true) (h : keeps fs ps d e) : keeps fs ps d (e.putPw x) :=
  ⟨h.1, (e.rest_putPw x hp).trans h.2⟩
theorem keeps.putBalls (x : Balls) (hp : ps.contains .balls = true) (h : keeps fs ps d e) : keeps fs ps d (e.putBalls x) :=
  ⟨h.1, (e.rest_putBalls x hp).trans h.2⟩
theorem keeps.putSlots (x : Vector Slot 2) (hp : ps.contains .slots = true) (h : keeps fs ps d e) : keeps fs ps d (e.putSlots x) :=
  ⟨h.1, (e.rest_putSlots x hp).trans h.2⟩
theorem keeps.putBoot (x : BootRecord) (hp : ps.contains .boot = true) (h : keeps fs ps d e) : keeps fs ps d (e.putBoot x) :=
  ⟨h.1, (e.rest_putBoot x hp).trans h.2⟩
theorem keeps.putLive (x : LiveRecord) (hp : ps.contains .live = true) (h : keeps fs ps d e) : keeps fs ps d (e.putLive x) :=
  ⟨h.1, (e.rest_putLive x hp).trans h.2⟩
theorem keeps.putKeys (x : Vector KeySlot 4) (hp : ps.contains .keys = true) (h : keeps fs ps d e) : keeps fs ps d (e.putKeys x) :=
  ⟨h.1, (e.rest_putKeys x hp).trans h.2⟩
theorem keeps.putHost (x : HostPort) (hp : ps.contains .host = true) (h : keeps fs ps d e) : keeps fs ps d (e.putHost x) :=
  ⟨h.1, (e.rest_putHost x hp).trans h.2⟩
theorem keeps.putEv (x : EventState) (hp : ps.contains .ev = true) (h : keeps fs ps d e) : keeps fs ps d (e.putEv x) :=
  ⟨h.1, (e.rest_putEv x hp).trans h.2⟩
theorem keeps.putImg (x : ImgState) (hp : ps.contains .img = true) (h : keeps fs ps d e) : keeps fs ps d (e.putImg x) :=
  ⟨h.1, (e.rest_putImg x hp).trans h.2⟩
theorem keeps.putTile (x : Vector Tile 16) (hp : ps.contains .tile = true) (h : keeps fs ps d e) : keeps fs ps d (e.putTile x) :=
  ⟨h.1, (e.rest_putTile x hp).trans h.2⟩
theorem keeps.putFmap (x : Vector FailEntry 16) (hp : ps.contains .fmap = true) (h : keeps fs ps d e) : keeps fs ps d (e.putFmap x) :=
  ⟨h.1, (e.rest_putFmap x hp).trans h.2⟩
theorem keeps.putCourse (x : Vector Course 6) (hp : ps.contains .course = true) (h : keeps fs ps d e) : keeps fs ps d (e.putCourse x) :=
  ⟨h.1, (e.rest_putCourse x hp).trans h.2⟩
theorem keeps.putSys (x : SysLoop) (hp : ps.contains .sys = true) (h : keeps fs ps d e) : keeps fs ps d (e.putSys x) :=
  ⟨h.1, (e.rest_putSys x hp).trans h.2⟩
theorem keeps.putPort (x : Vector Port 5) (hp : ps.contains .port = true) (h : keeps fs ps d e) : keeps fs ps d (e.putPort x) :=
  ⟨h.1, (e.rest_putPort x hp).trans h.2⟩
theorem keeps.putPath (x : Path) (hp : ps.contains .path = true) (h : keeps fs ps d e) : keeps fs ps d (e.putPath x) :=
  ⟨h.1, (e.rest_putPath x hp).trans h.2⟩
theorem keeps.putChg (x : Charger) (hp : ps.contains .chg = true) (h : keeps fs ps d e) : keeps fs ps d (e.putChg x) :=
  ⟨h.1, (e.rest_putChg x hp).trans h.2⟩
theorem keeps.putRet (x : Retained) (hp : ps.contains .ret = true) (h : keeps fs ps d e) : keeps fs ps d (e.putRet x) :=
  ⟨h.1, (e.rest_putRet x hp).trans h.2⟩
theorem keeps.putLog (x : FaultLog) (hp : ps.contains .log = true) (h : keeps fs ps d e) : keeps fs ps d (e.putLog x) :=
  ⟨h.1, (e.rest_putLog x hp).trans h.2⟩
theorem keeps.putLamp (x : Vector Lamp 2) (hp : ps.contains .lamp = true) (h : keeps fs ps d e) : keeps fs ps d (e.putLamp x) :=
  ⟨h.1, (e.rest_putLamp x hp).trans h.2⟩
theorem keeps.putRing (x : Ring) (hp : ps.contains .ring = true) (h : keeps fs ps d e) : keeps fs ps d (e.putRing x) :=
  ⟨h.1, (e.rest_putRing x hp).trans h.2⟩
theorem keeps.putServ (x : Serv) (hp : ps.contains .serv = true) (h : keeps fs ps d e) : keeps fs ps d (e.putServ x) :=
  ⟨h.1, (e.rest_putServ x hp).trans h.2⟩
theorem keeps.putPtb (x : Ptb) (hp : ps.contains .ptb = true) (h : keeps fs ps d e) : keeps fs ps d (e.putPtb x) :=
  ⟨h.1, (e.rest_putPtb x hp).trans h.2⟩
theorem keeps.putSlotPos (x : Vector Nat 32) (hp : ps.contains .slotPos = true) (h : keeps fs ps d e) : keeps fs ps d (e.putSlotPos x) :=
  ⟨h.1, (e.rest_putSlotPos x hp).trans h.2⟩
theorem keeps.putGtSet (x : List Nat) (hp : ps.contains .gtSet = true) (h : keeps fs ps d e) : keeps fs ps d (e.putGtSet x) :=
  ⟨h.1, (e.rest_putGtSet x hp).trans h.2⟩
theorem keeps.putLens (x : Vector Lens 24) (hp : ps.contains .lens = true) (h : keeps fs ps d e) : keeps fs ps d (e.putLens x) :=
  ⟨h.1, (e.rest_putLens x hp).trans h.2⟩
theorem keeps.putSensor (x : Vector Sensor 12) (hp : ps.contains .sensor = true) (h : keeps fs ps d e) : keeps fs ps d (e.putSensor x) :=
  ⟨h.1, (e.rest_putSensor x hp).trans h.2⟩
theorem keeps.putWdt (x : Wdt) (hp : ps.contains .wdt = true) (h : keeps fs ps d e) : keeps fs ps d (e.putWdt x) :=
  ⟨h.1, (e.rest_putWdt x hp).trans h.2⟩
theorem keeps.putPrism (x : Prism) (hp : ps.contains .prism = true) (h : keeps fs ps d e) : keeps fs ps d (e.putPrism x) :=
  ⟨h.1, (e.rest_putPrism x hp).trans h.2⟩
theorem keeps.putCap (x : Capture) (hp : ps.contains .cap = true) (h : keeps fs ps d e) : keeps fs ps d (e.putCap x) :=
  ⟨h.1, (e.rest_putCap x hp).trans h.2⟩
theorem keeps.putNand (x : Nand) (hp : ps.contains .nand = true) (h : keeps fs ps d e) : keeps fs ps d (e.putNand x) :=
  ⟨h.1, (e.rest_putNand x hp).trans h.2⟩
theorem keeps.putRecov (x : Recovery) (hp : ps.contains .recov = true) (h : keeps fs ps d e) : keeps fs ps d (e.putRecov x) :=
  ⟨h.1, (e.rest_putRecov x hp).trans h.2⟩
theorem keeps.putNv (x : List (Nat × Byte)) (hp : ps.contains .nv = true) (h : keeps fs ps d e) : keeps fs ps d (e.putNv x) :=
  ⟨h.1, (e.rest_putNv x hp).trans h.2⟩
theorem keeps.putTap (x : Tap) (hp : ps.contains .tap = true) (h : keeps fs ps d e) : keeps fs ps d (e.putTap x) :=
  ⟨h.1, (e.rest_putTap x hp).trans h.2⟩
theorem keeps.putSram (x : List (Nat × Byte)) (hp : ps.contains .sram = true) (h : keeps fs ps d e) : keeps fs ps d (e.putSram x) :=
  ⟨h.1, (e.rest_putSram x hp).trans h.2⟩
theorem keeps.putReadData (x : Word) (hp : ps.contains .readData = true) (h : keeps fs ps d e) : keeps fs ps d (e.putReadData x) :=
  ⟨h.1, (e.rest_putReadData x hp).trans h.2⟩

/-- A repeated change, each time within the same bounds. -/
theorem keeps.foldl {β : Type} {g : Dev → β → Dev} (l : List β) (hg : ∀ c, ∀ x ∈ l, keeps fs ps d c → keeps fs ps d (g c x))
    (h : keeps fs ps d e) : keeps fs ps d (l.foldl g e) := by
  induction l generalizing e with
  | nil => exact h
  | cons x t ih => exact ih (fun c y hy => hg c y (List.mem_cons_of_mem _ hy)) (hg e x (List.mem_cons_self ..) h)

theorem keeps.each {g : Dev → Nat → Dev} (n : Nat) (hg : ∀ c, ∀ k < n, keeps fs ps d c → keeps fs ps d (g c k))
    (h : keeps fs ps d e) : keeps fs ps d (e.each n g) := h.foldl _ fun c k hk => hg c k (List.mem_range.1 hk)

end Sys2Proof.Machine
end

