-- ==== Sys2Proof/Tests/Slice0.lean ====
section
/-!
SUPPORT. Tests: each check of WellFormed refuses an ill-formed command; the spec's own check values and worked examples; and for every statement a
state and operands that meet the hypotheses of each of its clauses.
-/
set_option maxRecDepth 100000
set_option linter.unusedVariables false
namespace Sys2Proof.Tests
open Sys2Proof Sys2Proof.Machine

/-! ### Small states -/

/-- A running device with its registers at reset. -/
def base : Dev := { pw := { inReset := false, absent := false, engines := true, coreRuns := true, hostReady := true } }
/-- The machine with an empty queue. -/
def st (d : Dev) : State := { dev := d }
/-- A device with fields set. -/
def fsets (d : Dev) (l : List (Field × Nat)) : Dev := l.foldl (fun d x => d.set x.1 x.2) d
/-- The device after a command. -/
def after (i : Instr) (d : Dev) : Dev :=
  match exec i (st d) with
  | .next t => t.dev
  | _ => d

/-! ### WellFormed: each check refuses -/

theorem test_wf_frame_dst : WellFormed (.ringPingRx 0 { dst := 4096 }) = false := by decide
theorem test_wf_frame_src : WellFormed (.ringPingRx 0 { src := 4096 }) = false := by decide
theorem test_wf_frame_prio : WellFormed (.ringPingRx 0 { prio := 4 }) = false := by decide
theorem test_wf_frame_seq : WellFormed (.ringPingRx 0 { seq := 256 }) = false := by decide
theorem test_wf_frame_len : WellFormed (.ringPingRx 0 { data := List.replicate 65 0 }) = false := by decide
theorem test_wf_volts : WellFormed (.crowbarTrip 65536) = false := by decide
theorem test_wf_amps : WellFormed (.energyAccountTick 0 32768) = false := by decide
theorem test_wf_amps_low : WellFormed (.energyAccountTick 0 (-32769)) = false := by decide
theorem test_wf_cycle_volts : WellFormed (.courseCycleBoundary 0 { vSys := 65536 }) = false := by decide
theorem test_wf_cycle_port : WellFormed (.courseCycleBoundary 0 { vPort := 65536 }) = false := by decide
theorem test_wf_cycle_amps : WellFormed (.courseCycleBoundary 0 { iPort := 40000 }) = false := by decide
theorem test_wf_cycle_valley : WellFormed (.courseCycleBoundary 0 { tiles := Vector.replicate 16 { valley := 40000 } }) = false := by decide
theorem test_wf_cycle_boot : WellFormed (.courseCycleBoundary 0 { tiles := Vector.replicate 16 { boot := 65536 } }) = false := by decide
theorem test_wf_cycle_on : WellFormed (.courseCycleBoundary 0 { tiles := Vector.replicate 16 { onAmps := 32768 } }) = false := by decide
theorem test_wf_conv_sys : WellFormed (.meterTick { vSys := 65536 }) = false := by decide
theorem test_wf_conv_v : WellFormed (.meterTick { v := Vector.replicate 2 65536 }) = false := by decide
theorem test_wf_conv_ball : WellFormed (.meterTick { balls := Vector.replicate 20 10000000 }) = false := by decide
theorem test_wf_cycle_ball : WellFormed (.courseCycleBoundary 0 { ain := Vector.replicate 20 10000000 }) = false := by decide
theorem test_wf_conv_i : WellFormed (.meterTick { i := Vector.replicate 5 32768 }) = false := by decide
theorem test_wf_conv_channel : WellFormed (.meterTick { ain := [(20, 0)] }) = false := by decide
theorem test_wf_conv_code : WellFormed (.meterTick { ain := [(0, 32768)] }) = false := by decide
theorem test_wf_reject : WellFormed (.ringRequestRx 0 {} (.reject 256)) = false := by decide
theorem test_wf_wait : WellFormed (.ringRequestRx 0 {} (.wait 65536)) = false := by decide
theorem test_wf_nand_blocks : WellFormed (.nandAttach { blocks := 0 }) = false := by decide
theorem test_wf_nand_ppb : WellFormed (.nandAttach { blocks := 1, ppb := 13 }) = false := by decide
theorem test_wf_nand_bpp : WellFormed (.nandAttach { blocks := 1, bpp := 4 }) = false := by decide
theorem test_wf_nand_mark : WellFormed (.nandAttach { blocks := 1, marked := [1] }) = false := by decide
theorem test_wf_test_ns : WellFormed (.tileTestEnd 0 { rise := 65536 }) = false := by decide
theorem test_wf_test_offset : WellFormed (.tileTestEnd 0 { offset := 32768 }) = false := by decide
theorem test_wf_test_gain : WellFormed (.tileTestEnd 0 { gain := -1000 }) = false := by decide
theorem test_wf_test_trip : WellFormed (.tileTestEnd 0 { trip := 1024 }) = false := by decide
theorem test_wf_unknown_type : WellFormed (.ringUnknownTypeRx 0 {} 8) = false := by decide
theorem test_wf_frame_bad : WellFormed (.ringFrameDrop 0 [0, 0, 0, 0, 0, 0, 0x0E, 0x10] false) = false := by decide
theorem test_wf_offer_points : WellFormed (.policyOffer 0 (.offer [])) = false := by decide
theorem test_wf_offer_volts : WellFormed (.policyOffer 0 (.offer [(65536, 0)])) = false := by decide
theorem test_wf_swap_volts : WellFormed (.policyOffer 0 (.swap { v := 65536, i := 0, force := false })) = false := by decide
theorem test_wf_flow_provider : WellFormed (.policyOffer 0 (.openFlow { provider := 4096, flowId := 1, rate := 1, rateMax := 1, allow := 1, reroute := false })) = false := by decide
theorem test_wf_lens_level : WellFormed (.lensOutputChange 0 2147483648) = false := by decide
theorem test_wf_press_short : WellFormed (.btnShortPress 49) = false := by decide
theorem test_wf_press_long : WellFormed (.btnShortPress 2000) = false := by decide
theorem test_wf_release : WellFormed (.nbtnRelease 50) = false := by decide
theorem test_wf_caps : WellFormed (.pdSourceCapsRx (List.replicate 8 (0, 0))) = false := by decide
theorem test_wf_op : WellFormed (.lcInvalidOp 1 0 0) = false := by decide
theorem test_wf_burst_len : WellFormed (.burstWr 0 0 [] 0 {}) = false := by decide
theorem test_wf_burst_end : WellFormed (.burstRdInc 0xFFFC 1 {} none) = false := by decide
theorem test_wf_window_node : WellFormed (.portWindowChange 0 { node := 65536 }) = false := by decide
theorem test_wf_window_ball : WellFormed (.portWindowChange 0 { ain := Vector.replicate 20 10000000 }) = false := by decide
theorem test_wf_lost_node : WellFormed (.sourceLost 0 { node := 65536 }) = false := by decide
theorem test_wf_trip_node : WellFormed (.guardTrip 0 { node := 65536 } 0 false) = false := by decide
theorem test_wf_bus_host : WellFormed (.registerWrite .host (.store 0 0 false) 0 {}) = false := by decide
theorem test_wf_bus_align : WellFormed (.registerWrite .core (.load 1 1 false) 0 {}) = false := by decide
theorem test_wf_bus_scan : WellFormed (.registerWrite .core (.scan 1) 0 {}) = false := by decide
theorem test_wf_bus_trst : WellFormed (.registerWrite .host .trst 0 {}) = false := by decide
theorem test_wf_bus_others : WellFormed (.registerWrite .core (.read 0) 0 { others := [{ by_ := .host, op := .trst }] }) = false := by decide
theorem test_wf_accepts : WellFormed (.crowbarTrip 65535) = true ∧ WellFormed .wdtTick = true := by decide

/-! ### The spec's check values and worked examples -/

/-- R37, R221, R432: the CRCs of the nine bytes "123456789". -/
theorem test_crc32 : crc32 ((List.range 9).map fun i => BitVec.ofNat 8 (0x31 + i)) = 0xCBF43926#32 := by decide
theorem test_crc16 : crc16 ((List.range 9).map fun i => BitVec.ofNat 8 (0x31 + i)) = 0x29B1#16 := by decide
theorem test_crc8 : crc8 ((List.range 9).map fun i => BitVec.ofNat 8 (0x31 + i)) = 0x20#8 := by decide

/-- The example after R353: the token, the token after a second check-in, and the next challenge. -/
theorem test_token : token 0x6C2B#16 0xFD18#16 = 0xE4A0#16 ∧ token 0x6C2B#16 0xF38E#16 = 0xE30E#16 := by decide
theorem test_challenge : lfsrStep 0x6C2B = 0x8215 := by decide
def wdtExample : Dev :=
  (fsets base [(F.WDT_STAT_ARMED, 1), (F.WDT_PERIOD_T_TICKS, 16384), (F.WDT_OPEN_T_TICKS, 6144), (F.WDT_COUNT_C, 6881), (F.WDT_STAT_WINDOW, 1),
    (F.WDT_CHAL_CHALLENGE, 0x6C2B)]).putWdt { acc := 0xFD18 }
theorem test_service_accepted : (after .wdtTick (after (.wdtService 0x6C2B 0xE4A0 .host) wdtExample)).f F.WDT_CHAL_CHALLENGE = 0x8215 ∧
    (after .wdtTick (after (.wdtService 0x6C2B 0xE4A0 .host) wdtExample)).f F.WDT_STAT_WINDOW = 0 := by decide
theorem test_service_wrong_token :
    (after .wdtTick (after (.wdtService 0x6C2B 0xE4A0 .host) (wdtExample.putWdt { acc := 0xF38E }))).f F.WDT_LAST_CAUSE = 3 := by decide

/-- The example after R307: HI 135, HYST 03h: not at 0.650 V, high from 0.675 V, high still at 0.645 V, low below 0.635 V. -/
theorem test_lens_band : comparator false 135 (hystMicro 3) 650000 = false ∧ comparator false 135 (hystMicro 3) 675000 = true ∧
    comparator true 135 (hystMicro 3) 645000 = true ∧ comparator true 135 (hystMicro 3) 634999 = false := by decide

/-- The example after R289: a count of 700 with PERIOD 499 written: the next tick is 701 in shadowed mode, 0 with an overflow in immediate mode. -/
def gt6 (shadow : Nat) : Dev :=
  fsets base [(F.GT_CFG_SHADOW 6, shadow), (F.GT_PERIOD_PERIOD 6, 999), (F.GT_PERIOD_ACTIVE 6, 999), (F.GT_CNT_COUNT 6, 700), (F.GT_CTL_RUNNING 6, 1)]
theorem test_gt6_shadowed : (after (.timerTick 6) (after (.timerPeriodCmpWrite 6 false 499) (gt6 1))).f (F.GT_CNT_COUNT 6) = 701 := by decide
theorem test_gt6_immediate : (after (.timerTick 6) (after (.timerPeriodCmpWrite 6 false 499) (gt6 0))).f (F.GT_CNT_COUNT 6) = 0 := by decide

/-- R220, R221: a PING of PRIO 2 and SEQ 05h from unit 0A3h to unit 0A4h, laid out by hand from the table, its CRC worked out by hand. -/
theorem test_frame_bytes : Frame.bytes { dst := 0x0A4, src := 0x0A3, typ := 1, prio := 2, seq := 5 } =
    [0x2D, 0xD4, 0x0A, 0x40, 0xA3, 0x06, 0x05, 0x00, 0xA5, 0x85] := by decide
theorem test_frame_good : frameGood [0x0A, 0x40, 0xA3, 0x06, 0x05, 0x00, 0xA5, 0x85] = true ∧
    frameGood [0x0A, 0x40, 0xA3, 0x06, 0x05, 0x01, 0xA5, 0x85] = false := by decide

/-- The example of R231: at a first collision unit 0A3h backs off 16 µs and unit 0A4h 20 µs; at the second, nibble 1 gives both 44 µs. -/
theorem test_backoff : (fsets base [(F.RING_ADDR_ADDR, 0x0A3)]).backoffUs 0 = 16 ∧ (fsets base [(F.RING_ADDR_ADDR, 0x0A4)]).backoffUs 0 = 20 ∧
    (fsets base [(F.RING_ADDR_ADDR, 0x0A3)]).backoffUs 1 = 44 := by decide

/-- The example before R384: 150 000 bytes of frames are 38 bricks. -/
theorem test_bricks : brickCount 150000 = 38 := by decide

/-- The example after R441, steps 1 and 2: the write of REC_SEL finds nothing to answer, code 0Ah, and is answered 00h. -/
theorem test_first_frame : (after (.hostWrite 0x3060 0x9D19 {}) base).f F.HOST_STAT_LAST_CODE = 0x0A ∧
    (after (.hostWrite 0x3060 0x9D19 {}) base).f F.REC_SEL_SEQ = 40217 := by decide
theorem test_second_frame :
    (after (.hostWrite 0x3064 0x1000 {}) (after (.hostWrite 0x3060 0x9D19 {}) base)).f F.HOST_STAT_LAST_CODE = 0 ∧
    (after (.hostWrite 0x3064 0x1000 {}) (after (.hostWrite 0x3060 0x9D19 {}) base)).nand.fetch = some (40217, 0) := by decide

/-- R439: between a reset and the load no frame is taken. -/
theorem test_no_frame_before_load : (after (.hostRead 0 {}) State.reset.dev).host.pending = none ∧ (after (.hostRead 0 {}) State.reset.dev).f F.HOST_STAT_LAST_CODE = 0 := by decide

/-- R204, R207: after a reset with nothing placed, the load finds no image. -/
theorem test_load_without_image : (after (.imageLoad {}) State.reset.dev).f F.IMGSTAT_STATE = 2 := by decide

/-! ### States that meet the hypotheses of the statements about the whole machine -/

theorem meets_StepRunsFrontCommand : ∃ (c : Instr) (rest : List Instr) (s : State), s.pending = c :: rest :=
  ⟨.wdtTick, [.nrst], { pending := [.wdtTick, .nrst] }, rfl⟩
theorem meets_IdleSteps_on : ∃ s : State, s.pending = [] ∧ s.dev.host.burst = [] ∧ s.dev.pw.mode = .on := ⟨st base, by decide⟩
theorem meets_IdleSteps_keepAlive : ∃ s : State, s.pending = [] ∧ s.dev.host.burst = [] ∧ s.dev.pw.mode = .keepAlive ∧ s.dev.pw.vkaLow = false :=
  ⟨st { pw := { mode := .keepAlive } }, by decide⟩
theorem meets_HostRefusals_frames : ∃ (x : SpiFrame) (n : Fin 11) (s : State), s.dev.alive = true ∧ s.dev.pw.hostReady = true ∧ frameCrcOk x.bits = true ∧
    frameOpOk x.bits = true ∧ frameBlen x.bits = n.val ∧ frameOp x.bits = 1 := ⟨{ bits := 1152921695330238588 }, 0, st base, by decide⟩
theorem meets_IdleSteps_ship : ∃ s : State, s.pending = [] ∧ s.dev.host.burst = [] ∧ s.dev.pw.mode = .ship := ⟨st { pw := { mode := .ship } }, by decide⟩
theorem meets_CommandFrame : ∃ (i : Instr) (s : State) (fs : List Field) (ps : List Part) (evs : List Nat) (P : Dev → Prop), effect i s fs ps evs P :=
  ⟨.captureFrame, st base, [], [], [], fun _ => True, base, rfl, ⟨fun _ _ => rfl, rfl⟩, rfl, trivial⟩
theorem meets_OutputsFollow : ∃ (s t : State), step s = .next t ∧ t.dev.alive = true := ⟨st base, _, rfl, by decide⟩

/-! ### Witnesses: chunk pos -/

namespace W01
def n5 : Fin 12 := 5
def dT := fsets base [(F.GT_CTL_RUNNING 5,1),(F.GT_PERIOD_PERIOD 5,900),(F.GT_PERIOD_ACTIVE 5,1000),(F.GT_CNT_COUNT 5,77),(F.GT_CMP_CMP 5,33),(F.GT_CMP_ACTIVE 5,90),(F.GT_CFG_SHADOW 5,1),(F.GT_CTL_PEND 5,1)]
def dP := (fsets base [(F.PTB_STAT_RUN,1),(F.PTB_MAP_SOURCE,1),(F.PTB_MAP_QZ_CLR,1),(F.PTB_STAT_DIR,0),(F.PTB_SETV_VALUE,0xABCD1234),(F.PTB_CFG_STALL,1)]).putPtb { count := 41, since := 2000000, stepped := true, interp := true, pos := 41*65536+77 }
def dPm := fsets dP [(F.PTB_MAP_SOURCE,2),(F.PTB_CFG_BLANK,4)]
def dS := (fsets base [(F.PTB_STAT_RUN,1),(F.PTB_MAP_SOURCE,1),(F.PTB_CFG_INTERP,1),(F.PTB_IVL_IVL,1000),(F.SLOT_MAP_EN 7,1),(F.SLOT_MAP_ARM_F 7,1),(F.SLOT_POSI_INT 7,41)]).putPtb { count := 41, since := 100, stepped := true, interp := true, pos := 41*65536 }
def dS2 := dS.putSlotPos (vset dS.slotPos 7 (41*65536+20000))

theorem meets_TimerCommands_1 : ∃ (n : Fin 12) (v : BitVec 16) (s : State),
    s.dev.alive = true ∧ s.dev.f (F.GT_CFG_SHADOW n) = 1 :=
  ⟨5, 0x1234#16, (st dT), by decide⟩
theorem meets_TimerCommands_2 : ∃ (n : Fin 12) (v : BitVec 16) (s : State),
    s.dev.alive = true ∧ s.dev.f (F.GT_CFG_SHADOW n) = 0 :=
  ⟨5, 0x1234#16, (st (fsets dT [(F.GT_CFG_SHADOW 5,0)])), by decide⟩
theorem meets_TimerTicks_1 : ∃ (n : Fin 12) (s : State),
    s.dev.running = true ∧ s.dev.timerCounts n = true ∧ s.dev.f (F.GT_MAP_CLOCK n) = 0 ∧ s.dev.gtSet = [] ∧
      s.dev.f (F.GT_CNT_COUNT n) < s.dev.f (F.GT_CMP_ACTIVE n) ∧ s.dev.f (F.GT_CMP_ACTIVE n) ≤ s.dev.f (F.GT_PERIOD_ACTIVE n) ∧
      s.dev.f (F.GT_CNT_COUNT n) < s.dev.f (F.GT_PERIOD_ACTIVE n) ∧ s.dev.f (F.GT_CNT_COUNT n) + 1 ≠ s.dev.f (F.GT_CMP_ACTIVE n) ∧
      s.dev.f (F.GT_CFG_ACT_ON n) = 0 ∧ 4 ≤ n.val ∧ s.dev.f (F.GT_CFG_CAPSRC n) ≠ 0x1F :=
  ⟨5, (st (fsets dT [(F.GT_CFG_CAPSRC 5,3),(F.GT_CTL_CAPT 5,1)])), by decide⟩
theorem meets_TimerTicks_2 : ∃ (n : Fin 12) (s : State),
    s.dev.running = true ∧ s.dev.timerCounts n = true ∧ s.dev.f (F.GT_MAP_CLOCK n) = 0 ∧ s.dev.gtSet = [] ∧ s.dev.f (F.GT_CFG_ACT_ON n) = 1 ∧
      s.dev.f (F.GT_CFG_ONESHOT n) = 0 ∧ s.dev.f (F.GT_CMP_CMP n) ≠ 0 ∧ 4 ≤ n.val ∧ ((n.val = 11 ∨ s.dev.f (F.GT_MAP_CLOCK (n.val + 1)) ≠ 2)) :=
  ⟨5, (st (fsets dT [(F.GT_CFG_ACT_ON 5,1)])), by decide⟩
theorem meets_PositionStep_1 : ∃ (q : QuadSample) (rev : Bool) (ivl : Nat) (s : State),
    s.dev.ptbOn = true ∧ s.dev.ptb.count < 2 ^ 32 ∧ s.dev.f F.PTB_MAP_SOURCE = 1 ∧ s.dev.f F.PTB_CFG_FILT < q.held ∧
      (q.qa != s.dev.ptb.qa) ≠ (q.qb != s.dev.ptb.qb) ∧
      (if q.qa != s.dev.ptb.qa then q.qa != q.qb else q.qa == q.qb) ≠ (rev != s.dev.on F.PTB_MAP_REV) ∧ s.dev.bare ∧ ivl ≤ s.dev.ptb.since + 1 ∧
      ivl < 2 ^ 32 ∧ (if rev then s.dev.ptb.count ≠ 0 else s.dev.ptb.count + 1 < 2 ^ 32) :=
  ⟨{qa:=true,qb:=false,held:=5}, false, 900000, (st dP), by decide⟩
theorem meets_PositionStep_2 : ∃ (q : QuadSample) (rev : Bool) (ivl : Nat) (s : State),
    s.dev.ptbOn = true ∧ s.dev.ptb.count < 2 ^ 32 ∧
      (s.dev.f F.PTB_MAP_SOURCE = 3 ∨ s.dev.f F.PTB_MAP_SOURCE = 2 ∧ s.dev.f F.PTB_CFG_BLANK * 100000 ≤ ivl) :=
  ⟨{qa:=false,qb:=true,held:=5}, true, 900000, (st dPm), by decide⟩
theorem meets_PositionStep_3 : ∃ (q : QuadSample) (rev : Bool) (ivl : Nat) (s : State),
    s.dev.ptbOn = true ∧ s.dev.ptb.count < 2 ^ 32 ∧ s.dev.f F.PTB_MAP_SOURCE = 2 ∧ s.dev.ptb.counted = true ∧ ivl < s.dev.f F.PTB_CFG_BLANK * 100000 :=
  ⟨{qa:=false,qb:=true,held:=5}, true, 1000, (st (dPm.putPtb { dPm.ptb with counted := true })), by decide⟩
theorem meets_PositionEvents_1 : ∃ (t held : Nat) (s : State),
    s.dev.ptbOn = true ∧ s.dev.f F.PTB_CFG_FILT < held ∧ s.dev.f F.PTB_MAP_SOURCE = 1 ∧ s.dev.f F.PTB_MAP_QZ_CLR = 1 ∧ t ≤ s.dev.ptb.since ∧
      ((∀ k : Fin 32, s.dev.f (F.SLOT_MAP_EN k) = 0)) ∧ s.dev.ptb.pos < 2 ^ 48 ∧ ((∀ k : Fin 12, s.dev.f (F.GT_CFG_CAPSRC k) ≠ 24)) ∧
      s.dev.f F.PRISM_TSEL_SOURCE ≠ 0x58 ∧ s.dev.f F.CAP_CFG_CHANNELS = 0 ∧ s.dev.f F.PTB_STAT_STALLED = 0 ∧ s.dev.ptb.count < 2 ^ 32 ∧
      s.dev.f F.PTB_CFG_STALL * 1000000 ≤ s.dev.ptb.since :=
  ⟨555, 5, (st dP), by decide⟩
theorem meets_PositionEvents_2 : ∃ (t held : Nat) (s : State),
    s.dev.ptbOn = true ∧ s.dev.f F.PTB_CFG_FILT < held ∧
      (∃ n : Fin 12, (s.dev.f F.PTB_MAP_QZ_CLR = 0) ∧ ((∀ k : Fin 12, s.dev.f (F.GT_CFG_CAPSRC k) = 24 ↔ k = n))) :=
  ⟨555, 5, (st (fsets dP [(F.PTB_MAP_QZ_CLR,0),(F.GT_CFG_CAPSRC 3,24),(F.GT_CNT_COUNT 3,777),(F.GT_CTL_CAPT 3,1)])), by decide⟩
theorem meets_Slots_1 : ∃ (k : Fin 32) (t : Nat) (frac : BitVec 16) (s : State),
    s.dev.ptbOn = true ∧ s.dev.f (F.SLOT_MAP_EN k) = 1 ∧ s.dev.f F.PTB_STAT_STALLED = 0 ∧ s.dev.ptb.since < t ∧
      ((s.dev.f F.PTB_CFG_NEED_HOME = 0 ∨ s.dev.f F.PTB_STAT_HOMED = 1)) ∧ s.dev.f (F.SLOT_MAP_ARM_F k) = 1 ∧ s.dev.ptb.pos ≤ vget s.dev.slotPos k ∧
      vget s.dev.slotPos k < s.dev.posAt t ∧ ((∀ j : Fin 32, j ≠ k → s.dev.f (F.SLOT_MAP_EN j) = 0)) ∧ s.dev.f F.PTB_CFG_NEED_HOME = 0 ∧
      s.dev.f (F.SLOT_MAP_ACTION k) = 0 ∧ s.dev.f F.PRISM_TSEL_SOURCE ≠ 0x58 ∧ s.dev.f F.CAP_CFG_CHANNELS = 0 :=
  ⟨7, 500, 0x8000#16, (st dS2), by decide⟩
theorem meets_Slots_2 : ∃ (k : Fin 32) (t : Nat) (frac : BitVec 16) (s : State),
    s.dev.ptbOn = true ∧ s.dev.f (F.SLOT_MAP_EN k) = 1 ∧ t ≤ s.dev.ptb.since :=
  ⟨7, 50, 0x8000#16, (st dS2), by decide⟩
end W01

/-! ### Witnesses: chunk tiles -/

namespace W02
def mt (d : Dev) (t : Nat) (x : Tile) : Dev := d.putTile (vset d.tile t x)
def mc (d : Dev) (t : Nat) (x : Course) : Dev := d.putCourse (vset d.course t x)
def q0 : CycleSample := { vSys := 4790, vPort := 4700, iPort := 120 }
def dA := mt (fsets base [(F.TILE_STAT_STATE 4,3),(F.TILE_MAP_COURSE 4,2),(F.TILE_MAP_ROLE 4,1),(F.TILE_STAT_VDRV_OK 4,1),(F.TILE_STAT_ARMING 9,1),(F.C_MAP_PERIOD 2,800),(F.TILE_CFG_DCM 4,1),(F.TILE_TIMING_LEB 4,0)]) 4 { gates := .active }
def dF0 := fsets base [(F.TILE_MAP_COURSE 4,2),(F.TILE_MAP_COURSE 5,2),(F.TILE_MAP_ROLE 4,1),(F.TILE_MAP_ROLE 5,1),(F.C_TILES_WORK_MASK 2,0x30),(F.C_MAP_ENABLE 2,1),(F.C_MAP_PORT 2,1),(F.TILE_STAT_STATE 5,3)]
def dF := mt (fsets dF0 [(F.TILE_STAT_STATE 4,3)]) 4 { det := vset (Vector.replicate 7 0) 6 8 }
def dH := fsets dF0 [(F.TILE_STAT_STATE 4,3),(F.C_MAP_SHED_EN 2,1),(F.C_RSTAT_DELIVER 2,1),(F.C_MAP_MIN_PHASES 2,1),(F.C_SHED_DWELL 2,4),(F.TILE_IPK_DAC 5,500),(F.TILE_PHASE_OFFSET 5,400)]
def dD := mt (fsets base [(F.TILE_MAP_COURSE 6,3),(F.TILE_MAP_ROLE 6,3),(F.TILE_DUMP_E_MAX 6,1)]) 6 {energy := 4000000000001}
def dC := fsets base [(F.TILE_MAP_COURSE 6,3),(F.TILE_MAP_ROLE 6,3),(F.C_MAP_PORT 3,6),(F.C_MAP_ENABLE 3,1),(F.C_MODE_CB_EN 3,1),(F.TILE_STAT_STATE 6,3)]
def dG := (fsets base [(F.GUARD_STAT_FET_ON 0,1)]).putSys {handback := true}

theorem meets_GateSupplyAndPulses_1 : ∃ (t : Fin 16) (n : Nat) (s : State),
    s.dev.alive = true ∧ s.dev.runs t = true ∧ (vget s.dev.tile t).gates = .active ∧ s.dev.isDump t = false ∧ s.dev.blanking t ≤ n ∧
      s.dev.deadTime t (s.dev.highActive (s.dev.f (F.TILE_MAP_COURSE t)) t) < n :=
  ⟨4, 33, (st dA), by decide⟩
theorem meets_GateSupplyAndPulses_2 : ∃ (t : Fin 16) (n : Nat) (s : State),
    s.dev.alive = true ∧ s.dev.holds t = true :=
  ⟨4, 33, (st (dA.putSys {holdRuns := true, holdMap := [4]})), by decide⟩
theorem meets_GateSupplyAndPulses_3 : ∃ (t : Fin 16) (n : Nat) (s : State),
    s.dev.alive = true ∧ s.dev.runs t = true ∧ s.dev.dcm t = true ∧
      (((vget s.dev.tile t).gates = .sync ∨ ((vget s.dev.tile t).gates = .off ∧ (vget s.dev.tile t).tripped = true ∧ (vget s.dev.tile t).tFall = 0 ∧ s.dev.isDump t = false))) :=
  ⟨4, 33, (st (mt dA 4 { gates := .sync })), by decide⟩
theorem meets_GateSupplyAndPulses_4 : ∃ (t : Fin 16) (n : Nat) (s : State),
    s.dev.alive = true ∧ s.dev.runs t = true ∧ (vget s.dev.tile t).gates = .active ∧ s.dev.isDump t = false ∧ s.dev.blanking t ≤ n ∧
      n ≤ s.dev.deadTime t (s.dev.highActive (s.dev.f (F.TILE_MAP_COURSE t)) t) :=
  ⟨4, 17, (st (fsets dA [(F.TILE_TIMING_DT_RISE 4,9),(F.TILE_TIMING_DT_FALL 4,9)])), by decide⟩
theorem meets_TileFailures_1 : ∃ (t : Fin 16) (c : Fin 6) (s : State),
    s.dev.running = true ∧ s.dev.f (F.TILE_MAP_COURSE t) = c ∧ s.dev.runs t = true ∧ (vget s.dev.tile t).clamp = false ∧
      firedCause (vget s.dev.tile t) ≠ 0 ∧ within 1 4 (s.dev.tst t) = true ∧ (vget s.dev.fmap t).failed = false ∧ c ≠ 1 ∧ s.dev.delivers c = false ∧
      (vget s.dev.course c).shedTile = none ∧ ((∀ u : Fin 16, s.dev.f (F.TILE_TEST_RESULT u) ≠ 1)) ∧ s.dev.tst t = 3 ∧ s.dev.holds t = false ∧
      firedCause (vget s.dev.tile t) = 6 ∧ (s.dev.tileFailed t 6 0).healthy c ≠ 0 ∧ (s.dev.tileFailed t 6 0).freeSpare c = none ∧
      s.dev.f (F.TILE_TEST_RESULT t) ≠ 2 ∧ ((s.dev.tst t = 6 → (vget s.dev.tile t).next = none)) :=
  ⟨4, 2, (st dF), by decide⟩
theorem meets_TileFailures_2 : ∃ (t : Fin 16) (c : Fin 6) (s : State),
    s.dev.running = true ∧ s.dev.f (F.TILE_MAP_COURSE t) = c ∧ s.dev.tst t = 6 ∧ s.dev.f (F.TILE_TEST_RESULT t) = 2 ∧
      (vget s.dev.tile t).passed = true ∧ (vget s.dev.tile t).next = none ∧ s.dev.fbit (F.C_TILES_WORK_MASK c) t = true ∧
      s.dev.f (F.TILE_MAP_ROLE t) = 1 ∧ s.dev.f (F.C_MAP_ENABLE c) = 1 ∧
      ((∀ u : Fin 16, s.dev.f (F.TILE_STAT_STANDIN_V u) = 0 ∧ (vget s.dev.tile u).assigned = none)) :=
  ⟨4, 2, (st (mt (fsets dF0 [(F.TILE_STAT_STATE 4,6),(F.TILE_TEST_RESULT 4,2)]) 4 {passed:=true})), by decide⟩
theorem meets_TileFailures_3 : ∃ (t : Fin 16) (c : Fin 6) (s : State),
    s.dev.running = true ∧ s.dev.f (F.TILE_MAP_COURSE t) = c ∧ c ≠ 1 ∧ (vget s.dev.tile t).clamp = false ∧ (vget s.dev.fmap t).failed = false ∧
      s.dev.delivers c = false ∧ (vget s.dev.course c).shedTile = none ∧ ((∀ u : Fin 16, s.dev.f (F.TILE_TEST_RESULT u) ≠ 1)) ∧ s.dev.tst t = 1 ∧
      (s.dev.tileFailed t 8 0).healthy c ≠ 0 :=
  ⟨4, 2, (st (fsets dF0 [(F.TILE_STAT_STATE 4,1)])), by decide⟩
theorem meets_TileFailures_4 : ∃ (t : Fin 16) (c : Fin 6) (s : State),
    s.dev.running = true ∧ s.dev.f (F.TILE_MAP_COURSE t) = c ∧ (vget s.dev.fmap t).failed = true :=
  ⟨4, 2, (st ((fsets dF0 [(F.TILE_STAT_STATE 4,1)]).setMap 4 {failed := true, cause := 8})), by decide⟩
theorem meets_ArmingEnds_1 : ∃ (t : Fin 16) (c : Fin 6) (s : State),
    s.dev.running = true ∧ s.dev.f (F.TILE_MAP_COURSE t) = c ∧ s.dev.f (F.TILE_STAT_ARMING t) = 1 ∧ (vget s.dev.tile t).armRuns = true ∧
      (∃ k : Fin 16, ((vget s.dev.tile t).assigned = some k.val)) ∧
      (∃ k : Fin 16, ((vget s.dev.tile t).assigned = some k.val) ∧ (s.dev.delivers c = false) ∧ (c ≠ 1)) :=
  ⟨4, 2, (st (mt (fsets dF0 [(F.TILE_STAT_STATE 4,2),(F.TILE_STAT_ARMING 4,1)]) 4 {armRuns:=true, assigned := some 7})), by decide⟩
theorem meets_ArmingEnds_2 : ∃ (t : Fin 16) (c : Fin 6) (s : State),
    s.dev.running = true ∧ s.dev.f (F.TILE_MAP_COURSE t) = c ∧ s.dev.f (F.TILE_STAT_ARMING t) = 1 ∧ (vget s.dev.tile t).armRuns = true ∧
      (vget s.dev.tile t).assigned = none ∧ c ≠ 1 :=
  ⟨4, 2, (st (mt (fsets dF0 [(F.TILE_STAT_STATE 4,2),(F.TILE_STAT_ARMING 4,1)]) 4 {armRuns:=true})), by decide⟩
theorem meets_ArmingEnds_3 : ∃ (t : Fin 16) (c : Fin 6) (s : State),
    s.dev.running = true ∧ s.dev.f (F.TILE_MAP_COURSE t) = c ∧ s.dev.f (F.TILE_STAT_ARMING t) = 1 ∧ (vget s.dev.tile t).armRuns = true ∧
      (∃ k : Fin 16, ((vget s.dev.tile t).assigned = some k.val) ∧ (s.dev.delivers c = true) ∧ (s.dev.f (F.C_PCTL_CB_LATCH c) = 0) ∧ (c ≠ 1)) :=
  ⟨4, 2, (st (mt (fsets dF0 [(F.TILE_STAT_STATE 4,2),(F.TILE_STAT_ARMING 4,1),(F.C_RSTAT_DELIVER 2,1)]) 4 {armRuns:=true, assigned := some 7})), by decide⟩
theorem meets_Shedding_1 : ∃ (t : Fin 16) (c : Fin 6) (s : State),
    s.dev.running = true ∧ s.dev.delivers c = true ∧ t.val ∈ s.dev.shedTiles c ∧ (vget s.dev.course c).addAll = false ∧
      (vget s.dev.course c).shedTile = none ∧ ((∀ u : Fin 16, s.dev.f (F.TILE_TEST_RESULT u) ≠ 1)) :=
  ⟨5, 2, (st (fsets dH [(F.TILE_STAT_STATE 5,4)])), by decide⟩
theorem meets_Shedding_2 : ∃ (t : Fin 16) (c : Fin 6) (s : State),
    s.dev.running = true ∧ s.dev.maySched c = true ∧ 16 * s.dev.f (F.C_SHED_DWELL c) ≤ (vget s.dev.course c).dwell ∧
      (vget s.dev.course c).addAll = false ∧ (vget s.dev.course c).stepSeen = false ∧ (s.dev.ranked c).getLast? = some t.val :=
  ⟨5, 2, (st (mc dH 2 {dwell := 100})), by decide⟩
theorem meets_Shedding_3 : ∃ (t : Fin 16) (c : Fin 6) (s : State),
    s.dev.running = true ∧ (vget s.dev.course c).shedTile = some t.val ∧ s.dev.f (F.C_STAT_SHED_ST c) = 1 ∧ (vget s.dev.course c).rampOver = true :=
  ⟨5, 2, (st (mc (fsets dH [(F.C_STAT_SHED_ST 2,1)]) 2 {shedTile := some 5, rampOver := true})), by decide⟩
theorem meets_Shedding_4 : ∃ (t : Fin 16) (c : Fin 6) (s : State),
    s.dev.running = true ∧ s.dev.delivers c = false ∧ t.val ∈ s.dev.shedTiles c ∧ s.dev.f (F.C_CTL_SHED_HOLD c) = 0 :=
  ⟨5, 2, (st (fsets dH [(F.TILE_STAT_STATE 5,4),(F.C_RSTAT_DELIVER 2,0)])), by decide⟩
theorem meets_Shedding_5 : ∃ (t : Fin 16) (c : Fin 6) (s : State),
    s.dev.running = true ∧ (vget s.dev.course c).addAll = true :=
  ⟨5, 2, (st (mc (fsets dH [(F.TILE_STAT_STATE 5,4),(F.C_STAT_SHED_ST 2,3),(F.FUNC_PEND_SHED,4)]) 2 {addAll := true})), by decide⟩
theorem meets_TileTests_1 : ∃ (t : Fin 16) (c : Fin 6) (r : TestReading) (s : State),
    s.dev.running = true ∧ s.dev.f (F.TILE_MAP_COURSE t) = c ∧ (s.dev.f (F.TILE_TEST_RESULT t) = 1 ∨ s.dev.f (F.TILE_STAT_TEST_PENDING t) = 1) ∧
      s.dev.tst t = 5 ∧ s.dev.f (F.TILE_TEST_RESULT t) = 1 ∧ (s.dev.testSteps t).all (stepPasses r) = true ∧ s.dev.f (F.C_MAP_ENABLE c) = 1 ∧
      s.dev.f (F.TILE_STAT_TEST_PENDING t) = 0 :=
  ⟨4, 2, {}, (st (fsets dF0 [(F.TILE_STAT_STATE 4,5),(F.TILE_TEST_RESULT 4,1),(F.TILE_CTL_TEST_SEL 4,31)])), by decide⟩
theorem meets_TileTests_2 : ∃ (t : Fin 16) (c : Fin 6) (r : TestReading) (s : State),
    s.dev.running = true ∧ s.dev.f (F.TILE_MAP_COURSE t) = c ∧ s.dev.isDump t = true ∧ s.dev.f (F.TILE_DUMPSTAT_LIMITED t) = 0 ∧
      s.dev.f (F.TILE_DUMP_E_MAX t) * 4000000000000 ≤ (vget s.dev.tile t).energy ∧ s.dev.f (F.TILE_TEST_RESULT t) ≠ 1 ∧
      s.dev.f (F.TILE_STAT_TEST_PENDING t) = 0 :=
  ⟨6, 3, {}, (st dD), by decide⟩
theorem meets_TileTests_3 : ∃ (t : Fin 16) (c : Fin 6) (r : TestReading) (s : State),
    s.dev.running = true ∧ s.dev.f (F.TILE_MAP_COURSE t) = c ∧ s.dev.f (F.TILE_STAT_TEST_PENDING t) = 1 ∧ s.dev.testAdmitted t = true ∧
      (s.dev.tst t ≠ 3 ∨ s.dev.delivers c = false) ∧
      ((s.dev.regMode c = 0 ∨ ∃ u : Fin 16, u ≠ t ∧ s.dev.fbit (F.C_TILES_WORK_MASK c) u = true ∧ s.dev.slotTile u = some u.val ∧ s.dev.slotHealthy u = true)) :=
  ⟨4, 2, {}, (st (fsets dF0 [(F.TILE_STAT_STATE 4,2),(F.TILE_STAT_TEST_PENDING 4,1)])), by decide⟩
theorem meets_TileTests_4 : ∃ (t : Fin 16) (c : Fin 6) (r : TestReading) (s : State),
    s.dev.running = true ∧ s.dev.f (F.TILE_MAP_COURSE t) = c ∧ s.dev.isDump t = true ∧ s.dev.f (F.TILE_DUMPSTAT_LIMITED t) = 1 ∧
      2 * (vget s.dev.tile t).energy < s.dev.f (F.TILE_DUMP_E_MAX t) * 4000000000000 :=
  ⟨6, 3, {}, (st (mt (fsets dD [(F.TILE_DUMPSTAT_LIMITED 6,1)]) 6 {energy:=5})), by decide⟩
theorem meets_TileTests_5 : ∃ (t : Fin 16) (c : Fin 6) (r : TestReading) (s : State),
    s.dev.running = true ∧ s.dev.f (F.TILE_MAP_COURSE t) = c ∧ s.dev.f (F.TILE_STAT_TEST_PENDING t) = 1 ∧ s.dev.testAdmitted t = true ∧
      s.dev.tst t = 3 ∧ s.dev.delivers c = true :=
  ⟨5, 2, {}, (st (mc (fsets dH [(F.TILE_STAT_TEST_PENDING 5,1),(F.TILE_STAT_STATE 4,3),(F.C_ILIM_ILIM 2,4000)]) 2 {calm := 16})), by decide⟩
theorem meets_TileTests_6 : ∃ (t : Fin 16) (c : Fin 6) (r : TestReading) (s : State),
    s.dev.running = true ∧ s.dev.f (F.TILE_MAP_COURSE t) = c ∧ s.dev.tst t = 5 ∧ s.dev.f (F.TILE_TEST_RESULT t) = 1 ∧
      (∃ i : Fin 6, ((s.dev.testSteps t).find? (fun k => !stepPasses r k) = some i.val)) :=
  ⟨4, 2, {gain := 500, offset := 3}, (st (mt (fsets dF0 [(F.TILE_STAT_STATE 4,5),(F.TILE_TEST_RESULT 4,1)]) 4 {testSel := 31, testFrom := 2})), by decide⟩
theorem meets_CourseBoundary_1 : ∃ (t : Fin 16) (c : Fin 6) (v : Fin 7) (q : CycleSample) (s : State),
    s.dev.running = true ∧ s.dev.f (F.C_MAP_ENABLE c) = 1 ∧ s.dev.sys.handback = true ∧ s.dev.portCode c = 1 ∧ s.dev.regMode c = 0 ∧
      s.dev.delivers c = false ∧ s.dev.f (F.C_STAT_SHED_ST c) = 0 ∧ (vget s.dev.course c).cbRelease = false ∧
      (vget s.dev.course c).guardPend = false ∧ (vget s.dev.course c).failStagger = false ∧ s.dev.f (F.TILE_MAP_ROLE t) = 1 ∧
      ((∀ u : Fin 16, s.dev.f (F.TILE_MAP_COURSE u) = c ↔ u = t)) ∧ s.dev.tst t ≠ 3 ∧ v.val ≠ 3 ∧ s.dev.holds t = false ∧
      (vget s.dev.tile t).clamp = false ∧ 700 ≤ (vget q.tiles t).boot ∧ (vget s.dev.tile t).next = some v.val ∧ s.dev.f F.PATH_STAT_STATE = 0 ∧
      s.dev.f F.PATH_STAT_LEAD = 0 ∧ s.dev.f F.PRISM_TSEL_SOURCE < 0x50 ∧ s.dev.f F.CAP_CFG_CHANNELS = 0 ∧ q.vSys < 65536 :=
  ⟨4, 2, 2, {q0 with tiles := Vector.replicate 16 {boot := 800}}, (st (mt ((fsets base [(F.TILE_MAP_COURSE 4,2),(F.TILE_MAP_ROLE 4,1),(F.C_MAP_ENABLE 2,1),(F.C_MAP_PORT 2,1),(F.TILE_IPK_DAC 4,77)]).putSys {handback := true}) 4 {next := some 2})), by decide⟩
theorem meets_CrowbarAndTwins_1 : ∃ (c : Fin 6) (p : Fin 5) (v : Nat) (s : State),
    s.dev.alive = true ∧ s.dev.pd F.SYS_CB_CB_V < v ∧ s.dev.pd (F.C_MODE_CB_EN c) = 1 ∧
      ((s.dev.sys.belowSince.any fun u => decide (u + 10000 ≤ s.dev.pw.clock)) = true) ∧ (vget s.dev.course c).cbRelease = false ∧
      s.dev.f (F.C_PCTL_CB_LATCH c) = 1 ∧ s.dev.running = true ∧ s.dev.portCode c = 6 ∧ s.dev.f (F.C_MAP_ENABLE c) = 1 ∧ s.dev.guardProfile = true ∧
      s.dev.regMode c = 0 :=
  ⟨3, 2, (0x1900), (st ((fsets dC [(F.C_PCTL_CB_LATCH 3,1)]).putSys {belowSince := some 0} |>.putPw {dC.pw with clock := 20000})), by decide⟩
theorem meets_CrowbarAndTwins_2 : ∃ (c : Fin 6) (p : Fin 5) (v : Nat) (s : State),
    s.dev.alive = true ∧ s.dev.sys.belowSince = none ∧ (vget s.dev.course c).cbRelease = false ∧ s.dev.regMode c ≠ 0 :=
  ⟨3, 2, (0x1900), (st (fsets dC [(F.C_MODE_MODE 3,5)])), by decide⟩
theorem meets_CrowbarAndTwins_3 : ∃ (c : Fin 6) (p : Fin 5) (v : Nat) (s : State),
    s.dev.alive = true ∧ s.dev.running = true ∧ s.dev.f F.SYS_CB_CB_V < v ∧ v < 65536 ∧ ((∀ k : Fin 6, k ≠ c → s.dev.f (F.C_MODE_CB_EN k) = 0)) ∧
      s.dev.portCode c = 6 ∧ s.dev.regMode c = 0 ∧ s.dev.f (F.C_MODE_CB_EN c) = 1 ∧ s.dev.f (F.C_PCTL_CB_LATCH c) = 0 ∧
      ((∀ k : Fin 6, s.dev.f (F.C_MAP_ENABLE k) = 1 ↔ k = c)) ∧ s.dev.sys.holdRuns = false ∧ ((∀ u : Fin 16, s.dev.f (F.TILE_TEST_RESULT u) ≠ 1)) :=
  ⟨3, 2, (0x1900), (st (fsets dC ([0,1,2,4,5].map fun k => (F.C_MODE_CB_EN k, 0)))), by decide⟩
theorem meets_CrowbarAndTwins_4 : ∃ (c : Fin 6) (p : Fin 5) (v : Nat) (s : State),
    s.dev.alive = true ∧ (vget s.dev.course c).cbRelease = true :=
  ⟨3, 2, (0x1900), (st (mc (fsets dC [(F.C_PCTL_CB_LATCH 3,0)]) 3 {cbRelease := true})), by decide⟩
theorem meets_PortGuards_1 : ∃ (p : Fin 5) (c : Fin 6) (v : NodeSample) (i : Int) (filtered : Bool) (s : State),
    s.dev.running = true ∧ s.dev.f (F.GUARD_STAT_FET_ON p) = 1 ∧ filtered = true ∧ s.dev.pd (F.GUARD_TRIP1_OC_TRIP p) < i.natAbs ∧
      s.dev.pd (F.GUARD_TRIP1_OV_TRIP p) < s.dev.nodeVolts (p + 1) v.node v.ain ∧ (vget s.dev.port p).ocHeld = true ∧
      s.dev.f (F.GUARD_STAT_LATCHED p) = 0 ∧
      ((if p = 1 then (vget s.dev.port 1).debounced = true else s.dev.qualified (p + 1) = true ∨ s.dev.sourceContract (p + 1) = true)) ∧
      s.dev.sys.handback = true ∧ (vget s.dev.port 0).ocHeld = true ∧ s.dev.f (F.GUARD_STAT_LATCHED 0) = 0 ∧ s.dev.f (F.PORT_STAT_QSTATE 0) = 2 :=
  ⟨0, 3, {node:=0x100}, 4000, true, (st (fsets (dG.putPort (vset dG.port 0 {role := 1, ocHeld := true, retryTimes := [3,1]})) [(F.PORT_STAT_QSTATE 0,2)])), by decide⟩
theorem meets_PortGuards_2 : ∃ (p : Fin 5) (c : Fin 6) (v : NodeSample) (i : Int) (filtered : Bool) (s : State),
    s.dev.running = true ∧ s.dev.f (F.GUARD_STAT_LATCHED p) = 1 ∧ s.dev.sys.handback = true ∧ filtered = true ∧
      s.dev.pd (F.GUARD_TRIP1_OC_TRIP 0) < i.natAbs ∧ s.dev.reverse 1 i = false ∧ v.node ≤ s.dev.pd (F.GUARD_TRIP1_OV_TRIP 0) ∧
      ((∀ k : Fin 6, s.dev.portCode k ≠ 1)) ∧ s.dev.f (F.GUARD_STAT_FET_ON 0) = 1 ∧ s.dev.f (F.PORT_STAT_QSTATE 0) = 0 ∧
      s.dev.f F.PATH_STAT_STATE = 0 ∧ s.dev.f (F.GUARD_STAT_LATCHED 0) = 1 :=
  ⟨0, 3, {node:=0x100}, 4000, true, (st (fsets (dG.putPort (vset dG.port 0 {role := 1})) [(F.GUARD_TRIP2_RC_TRIP 0,10),(F.GUARD_TRIP1_OV_TRIP 0,0x1000),(F.GUARD_TRIP1_OC_TRIP 0,100),(F.GUARD_STAT_LATCHED 0,1)])), by decide⟩
theorem meets_PortGuards_3 : ∃ (p : Fin 5) (c : Fin 6) (v : NodeSample) (i : Int) (filtered : Bool) (s : State),
    s.dev.running = true ∧ s.dev.courseOf (p + 1) = some c.val :=
  ⟨2, 3, {node:=0x2000, ain:=Vector.replicate 20 1400000}, (-4000), true, (st (fsets dG [(F.GUARD_STAT_LATCHED 0,1),(F.C_MAP_PORT 3,3),(F.C_MAP_ENABLE 3,1)])), by decide⟩
theorem meets_PortGuards_4 : ∃ (p : Fin 5) (c : Fin 6) (v : NodeSample) (i : Int) (filtered : Bool) (s : State),
    s.dev.running = true ∧ s.dev.f (F.GUARD_STAT_FET_ON p) = 1 ∧ s.dev.reverse (p + 1) i = true :=
  ⟨0, 3, {node:=0x2000}, (-4000), true, (st (fsets dG [(F.GUARD_TRIP2_RC_TRIP 0,10),(F.GUARD_TRIP1_OV_TRIP 0,0x1000)] |> fun d => d.putPort (vset d.port 0 {role := 1}))), by decide⟩
theorem meets_SysWindowAndSurplus_1 : ∃ (c : Fin 6) (v : Nat) (s : State),
    s.dev.running = true ∧ s.dev.sys.winSeen = true ∧ v < 65536 ∧ s.dev.f F.SYS_STAT_IN_WIN = 1 ∧ (s.dev.seeSys v).sysInWindow = false ∧
      s.dev.f F.SYS_TARGET_TARGET + s.dev.stageThr 3 < v ∧ ((∀ k : Fin 6, s.dev.f (F.C_MAP_ENABLE k) = 0)) ∧ s.dev.f F.SYS_STAT_SURP_ST ≠ 3 ∧
      s.dev.sys.holdRuns = false ∧ s.dev.pw.absent = false ∧
      (∃ st : Fin 3, (s.dev.sys.winSeen = true) ∧ (s.dev.f F.SYS_TARGET_TARGET + s.dev.stageThr (st + 1) < v)) :=
  ⟨3, 7000, (st ((fsets base [(F.SYS_STAT_IN_WIN,1),(F.SYS_TARGET_TARGET,4800)]).putSys {winSeen := true})), by decide⟩
theorem meets_SysWindowAndSurplus_2 : ∃ (c : Fin 6) (v : Nat) (s : State),
    s.dev.running = true ∧ s.dev.sys.winSeen = true ∧ v < 65536 ∧ s.dev.f F.SYS_STAT_IN_WIN = 0 ∧ (s.dev.seeSys v).sysInWindow = true ∧
      s.dev.f (F.C_MODE_MODE c) = 5 ∧ 16 ≤ (vget s.dev.course c).run0 ∧ s.dev.otherMode c = none ∧ s.dev.lone c ∧ s.dev.f F.SYS_STAT_SURP_ST = 3 :=
  ⟨3, 4800, (st ((fsets base [(F.SYS_STAT_IN_WIN,0),(F.SYS_TARGET_TARGET,4800),(F.C_MODE_MODE 3,5),(F.SYS_STAT_SURP_ST,3),(F.C_MAP_PORT 3,6)]).putSys {winSeen := true, holdMap:=[3]} |>.putPw {base.pw with absent := true} |> fun d => mc d 3 {run0 := 16})), by decide⟩
theorem meets_SysWindowAndSurplus_3 : ∃ (c : Fin 6) (v : Nat) (s : State),
    s.dev.pw.mode = .on ∧ s.dev.pw.inReset = true ∧ s.dev.pw.absent = true ∧ s.dev.sys.holdMap ≠ [] ∧ s.dev.f F.THERM_HW_PD_SHUT = 0 ∧
      ((∀ k : Fin 6, s.dev.f (F.C_PCTL_CB_LATCH k) = 0)) :=
  ⟨3, 4800, (st (base.putSys {holdMap:=[3]} |>.putPw {base.pw with absent := true, inReset := true})), by decide⟩
end W02

/-! ### Witnesses: chunk power -/

namespace W03
def mt (d : Dev) (t : Nat) (x : Tile) : Dev := d.putTile (vset d.tile t x)
def mc (d : Dev) (t : Nat) (x : Course) : Dev := d.putCourse (vset d.course t x)
def mp (d : Dev) (t : Nat) (x : Port) : Dev := d.putPort (vset d.port t x)
def order := [(F.SRC_ORDER_POS0,1),(F.SRC_ORDER_POS1,5),(F.SRC_ORDER_POS2,3),(F.SRC_ORDER_POS3,4)]
-- courses: 0 MAIN, 1 BAT, 2 SERV(5), with tiles 0,1,2
def cs := [(F.C_MAP_ENABLE 0,1),(F.C_MAP_PORT 0,1),(F.C_MAP_ENABLE 1,1),(F.C_MAP_PORT 1,2),(F.C_MAP_ENABLE 2,1),(F.C_MAP_PORT 2,5),
 (F.C_TILES_WORK_MASK 0,1),(F.C_TILES_WORK_MASK 1,2),(F.C_TILES_WORK_MASK 2,4),(F.TILE_MAP_COURSE 0,0),(F.TILE_MAP_COURSE 1,1),(F.TILE_MAP_COURSE 2,2),(F.TILE_MAP_COURSE 3,7)] ++
 (List.range 16).map (fun t => (F.TILE_MAP_COURSE t, if t < 3 then t else 7)) ++ (List.range 3).map (fun t => (F.TILE_MAP_ROLE t, 1)) ++ (List.range 3).map (fun t => (F.TILE_STAT_STATE t, 3))
 ++ (List.range 5).flatMap (fun p => [(F.PORT_QUAL_QUAL_VMIN p,1000),(F.PORT_QUAL_QUAL_VMAX p,6000)]) ++ [(F.SYS_TARGET_REF, 4800),(F.SYS_TARGET_TARGET, 4810)]
def d0 := fsets base (order ++ cs)
def dW := fsets d0 [(F.PORT_STAT_ABOVE_MIN 0,0)]
def dTr := (fsets d0 [(F.PATH_STAT_STATE,4),(F.PATH_STAT_LEAD,5),(F.PORT_STAT_QSTATE 0,2),(F.GUARD_STAT_FET_ON 0,1),(F.C_MODE_MODE 0,3),(F.C_MODE_MODE 2,1),(F.C_RSTAT_DELIVER 2,1)]).putPath {stepTwo := true, stepTwoRun := 16, incoming := 1}
def dS := mc (fsets d0 [(F.PATH_STAT_STATE,1),(F.PATH_STAT_LEAD,1),(F.C_MODE_MODE 0,1),(F.SRC_SHARE_SHARE,2),(F.PORT_STAT_QSTATE 4,2),(F.GUARD_STAT_FET_ON 4,1)]) 0 {run3 := 20}
def dA := mp (mc (fsets d0 [(F.PATH_STAT_STATE,1),(F.PATH_STAT_LEAD,1),(F.C_MODE_MODE 0,1),(F.SRC_SHARE_BAT_ASSIST,1),(F.CHG_CFG_CHEM,3),(F.CHG_PHASE_PHASE,3),(F.GUARD_STAT_FET_ON 1,1),(F.C_MODE_MODE 1,3),(F.C_RSTAT_DIR 1,1)]) 0 {run3 := 20}) 1 {debounced:=true}
def dP := fsets dA [(F.CHG_PHASE_PHASE,1),(F.CHG_VTH_V_DEEP,2500),(F.CHG_MEAS_V_CELL,2600),(F.CHG_VTH_V_PRE,3000),(F.CHG_PHASE_WINDOW,2),(F.CHG_IPRE_I_PRE,55),(F.CHG_IPRE_I_TRICKLE,11)]
def dPr := (fsets dP [(F.CHG_PHASE_PHASE,9),(F.C_MODE_MODE 1,3)]).putChg {probe := some 1500}
def dE := fsets dP [(F.PATH_STAT_STATE,2),(F.CHG_RESV_E_UNCAL,1),(F.CHG_VFLOOR_V_RES,2000),(F.CHG_BAT_CAPACITY,100),(F.CHG_TADJ_ETA,98)]
def dD := fsets d0 [(F.CHG_CFG_CHEM,3),(F.PATH_STAT_STATE,5),(F.CHG_ENERGY_E_AVAIL,77),(F.GUARD_STAT_FET_ON 1,1)]
def dH := mt ((fsets d0 [(F.TILE_STAT_HOLD 1,1),(F.TILE_SCALE_RSENSE 1,100),(F.C_MAP_PERIOD 1,800),(F.SYSCFG_HOLD_ACTIVE,1)]).putSys {handback := true, holdRuns := true, holdMap := [1]}) 1 {gates := .active}

theorem meets_PortWindows_1 : ∃ (p : Fin 5) (x : NodeSample) (v : Nat) (s : State),
    s.dev.running = true ∧ s.dev.nodeVolts (p + 1) x.node x.ain = v ∧ s.dev.inWindow 2 = true ∧ (vget s.dev.port 1).debounced = false ∧
      s.dev.f (F.GUARD_STAT_LATCHED 1) = 0 ∧ s.dev.f (F.C_PCTL_CB_LATCH 1) = 0 ∧ s.dev.qualified (p + 1) = true ∧ s.dev.inWindow (p + 1) = true ∧
      (vget s.dev.port p).outside = false ∧ v + windowHyst p < s.dev.f (F.PORT_QUAL_QUAL_VMIN p) ∧ (vget s.dev.port 1).ocHeld = false ∧
      s.dev.f F.CHG_PHASE_PHASE ≠ 9 ∧ s.dev.f F.PATH_STAT_STATE = 2 :=
  ⟨0, {node:=700}, 700, (st (fsets d0 [(F.PORT_STAT_ABOVE_MIN 0,1),(F.PORT_STAT_QSTATE 0,2),(F.PORT_STAT_ABOVE_MIN 1,1),(F.PATH_STAT_STATE,2),(F.CHG_PHASE_PHASE,0)])), by decide⟩
theorem meets_PortWindows_2 : ∃ (p : Fin 5) (x : NodeSample) (v : Nat) (s : State),
    s.dev.running = true ∧ s.dev.nodeVolts (p + 1) x.node x.ain = v ∧ s.dev.qualified (p + 1) = false ∧ s.dev.inWindow (p + 1) = false ∧
      (vget s.dev.port p).outside = false ∧ s.dev.f (F.PORT_QUAL_QUAL_VMIN p) ≤ v ∧ v + windowHyst p < s.dev.f (F.PORT_QUAL_QUAL_VMAX p) :=
  ⟨0, {node:=4000}, 4000, (st dW), by decide⟩
theorem meets_SourcesComeAndGo_1 : ∃ (p : Fin 5) (x : NodeSample) (v : Nat) (c k : Fin 6) (s : State),
    s.dev.running = true ∧ s.dev.nodeVolts (p + 1) x.node x.ain = v ∧ p ≠ 1 ∧ s.dev.qualified (p + 1) = true ∧
      (v + windowHyst p < s.dev.f (F.PORT_QUAL_QUAL_VMIN p) ∨ s.dev.f (F.PORT_QUAL_QUAL_VMAX p) ≤ v) ∧ s.dev.f F.PATH_STAT_STATE = 4 ∧
      s.dev.path.stepTwo = true ∧ 16 ≤ s.dev.path.stepTwoRun ∧ s.dev.path.incoming = p.val + 1 ∧ s.dev.courseOf (p + 1) = some c.val ∧
      s.dev.bestSource = some (p.val + 1) ∧ s.dev.canTake c = true ∧ s.dev.fetOn (p + 1) = true ∧ s.dev.f (F.C_MODE_MODE c) = 3 ∧
      s.dev.f (F.C_RSTAT_DIR c) = 0 ∧ s.dev.posOf (p + 1) < 4 ∧ s.dev.courseOf (s.dev.f F.PATH_STAT_LEAD) = some k.val ∧
      s.dev.f F.PATH_STAT_LEAD ≠ 2 ∧ k ≠ c ∧ s.dev.lone k ∧ (vget s.dev.course c).run3 = 0 ∧ s.dev.f (F.C_TRACK_STOP k) = 0 ∧
      s.dev.f (F.C_MODE_MODE k) = 1 :=
  ⟨0, {node:=700}, 700, 0, 2, (st dTr), by decide⟩
theorem meets_SourcesComeAndGo_2 : ∃ (p : Fin 5) (x : NodeSample) (v : Nat) (c k : Fin 6) (s : State),
    s.dev.running = true ∧ s.dev.nodeVolts (p + 1) x.node x.ain = v ∧ s.dev.inWindow (p + 1) = true ∧ s.dev.mayQualify (p + 1) = true ∧
      s.dev.f (F.PORT_STAT_QSTATE p) = 1 ∧ s.dev.f F.PATH_STAT_STATE = 2 ∧ (vget s.dev.port p).outside = false ∧ (vget s.dev.port p).ocHeld = false ∧
      s.dev.f F.CHG_RESV_E_RELEASED = 0 ∧ s.dev.f F.PDIS_CFG_RUNNING = 0 :=
  ⟨0, {node:=700}, 700, 0, 2, (st (fsets d0 [(F.PORT_STAT_ABOVE_MIN 0,1),(F.PORT_STAT_QSTATE 0,1),(F.PATH_STAT_STATE,2)])), by decide⟩
theorem meets_SourcesComeAndGo_3 : ∃ (p : Fin 5) (x : NodeSample) (v : Nat) (c k : Fin 6) (s : State),
    s.dev.running = true ∧ s.dev.nodeVolts (p + 1) x.node x.ain = v ∧ s.dev.qualified 1 = true ∧ x.node + 200 < s.dev.f (F.PORT_QUAL_QUAL_VMIN 0) ∧
      s.dev.f F.PATH_STAT_LEAD = 2 ∧ s.dev.f F.PATH_STAT_STATE = 3 ∧ s.dev.courseOf 1 = some c.val ∧ s.dev.regMode c = 0 ∧ s.dev.f F.SYSCFG_COMPAT = 0 :=
  ⟨0, {node:=700}, 700, 0, 2, (st (fsets d0 [(F.PORT_STAT_ABOVE_MIN 0,1),(F.PORT_STAT_QSTATE 0,2),(F.GUARD_STAT_FET_ON 0,1),(F.PATH_STAT_STATE,3),(F.PATH_STAT_LEAD,2)])), by decide⟩
theorem meets_SourcesComeAndGo_4 : ∃ (p : Fin 5) (x : NodeSample) (v : Nat) (c k : Fin 6) (s : State),
    s.dev.running = true ∧ s.dev.nodeVolts (p + 1) x.node x.ain = v ∧ (vget s.dev.port 1).debounced = true ∧
      x.node + 50 < s.dev.f (F.PORT_QUAL_QUAL_VMIN 1) :=
  ⟨0, {node:=300}, 300, 0, 2, (st (mp d0 1 {debounced := true})), by decide⟩
theorem meets_SharingAndAssist_1 : ∃ (n : Fin 4) (c : Fin 6) (s : State),
    s.dev.running = true ∧ s.dev.f F.PATH_STAT_STATE = 1 ∧ s.dev.allLimited = true ∧ s.dev.nextSharer = some n.val ∧
      s.dev.courseOf (s.dev.order.getD n 0) = some c.val ∧ s.dev.canTake c = true ∧ s.dev.lone c ∧ s.dev.f (F.C_MODE_MODE c) = 0 ∧
      s.dev.delivers c = false :=
  ⟨1, 2, (st dS), by decide⟩
theorem meets_SharingAndAssist_2 : ∃ (n : Fin 4) (c : Fin 6) (s : State),
    s.dev.running = true ∧ s.dev.f F.PATH_STAT_STATE = 1 ∧ s.dev.f F.SRC_SHARE_BAT_ASSIST = 1 ∧ s.dev.hot = true ∧ s.dev.allLimited = true ∧
      s.dev.ceiling = 0 ∧ s.dev.f F.PATH_STAT_ASSIST = 0 ∧ s.dev.courseOf 2 = some c.val ∧ s.dev.canTake c = true ∧ s.dev.fetOn 2 = true ∧
      s.dev.lone c ∧ s.dev.f (F.C_MODE_MODE c) = 3 ∧ s.dev.f F.CHG_PHASE_PHASE = 3 :=
  ⟨1, 1, (st dA), by decide⟩
theorem meets_SharingAndAssist_3 : ∃ (n : Fin 4) (c : Fin 6) (s : State),
    s.dev.running = true ∧ s.dev.courseOf (s.dev.order.getD n 0) = some c.val ∧ s.dev.fbit F.PATH_STAT_SHARERS n = true ∧
      16 ≤ (vget s.dev.course c).runF0 ∧ s.dev.lone c ∧ s.dev.f (F.C_TRACK_STOP c) = 0 ∧ s.dev.f (F.C_MODE_MODE c) = 3 :=
  ⟨1, 2, (st (mc (fsets dS [(F.C_MODE_MODE 2,3),(F.PATH_STAT_SHARERS,2)]) 2 {runF0:=16})), by decide⟩
theorem meets_SharingAndAssist_4 : ∃ (n : Fin 4) (c : Fin 6) (s : State),
    s.dev.running = true ∧ s.dev.courseOf 2 = some c.val ∧ s.dev.f F.PATH_STAT_ASSIST = 1 ∧ 16 ≤ (vget s.dev.course c).runF0 ∧ s.dev.lone c ∧
      s.dev.f F.CHG_PHASE_PHASE = 0 ∧ s.dev.f (F.C_TRACK_STOP c) = 0 ∧ s.dev.f (F.C_MODE_MODE c) = 3 :=
  ⟨1, 1, (st (mc (fsets dA [(F.PATH_STAT_ASSIST,1),(F.CHG_PHASE_PHASE,0)]) 1 {runF0:=16})), by decide⟩
theorem meets_ChargePhases_1 : ∃ (c : Fin 6) (s : State),
    s.dev.running = true ∧ s.dev.f F.CHG_CFG_CHEM ≠ 0 ∧ s.dev.f F.CHG_PHASE_PHASE = 1 ∧ s.dev.f F.CHG_VTH_V_DEEP ≤ s.dev.f F.CHG_MEAS_V_CELL ∧
      within 1 3 (s.dev.f F.CHG_PHASE_PHASE) = true ∧ s.dev.courseOf 2 = some c.val ∧ s.dev.canTake c = true ∧ s.dev.fetOn 2 = true ∧
      s.dev.pathUsesC1 = false ∧ s.dev.chg.probe = none ∧ s.dev.f (F.C_MODE_MODE c) = 3 ∧ s.dev.f (F.C_RSTAT_DIR c) = 1 :=
  ⟨1, (st dP), by decide⟩
theorem meets_ChargePhases_2 : ∃ (c : Fin 6) (s : State),
    s.dev.running = true ∧ s.dev.f F.CHG_CFG_CHEM ≠ 0 ∧ s.dev.f F.CHG_PHASE_PHASE = 10 ∧ s.dev.causePresent = false ∧ s.dev.pathUsesC1 = true ∧
      s.dev.derivedPhase = 2 :=
  ⟨1, (st (fsets dP [(F.CHG_PHASE_PHASE,10),(F.PATH_STAT_LEAD,2)])), by decide⟩
theorem meets_ChargePhases_3 : ∃ (c : Fin 6) (s : State),
    s.dev.running = true ∧ s.dev.f F.CHG_CFG_CHEM ≠ 0 ∧ s.dev.f F.CHG_PHASE_PHASE = 5 ∧ within 4 5 (s.dev.f F.CHG_PHASE_PHASE) = true :=
  ⟨1, (st (fsets dP [(F.CHG_PHASE_PHASE,5)])), by decide⟩
theorem meets_ChargePhases_4 : ∃ (c : Fin 6) (s : State),
    s.dev.running = true ∧ s.dev.f F.CHG_CFG_CHEM ≠ 0 ∧ s.dev.f F.CHG_PHASE_PHASE = 2 ∧ s.dev.f F.CHG_VTH_V_PRE ≤ s.dev.f F.CHG_MEAS_V_CELL ∧
      s.dev.pathUsesC1 = true :=
  ⟨1, (st (fsets dP [(F.CHG_PHASE_PHASE,2),(F.PATH_STAT_LEAD,2),(F.CHG_CFG_CHEM,1),(F.CHG_MEAS_V_CELL,3100)])), by decide⟩
theorem meets_ChargePhases_5 : ∃ (c : Fin 6) (s : State),
    s.dev.running = true ∧ s.dev.f F.CHG_CFG_CHEM ≠ 0 ∧ s.dev.f F.CHG_PHASE_PHASE = 10 ∧ s.dev.causePresent = true :=
  ⟨1, (st (fsets dP [(F.CHG_PHASE_PHASE,10),(F.CHG_PHASE_CAUSE,4),(F.PATH_STAT_LEAD,2),(F.CHG_VCV_V_CV,1000)])), by decide⟩
theorem meets_BatteryPresence_1 : ∃ (c : Fin 6) (v v0 : Nat) (det : Fin 3) (s : State),
    s.dev.running = true ∧ s.dev.f F.CHG_CFG_CHEM ≠ 0 ∧ s.dev.courseOf 2 = some c.val ∧ s.dev.f F.CHG_PHASE_PHASE = 9 ∧ s.dev.sourceLeads = true ∧
      s.dev.chg.probe = none ∧ s.dev.canTake c = true ∧ s.dev.fetOn 2 = true ∧
      ((det.val = 0 ∨ (det.val = 1 ∧ chargingPhase (s.dev.f F.CHG_PHASE_PHASE) = true) ∨ (det.val = 2 ∧ s.dev.f F.CHG_PHASE_PHASE ∈ [3, 4, 5, 8]))) ∧
      s.dev.chg.timedOut = none ∧ s.dev.lone c ∧ s.dev.f F.PATH_STAT_STATE = 1 ∧ s.dev.f (F.C_MODE_MODE c) = 0 ∧ s.dev.delivers c = false :=
  ⟨1, 0, 0, 0, (st (fsets dP [(F.CHG_PHASE_PHASE,9),(F.C_MODE_MODE 1,0)])), by decide⟩
theorem meets_BatteryPresence_2 : ∃ (c : Fin 6) (v v0 : Nat) (det : Fin 3) (s : State),
    s.dev.running = true ∧ s.dev.f F.CHG_CFG_CHEM ≠ 0 ∧ s.dev.courseOf 2 = some c.val ∧ s.dev.chg.probe = some (v0 : Int) ∧ s.dev.lone c ∧
      s.dev.regMode c ≠ 0 ∧ v0 + 100 < v :=
  ⟨1, 1601, 1500, 0, (st dPr), by decide⟩
theorem meets_BatteryPresence_3 : ∃ (c : Fin 6) (v v0 : Nat) (det : Fin 3) (s : State),
    s.dev.running = true ∧ s.dev.f F.CHG_CFG_CHEM ≠ 0 ∧ s.dev.courseOf 2 = some c.val ∧ s.dev.lone c ∧ s.dev.f F.CHG_PHASE_PHASE = 3 ∧
      s.dev.chg.timedOut = none ∧ s.dev.regMode c ≠ 0 ∧ s.dev.f F.PATH_STAT_LEAD ≠ 2 ∧ s.dev.f F.PATH_STAT_STATE = 1 :=
  ⟨1, 1600, 1500, 0, (st (fsets dP [(F.CHG_PHASE_PHASE,3)])), by decide⟩
theorem meets_BatteryPresence_4 : ∃ (c : Fin 6) (v v0 : Nat) (det : Fin 3) (s : State),
    s.dev.running = true ∧ s.dev.f F.CHG_CFG_CHEM ≠ 0 ∧ s.dev.courseOf 2 = some c.val ∧ s.dev.lone c ∧ s.dev.chg.probe = some (v0 : Int) ∧
      s.dev.regMode c = 0 ∧ v ≤ v0 + 100 ∧ s.dev.f (F.PORT_QUAL_QUAL_VMIN 1) ≤ v ∧ v < s.dev.f (F.PORT_QUAL_QUAL_VMAX 1) ∧
      s.dev.f F.CHG_PHASE_PHASE = 9 ∧ (vget s.dev.port 1).debounced = true ∧ s.dev.chg.ntcOpen = false ∧ s.dev.chargeSource = false :=
  ⟨1, 1600, 1500, 0, (st (mp (fsets dPr [(F.C_MODE_MODE 1,0),(F.PORT_QUAL_QUAL_VMIN 1,1600),(F.PORT_QUAL_QUAL_VMAX 1,1601),(F.CHG_CTL_EN,0)]) 1 {debounced := true})), by decide⟩
theorem meets_EnergyAndReserve_1 : ∃ (v : Nat) (i : Int) (s : State),
    s.dev.running = true ∧ s.dev.f F.CHG_CFG_CHEM ≠ 0 ∧ s.dev.f F.CHG_RESV_E_RELEASED = 0 ∧ s.dev.f F.PATH_STAT_STATE = 2 ∧
      s.dev.f F.PATH_STAT_ASSIST = 0 ∧ s.dev.f F.CHG_RESV_E_UNCAL = 1 ∧ s.dev.accountAfter v i < 65536 * 360000000000 ∧
      s.dev.f F.CHG_VFLOOR_V_RES < s.dev.f F.CHG_MEAS_V_CELL :=
  ⟨1500, (-300), (st dE), by decide⟩
theorem meets_EnergyAndReserve_2 : ∃ (v : Nat) (i : Int) (s : State),
    s.dev.running = true ∧ s.dev.f F.CHG_CFG_CHEM ≠ 0 ∧ s.dev.f F.CHG_RESV_E_RELEASED = 1 ∧ s.dev.f F.PATH_STAT_STATE = 2 ∧
      s.dev.f F.PATH_STAT_ASSIST = 0 ∧ s.dev.f F.CHG_RESV_E_AT_FLOOR = 1 ∧ s.dev.floorReached = true :=
  ⟨1500, 300, (st (fsets dE [(F.CHG_VFLOOR_V_RES,3000),(F.CHG_RESV_E_RELEASED,1),(F.CHG_RESV_E_AT_FLOOR,1)])), by decide⟩
theorem meets_EnergyAndReserve_3 : ∃ (v : Nat) (i : Int) (s : State),
    s.dev.running = true ∧ s.dev.f F.CHG_CFG_CHEM ≠ 0 ∧ s.dev.f F.PATH_STAT_STATE = 2 ∧ s.dev.f F.PATH_STAT_ASSIST = 0 ∧
      s.dev.f F.CHG_RESV_E_UNCAL = 1 ∧ s.dev.f F.CHG_RESV_E_RELEASED = 0 ∧ s.dev.accountAfter v i < 65536 * 360000000000 ∧
      s.dev.f F.CHG_MEAS_V_CELL ≤ s.dev.f F.CHG_VFLOOR_V_RES ∧ s.dev.f F.CHG_RESV_E_AT_FLOOR = 0 :=
  ⟨1500, 300, (st (fsets dE [(F.CHG_VFLOOR_V_RES,3000)])), by decide⟩
theorem meets_ButtonAndLamps_1 : ∃ (ms : Nat) (s : State),
    s.dev.alive = true ∧ s.dev.pw.absent = false ∧ 50 ≤ ms ∧ ms < 2000 ∧ s.dev.pw.vkaLow = false :=
  ⟨70, (st dE), by decide⟩
theorem meets_PowerDown_1 : ∃ (s : State),
    s.dev.alive = true ∧ s.dev.f F.CHG_CFG_CHEM ≠ 0 ∧ s.dev.bestSource = none ∧ s.dev.pw.engines = true ∧ s.dev.f F.PATH_STAT_STATE = 6 ∧
      s.dev.f F.PWR_STAT_SHIP_PEND = 1 ∧ s.dev.pw.vkaLow = false :=
  ⟨(st (fsets dD [(F.PATH_STAT_STATE,6),(F.PWR_STAT_SHIP_PEND,1)])), by decide⟩
theorem meets_PowerDown_2 : ∃ (s : State),
    s.dev.alive = true ∧ s.dev.f F.CHG_CFG_CHEM ≠ 0 ∧ s.dev.bestSource = none ∧ s.dev.pw.engines = true ∧ s.dev.f F.PATH_STAT_STATE = 5 ∧
      s.dev.f F.PWR_STAT_SHIP_PEND = 0 :=
  ⟨(st dD), by decide⟩
theorem meets_PowerDown_3 : ∃ (s : State),
    s.dev.alive = true ∧ s.dev.f F.CHG_CFG_CHEM ≠ 0 ∧ s.dev.bestSource = none ∧ s.dev.pw.engines = true ∧ s.dev.f F.PATH_STAT_STATE = 6 ∧
      s.dev.inWindow 2 = true ∧ s.dev.f F.PWR_STAT_SHIP_PEND = 0 :=
  ⟨(st (fsets dD [(F.PATH_STAT_STATE,6),(F.PORT_STAT_ABOVE_MIN 1,1)])), by decide⟩
theorem meets_WakesAndPowerOn_1 : ∃ (h : Bool) (s : State),
    s.dev.pw.mode = .keepAlive ∧ s.dev.pw.vkaLow = true :=
  ⟨true, (st (dE.putPw {dE.pw with mode := .keepAlive, vkaLow := true})), by decide⟩
theorem meets_WakesAndPowerOn_2 : ∃ (h : Bool) (s : State),
    s.dev.pw.mode = .ship ∧ s.dev.pw.vkaLow = false :=
  ⟨true, (st (dE.putPw {dE.pw with mode := .ship})), by decide⟩
theorem meets_WakesAndPowerOn_3 : ∃ (h : Bool) (s : State),
    s.dev.pw.mode = .keepAlive ∧ s.dev.pw.vkaLow = false :=
  ⟨true, (st (dE.putPw {dE.pw with mode := .keepAlive})), by decide⟩
theorem meets_WakesAndPowerOn_4 : ∃ (h : Bool) (s : State),
    s.dev.pw.mode = .cycleHeld :=
  ⟨false, (st (dE.putPw {dE.pw with mode := .cycleHeld})), by decide⟩
theorem meets_LogicDieReset_1 : ∃ (x : SupplyDrop) (s : State),
    s.dev.alive = true ∧ s.dev.faults = [] ∧ s.dev.quiet ∧ x.save = false ∧ x.entry = none ∧ s.dev.f F.CHG_CFG_CHEM ≠ 0 :=
  ⟨{}, (st dE), by decide⟩
theorem meets_AbsenceAndHandback_1 : ∃ (v : Nat) (code : BitVec 10) (c : Fin 6) (t : Fin 16) (s : State),
    s.dev.running = true ∧ s.dev.pw.absent = false ∧ s.dev.sys.handback = true ∧ s.dev.sys.holdRuns = true ∧ s.dev.canTake 1 = true ∧
      s.dev.handbackTiles ≠ [] ∧ s.dev.handbackTiles = [t.val] ∧ s.dev.bestSource = none ∧ s.dev.sys.holdMap = [t.val] ∧
      ((∀ u : Fin 16, s.dev.f (F.TILE_STAT_HOLD u) = 1 ↔ u = t)) ∧ s.dev.tst t = 3 ∧ (vget s.dev.tile t).clamp = false ∧
      ((∀ u : Fin 16, s.dev.f (F.TILE_MAP_COURSE u) = 1 ↔ u = t)) ∧ v < 65536 :=
  ⟨4700, 0x155#10, 2, 1, (st dH), by decide⟩
theorem meets_AbsenceAndHandback_2 : ∃ (v : Nat) (code : BitVec 10) (c : Fin 6) (t : Fin 16) (s : State),
    s.dev.running = true ∧ s.dev.guardProfile = true ∧ (vget s.dev.course c).mmDue = true ∧ s.dev.f (F.C_MIRROR_ACTION c) = 0 ∧
      s.dev.portCode c ≠ 2 ∧ s.dev.portCode c ≠ s.dev.f F.PATH_STAT_LEAD ∧ s.dev.f (F.C_MODE_MODE c) ≠ 0 ∧ s.dev.lone c :=
  ⟨4700, 0x155#10, 2, 1, (st (mc (fsets d0 [(F.C_RSTAT_DELIVER 2,1),(F.C_MODE_MODE 2,3),(F.C_MIRROR_COUNT 2,4)]) 2 {mmRun := 5, mmDue := true})), by decide⟩
theorem meets_AbsenceAndHandback_3 : ∃ (v : Nat) (code : BitVec 10) (c : Fin 6) (t : Fin 16) (s : State),
    s.dev.running = true ∧ s.dev.guardProfile = true ∧ (vget s.dev.course c).mmDue = true ∧ s.dev.f (F.C_MIRROR_ACTION c) = 1 ∧
      ((∀ k : Fin 6, s.dev.regMode k = 0)) ∧ ((∀ u : Fin 16, s.dev.f (F.TILE_TEST_RESULT u) ≠ 1 ∧ (vget s.dev.tile u).next = none)) ∧
      s.dev.pw.absent = false ∧ s.dev.sys.holdMap = [] ∧ s.dev.f F.CAP_STAT_OPEN = 0 :=
  ⟨4700, 0x155#10, 2, 1, (st (mc (fsets d0 [(F.C_RSTAT_DELIVER 2,1),(F.C_MIRROR_ACTION 2,1)]) 2 {mmDue := true})), by decide⟩
end W03

/-! ### Witnesses: chunk ring -/

namespace W04
def mc (d : Dev) (t : Nat) (x : Course) : Dev := d.putCourse (vset d.course t x)
def ms (d : Dev) (k : Nat) (g : Segment) : Dev := d.putRing { d.ring with seg := vset d.ring.seg k g }
def rf (n : List Byte) : RxFrame := { dst := 0x11, src := 0x22, prio := 1, seq := 7, data := n }
def d0 := fsets base [(F.RING_ADDR_ADDR,0x11),(F.SEG_STAT_LSTATE 0,2),(F.SEG_STAT_LSTATE 1,2),(F.SEG_STAT_NEIGH 1,0x22),(F.FLOW_STAT_CAPACITY,4)]
def fr0 : Frame := { dst := 0x33, src := 0x11, typ := 9, prio := 0, seq := 5, data := [] }
def o0 : Outgoing := { frame := fr0, sent := true }
def dc := (ms (fsets d0 ([(F.C_MAP_ENABLE 4,1),(F.C_MAP_PORT 4,4),(F.C_TILES_WORK_MASK 4,8),(F.TILE_MAP_COURSE 3,4),(F.TILE_STAT_STATE 3,3),(F.TILE_MAP_ROLE 3,1)] ++ (List.range 5).flatMap (fun p => [(F.PORT_QUAL_QUAL_VMIN p,1000),(F.PORT_QUAL_QUAL_VMAX p,6000)]) ++ [(F.PORT_ILIM_IN 3,250)])) 1 {idle := false}).putPort (vset base.port 3 {role := 3})
def da := fsets dc [(F.SEG_STAT_CSTATE 1,2),(F.SEG_STAT_CROLE 1,1),(F.C_MODE_MODE 4,2),(F.C_RSTAT_DELIVER 4,1),(F.SEG_CONTRACT_V 1,3000),(F.SEG_CONTRACT_I 1,100),(F.GUARD_STAT_FET_ON 3,1)]
def df := fsets d0 [(F.SEG_STAT_CSTATE 1,2),(F.SEG_STAT_CROLE 1,1),(F.RING_CFG_FLOW_AGE,5)]
def x0 : FlowCtx := { role := 0, state := 2, consumer := 0x22, provider := 0x11, flowId := 0x105, rate := 30, rateMax := 50, allow := 99, outp := 2 }
def dx (x : FlowCtx) := df.putRing {df.ring with flows := [(2,x)]}
def fr7 : Frame := { dst := 0x33, src := 0x11, typ := 9, prio := 0, seq := 7, data := [] }

theorem meets_RingFrames_1 : ∃ (g : Fin 2) (f : RxFrame) (o : Outgoing) (fr : Frame) (typ : BitVec 6) (ans : Decision) (fa : FlowAnswer) (ok : Bool) (bytes : List Byte) (s : State),
    s.dev.running = true ∧ s.dev.listens g = true ∧ f.src < 4096 ∧ s.dev.f F.RING_ADDR_ADDR ≠ f.src ∧ f.data.length ∈ ([4]) ∧
      s.dev.repeats g (rxFrame f (9)) = false ∧ (s.dev.forwards g (rxFrame f (9)) && s.dev.queueFull g) = false ∧
      s.dev.repeats g (rxFrame f (10)) = false ∧ (s.dev.forwards g (rxFrame f (10)) && s.dev.queueFull g) = false ∧
      s.dev.repeats g (rxFrame f (11)) = false ∧ (s.dev.forwards g (rxFrame f (11)) && s.dev.queueFull g) = false ∧
      s.dev.repeats g (rxFrame f (12)) = false ∧ (s.dev.forwards g (rxFrame f (12)) && s.dev.queueFull g) = false ∧
      s.dev.repeats g (rxFrame f (13)) = false ∧ (s.dev.forwards g (rxFrame f (13)) && s.dev.queueFull g) = false ∧ f.data ≠ [] ∧
      listedTypes.contains typ.toNat = false ∧ (ok = true ∨ frameGood bytes = false) ∧ ((s.dev.sg g).own.all (fun x => x.typ != 0x3F) = true) ∧
      (s.dev.sg g).aside.all (·.sent) = true ∧ (s.dev.sg g).aside.any (·.backoff.isSome) = false ∧ (s.dev.sg g).out = none ∧
      nextFrame ((s.dev.sg g).queue.filter (s.dev.maySend g)) ((s.dev.sg g).own.filter (s.dev.maySend g)) = none :=
  ⟨1, (rf (List.replicate 4 0)), o0, fr0, 0x30#6, .accept, .accept, true, [1], (st (ms d0 1 {})), by decide⟩
theorem meets_RingFrames_2 : ∃ (g : Fin 2) (f : RxFrame) (o : Outgoing) (fr : Frame) (typ : BitVec 6) (ans : Decision) (fa : FlowAnswer) (ok : Bool) (bytes : List Byte) (s : State),
    s.dev.running = true ∧ s.dev.listens g = true ∧ f.src < 4096 ∧ s.dev.f F.RING_ADDR_ADDR ≠ f.src ∧ f.data.length ∈ ([0]) ∧
      s.dev.repeats g (rxFrame f (1)) = false ∧ (s.dev.forwards g (rxFrame f (1)) && s.dev.queueFull g) = false ∧ f.data = [] ∧
      s.dev.repeats g (rxFrame f 1) = false ∧ s.dev.answered g f.dst f.seq = some o ∧ o.frame.typ ≠ 0 :=
  ⟨1, (rf []), {o0 with frame := fr7}, fr0, 0x30#6, .accept, .accept, true, [1], (st (ms d0 1 {out := some {o0 with frame := fr7}})), by decide⟩
theorem meets_RingFrames_3 : ∃ (g : Fin 2) (f : RxFrame) (o : Outgoing) (fr : Frame) (typ : BitVec 6) (ans : Decision) (fa : FlowAnswer) (ok : Bool) (bytes : List Byte) (s : State),
    s.dev.running = true ∧ s.dev.listens g = true ∧ f.src < 4096 ∧ s.dev.f F.RING_ADDR_ADDR ≠ f.src ∧ f.data.length ∈ ([1]) ∧
      s.dev.repeats g (rxFrame f (14)) = false ∧ (s.dev.forwards g (rxFrame f (14)) && s.dev.queueFull g) = false ∧
      s.dev.repeats g (rxFrame f (17)) = false ∧ (s.dev.forwards g (rxFrame f (17)) && s.dev.queueFull g) = false ∧
      ((s.dev.sg g).own.all (fun x => x.typ != 0x3F) = true) ∧ (s.dev.sg g).aside.all (·.sent) = true ∧
      (s.dev.sg g).aside.any (·.backoff.isSome) = false ∧ (s.dev.sg g).out = none ∧
      nextFrame ((s.dev.sg g).queue.filter (s.dev.maySend g)) ((s.dev.sg g).own.filter (s.dev.maySend g)) = some fr :=
  ⟨1, (rf [4]), o0, fr0, 0x30#6, .accept, .accept, true, [1], (st (ms d0 1 {own := [fr0]})), by decide⟩
theorem meets_RingFrames_4 : ∃ (g : Fin 2) (f : RxFrame) (o : Outgoing) (fr : Frame) (typ : BitVec 6) (ans : Decision) (fa : FlowAnswer) (ok : Bool) (bytes : List Byte) (s : State),
    s.dev.running = true ∧ s.dev.listens g = true ∧ f.src < 4096 ∧ s.dev.f F.RING_ADDR_ADDR ≠ f.src ∧ f.data.length ∈ ([8]) ∧
      s.dev.repeats g (rxFrame f (0)) = false ∧ (s.dev.forwards g (rxFrame f (0)) && s.dev.queueFull g) = false ∧ s.dev.lstate g = 1 ∧
      f.data.length = 8 ∧ s.dev.repeats g (rxFrame f 0) = false ∧ (s.dev.sg g).helloAcked = true :=
  ⟨1, (rf (List.replicate 8 0)), o0, fr0, 0x30#6, .accept, .accept, true, [1], (st (ms (fsets d0 [(F.SEG_STAT_LSTATE 1,1)]) 1 {helloAcked := true})), by decide⟩
theorem meets_RingFrames_5 : ∃ (g : Fin 2) (f : RxFrame) (o : Outgoing) (fr : Frame) (typ : BitVec 6) (ans : Decision) (fa : FlowAnswer) (ok : Bool) (bytes : List Byte) (s : State),
    s.dev.running = true ∧ s.dev.listens g = true ∧ f.src < 4096 ∧ s.dev.f F.RING_ADDR_ADDR ≠ f.src ∧
      f.data.length ∈ ((List.range 49).map (· + 16)) ∧ s.dev.repeats g (rxFrame f (4)) = false ∧
      (s.dev.forwards g (rxFrame f (4)) && s.dev.queueFull g) = false ∧ f.dst = s.dev.addr ∧ within 16 64 f.data.length = true ∧
      s.dev.repeats g (rxFrame f 4) = false ∧ s.dev.f F.RING_CFG_CLK_SRC = f.src ∧ f.src ≠ 0 :=
  ⟨1, (rf (List.replicate 16 0)), o0, fr0, 0x30#6, .accept, .accept, true, [1], (st (fsets d0 [(F.RING_CFG_CLK_SRC,0x22)])), by decide⟩
theorem meets_RingFrames_6 : ∃ (g : Fin 2) (f : RxFrame) (o : Outgoing) (fr : Frame) (typ : BitVec 6) (ans : Decision) (fa : FlowAnswer) (ok : Bool) (bytes : List Byte) (s : State),
    s.dev.running = true ∧ s.dev.listens g = true ∧ f.src < 4096 ∧ s.dev.f F.RING_ADDR_ADDR ≠ f.src ∧
      f.data.length ∈ (if within 1 4 (beAt f.data 0 1) then [1 + 4 * beAt f.data 0 1] else []) ∧ s.dev.repeats g (rxFrame f (8)) = false ∧
      (s.dev.forwards g (rxFrame f (8)) && s.dev.queueFull g) = false ∧ ((s.dev.sg g).own.all (fun x => x.typ != 0x3F) = true) ∧
      (s.dev.sg g).aside.all (·.sent) = true ∧ (s.dev.sg g).aside.any (·.backoff.isSome) = false ∧ (s.dev.sg g).out = some o ∧ o.sent = false ∧
      o.waitBusy = false ∧ o.backoff = none ∧ s.dev.maySend g o.frame = true :=
  ⟨1, (rf [2,0,0,0,0,0,0,0,0]), {o0 with sent := false}, fr0, 0x30#6, .accept, .accept, true, [1], (st (ms d0 1 {out := some {o0 with sent := false}})), by decide⟩
theorem meets_RingFrames_7 : ∃ (g : Fin 2) (f : RxFrame) (o : Outgoing) (fr : Frame) (typ : BitVec 6) (ans : Decision) (fa : FlowAnswer) (ok : Bool) (bytes : List Byte) (s : State),
    s.dev.running = true ∧ s.dev.listens g = true ∧ f.src < 4096 ∧ s.dev.f F.RING_ADDR_ADDR ≠ f.src ∧ f.data.length ∈ ([5]) ∧
      s.dev.repeats g (rxFrame f (16)) = false ∧ (s.dev.forwards g (rxFrame f (16)) && s.dev.queueFull g) = false ∧
      s.dev.repeats g (rxFrame f (0x1A)) = false ∧ (s.dev.forwards g (rxFrame f (0x1A)) && s.dev.queueFull g) = false :=
  ⟨1, (rf [0,0,0,0,0]), o0, fr0, 0x30#6, .accept, .accept, true, [1], (st (ms d0 1 {})), by decide⟩
theorem meets_RingFrames_8 : ∃ (g : Fin 2) (f : RxFrame) (o : Outgoing) (fr : Frame) (typ : BitVec 6) (ans : Decision) (fa : FlowAnswer) (ok : Bool) (bytes : List Byte) (s : State),
    s.dev.running = true ∧ s.dev.listens g = true ∧ f.src < 4096 ∧ s.dev.f F.RING_ADDR_ADDR ≠ f.src ∧ f.data = [] ∧
      s.dev.repeats g (rxFrame f 1) = true :=
  ⟨1, (rf []), o0, fr0, 0x30#6, .accept, .accept, true, [1], (st (ms d0 1 {seen := [(0x22,7)]})), by decide⟩
theorem meets_RingFrames_9 : ∃ (g : Fin 2) (f : RxFrame) (o : Outgoing) (fr : Frame) (typ : BitVec 6) (ans : Decision) (fa : FlowAnswer) (ok : Bool) (bytes : List Byte) (s : State),
    s.dev.running = true ∧ s.dev.listens g = true ∧ f.src < 4096 ∧ s.dev.f F.RING_ADDR_ADDR ≠ f.src ∧ s.dev.answered g f.dst f.seq = some o ∧
      (f.data = [2] ∨ f.data = [3]) :=
  ⟨1, (rf [2]), {o0 with frame := fr7}, fr0, 0x30#6, .accept, .accept, true, [1], (st (ms d0 1 {out := some {o0 with frame := fr7}})), by decide⟩
theorem meets_RingFrames_10 : ∃ (g : Fin 2) (f : RxFrame) (o : Outgoing) (fr : Frame) (typ : BitVec 6) (ans : Decision) (fa : FlowAnswer) (ok : Bool) (bytes : List Byte) (s : State),
    s.dev.running = true ∧ s.dev.listens g = true ∧ f.src < 4096 ∧ s.dev.f F.RING_ADDR_ADDR ≠ f.src ∧ s.dev.answered g f.dst f.seq = some o ∧
      f.data = [1] ∧ o.busy < 7 :=
  ⟨1, (rf [1]), {o0 with frame := fr7}, fr0, 0x30#6, .accept, .accept, true, [1], (st (ms d0 1 {out := some {o0 with frame := fr7}})), by decide⟩
theorem meets_RingFrames_11 : ∃ (g : Fin 2) (f : RxFrame) (o : Outgoing) (fr : Frame) (typ : BitVec 6) (ans : Decision) (fa : FlowAnswer) (ok : Bool) (bytes : List Byte) (s : State),
    s.dev.running = true ∧ s.dev.listens g = true ∧ f.src < 4096 ∧ s.dev.f F.RING_ADDR_ADDR ≠ f.src ∧ f.data.length ∈ ([12]) ∧
      s.dev.repeats g (rxFrame f (0x18)) = false ∧ (s.dev.forwards g (rxFrame f (0x18)) && s.dev.queueFull g) = false :=
  ⟨1, (rf (List.replicate 12 0)), o0, fr0, 0x30#6, .accept, .accept, true, [1], (st (ms d0 1 {})), by decide⟩
theorem meets_RingFrames_12 : ∃ (g : Fin 2) (f : RxFrame) (o : Outgoing) (fr : Frame) (typ : BitVec 6) (ans : Decision) (fa : FlowAnswer) (ok : Bool) (bytes : List Byte) (s : State),
    s.dev.running = true ∧ s.dev.listens g = true ∧ f.src < 4096 ∧ s.dev.f F.RING_ADDR_ADDR ≠ f.src ∧ f.data.length ∈ ([10]) ∧
      s.dev.repeats g (rxFrame f (0x19)) = false ∧ (s.dev.forwards g (rxFrame f (0x19)) && s.dev.queueFull g) = false :=
  ⟨1, (rf (List.replicate 10 0)), o0, fr0, 0x30#6, .accept, .accept, true, [1], (st (ms d0 1 {})), by decide⟩
theorem meets_RingFrames_13 : ∃ (g : Fin 2) (f : RxFrame) (o : Outgoing) (fr : Frame) (typ : BitVec 6) (ans : Decision) (fa : FlowAnswer) (ok : Bool) (bytes : List Byte) (s : State),
    s.dev.running = true ∧ s.dev.listens g = true ∧ f.src < 4096 ∧ s.dev.f F.RING_ADDR_ADDR ≠ f.src ∧ s.dev.answered g f.dst f.seq = some o ∧
      f.data = [] ∧ o.frame.typ = 0 ∧ (s.dev.sg g).helloHeard = true :=
  ⟨1, (rf []), {o0 with frame := {fr7 with typ := 0}}, fr0, 0x30#6, .accept, .accept, true, [1], (st (ms (fsets d0 [(F.SEG_STAT_LSTATE 1,1)]) 1 {out := some {o0 with frame := {fr7 with typ := 0}}, helloHeard := true})), by decide⟩
theorem meets_RingRetriesAndTimers_1 : ∃ (g : Fin 2) (o : Outgoing) (idle : Bool) (a : BitVec 12) (s : State),
    s.dev.running = true ∧ (s.dev.sg g).out = some o ∧ o.sent = true ∧ o.retries < 3 ∧ (s.dev.sg g).idle = false ∧ o.coll < 15 ∧ s.dev.lstate g = 2 ∧
      s.dev.hasOwn g 1 = false :=
  ⟨1, o0, true, 0x22#12, (st (ms d0 1 {out := some o0, idle := false})), by decide⟩
theorem meets_RingRetriesAndTimers_2 : ∃ (g : Fin 2) (o : Outgoing) (idle : Bool) (a : BitVec 12) (s : State),
    s.dev.running = true ∧ (s.dev.sg g).out = some o ∧ o.sent = true ∧ 3 ≤ o.retries ∧ o.retries = 3 ∧ s.dev.lstate g = 2 ∧ s.dev.cstate g = 0 ∧
      (s.dev.sg g).pend = none ∧ s.dev.ring.flows = [] ∧ ((∀ c : Fin 6, s.dev.f (F.C_MODE_MODE c) ≠ 4)) :=
  ⟨1, {o0 with retries := 3}, true, 0x22#12, (st (ms d0 1 {out := some {o0 with retries := 3}})), by decide⟩
theorem meets_RingRetriesAndTimers_3 : ∃ (g : Fin 2) (o : Outgoing) (idle : Bool) (a : BitVec 12) (s : State),
    s.dev.running = true ∧ (s.dev.sg g).out = some o ∧ o.waitBusy = true ∧ o.sent = false ∧ o.backoff = none ∧ (s.dev.sg g).idle = true ∧
      s.dev.maySend g o.frame = true ∧ ((s.dev.sg g).own.all (fun x => x.typ != 0x3F) = true) :=
  ⟨1, {o0 with sent := false, waitBusy := true}, true, 0x22#12, (st (ms d0 1 {out := some {o0 with sent := false, waitBusy := true}, idle := true})), by decide⟩
theorem meets_RingRetriesAndTimers_4 : ∃ (g : Fin 2) (o : Outgoing) (idle : Bool) (a : BitVec 12) (s : State),
    s.dev.running = true ∧ (s.dev.sg g).out = some o ∧ o.backoff.isSome = true ∧ o.sent = false ∧ o.waitBusy = false ∧
      s.dev.maySend g o.frame = true ∧ ((s.dev.sg g).own.all (fun x => x.typ != 0x3F) = true) :=
  ⟨1, {o0 with sent := false, backoff := some 4}, true, 0x22#12, (st (ms d0 1 {out := some {o0 with sent := false, backoff := some 4}})), by decide⟩
theorem meets_RingRetriesAndTimers_5 : ∃ (g : Fin 2) (o : Outgoing) (idle : Bool) (a : BitVec 12) (s : State),
    s.dev.running = true ∧ s.dev.lstate g = 1 ∧ s.dev.hasOwn g 0 = false ∧ (s.dev.sg g).idle = false :=
  ⟨1, o0, true, 0x22#12, (st (fsets (ms d0 1 {idle:=false}) [(F.SEG_STAT_LSTATE 1,1)])), by decide⟩
theorem meets_RingRetriesAndTimers_6 : ∃ (g : Fin 2) (o : Outgoing) (idle : Bool) (a : BitVec 12) (s : State),
    s.dev.running = true ∧ s.dev.lstate g = 3 :=
  ⟨1, o0, true, 0x22#12, (st (fsets d0 [(F.SEG_STAT_LSTATE 1,3)])), by decide⟩
theorem meets_RingRetriesAndTimers_7 : ∃ (g : Fin 2) (o : Outgoing) (idle : Bool) (a : BitVec 12) (s : State),
    s.dev.running = true ∧ (s.dev.sg g).out = some o ∧ o.sent = true ∧ 15 ≤ o.coll ∧ o.retries < 3 :=
  ⟨1, {o0 with coll := 15}, true, 0x22#12, (st (ms d0 1 {out := some {o0 with coll := 15}, idle := false})), by decide⟩
theorem meets_RingContracts_1 : ∃ (g : Fin 2) (f : RxFrame) (c : Fin 6) (k v i m u : Nat) (a : SwapAsk) (b : FlowAsk) (s : State),
    s.dev.supervisor = true ∧ s.dev.lstate g = 2 ∧ s.dev.noContracts = false ∧ f.dst = s.dev.addr ∧ f.src ≠ s.dev.addr ∧ (s.dev.sg g).idle = false ∧
      v < 65536 ∧ i < 65536 ∧ s.dev.maySource (g + 3) = true ∧ s.dev.repeats g (rxFrame f 9) = false ∧ f.data.length = 4 ∧
      (s.dev.sg g).offerOwn = true ∧ s.dev.hasOwn g 14 = false ∧ (s.dev.sg g).offer[beAt f.data 0 1]? = some (v, m) ∧ beAt f.data 2 2 = i ∧ i ≤ m ∧
      s.dev.crole g ≠ 2 ∧ s.dev.cstate g ≠ 4 ∧ s.dev.offering g = true ∧ s.dev.cstate g = 1 ∧ s.dev.f (F.GUARD_STAT_LATCHED (g + 2)) = 0 ∧
      (vget s.dev.port (g + 2)).ocHeld = false ∧ s.dev.courseOf (g + 3) = some c.val ∧ s.dev.canTake c = true ∧ s.dev.f (F.C_MODE_MODE c) = 0 ∧
      s.dev.delivers c = false ∧ s.dev.lone c ∧ s.dev.fbit F.PDIS_CFG_RUNNING (g + 2) = false ∧ (s.dev.sg g).offer ≠ [] ∧ (s.dev.sg g).asked = none ∧
      (s.dev.sg g).capped = false ∧ (s.dev.sg g).waitUntil = none ∧ (s.dev.sg g).pend = none :=
  ⟨1, (rf ([0,0,0,100])), 4, 1, 3000, 100, 300, 0, ⟨1,2,false⟩, ⟨0x22,5,30,50,99,true⟩, (st (fsets (ms dc 1 {idle := false, offer := [(3000,300)], offerOwn := true}) [(F.SEG_STAT_CSTATE 1,1)])), by decide⟩
theorem meets_RingContracts_2 : ∃ (g : Fin 2) (f : RxFrame) (c : Fin 6) (k v i m u : Nat) (a : SwapAsk) (b : FlowAsk) (s : State),
    s.dev.supervisor = true ∧ s.dev.lstate g = 2 ∧ s.dev.noContracts = false ∧ f.dst = s.dev.addr ∧ f.src ≠ s.dev.addr ∧ (s.dev.sg g).idle = false ∧
      v < 65536 ∧ i < 65536 ∧ s.dev.cstate g = 1 ∧ s.dev.repeats g (rxFrame f 10) = false ∧ f.data.length = 4 ∧ beAt f.data 0 1 = 9 ∧
      (s.dev.sg g).asked = some (v, i) ∧ s.dev.repeats g (rxFrame f 11) = false ∧ (s.dev.sg g).pend = none ∧ s.dev.repeats g (rxFrame f 12) = false ∧
      (s.dev.sg g).asked.isSome = true :=
  ⟨1, (rf ([9,0,0,100])), 4, 1, 3000, 100, 300, 0, ⟨1,2,false⟩, ⟨0x22,5,30,50,99,true⟩, (st (fsets (ms dc 1 {idle := false, asked := some (3000,100)}) [(F.SEG_STAT_CSTATE 1,1)])), by decide⟩
theorem meets_RingContracts_3 : ∃ (g : Fin 2) (f : RxFrame) (c : Fin 6) (k v i m u : Nat) (a : SwapAsk) (b : FlowAsk) (s : State),
    s.dev.supervisor = true ∧ s.dev.lstate g = 2 ∧ s.dev.noContracts = false ∧ f.dst = s.dev.addr ∧ f.src ≠ s.dev.addr ∧ (s.dev.sg g).idle = false ∧
      v < 65536 ∧ i < 65536 ∧ s.dev.repeats g (rxFrame f 13) = false ∧ f.data.length = 4 ∧ (s.dev.sg g).pend.isSome = true ∧
      (s.dev.sg g).pendSource = false ∧ s.dev.cstate g = 1 ∧ (s.dev.sg g).pend = some (v, i) :=
  ⟨1, (rf ([0x0B,0xB8,0,100])), 4, 1, 3000, 100, 300, 2950, ⟨1,2,false⟩, ⟨0x22,5,30,50,99,true⟩, (st (fsets (ms dc 1 {idle := false, pend := some (3000,100)}) [(F.SEG_STAT_CSTATE 1,1)])), by decide⟩
theorem meets_RingContracts_4 : ∃ (g : Fin 2) (f : RxFrame) (c : Fin 6) (k v i m u : Nat) (a : SwapAsk) (b : FlowAsk) (s : State),
    s.dev.supervisor = true ∧ s.dev.lstate g = 2 ∧ s.dev.noContracts = false ∧ f.dst = s.dev.addr ∧ f.src ≠ s.dev.addr ∧ (s.dev.sg g).idle = false ∧
      v < 65536 ∧ i < 65536 ∧ (s.dev.sg g).pend = some (v, i) ∧ (s.dev.sg g).pendSource = true ∧ 50 * u ≤ 51 * v ∧ 49 * v ≤ 50 * u ∧
      s.dev.cstate g ≠ 4 :=
  ⟨1, (rf ([0x0B,0xB8,0,100])), 4, 1, 3000, 100, 300, 2950, ⟨1,2,false⟩, ⟨0x22,5,30,50,99,true⟩, (st (fsets (ms dc 1 {idle := false, pend := some (3000,100), pendSource := true}) [(F.SEG_STAT_CSTATE 1,1)])), by decide⟩
theorem meets_RingContracts_5 : ∃ (g : Fin 2) (f : RxFrame) (c : Fin 6) (k v i m u : Nat) (a : SwapAsk) (b : FlowAsk) (s : State),
    s.dev.supervisor = true ∧ s.dev.lstate g = 2 ∧ s.dev.noContracts = false ∧ f.dst = s.dev.addr ∧ f.src ≠ s.dev.addr ∧ (s.dev.sg g).idle = false ∧
      v < 65536 ∧ i < 65536 ∧ s.dev.cstate g = 2 ∧ (s.dev.sg g).swapOut = none ∧ s.dev.mayOpen (s.dev.route b.provider) b.rateMax = true ∧
      s.dev.findFlow s.dev.addr b.flowId = none ∧ s.dev.freeFlow = some k :=
  ⟨0, (rf [9,0,0,100]), 4, 0, 3000, 100, 300, 2950, ⟨1,2,false⟩, ⟨0x22,5,30,50,99,true⟩, (st (fsets (ms dc 0 {idle := false}) [(F.SEG_STAT_CSTATE 0,2),(F.SEG_STAT_CROLE 0,2),(F.SEG_CONTRACT_V 0,3000),(F.SEG_CONTRACT_I 0,300)])), by decide⟩
theorem meets_RingContracts_6 : ∃ (g : Fin 2) (f : RxFrame) (c : Fin 6) (k v i m u : Nat) (a : SwapAsk) (b : FlowAsk) (s : State),
    s.dev.supervisor = true ∧ s.dev.lstate g = 2 ∧ s.dev.noContracts = false ∧ f.dst = s.dev.addr ∧ f.src ≠ s.dev.addr ∧ (s.dev.sg g).idle = false ∧
      v < 65536 ∧ i < 65536 ∧ s.dev.cstate g = 0 ∧ s.dev.maySink (g + 3) = true ∧ s.dev.repeats g (rxFrame f 8) = false ∧
      within 1 4 (beAt f.data 0 1) = true ∧ f.data.length = 1 + 4 * beAt f.data 0 1 ∧ s.dev.bestPoint (g + 3) (offerPoints f.data) = some (k, v, i) :=
  ⟨1, (rf ([2, 0x07,0xD0,0,0x64, 0x0B,0xB8,0x01,0x2C])), 4, 1, 3000, 300, 0, 0, ⟨1,2,false⟩, ⟨0x22,5,30,50,99,true⟩, (st dc), by decide⟩
theorem meets_RingContracts_7 : ∃ (g : Fin 2) (f : RxFrame) (c : Fin 6) (k v i m u : Nat) (a : SwapAsk) (b : FlowAsk) (s : State),
    s.dev.supervisor = true ∧ s.dev.lstate g = 2 ∧ s.dev.noContracts = false ∧ f.dst = s.dev.addr ∧ f.src ≠ s.dev.addr ∧ (s.dev.sg g).idle = false ∧
      v < 65536 ∧ i < 65536 ∧ s.dev.policyHolds g = true ∧ s.dev.cstate g = 0 ∧ (s.dev.sg g).offer = [] :=
  ⟨1, (rf ([0x0B,0xB8,0,100])), 4, 1, 3000, 100, 300, 2950, ⟨1,2,false⟩, ⟨0x22,5,30,50,99,true⟩, (st (fsets (ms dc 1 {idle := false}) [(F.SEG_POLICY_MODE 1,1),(F.PATH_STAT_STATE,1),(F.SEG_POLICY_VOFFER 1,2800),(F.PORT_OLIM_OUT 3,111)])), by decide⟩
theorem meets_ContractDrops_1 : ∃ (g : Fin 2) (f : RxFrame) (c : Fin 6) (s : State),
    s.dev.running = true ∧ s.dev.lstate g = 2 ∧ s.dev.addr ≠ 0 ∧ f.dst = s.dev.addr ∧ f.src ≠ s.dev.addr ∧ s.dev.inForce g = true ∧
      s.dev.repeats g (rxFrame f 14) = false ∧ f.data.length = 1 ∧ (s.dev.sg g).capped = true ∧ s.dev.courseOf (g + 3) = some c.val ∧
      s.dev.regMode c ≠ 0 ∧ s.dev.lone c ∧ s.dev.cstate g = 2 ∧ s.dev.crole g = 1 ∧ s.dev.f (F.PORT_STAT_QSTATE (g + 2)) = 0 ∧
      s.dev.ring.flows = [] ∧ ((∀ k : Fin 6, s.dev.f (F.C_MODE_MODE k) ≠ 4)) ∧ s.dev.f F.SYSCFG_COMPAT = 0 ∧ (s.dev.sg g).pend = none :=
  ⟨1, (rf [11]), 4, (st (ms da 1 {capped := true})), by decide⟩
theorem meets_ContractDrops_2 : ∃ (g : Fin 2) (f : RxFrame) (c : Fin 6) (s : State),
    s.dev.running = true ∧ s.dev.lstate g = 2 ∧ s.dev.addr ≠ 0 ∧ f.dst = s.dev.addr ∧ f.src ≠ s.dev.addr ∧ (s.dev.sg g).pend.isSome = true ∧
      ((s.dev.sg g).pendSource = true ∨ s.dev.cstate g = 4) ∧ s.dev.courseOf (g + 3) = some c.val ∧ s.dev.regMode c ≠ 0 ∧ s.dev.lone c ∧
      s.dev.cstate g = 2 ∧ s.dev.crole g = 1 ∧ s.dev.f (F.PORT_STAT_QSTATE (g + 2)) = 0 ∧ s.dev.ring.flows = [] ∧
      ((∀ k : Fin 6, s.dev.f (F.C_MODE_MODE k) ≠ 4)) ∧ s.dev.f F.SYSCFG_COMPAT = 0 ∧ (s.dev.sg g).pendSource = true :=
  ⟨1, (rf [11]), 4, (st (ms da 1 {pend := some (3,4), pendSource := true})), by decide⟩
theorem meets_RoleSwaps_1 : ∃ (g : Fin 2) (f : RxFrame) (c : Fin 6) (o : SwapReq) (s : State),
    s.dev.supervisor = true ∧ s.dev.lstate g = 2 ∧ s.dev.addr ≠ 0 ∧ s.dev.cstate g = 2 ∧ f.dst = s.dev.addr ∧ f.src ≠ s.dev.addr ∧
      (s.dev.sg g).swapOut = none ∧ s.dev.hasOwn g 14 = false ∧ s.dev.repeats g (rxFrame f 16) = false ∧ f.data.length = 5 ∧
      (if s.dev.crole g = 1 then s.dev.maySink (g + 3) else s.dev.maySource (g + 3)) = true ∧
      (s.dev.flowsCross g = false ∨ (beAt f.data 4 1).testBit 0 = true) ∧ s.dev.crole g = 1 ∧ s.dev.courseOf (g + 3) = some c.val ∧
      s.dev.regMode c ≠ 0 ∧ s.dev.lone c ∧ s.dev.ring.flows = [] ∧ beAt f.data 4 1 = 0 ∧ s.dev.maySink (g + 3) = true :=
  ⟨1, (rf [0x07,0xD0,0,50,0]), 4, ⟨1,2,false,0⟩, (st da), by decide⟩
theorem meets_RoleSwaps_2 : ∃ (g : Fin 2) (f : RxFrame) (c : Fin 6) (o : SwapReq) (s : State),
    s.dev.supervisor = true ∧ s.dev.lstate g = 2 ∧ s.dev.addr ≠ 0 ∧ s.dev.cstate g = 2 ∧ f.dst = s.dev.addr ∧ f.src ≠ s.dev.addr ∧
      (s.dev.sg g).swapOut = some o ∧ o.seq = beAt f.data 0 1 ∧ s.dev.repeats g (rxFrame f 17) = false ∧ f.data.length = 1 ∧ o.v < 65536 ∧
      o.i < 65536 ∧ s.dev.crole g = 1 ∧ s.dev.courseOf (g + 3) = some c.val ∧ s.dev.regMode c ≠ 0 ∧ s.dev.lone c ∧ s.dev.ring.flows = [] ∧
      o.force = false :=
  ⟨1, (rf [0]), 4, ⟨1,2,false,0⟩, (st (ms da 1 {swapOut := some ⟨1,2,false,0⟩})), by decide⟩
theorem meets_Flows_1 : ∃ (g : Fin 2) (f : RxFrame) (i : Nat) (j : BitVec 8) (x : FlowCtx) (s : State),
    s.dev.supervisor = true ∧ s.dev.lstate g = 2 ∧ s.dev.addr ≠ 0 ∧ f.dst = s.dev.addr ∧ f.src ≠ s.dev.addr ∧
      s.dev.repeats g (rxFrame f 0x19) = false ∧ f.data.length = 10 ∧ s.dev.findFlow f.src (beAt f.data 0 2) = some (i, x) ∧ x.state = 2 ∧
      beAt f.data 4 2 ≤ x.rateMax ∧ s.dev.courseOf 3 = none ∧ s.dev.courseOf 4 = none ∧ s.dev.ring.flows = [(i, x)] ∧ x.role ≠ 2 ∧
      x.residue + x.rate < 1000 * x.allow ∧ x.age + 1 ≤ 10 * s.dev.f F.RING_CFG_FLOW_AGE ∧ x.age < 65535 :=
  ⟨1, (rf [1,5,9,0,0,40,0,0,0,77]), 2, 2, x0, (st (dx x0)), by decide⟩
theorem meets_Flows_2 : ∃ (g : Fin 2) (f : RxFrame) (i : Nat) (j : BitVec 8) (x : FlowCtx) (s : State),
    s.dev.supervisor = true ∧ s.dev.lstate g = 2 ∧ s.dev.addr ≠ 0 ∧ f.dst = s.dev.addr ∧ f.src ≠ s.dev.addr ∧
      s.dev.repeats g (rxFrame f 0x18) = false ∧ f.data.length = 12 ∧ s.dev.openRefusal g (beAt f.data 6 2) true = 0 ∧ s.dev.freeFlow = some i ∧
      s.dev.courseOf 3 = none ∧ s.dev.courseOf 4 = none :=
  ⟨1, (rf [1,5,0x80,0x11,0,30,0,50,0,0,0,99]), 0, 2, x0, (st df), by decide⟩
theorem meets_Flows_3 : ∃ (g : Fin 2) (f : RxFrame) (i : Nat) (j : BitVec 8) (x : FlowCtx) (s : State),
    s.dev.supervisor = true ∧ s.dev.lstate g = 2 ∧ s.dev.addr ≠ 0 ∧ f.dst = s.dev.addr ∧ f.src ≠ s.dev.addr ∧
      s.dev.repeats g (rxFrame f 0x1A) = false ∧ f.data.length = 5 ∧ s.dev.findFlow (beAt f.data 2 2 % 4096) (beAt f.data 0 2) = some (i, x) ∧
      (s.dev.flow i).state = 2 ∧ x.reroute = false ∧ s.dev.courseOf 3 = none ∧ s.dev.courseOf 4 = none ∧ x.role ≠ 2 :=
  ⟨1, (rf [1,5,0,0x22,0]), 2, 2, x0, (st (dx x0)), by decide⟩
theorem meets_Flows_4 : ∃ (g : Fin 2) (f : RxFrame) (i : Nat) (j : BitVec 8) (x : FlowCtx) (s : State),
    s.dev.supervisor = true ∧ s.dev.lstate g = 2 ∧ s.dev.addr ≠ 0 ∧ f.dst = s.dev.addr ∧ f.src ≠ s.dev.addr ∧ s.dev.courseOf 3 = none ∧
      s.dev.courseOf 4 = none ∧ (s.dev.flow j.toNat).state = 1 :=
  ⟨1, (rf [1,5,0,0x22,0]), 2, 2, x0, (st (dx {x0 with state := 1})), by decide⟩
theorem meets_Emergencies_1 : ∃ (g : Fin 2) (f : RxFrame) (code esn n : Nat) (ok : Bool) (use : LineUse) (s : State),
    s.dev.running = true ∧ s.dev.addr ≠ 0 ∧ s.dev.ring.emergOut = none ∧ emergCode (s.dev.f F.RING_CTL_EMERG_CODE) = true ∧ s.dev.listens g = true ∧
      f.src ≠ s.dev.addr ∧ f.data.length = 4 ∧ s.dev.ring.emergSeen = [] ∧
      ((∀ k : Fin 2, s.dev.lstate k = 2 ∧ (s.dev.sg k).idle = true ∧ (s.dev.sg k).own = [] ∧ (s.dev.sg k).aside = [])) ∧ s.dev.ring.esn < 256 ∧
      f.src < 4096 ∧ 16 ≤ beAt f.data 0 1 :=
  ⟨1, (rf [0x20,3,0,0]), 0x20, 3, 0, true, .own, (st (fsets d0 [(F.RING_CTL_EMERG_CODE,0x20)])), by decide⟩
theorem meets_Emergencies_2 : ∃ (g : Fin 2) (f : RxFrame) (code esn n : Nat) (ok : Bool) (use : LineUse) (s : State),
    s.dev.running = true ∧ s.dev.addr ≠ 0 ∧
      ((∀ k : Fin 2, s.dev.lstate k = 2 ∧ (s.dev.sg k).idle = true ∧ (s.dev.sg k).own = [] ∧ (s.dev.sg k).aside = [])) ∧
      s.dev.ring.emergOut = some (code, esn, n + 2) ∧ f.src ≠ s.dev.addr ∧ f.src < 4096 ∧ f.data.length = 4 ∧ s.dev.ring.emergSeen = [] ∧
      beAt f.data 0 1 = 1 ∧ s.dev.f F.CHG_RESV_E_RELEASED = 0 ∧ s.dev.f F.PATH_STAT_STATE = 2 :=
  ⟨1, (rf [1,3,0,0]), 0x20, 3, 0, true, .own, (st (fsets (d0.putRing {d0.ring with emergOut := some (0x20,3,2)}) [(F.RING_CTL_EMERG_CODE,2),(F.PATH_STAT_STATE,2)])), by decide⟩
theorem meets_Emergencies_3 : ∃ (g : Fin 2) (f : RxFrame) (code esn n : Nat) (ok : Bool) (use : LineUse) (s : State),
    s.dev.running = true ∧ s.dev.addr ≠ 0 ∧ s.dev.ring.emergOut = some (code, esn, n + 1) :=
  ⟨1, (rf [1,3,0,0]), 0x20, 3, 1, true, .own, (st (d0.putRing {d0.ring with emergOut := some (0x20,3,2)})), by decide⟩
theorem meets_Emergencies_4 : ∃ (g : Fin 2) (f : RxFrame) (code esn n : Nat) (ok : Bool) (use : LineUse) (s : State),
    s.dev.running = true ∧ s.dev.addr ≠ 0 ∧
      ((∀ k : Fin 2, s.dev.lstate k = 2 ∧ (s.dev.sg k).idle = true ∧ (s.dev.sg k).own = [] ∧ (s.dev.sg k).aside = [])) ∧
      emergCode (s.dev.f F.RING_CTL_EMERG_CODE) = false ∧ s.dev.ring.emergOut = none :=
  ⟨1, (rf [0x20,3,0,0]), 0x20, 3, 0, true, .own, (st (fsets (ms (ms d0 0 {idle := true}) 1 {idle := true}) [(F.RING_CTL_EMERG_CODE,2)])), by decide⟩
end W04

/-! ### Witnesses: chunk serv -/

namespace W05
def d0 := (fsets base ([(F.C_MAP_ENABLE 4,1),(F.C_MAP_PORT 4,5),(F.C_TILES_WORK_MASK 4,8),(F.TILE_MAP_COURSE 3,4),(F.TILE_STAT_STATE 3,3),(F.TILE_MAP_ROLE 3,1)] ++ (List.range 5).flatMap (fun p => [(F.PORT_QUAL_QUAL_VMIN p,400),(F.PORT_QUAL_QUAL_VMAX p,6000)]) ++ [(F.PORT_ILIM_IN 4,250),(F.PORT_OLIM_OUT 4,500),(F.PD_SNK_VMAX,3000),(F.PD_SNK_I_OP,333)])).putPort (vset base.port 4 {role := 3})
def P (d : Dev) (x : Serv) := d.putServ x
def w0 : PdWait := {seq := .drSwap, partner := true, due := 0}
def dA := fsets d0 [(F.PD_STAT_ATTACHED,1),(F.C_MODE_MODE 4,2),(F.C_RSTAT_DELIVER 4,1),(F.C_RSTAT_DIR 4,1),(F.PD_STAT_VCONN_ON,1),(F.GUARD_STAT_FET_ON 4,1)]
def dS := fsets dA [(F.PD_STAT_PROLE,1),(F.PD_PDO_EN 0,1),(F.PD_PDO_V 0,500),(F.PD_PDO_I 0,300)]
def dE := fsets dA [(F.PD_CFG_EPR_EN,1),(F.PD_CABLE_VALID,1),(F.PD_CABLE_I_MAX,2),(F.PD_CABLE_V_MAX,3),(F.PD_CABLE_EPR_OK,1),(F.PD_CFG_DR_SWAP_EN,1),(F.PD_CFG_PR_SWAP_EN,1),(F.PD_CFG_VCONN_EN,1)]

theorem meets_ServiceAttach_1 : ∃ (cc2 wish : Bool) (v : Nat) (p : Fin 5) (c : Fin 6) (s : State),
    s.dev.running = true ∧ v < 65536 ∧ s.dev.role 5 ≠ 0 ∧ s.dev.f F.PD_STAT_ATTACHED = 0 ∧ s.dev.courseOf 5 ≠ none ∧ s.dev.role 5 = 3 ∧
      s.dev.lone c ∧ s.dev.courseOf 5 = some c.val ∧ s.dev.serv.rejoin = false ∧ s.dev.canTake c = true ∧ s.dev.regMode c = 0 ∧
      s.dev.delivers c = false ∧ s.dev.f F.PDIS_CFG_RUNNING = 0 :=
  ⟨true, false, 700, 4, 4, (st d0), by decide⟩
theorem meets_ServiceAttach_2 : ∃ (cc2 wish : Bool) (v : Nat) (p : Fin 5) (c : Fin 6) (s : State),
    s.dev.running = true ∧ v < 65536 ∧ s.dev.serv.prebias.isSome = true ∧ s.dev.f F.PD_STAT_ATTACHED = 1 ∧ s.dev.lone c ∧
      s.dev.courseOf 5 = some c.val ∧ s.dev.regMode c ≠ 0 :=
  ⟨true, false, 700, 4, 4, (st (P dA {prebias := some 5})), by decide⟩
theorem meets_ServiceAttach_3 : ∃ (cc2 wish : Bool) (v : Nat) (p : Fin 5) (c : Fin 6) (s : State),
    s.dev.running = true ∧ v < 65536 ∧ s.dev.fbit F.PDIS_CFG_RUNNING p = true ∧ s.dev.lone c ∧ s.dev.courseOf (p + 1) = some c.val ∧
      s.dev.regMode c ≠ 0 :=
  ⟨true, false, 700, 4, 4, (st (fsets dA [(F.PDIS_CFG_RUNNING,16)])), by decide⟩
theorem meets_ServiceAttach_4 : ∃ (cc2 wish : Bool) (v : Nat) (p : Fin 5) (c : Fin 6) (s : State),
    s.dev.running = true ∧ v < 65536 ∧ s.dev.lone c ∧ s.dev.courseOf 5 = some c.val ∧ s.dev.f F.PD_STAT_ATTACHED = 1 ∧ s.dev.serv.inForce = true ∧
      s.dev.serv.pend = none ∧ s.dev.f (F.PORT_STAT_CONTRACT 4) = 0 ∧ s.dev.f F.PD_STAT_EPR = 0 ∧ s.dev.regMode c ≠ 0 ∧ s.dev.f F.SYSCFG_COMPAT = 0 :=
  ⟨true, false, 700, 4, 4, (st (P (fsets dA [(F.PD_CABLE_VALID,1)]) {inForce := true})), by decide⟩
theorem meets_PdContracts_1 : ∃ (caps : List (Nat × Nat)) (n : Fin 7) (v i m u : Nat) (c : Fin 6) (vMax : Fin 4) (iMax : Fin 3) (epr : Bool) (s : State),
    s.dev.running = true ∧ s.dev.f F.PD_STAT_ATTACHED = 1 ∧ v < 65536 ∧ i < 65536 ∧ s.dev.f F.PD_STAT_PROLE = 1 ∧ s.dev.supervisor = true ∧
      s.dev.fetOn 5 = true ∧ s.dev.offeredPdo n = some (v, m) ∧ i ≤ m ∧ s.dev.serv.inForce = false ∧ s.dev.courseOf 5 = some c.val ∧
      s.dev.canTake c = true ∧ s.dev.f (F.C_MODE_MODE c) = 2 ∧ s.dev.f (F.C_RSTAT_DIR c) = 1 ∧ s.dev.serv.pend = some (v, i) ∧
      s.dev.f F.PD_STAT_PSTATE = 4 ∧ 20 * u ≤ 21 * v ∧ 19 * v ≤ 20 * u ∧ s.dev.f F.PD_STAT_VCONN_ON = 1 :=
  ⟨[], 0, 500, 250, 300, 520, 4, 3, 2, true, (st (P (fsets dS [(F.PD_STAT_PSTATE,4)]) {pend := some (500,250)})), by decide⟩
theorem meets_PdContracts_2 : ∃ (caps : List (Nat × Nat)) (n : Fin 7) (v i m u : Nat) (c : Fin 6) (vMax : Fin 4) (iMax : Fin 3) (epr : Bool) (s : State),
    s.dev.running = true ∧ s.dev.f F.PD_STAT_ATTACHED = 1 ∧ v < 65536 ∧ i < 65536 ∧ s.dev.f F.PD_STAT_PROLE = 0 ∧ s.dev.supervisor = true ∧
      s.dev.bestSupply caps = some (v, m) ∧ s.dev.serv.inForce = false :=
  ⟨[(500,300),(2000,100)], 0, 2000, 0, 100, 0, 4, 3, 2, true, (st dA), by decide⟩
theorem meets_PdContracts_3 : ∃ (caps : List (Nat × Nat)) (n : Fin 7) (v i m u : Nat) (c : Fin 6) (vMax : Fin 4) (iMax : Fin 3) (epr : Bool) (s : State),
    s.dev.running = true ∧ s.dev.f F.PD_STAT_ATTACHED = 1 ∧ v < 65536 ∧ i < 65536 ∧ s.dev.f F.PD_STAT_PROLE = 0 ∧ s.dev.supervisor = true ∧
      s.dev.bestSupply caps = none ∧ s.dev.serv.pend = some (v, i) ∧ s.dev.f F.PD_STAT_PSTATE = 4 :=
  ⟨[], 0, 500, 250, 300, 520, 4, 3, 2, true, (st (P (fsets dA [(F.PD_STAT_PSTATE,4)]) {pend := some (500,250)})), by decide⟩
theorem meets_PdContracts_4 : ∃ (caps : List (Nat × Nat)) (n : Fin 7) (v i m u : Nat) (c : Fin 6) (vMax : Fin 4) (iMax : Fin 3) (epr : Bool) (s : State),
    s.dev.running = true ∧ s.dev.f F.PD_STAT_ATTACHED = 1 ∧ v < 65536 ∧ i < 65536 ∧ s.dev.f F.PD_STAT_PROLE = 1 ∧ s.dev.supervisor = true ∧
      s.dev.fetOn 5 = true ∧ (s.dev.offeredPdo n = some (v, m) ∧ m < i ∨ s.dev.offeredPdo n = none) :=
  ⟨[], 0, 500, 301, 300, 0, 4, 3, 2, true, (st dS), by decide⟩
theorem meets_PdSwapsAndResets_1 : ∃ (own partner ok : Bool) (w : PdWait) (c : Fin 6) (s : State),
    s.dev.running = true ∧ s.dev.f F.PD_STAT_ATTACHED = 1 ∧ s.dev.serv.prebias = none ∧ s.dev.supervisor = true ∧ s.dev.f F.PD_STAT_PROLE = 0 ∧
      s.dev.f F.PD_STAT_SINKTX = 0 ∧ (s.dev.f F.PD_STAT_EPR = 1 ∨ s.dev.prSwapOk false = false) ∧ s.dev.f F.PD_CFG_DR_SWAP_EN = 1 ∧
      s.dev.f F.PD_CFG_VCONN_EN = 1 ∧ s.dev.serv.vconnHeld = false ∧ s.dev.f F.PD_STAT_EPR = 1 ∧ s.dev.serv.waiting = some w ∧ w.seq = .drSwap ∧
      w.partner = true ∧ s.dev.f F.PD_STAT_VCONN_ON = 1 :=
  ⟨true, false, true, w0, 4, (st (P (fsets dE [(F.PD_STAT_EPR,1)]) {waiting := some w0})), by decide⟩
theorem meets_PdSwapsAndResets_2 : ∃ (own partner ok : Bool) (w : PdWait) (c : Fin 6) (s : State),
    s.dev.running = true ∧ s.dev.f F.PD_STAT_ATTACHED = 1 ∧ s.dev.serv.prebias = none ∧ s.dev.supervisor = true ∧ s.dev.f F.PD_STAT_PROLE = 1 ∧
      s.dev.eprAdmitted = true ∧ s.dev.f F.PD_STAT_EPR = 0 ∧ s.dev.prSwapOk false = true ∧ s.dev.f F.PD_CFG_DR_SWAP_EN = 0 ∧
      (s.dev.serv.waiting = none ∨ s.dev.supervisor = false) :=
  ⟨false, true, false, w0, 4, (st (fsets dE [(F.PD_CFG_DR_SWAP_EN,0),(F.PD_STAT_PROLE,1)])), by decide⟩
theorem meets_PdSwapsAndResets_3 : ∃ (own partner ok : Bool) (w : PdWait) (c : Fin 6) (s : State),
    s.dev.running = true ∧ s.dev.f F.PD_STAT_ATTACHED = 1 ∧ s.dev.serv.prebias = none ∧ s.dev.lone c ∧ s.dev.courseOf 5 = some c.val ∧
      s.dev.regMode c ≠ 0 ∧ s.dev.f F.SYSCFG_COMPAT = 0 ∧ s.dev.f F.PD_STAT_EPR = 0 ∧ s.dev.serv.inForce = true ∧ s.dev.serv.pend = none ∧
      s.dev.f F.PD_STAT_PROLE = 1 ∧ s.dev.supervisor = true ∧ s.dev.prSwapOk false = true ∧ s.dev.f (F.PORT_STAT_CONTRACT 4) = 0 :=
  ⟨true, false, true, w0, 4, (st (P (fsets dE [(F.PD_STAT_PROLE,1)]) {inForce := true})), by decide⟩
theorem meets_PdSwapsAndResets_4 : ∃ (own partner ok : Bool) (w : PdWait) (c : Fin 6) (s : State),
    s.dev.running = true ∧ s.dev.f F.PD_STAT_ATTACHED = 1 ∧ s.dev.serv.prebias = none ∧ s.dev.lone c ∧ s.dev.courseOf 5 = some c.val ∧
      s.dev.regMode c ≠ 0 ∧ s.dev.f F.SYSCFG_COMPAT = 0 ∧ s.dev.f F.PD_STAT_EPR = 0 ∧ s.dev.serv.inForce = true ∧ s.dev.serv.pend = none ∧
      s.dev.f F.PD_STAT_PROLE = 0 ∧ s.dev.f (F.PORT_STAT_CONTRACT 4) = 1 ∧ s.dev.f (F.PORT_STAT_QSTATE 4) = 0 :=
  ⟨true, false, true, w0, 4, (st (P (fsets dE [(F.PORT_STAT_CONTRACT 4,1)]) {inForce := true})), by decide⟩
end W05

/-! ### Witnesses: chunk img -/

namespace W06
def d0 := base
def rst := d0.putPw {d0.pw with inReset := true, engines := false, coreRuns := false, hostReady := false, resetCause := 8}
def dS := d0.putSlots (vset d0.slots 1 {bytes := [(0,1),(7,0x55)], sealed := true})

theorem meets_ImageLoad_1 : ∃ (i : LoadInput) (s : State),
    s.dev.pw.mode = .on ∧ s.dev.pw.inReset = true ∧ s.dev.pw.engines = false ∧ s.dev.pw.ldTripped = false ∧ s.dev.pw.resetCause < 16 ∧
      s.dev.recov.lcTarget = none ∧ s.dev.pw.resetCause ≠ 10 :=
  ⟨{bid := 5, compat := true}, (st rst), by decide⟩
theorem meets_ImageCommands_1 : ∃ (force : Bool) (s : State),
    s.dev.alive = true ∧ s.dev.imgBusy = false ∧ s.dev.f F.IMGSTAT_TRIAL = 1 ∧ s.dev.img.expiry = false ∧ s.dev.img.raiseSvn = false :=
  ⟨false, (st (fsets d0 [(F.IMGSTAT_TRIAL,1),(F.IMGSTAT_COMMIT_PENDING,0)])), by decide⟩
theorem meets_ImageCommands_2 : ∃ (force : Bool) (s : State),
    s.dev.alive = true ∧ s.dev.imgBusy = false ∧ s.dev.f F.IMGSTAT_TRIAL = 0 :=
  ⟨true, (st d0), by decide⟩
theorem meets_ImageCommands_3 : ∃ (force : Bool) (s : State),
    s.dev.alive = true ∧ s.dev.imgBusy = true ∧ s.dev.img.checking = true :=
  ⟨false, (st (d0.putImg {checking := true})), by decide⟩
theorem meets_CommitAndTrial_1 : ∃ (v : Nat) (force : Bool) (s : State),
    s.dev.alive = true ∧ s.dev.imgBusy = true ∧ s.dev.f F.IMGSTAT_COMMIT_PENDING = 1 ∧ s.dev.f F.NAND_STAT_COMMIT = 0 ∧ s.dev.img.expiry = false ∧
      s.dev.faults = [] :=
  ⟨3500, false, (st (fsets dS [(F.IMGSTAT_COMMIT_PENDING,1)])), by decide⟩
theorem meets_CommitAndTrial_2 : ∃ (v : Nat) (force : Bool) (s : State),
    s.dev.alive = true ∧ s.dev.imgBusy = false ∧ s.dev.f F.IMGSTAT_TRIAL = 0 ∧ (vget s.dev.slots s.dev.inactive).sealed = true :=
  ⟨3500, false, (st dS), by decide⟩
theorem meets_CommitAndTrial_3 : ∃ (v : Nat) (force : Bool) (s : State),
    s.dev.alive = true ∧ s.dev.imgBusy = false ∧ s.dev.f F.IMGSTAT_TRIAL = 0 ∧ (vget s.dev.slots s.dev.inactive).sealed = false :=
  ⟨3500, false, (st d0), by decide⟩
theorem meets_CommitAndTrial_4 : ∃ (v : Nat) (force : Bool) (s : State),
    s.dev.alive = true ∧ s.dev.running = true ∧ s.dev.f F.IMGSTAT_TRIAL = 1 ∧ s.dev.f F.IMGSTAT_COMMIT_PENDING = 0 :=
  ⟨3500, false, (st (fsets dS [(F.IMGSTAT_TRIAL,1)])), by decide⟩
theorem meets_ImageData_1 : ∃ (w : BitVec 32) (s : State),
    s.dev.alive = true ∧ s.dev.f F.IMGADDR_OFFSET ≤ 0x17FFFC ∧ s.dev.img.slotOpen = false ∧ w.toNat % 2 ^ 21 ≤ 0x17FFFC :=
  ⟨0x12345678, (st dS), by decide⟩
theorem meets_ImageData_2 : ∃ (w : BitVec 32) (s : State),
    s.dev.alive = true ∧ s.dev.f F.IMGADDR_OFFSET ≤ 0x17FFFC ∧ s.dev.img.slotOpen = true ∧ 0x17FFFC < w.toNat % 2 ^ 21 :=
  ⟨0x1FFFFC, (st (fsets (dS.putImg {slotOpen := true}) [(F.IMGADDR_OFFSET,4)])), by decide⟩
theorem meets_LiveAndScrub_1 : ∃ (w : BitVec 32) (a : BitVec 16) (x : Machine.Field) (k : Fin 32) (double fails : Bool) (s : State),
    s.dev.alive = true ∧ liveField a.toNat = some x ∧ s.dev.liveBound x (x.read w) = false ∧ s.dev.slotOn k = false ∧
      within (s.dev.f F.SYS_BOUNDS_SETPOINT_MIN) (s.dev.f F.SYS_BOUNDS_SETPOINT_MAX) (F.SYS_SETPT_SETPOINT.read w) = false ∧
      (s.dev.f F.BG_CTL_SLOT_CHK = 1 ∨ s.dev.f F.FUNC_PEND_SLOT = 1) ∧ s.dev.sectionsGood s.dev.inactive = true :=
  ⟨0x1000, (BitVec.ofNat 16 R.SYS_SETPT), F.SYS_SETPT_SETPOINT, 3, true, false, (st (fsets dS [(F.SYS_BOUNDS_SETPOINT_MAX, 0x1200),(F.BG_CTL_SLOT_CHK,1)])), by decide⟩
theorem meets_LiveAndScrub_2 : ∃ (w : BitVec 32) (a : BitVec 16) (x : Machine.Field) (k : Fin 32) (double fails : Bool) (s : State),
    s.dev.alive = true ∧ liveField a.toNat = some x ∧ s.dev.liveBound x (x.read w) = true ∧
      within (s.dev.f F.SYS_BOUNDS_SETPOINT_MIN) (s.dev.f F.SYS_BOUNDS_SETPOINT_MAX) (F.SYS_SETPT_SETPOINT.read w) = true :=
  ⟨0x1000, (BitVec.ofNat 16 R.SYS_SETPT), F.SYS_SETPT_SETPOINT, 3, true, false, (st (fsets dS [(F.SYS_BOUNDS_SETPOINT_MIN, 0x1000),(F.SYS_BOUNDS_SETPOINT_MAX, 0x1000),(F.BG_CTL_SLOT_CHK,1)])), by decide⟩
theorem meets_LiveAndScrub_3 : ∃ (w : BitVec 32) (a : BitVec 16) (x : Machine.Field) (k : Fin 32) (double fails : Bool) (s : State),
    s.dev.alive = true ∧ s.dev.slotOn k = true :=
  ⟨0x1000, (BitVec.ofNat 16 (R.PORT_OLIM 2)), (F.PORT_OLIM_OUT 2), 3, true, true, (st (fsets (d0.putRing {d0.ring with seg := vset d0.ring.seg 0 {idle := true}}) [(F.SLOT_MAP_EN 3,1),(F.SLOT_MAP_ACTION 3,1),(F.FUNC_PEND_SLOT,1),(F.SEG_STAT_LSTATE 0,2),(F.SEG_STAT_CSTATE 0,3),(F.SEG_STAT_CROLE 0,1),(F.SEG_CONTRACT_I 0,0x2000)])), by decide⟩
theorem meets_LiveAndScrub_4 : ∃ (w : BitVec 32) (a : BitVec 16) (x : Machine.Field) (k : Fin 32) (double fails : Bool) (s : State),
    s.dev.alive = true ∧ (s.dev.f F.BG_CTL_SLOT_CHK = 1 ∨ s.dev.f F.FUNC_PEND_SLOT = 1) ∧ s.dev.sectionsGood s.dev.inactive = false :=
  ⟨0x1000, (BitVec.ofNat 16 R.SYS_SETPT), F.SYS_SETPT_SETPOINT, 3, true, false, (st (fsets (dS.putBoot {altValid := true}) [(F.BG_CTL_SLOT_CHK,1)])), by decide⟩
end W06

/-! ### Witnesses: chunk mon -/

namespace W07
def lensReads (k : Nat) : Vector Bool 10 :=
  let v : Vector Bool 10 := #v[true, false, false, true, false, true, false, false, true, false]
  if k = 0 then v else vset v (k-1) (!(vget v (k-1)))
def d0 := fsets base ((List.range 24).map (fun n => (F.LENS_CFG_INPUT n,0xFF)) ++ (List.range 6).map (fun c => (F.C_SHED_STEP_LENS c, 31)) ++ [(F.CHG_CFG_BAL_LENS,31),(F.LENS_CFG_INPUT 3,5),(F.LENS_TH_LO 3,10),(F.LENS_TH_HI 3,20),(F.LENS_SPARE_USE22,0),(F.LENS_SPARE_USE23,1)])
def d1 := fsets d0 [(F.LENS_CFG_EDGE 3,0),(F.LENS_AUTO_INTERVAL,10),(F.BG_CTL_LENS_AUTO,1)]
def z0 := fsets base ((List.range 12).flatMap (fun n => [(F.TS_MAP_ZONE n,0xFF),(F.TS_MAP_SPARE_FOR n,0xFF)]) ++ (List.range 4).map (fun z => (F.ZONE_STAT_STEP z,16)) ++ [(F.CHG_CFG_CHEM,0)])
def rs : Vector SensorReading 12 := vset (vset (Vector.replicate 12 {}) 4 {ball := 1190000}) 1 {temp := -17}
def rs2 : Vector SensorReading 12 := vset (vset (Vector.replicate 12 {}) 4 {ball := 1190000}) 1 {temp := 233}
def w0 := fsets base [(F.WDT_STAT_ARMED,1),(F.WDT_PERIOD_T_TICKS,100),(F.WDT_OPEN_T_TICKS,50),(F.WDT_COUNT_C,10),(F.WDT_CHAL_CHALLENGE,0x1235),(F.WDT_CFG_TASKS,2),(F.WDT_TASK_TASK_ID 0,1),(F.WDT_TASK_TASK_ID 1,9),(F.WDT_TASK_OWNER 1,0x80),(F.WDT_TASK_SIGNATURE 1,0x7777),(F.WDT_CFG_RESET_EN,0)]


def wa : WdtAnswer := ⟨.host, 0x1235, 7⟩
def wb : WdtAnswer := ⟨.core, 0x1235, token 0x1235 0⟩
def W (d : Dev) (x : Wdt) := d.putWdt x

theorem meets_LensLevels_1 : ∃ (n : Fin 24) (uv : Int) (lo hi : Byte) (s : State),
    s.dev.running = true ∧ s.dev.f (F.LENS_CFG_INPUT n) < 96 ∧ s.dev.lensUsed n = true ∧ lo.toNat ≤ hi.toNat ∧ s.dev.lensAlone n ∧
      s.dev.f (F.LENS_CFG_INPUT n) < 0x14 ∧ ((∀ k : Fin 24, k ≠ n → s.dev.f (F.LENS_CFG_INPUT k) ≠ s.dev.f (F.LENS_CFG_INPUT n))) ∧
      s.dev.f (F.LENS_STAT_TESTING n) = 0 ∧ s.dev.f (F.LENS_STAT_FAILED n) = 0 ∧ (vget s.dev.lens n).held = none ∧ s.dev.f (F.LENS_CFG_MODE n) = 0 ∧
      s.dev.f F.PTB_MAP_SOURCE ≠ 2 ∧ s.dev.f (F.LENS_CFG_EDGE n) = 0 :=
  ⟨3, 100000, 5, 9, (st (fsets d0 [(F.LENS_CFG_EDGE 3,0)])), by decide⟩
theorem meets_LensLevels_2 : ∃ (n : Fin 24) (uv : Int) (lo hi : Byte) (s : State),
    s.dev.running = true ∧ s.dev.lensAlone n ∧ s.dev.f (F.LENS_CFG_INPUT n) < 0x14 ∧
      ((∀ k : Fin 24, k ≠ n → s.dev.f (F.LENS_CFG_INPUT k) ≠ s.dev.f (F.LENS_CFG_INPUT n))) ∧ s.dev.f (F.LENS_STAT_TESTING n) = 0 ∧
      s.dev.f (F.LENS_STAT_FAILED n) = 0 ∧ (vget s.dev.lens n).held = none ∧ s.dev.f (F.LENS_CFG_MODE n) = 0 ∧ s.dev.f F.PTB_MAP_SOURCE ≠ 2 ∧
      s.dev.fbit F.LENS_OUT_OUT n = false ∧ s.dev.f (F.LENS_CFG_EDGE n) = 3 ∧ s.dev.f (F.LENS_TH_LO n) ≤ s.dev.f (F.LENS_TH_HI n) ∧
      ((s.dev.f (F.LENS_TH_HI n) * 5000 : Nat) : Int) ≤ uv :=
  ⟨3, 100000, 5, 9, (st (fsets d0 [(F.LENS_CFG_EDGE 3,3)])), by decide⟩
theorem meets_LensLevels_3 : ∃ (n : Fin 24) (uv : Int) (lo hi : Byte) (s : State),
    s.dev.running = true ∧ (s.dev.lensUsed n = false ∨ hi.toNat < lo.toNat) :=
  ⟨3, 99999, 10, 9, (st (fsets d0 [(F.LENS_CFG_EDGE 3,0),(F.LENS_CFG_HYST 3,1),(F.LENS_STAT_C_HI 3,1)])), by decide⟩
theorem meets_LensChecks_1 : ∃ (m : Fin 24) (n : Fin 22) (rs : Vector Bool 10) (k : Fin 24) (s : State),
    s.dev.running = true ∧ s.dev.f (F.LENS_STAT_TESTING m) = 0 ∧ s.dev.f (F.LENS_STAT_PENDING m) = 1 ∧
      ((∀ j : Fin 24, s.dev.f (F.LENS_STAT_TESTING j) = 0)) ∧
      ((s.dev.coverFor m).isSome = true ∨ s.dev.f (F.LENS_STAT_FAILED m) = 1 ∨ s.dev.lensIdle (s.dev.checkedFor m) = true) ∧
      (s.dev.f (F.LENS_STAT_TESTING m) = 1 ∨ s.dev.f (F.LENS_STAT_PENDING m) = 1) ∧ s.dev.f F.LENS_AUTO_INTERVAL ≠ 0 ∧
      s.dev.f F.BG_CTL_LENS_AUTO = 1 ∧ (((List.range 24).map fun i => (s.dev.recov.autoNext + i) % 24).find? s.dev.autoLens = some k.val) ∧
      (s.dev.f (F.LENS_STAT_FAILED m) = 0 ∨ (vget s.dev.lens m).passed = false ∨ s.dev.f (F.LENS_STAT_RESULT m) ≠ 2) ∧ s.dev.lensAlone n ∧
      s.dev.f (F.LENS_CFG_EDGE n) = 0 ∧ s.dev.f F.PTB_MAP_SOURCE ≠ 2 ∧ s.dev.f (F.LENS_STAT_PENDING n) = 1 ∧ s.dev.f (F.LENS_CFG_COVER n) = 0 ∧
      s.dev.f (F.LENS_STAT_FAILED n) = 0 ∧ s.dev.lensIdle n = true ∧ s.dev.f (F.LENS_STAT_TESTING n) = 0 :=
  ⟨3, 3, (lensReads 2), 3, (st (fsets d1 [(F.LENS_STAT_PENDING 3,1),(F.LENS_CFG_COVER 3,0)])), by decide⟩
theorem meets_LensChecks_2 : ∃ (m : Fin 24) (n : Fin 22) (rs : Vector Bool 10) (k : Fin 24) (s : State),
    s.dev.running = true ∧ s.dev.f (F.LENS_STAT_FAILED m) = 1 ∧ (vget s.dev.lens m).passed = true ∧ s.dev.f (F.LENS_STAT_RESULT m) = 2 ∧
      s.dev.lensAlone n ∧ s.dev.f (F.LENS_CFG_EDGE n) = 0 ∧ s.dev.f F.PTB_MAP_SOURCE ≠ 2 ∧ s.dev.f F.LENS_AUTO_INTERVAL ≠ 0 ∧
      s.dev.f F.BG_CTL_LENS_AUTO = 1 ∧ (((List.range 24).map fun i => (s.dev.recov.autoNext + i) % 24).find? s.dev.autoLens = some k.val) ∧
      s.dev.f (F.LENS_STAT_TESTING k) = 0 ∧ s.dev.f (F.LENS_STAT_PENDING k) = 0 ∧ s.dev.f (F.LENS_STAT_FAILED n) = 1 ∧
      (vget s.dev.lens n).passed = true ∧ s.dev.f (F.LENS_STAT_RESULT n) = 2 :=
  ⟨3, 3, (lensReads 2), 3, (st ((fsets d1 [(F.LENS_STAT_FAILED 3,1),(F.LENS_STAT_RESULT 3,2)]).putLens (vset d1.lens 3 {passed := true, failedMap := true}))), by decide⟩
theorem meets_LensChecks_3 : ∃ (m : Fin 24) (n : Fin 22) (rs : Vector Bool 10) (k : Fin 24) (s : State),
    s.dev.running = true ∧ s.dev.f (F.LENS_STAT_TESTING m) = 1 ∧ s.dev.lensAlone n ∧ s.dev.f (F.LENS_CFG_EDGE n) = 0 ∧ s.dev.f F.PTB_MAP_SOURCE ≠ 2 ∧
      s.dev.f (F.LENS_STAT_TESTING n) = 1 ∧ s.dev.f (F.LENS_STAT_FAILED n) = 0 ∧ rs.toList ≠ lensExpected ∧ s.dev.lensUsed n = true :=
  ⟨3, 3, (lensReads 2), 3, (st (fsets d1 [(F.LENS_STAT_TESTING 3,1)])), by decide⟩
theorem meets_LensChecks_4 : ∃ (m : Fin 24) (n : Fin 22) (rs : Vector Bool 10) (k : Fin 24) (s : State),
    s.dev.running = true ∧ s.dev.lensAlone n ∧ s.dev.f (F.LENS_CFG_EDGE n) = 0 ∧ s.dev.f F.PTB_MAP_SOURCE ≠ 2 ∧ s.dev.f (F.LENS_STAT_TESTING n) = 1 ∧
      s.dev.f (F.LENS_STAT_FAILED n) = 0 ∧ rs.toList = lensExpected :=
  ⟨3, 3, (lensReads 0), 3, (st (fsets d1 [(F.LENS_STAT_TESTING 3,1)])), by decide⟩
theorem meets_LensChecks_5 : ∃ (m : Fin 24) (n : Fin 22) (rs : Vector Bool 10) (k : Fin 24) (s : State),
    s.dev.running = true ∧ s.dev.f (F.LENS_STAT_TESTING n) = 1 ∧ s.dev.f (F.LENS_STAT_FAILED n) = 0 ∧ rs.toList ≠ lensExpected ∧
      s.dev.lensUsed n = true ∧ s.dev.coverOf n = some k.val :=
  ⟨3, 3, (lensReads 4), 22, (st (fsets d1 [(F.LENS_STAT_TESTING 3,1),(F.LENS_SPARE_USE22,3),(F.LENS_SPARE_SERVES22,3)])), by decide⟩
theorem meets_Sensors_1 : ∃ (n k : Fin 12) (rs : Vector SensorReading 12) (s : State),
    s.dev.running = true ∧ s.dev.f (F.TS_VAL_BROKEN n) = 0 ∧ (vget s.dev.sensor n).cause ≠ 0 ∧ (vget s.dev.sensor n).cause < 16 ∧
      2 ≤ (vget s.dev.sensor n).rounds ∧ s.dev.noZones ∧ ((∀ j : Fin 12, 4 ≤ j.val → s.dev.sensed j = false)) ∧
      ((∀ j : Fin 4, causeMet rs j = 0 ∧ s.dev.f (F.TS_VAL_BROKEN j) = 0)) ∧ s.dev.f F.CHG_CFG_CHEM = 0 ∧ s.dev.f F.PRISM_TSEL_SOURCE < 0x40 ∧
      s.dev.f F.CAP_CFG_CHANNELS = 0 ∧
      ((∀ z : Fin 4, s.dev.f (F.ZONE_STAT_STEP z) = 16 ∧ s.dev.f (F.ZONE_CFG_FLOOR z) ≤ 16 ∧ s.dev.f (F.ZONE_STAT_SHUT z) = 0)) ∧
      ((∀ j : Fin 12, s.dev.f (F.TS_STAT_STANDIN_V j) = 0)) ∧ s.dev.f (F.TS_STAT_STANDIN_V n) = 0 :=
  ⟨2, 3, rs2, (st (z0.putSensor (vset z0.sensor 2 {cause := 4, rounds := 2}))), by decide⟩
theorem meets_Sensors_2 : ∃ (n k : Fin 12) (rs : Vector SensorReading 12) (s : State),
    s.dev.running = true ∧ s.dev.f (F.TS_VAL_BROKEN n) = 1 ∧ s.dev.f (F.TS_STAT_SERVED n) = 0 ∧ 1000 ≤ (vget s.dev.sensor n).absent ∧ s.dev.noZones ∧
      ((∀ j : Fin 12, s.dev.f (F.TS_STAT_STANDIN_V j) = 0)) :=
  ⟨2, 3, rs2, (st (fsets (z0.putSensor (vset z0.sensor 2 {absent := 1000})) [(F.TS_VAL_BROKEN 2,1)])), by decide⟩
theorem meets_Sensors_3 : ∃ (n k : Fin 12) (rs : Vector SensorReading 12) (s : State),
    s.dev.running = true ∧ s.dev.f (F.TS_VAL_BROKEN n) = 1 ∧ s.dev.f (F.TS_STAT_SERVED n) = 0 ∧ s.dev.f (F.TS_MAP_SPARE_FOR n) = 0xFF ∧
      s.dev.spareOf n = some k.val ∧ s.dev.noZones ∧ ((∀ j : Fin 12, s.dev.f (F.TS_STAT_STANDIN_V j) = 0)) :=
  ⟨2, 3, rs2, (st (fsets z0 [(F.TS_VAL_BROKEN 2,1),(F.TS_MAP_SPARE_FOR 3,2),(F.TS_VAL_VALID 3,1)])), by decide⟩
theorem meets_ThrottleAndComparators_1 : ∃ (z : Fin 4) (v : BitVec 5) (t : Fin 16) (a b : Int) (s : State),
    pairCool a b = false ∧ s.dev.running = true ∧ s.dev.f (F.ZONE_STAT_DEMAND z) = 1 ∧ pairTrips 1600 a b = true ∧ s.dev.f F.THERM_HW_PD_SHUT = 0 ∧
      s.dev.f (F.ZONE_CFG_FLOOR z) + 1 < s.dev.f (F.ZONE_STAT_STEP z) ∧ s.dev.f (F.ZONE_STAT_STEP z) < 16 ∧
      within 2 (s.dev.f ⟨R.ZONE_CFG z, 8, 5⟩) v.toNat = true ∧ ((∀ c : Fin 6, s.dev.regMode c = 0)) ∧
      ((∀ u : Fin 16, s.dev.f (F.TILE_TEST_RESULT u) ≠ 1)) ∧ s.dev.f F.PATH_STAT_LEAD = 0 ∧ s.dev.sys.holdRuns = false ∧ pairTrips 1550 a b = true ∧
      s.dev.pw.ldTripped = false :=
  ⟨2, 7, 3, 1700, 20, (st (fsets base [(F.ZONE_STAT_DEMAND 2,1),(F.ZONE_STAT_STEP 2,12),(F.ZONE_CFG_FLOOR 2,5),(F.ZONE_CFG_FLOOR_MAX 2,8)])), by decide⟩
theorem meets_ThrottleAndComparators_2 : ∃ (z : Fin 4) (v : BitVec 5) (t : Fin 16) (a b : Int) (s : State),
    s.dev.running = true ∧ s.dev.f (F.ZONE_STAT_DEMAND z) = 2 ∧ s.dev.f (F.ZONE_STAT_BROKEN_HOLD z) = 0 ∧ pairTrips 1600 a b = false ∧
      pairCool a b = true ∧ s.dev.f F.THERM_HW_PD_SHUT = 1 ∧ pairTrips 1550 a b = false ∧ s.dev.f (F.ZONE_STAT_STEP z) = 15 ∧
      s.dev.f (F.ZONE_CFG_FLOOR z) ≠ 16 ∧ within 2 (s.dev.f ⟨R.ZONE_CFG z, 8, 5⟩) v.toNat = false ∧ ((∀ c : Fin 6, s.dev.regMode c = 0)) ∧
      ((∀ u : Fin 16, s.dev.f (F.TILE_TEST_RESULT u) ≠ 1)) ∧ s.dev.f F.PATH_STAT_LEAD = 0 ∧ s.dev.sys.holdRuns = false ∧
      s.dev.f F.PATH_STAT_STATE = 2 ∧ s.dev.sys.holdMap = [] ∧ ((∀ p : Fin 5, s.dev.sourceContract (p + 1) = false)) :=
  ⟨2, 9, 3, 200, 1399, (st (fsets base [(F.ZONE_STAT_DEMAND 2,2),(F.ZONE_STAT_STEP 2,15),(F.ZONE_CFG_FLOOR 2,5),(F.ZONE_CFG_FLOOR_MAX 2,8),(F.THERM_HW_PD_SHUT,1),(F.PATH_STAT_STATE,2),(F.TILE_STAT_STATE 3,3)])), by decide⟩
theorem meets_ThrottleAndComparators_3 : ∃ (z : Fin 4) (v : BitVec 5) (t : Fin 16) (a b : Int) (s : State),
    s.dev.pw.ldTripped = true ∧ pairCool a b = true :=
  ⟨2, 9, 3, 1000, 1300, (st (base.putPw {base.pw with ldTripped := true})), by decide⟩
theorem meets_WatchdogTicks_1 : ∃ (echo tok : BitVec 16) (id : Byte) (i : Fin 16) (o : Origin) (s : State),
    s.dev.alive = true ∧ s.dev.f F.WDT_STAT_ARMED = 1 ∧ o ≠ .debugger ∧ ((s.dev.f F.WDT_CFG_HOST_REQ = 1 → o = .host)) ∧
      s.dev.f F.LC_STAT_STATE < 2 ∧ s.dev.wdt.force = false ∧ s.dev.wdt.checkins = [] ∧ s.dev.wdt.services = [] ∧
      s.dev.f F.WDT_OPEN_T_TICKS < s.dev.f F.WDT_PERIOD_T_TICKS ∧ s.dev.f F.WDT_STAT_FROZEN = 0 ∧
      s.dev.f F.WDT_COUNT_C + 1 < s.dev.f F.WDT_OPEN_T_TICKS ∧ s.dev.f F.WDT_COUNT_C < s.dev.f F.WDT_OPEN_T_TICKS ∧ s.dev.f F.WDT_STAT_WINDOW = 0 :=
  ⟨0, 0, 9, 1, .host, (st w0), by decide⟩
theorem meets_WatchdogTicks_2 : ∃ (echo tok : BitVec 16) (id : Byte) (i : Fin 16) (o : Origin) (s : State),
    s.dev.alive = true ∧ 2 ≤ s.dev.f F.LC_STAT_STATE :=
  ⟨0x1235, (token 0x1235 0), 8, 1, .host, (st (fsets w0 [(F.WDT_STAT_ARMED,0),(F.WDT_STAT_CLK,1),(F.LC_STAT_STATE,2)])), by decide⟩
theorem meets_WatchdogTicks_3 : ∃ (echo tok : BitVec 16) (id : Byte) (i : Fin 16) (o : Origin) (s : State),
    s.dev.alive = true ∧ s.dev.f F.WDT_STAT_ARMED = 1 ∧ (o = .debugger ∨ s.dev.f F.WDT_CFG_HOST_REQ = 1 ∧ o = .core) :=
  ⟨0x1235, (token 0x1235 0), 8, 1, .debugger, (st (fsets w0 [(F.WDT_COUNT_C,60),(F.WDT_STAT_WINDOW,1)])), by decide⟩
theorem meets_WatchdogTicks_4 : ∃ (echo tok : BitVec 16) (id : Byte) (i : Fin 16) (o : Origin) (s : State),
    s.dev.alive = true ∧ s.dev.f F.WDT_STAT_ARMED = 1 ∧ s.dev.wdt.force = false ∧ s.dev.wdt.services = [] ∧
      s.dev.f F.WDT_COUNT_C + 1 < s.dev.f F.WDT_PERIOD_T_TICKS ∧ s.dev.f F.WDT_COUNT_C + 1 < s.dev.f F.WDT_OPEN_T_TICKS ∧
      s.dev.wdt.checkins = [(id.toNat, o)] ∧ s.dev.f F.WDT_STAT_FROZEN = 0 ∧ s.dev.taskEntry id.toNat = some i.val ∧
      o = (if s.dev.f (F.WDT_TASK_OWNER i) = 0x80 then .host else .core) :=
  ⟨0x1235, (token 0x1235 0), 9, 1, .host, (st (W w0 {checkins := [(9,.host)]})), by decide⟩
theorem meets_WatchdogTicks_5 : ∃ (echo tok : BitVec 16) (id : Byte) (i : Fin 16) (o : Origin) (s : State),
    s.dev.alive = true ∧ s.dev.f F.WDT_STAT_ARMED = 1 ∧ s.dev.wdt.force = false ∧ s.dev.wdt.services = [] ∧
      s.dev.f F.WDT_COUNT_C + 1 < s.dev.f F.WDT_PERIOD_T_TICKS ∧ s.dev.f F.WDT_COUNT_C + 1 < s.dev.f F.WDT_OPEN_T_TICKS ∧
      s.dev.wdt.checkins = [(id.toNat, o)] ∧ s.dev.f F.WDT_STAT_FROZEN = 0 ∧ s.dev.taskEntry id.toNat = some i.val ∧
      o ≠ (if s.dev.f (F.WDT_TASK_OWNER i) = 0x80 then .host else .core) :=
  ⟨0x1235, (token 0x1235 0), 9, 1, .core, (st (W w0 {checkins := [(9,.core)]})), by decide⟩
theorem meets_WatchdogTicks_6 : ∃ (echo tok : BitVec 16) (id : Byte) (i : Fin 16) (o : Origin) (s : State),
    s.dev.alive = true ∧ s.dev.f F.WDT_STAT_ARMED = 1 ∧ s.dev.wdt.force = false ∧ s.dev.wdt.services = [] ∧
      s.dev.f F.WDT_COUNT_C + 1 < s.dev.f F.WDT_PERIOD_T_TICKS ∧ s.dev.f F.WDT_COUNT_C + 1 < s.dev.f F.WDT_OPEN_T_TICKS ∧
      s.dev.wdt.checkins = [(id.toNat, o)] ∧ s.dev.f F.WDT_STAT_FROZEN = 0 ∧ s.dev.taskEntry id.toNat = none :=
  ⟨0x1235, (token 0x1235 0), 7, 1, .core, (st (W w0 {checkins := [(7,.core)]})), by decide⟩
theorem meets_WatchdogTicks_7 : ∃ (echo tok : BitVec 16) (id : Byte) (i : Fin 16) (o : Origin) (s : State),
    s.dev.alive = true ∧ s.dev.f F.WDT_STAT_ARMED = 1 ∧ s.dev.wdt.force = false ∧ s.dev.wdt.checkins = [] ∧ s.dev.wdt.services = [] ∧
      s.dev.f F.WDT_OPEN_T_TICKS < s.dev.f F.WDT_PERIOD_T_TICKS ∧ s.dev.f F.WDT_STAT_FROZEN = 0 ∧ s.dev.f F.WDT_STAT_WINDOW = 0 ∧
      s.dev.f F.WDT_COUNT_C + 1 = s.dev.f F.WDT_OPEN_T_TICKS :=
  ⟨0x1235, (token 0x1235 0), 7, 1, .core, (st (fsets w0 [(F.WDT_COUNT_C,49)])), by decide⟩
theorem meets_WatchdogTicks_8 : ∃ (echo tok : BitVec 16) (id : Byte) (i : Fin 16) (o : Origin) (s : State),
    s.dev.alive = true ∧ s.dev.f F.WDT_STAT_ARMED = 1 ∧ s.dev.wdt.force = false ∧ s.dev.wdt.checkins = [] ∧ s.dev.wdt.services = [⟨o, echo, tok⟩] ∧
      s.dev.f F.WDT_STAT_FROZEN = 0 ∧ s.dev.f F.WDT_OPEN_T_TICKS ≤ s.dev.f F.WDT_COUNT_C + 1 ∧
      s.dev.f F.WDT_COUNT_C + 1 < s.dev.f F.WDT_PERIOD_T_TICKS ∧ s.dev.f F.WDT_STAT_WINDOW = 1 ∧
      ((if s.dev.f F.WDT_STAT_MODE = 1 then tok = 0x5AA5#16 else echo = BitVec.ofNat 16 (s.dev.f F.WDT_CHAL_CHALLENGE) ∧ tok = token echo s.dev.wdt.acc)) :=
  ⟨0x1235, (token 0x1235 0), 7, 1, .core, (st (W (fsets w0 [(F.WDT_COUNT_C,60),(F.WDT_STAT_WINDOW,1)]) {services := [wb]})), by decide⟩
theorem meets_WatchdogExpiry_1 : ∃ (a b : WdtAnswer) (s : State),
    s.dev.alive = true ∧ s.dev.f F.WDT_STAT_ARMED = 1 ∧ s.dev.wdt.checkins = [] ∧ s.dev.f F.WDT_OPEN_T_TICKS < s.dev.f F.WDT_PERIOD_T_TICKS ∧
      ((s.dev.f F.WDT_COUNT_C < s.dev.f F.WDT_OPEN_T_TICKS → s.dev.f F.WDT_STAT_WINDOW = 0)) ∧
      ((decide (s.dev.wdt.services = [] ∧ s.dev.wdt.force = false ∧ s.dev.f F.WDT_STAT_FROZEN = 0 ∧ s.dev.f F.WDT_COUNT_C < s.dev.f F.WDT_PERIOD_T_TICKS)) = true) ∧
      (!s.dev.pw.absent) = true ∧ s.dev.f F.WDT_CFG_RESET_EN = 0 ∧ (false) = false ∧ (s.dev.f F.WDT_STAT_WINDOW = 1 ∨ (1) = 2) ∧
      (s.dev.f F.WDT_STAT_CLK == 0) = false ∧ (s.dev.f F.WDT_STAT_WINDOW = 1 ∨ (5) = 2) :=
  ⟨wa, wb, (st (fsets w0 [(F.WDT_COUNT_C,60),(F.WDT_STAT_WINDOW,1),(F.WDT_STAT_CLK,1)])), by decide⟩
theorem meets_WatchdogExpiry_2 : ∃ (a b : WdtAnswer) (s : State),
    s.dev.alive = true ∧ s.dev.f F.WDT_STAT_ARMED = 1 ∧ s.dev.wdt.checkins = [] ∧ s.dev.f F.WDT_OPEN_T_TICKS < s.dev.f F.WDT_PERIOD_T_TICKS ∧
      ((s.dev.f F.WDT_COUNT_C < s.dev.f F.WDT_OPEN_T_TICKS → s.dev.f F.WDT_STAT_WINDOW = 0)) ∧
      ((decide (s.dev.wdt.services = [a] ∧ s.dev.wdt.force = false ∧ s.dev.f F.WDT_COUNT_C + 1 < s.dev.f F.WDT_OPEN_T_TICKS)) = true) ∧
      s.dev.f F.WDT_CFG_RESET_EN = 0 ∧ (false) = false ∧ (s.dev.f F.WDT_STAT_WINDOW = 1 ∨ (2) = 2) :=
  ⟨wa, wb, (st (W w0 {services := [wa]})), by decide⟩
theorem meets_WatchdogExpiry_3 : ∃ (a b : WdtAnswer) (s : State),
    s.dev.alive = true ∧ s.dev.f F.WDT_STAT_ARMED = 1 ∧ s.dev.wdt.checkins = [] ∧ s.dev.f F.WDT_OPEN_T_TICKS < s.dev.f F.WDT_PERIOD_T_TICKS ∧
      ((s.dev.f F.WDT_COUNT_C < s.dev.f F.WDT_OPEN_T_TICKS → s.dev.f F.WDT_STAT_WINDOW = 0)) ∧
      ((decide (s.dev.wdt.services = [a] ∧ s.dev.wdt.force = false ∧ s.dev.f F.WDT_STAT_FROZEN = 0 ∧ s.dev.f F.WDT_OPEN_T_TICKS ≤ s.dev.f F.WDT_COUNT_C + 1 ∧ s.dev.f F.WDT_COUNT_C + 1 < s.dev.f F.WDT_PERIOD_T_TICKS ∧ s.dev.f F.WDT_STAT_MODE = 0 ∧ a.echo ≠ BitVec.ofNat 16 (s.dev.f F.WDT_CHAL_CHALLENGE))) = true) ∧
      s.dev.f F.WDT_CFG_RESET_EN = 0 ∧ (false) = false ∧ (s.dev.f F.WDT_STAT_WINDOW = 1 ∨ (4) = 2) :=
  ⟨{wa with echo := 3}, wb, (st (W (fsets w0 [(F.WDT_COUNT_C,60),(F.WDT_STAT_WINDOW,1)]) {services := [{wa with echo := 3}]})), by decide⟩
theorem meets_WatchdogExpiry_4 : ∃ (a b : WdtAnswer) (s : State),
    s.dev.alive = true ∧ s.dev.f F.WDT_STAT_ARMED = 1 ∧ s.dev.wdt.checkins = [] ∧ s.dev.f F.WDT_OPEN_T_TICKS < s.dev.f F.WDT_PERIOD_T_TICKS ∧
      ((s.dev.f F.WDT_COUNT_C < s.dev.f F.WDT_OPEN_T_TICKS → s.dev.f F.WDT_STAT_WINDOW = 0)) ∧
      ((decide (s.dev.wdt.services = [b, a] ∧ a.by_ = .host ∧ b.by_ = .core ∧ s.dev.wdt.force = false ∧ s.dev.f F.WDT_STAT_FROZEN = 0 ∧ s.dev.f F.WDT_OPEN_T_TICKS ≤ s.dev.f F.WDT_COUNT_C + 1 ∧ s.dev.f F.WDT_COUNT_C + 1 < s.dev.f F.WDT_PERIOD_T_TICKS ∧ s.dev.f F.WDT_STAT_MODE = 0 ∧ a.echo = BitVec.ofNat 16 (s.dev.f F.WDT_CHAL_CHALLENGE) ∧ a.tok ≠ token a.echo s.dev.wdt.acc)) = true) ∧
      s.dev.f F.WDT_CFG_RESET_EN = 0 ∧ (false) = false ∧ (s.dev.f F.WDT_STAT_WINDOW = 1 ∨ (3) = 2) :=
  ⟨wa, wb, (st (W (fsets w0 [(F.WDT_COUNT_C,60),(F.WDT_STAT_WINDOW,1)]) {services := [wb, wa]})), by decide⟩
theorem meets_WatchdogExpiry_5 : ∃ (a b : WdtAnswer) (s : State),
    s.dev.alive = true ∧ s.dev.f F.WDT_STAT_ARMED = 1 ∧ s.dev.wdt.checkins = [] ∧ s.dev.f F.WDT_OPEN_T_TICKS < s.dev.f F.WDT_PERIOD_T_TICKS ∧
      ((s.dev.f F.WDT_COUNT_C < s.dev.f F.WDT_OPEN_T_TICKS → s.dev.f F.WDT_STAT_WINDOW = 0)) ∧
      ((decide (s.dev.wdt.services = [] ∧ s.dev.wdt.force = true ∧ s.dev.f F.WDT_COUNT_C + 1 < s.dev.f F.WDT_PERIOD_T_TICKS)) = true) ∧
      s.dev.f F.WDT_CFG_RESET_EN = 0 ∧ (false) = false ∧ (s.dev.f F.WDT_STAT_WINDOW = 1 ∨ (6) = 2) :=
  ⟨wa, wb, (st (W (fsets w0 [(F.WDT_COUNT_C,60),(F.WDT_STAT_WINDOW,1)]) {force := true})), by decide⟩
theorem meets_WatchdogExpiry_6 : ∃ (a b : WdtAnswer) (s : State),
    s.dev.alive = true ∧ s.dev.f F.WDT_STAT_ARMED = 1 ∧ s.dev.wdt.checkins = [] ∧ s.dev.f F.WDT_OPEN_T_TICKS < s.dev.f F.WDT_PERIOD_T_TICKS ∧
      ((s.dev.f F.WDT_COUNT_C < s.dev.f F.WDT_OPEN_T_TICKS → s.dev.f F.WDT_STAT_WINDOW = 0)) ∧ s.dev.wdt.services = [] ∧ s.dev.wdt.force = false ∧
      s.dev.f F.WDT_STAT_FROZEN = 0 ∧ s.dev.f F.WDT_COUNT_C < s.dev.f F.WDT_OPEN_T_TICKS ∧ s.dev.f F.WDT_CFG_RESET_EN = 0 :=
  ⟨wa, wb, (st w0), by decide⟩
end W07

/-! ### Witnesses: chunk cap -/

namespace W08
def q1 : Conversions := { vSys := 4800, v := #v[4800,3600], balls := vset (Vector.replicate 20 0) 0 800000, i := #v[-500, 30000, 0, 0, 5] }
def c0 := fsets base [(F.CAP_CTL_EN,1),(F.CAP_EVT_START_EVT,0xFFFF),(F.CAP_EVT_STOP_EVT,0xFFFF),(F.NAND_STAT_STATE,2),(F.CAP_CFG_CHANNELS,3)]
def qn : NandInfo := { ident := 7, blocks := 100, ppb := 7, bpp := 1, tProg := 500, marked := [4,9], spare := 80, second := 3 }
def cm : Commit := { half := 0, seq := 5, index := 1, page := 3, bricks := [[1],[2],[3]], placed := 0 }
def cm2 : Commit := { cm with placed := 2 }
def nd : Nand := { ring := [{block := 2},{block := 3},{block := 5, erased := false},{block := 6},{block := 7}], reserve := [88,89], headAt := 1, headPage := 3, jSeq := 9, jRetired := 2 }
def n0 := (fsets base [(F.NAND_GEOM_BPP,1),(F.NAND_GEOM_PPB,6),(F.CAP_CFG_CHANNELS,2),(F.CAP_CFG_RATE,10),(F.CAP_CFG_WINDOW_MAX,10)]).putNand nd
def hf : Half := { frames := [[1,2],[3,-4]], time := 77 }
def r0 := fsets n0 [(F.NAND_STAT_STATE,2),(F.LOG_SEQ_NEXT,6),(F.REC_SEL_SEQ,5),(F.NAND_CFG_RETIRE,4)]
def bk : List (Nat × List Byte) := (r0.bricks hf 5).zipIdx.map fun x => (3*128+10+x.2, x.1)
def le1 : LogEntry := { time := 5, event := 33, number := 1, detail := [7], crc := 9 }
def m0 := (fsets base [(F.NVADDR_OFFSET,0x100),(F.BG_CTL_MSCRUB,1),(F.MRAM_STAT_SPARE_LEFT,4)]).putLog { entries := [(3,le1)] }

theorem meets_Measurements_1 : ∃ (src : Byte) (q : Conversions) (s : State),
    s.dev.alive = true ∧ s.dev.f F.CAP_CFG_CHANNELS = 0 ∧ s.dev.f F.PRISM_TSEL_SOURCE = 0x10 ∧ s.dev.prism.trig = [] :=
  ⟨0x11, q1, (st (fsets base [(F.PRISM_TSEL_SOURCE,0x10)])), by decide⟩
theorem meets_CaptureWindows_1 : ∃ (c : Fin 3) (s : State),
    s.dev.running = true ∧ s.dev.quiet ∧
      ((∀ e ∈ ([16, 21, 183, 184, 186, 189] : List Nat), s.dev.f F.CAP_EVT_START_EVT ≠ e ∧ s.dev.f F.CAP_EVT_STOP_EVT ≠ e)) ∧
      s.dev.f F.CAP_STAT_OPEN = 1 ∧ 192 ≤ s.dev.f F.CAP_EVT_START_EVT ∧ 192 ≤ s.dev.f F.CAP_EVT_STOP_EVT ∧ s.dev.f F.CAP_STAT_HALF = 0 ∧
      s.dev.f F.NAND_STAT_STATE ≠ 0 ∧ s.dev.f F.NAND_STAT_STATE ≠ 4 ∧ s.dev.f F.CAP_CFG_CHANNELS ≤ 16 :=
  ⟨2, (st ((fsets c0 [(F.CAP_STAT_STATE_A,1),(F.CAP_STAT_OPEN,1)]).putCap {sums := Vector.replicate 16 (-33,4)})), by decide⟩
theorem meets_CaptureWindows_2 : ∃ (c : Fin 3) (s : State),
    s.dev.running = true ∧ s.dev.quiet ∧
      ((∀ e ∈ ([16, 21, 183, 184, 186, 189] : List Nat), s.dev.f F.CAP_EVT_START_EVT ≠ e ∧ s.dev.f F.CAP_EVT_STOP_EVT ≠ e)) ∧
      s.dev.f F.CAP_CTL_EN = 1 ∧ s.dev.f F.CAP_STAT_OPEN = 0 ∧ (s.dev.f F.CAP_STAT_STATE_A = 0 ∨ s.dev.f F.CAP_STAT_STATE_B = 0) ∧
      s.dev.nand.shut = 0 ∧ s.dev.f F.NAND_STAT_STATE ≠ 5 ∧ 192 ≤ s.dev.f F.CAP_EVT_START_EVT ∧ 192 ≤ s.dev.f F.CAP_EVT_STOP_EVT ∧
      s.dev.f F.CAP_STAT_STATE_A = 0 :=
  ⟨1, (st c0), by decide⟩
theorem meets_CaptureWindows_3 : ∃ (c : Fin 3) (s : State),
    s.dev.running = true ∧ s.dev.quiet ∧
      ((∀ e ∈ ([16, 21, 183, 184, 186, 189] : List Nat), s.dev.f F.CAP_EVT_START_EVT ≠ e ∧ s.dev.f F.CAP_EVT_STOP_EVT ≠ e)) ∧
      s.dev.f F.CAP_CTL_EN = 1 ∧ s.dev.f F.CAP_STAT_OPEN = 0 ∧
      (s.dev.f F.CAP_STAT_STATE_A ≠ 0 ∧ s.dev.f F.CAP_STAT_STATE_B ≠ 0 ∨ s.dev.nand.shut ≠ 0 ∨ s.dev.f F.NAND_STAT_STATE = 5) ∧
      192 ≤ s.dev.f F.CAP_EVT_START_EVT ∧ 192 ≤ s.dev.f F.CAP_EVT_STOP_EVT ∧ s.dev.f F.CAP_STAT_STATE_A ≠ 0 ∧ s.dev.f F.CAP_STAT_STATE_B ≠ 0 :=
  ⟨1, (st (fsets c0 [(F.CAP_STAT_STATE_A,2),(F.CAP_STAT_STATE_B,2)])), by decide⟩
theorem meets_LogStore_1 : ∃ (q : NandInfo) (z : RecoveryRead) (c : Commit) (j : Nat) (r : Nat) (h : Fin 2) (lost : List Nat) (flag unc : Bool) (corr : Nat) (s : State),
    s.dev.running = true ∧ s.dev.f F.NAND_STAT_STATE ≠ 1 ∧ s.dev.f F.NAND_STAT_STATE ≠ 4 ∧ s.dev.nand.pend = some c ∧ s.dev.commitBarred c = false ∧
      c.bricks.length ≤ c.placed + s.dev.bricksPerPage ∧ s.dev.nand.bad.contains (s.dev.ringAt c.index).block = false ∧ s.dev.nand.shut ≠ 5 ∧
      within 2 3 (s.dev.halfState 0) = false ∧ within 2 3 (s.dev.halfState 1) = false ∧ s.dev.f F.NAND_STAT_STATE ∈ [2, 3, 5] ∧
      s.dev.f F.NAND_CFG_PATROL ≠ 0 ∧ (s.dev.f F.BG_CTL_PATROL = 1 ∨ s.dev.f F.FUNC_PEND_PATROL = 1) ∧ c.half = 0 ∧ s.dev.f F.NAND_STAT_STATE = 2 ∧
      s.dev.f F.BG_CTL_PATROL = 1 ∧ corr ≤ s.dev.f F.NAND_CFG_RETIRE :=
  ⟨qn, {}, cm2, 2, 88, 0, [], true, false, 3, (st ((fsets n0 [(F.NAND_STAT_STATE,2)]).putNand {nd with pend := some cm2})), by decide⟩
theorem meets_LogStore_2 : ∃ (q : NandInfo) (z : RecoveryRead) (c : Commit) (j : Nat) (r : Nat) (h : Fin 2) (lost : List Nat) (flag unc : Bool) (corr : Nat) (s : State),
    s.dev.running = true ∧ s.dev.f F.NAND_STAT_STATE ≠ 1 ∧ s.dev.nand.erase = some j ∧ j < s.dev.nand.ring.length ∧
      ((∀ k : Fin 3, k.val = 0 ∨ s.dev.ringNext s.dev.nand.headAt k = j ∨ (s.dev.ringAt (s.dev.ringNext s.dev.nand.headAt k)).erased = true)) :=
  ⟨qn, {}, cm, 2, 88, 0, [], true, true, 3, (st ((fsets n0 [(F.NAND_STAT_STATE,2)]).putNand {nd with erase := some 2, store := [(5*128+3,[1]),(900,[2])]})), by decide⟩
theorem meets_LogStore_3 : ∃ (q : NandInfo) (z : RecoveryRead) (c : Commit) (j : Nat) (r : Nat) (h : Fin 2) (lost : List Nat) (flag unc : Bool) (corr : Nat) (s : State),
    s.dev.running = true ∧ s.dev.f F.NAND_STAT_STATE = 1 ∧ s.dev.nand.read = false ∧ s.dev.nand.shut ∈ [0, 3, 5] ∧ s.dev.nand.erase = none ∧
      s.dev.nand.shut = 0 ∧ s.dev.nand.pend = none :=
  ⟨qn, {}, cm, 2, 88, 0, [], true, true, 3, (st (fsets n0 [(F.NAND_STAT_STATE,1)])), by decide⟩
theorem meets_LogStore_4 : ∃ (q : NandInfo) (z : RecoveryRead) (c : Commit) (j : Nat) (r : Nat) (h : Fin 2) (lost : List Nat) (flag unc : Bool) (corr : Nat) (s : State),
    s.dev.running = true ∧ s.dev.f F.NAND_STAT_STATE = 2 ∧ s.dev.f F.IMGSTAT_COMMIT_PENDING = 0 ∧ s.dev.cap.queue.head? = some h.val ∧
      s.dev.nand.pend = none ∧ s.dev.nand.erase = none ∧ s.dev.nand.ring ≠ [] ∧ s.dev.eraseAhead = s.dev ∧
      ((s.dev.fitsAtHead (s.dev.bricks (vget s.dev.cap.half h) (s.dev.f F.LOG_SEQ_NEXT)).length) = true ∨ (s.dev.ringAt (s.dev.ringNext s.dev.nand.headAt 1)).erased = true) ∧
      s.dev.cap.queue.head? = some 0 ∧ s.dev.fitsAtHead (s.dev.bricks (vget s.dev.cap.half 0) (s.dev.f F.LOG_SEQ_NEXT)).length = true :=
  ⟨qn, {}, cm, 2, 88, 0, [], true, true, 3, (st (((fsets n0 [(F.NAND_STAT_STATE,2),(F.CAP_STAT_STATE_A,2)]).putNand {nd with ring := nd.ring.map fun x => {x with erased := true}}).putCap {queue := [0,1]})), by decide⟩
theorem meets_LogStore_5 : ∃ (q : NandInfo) (z : RecoveryRead) (c : Commit) (j : Nat) (r : Nat) (h : Fin 2) (lost : List Nat) (flag unc : Bool) (corr : Nat) (s : State),
    s.dev.running = true ∧ s.dev.f F.NAND_STAT_STATE ≠ 1 ∧ s.dev.f F.NAND_STAT_STATE ≠ 4 ∧ s.dev.nand.pend = some c ∧ s.dev.commitBarred c = false ∧
      c.half = 0 ∧ c.placed + s.dev.bricksPerPage < c.bricks.length ∧ s.dev.nand.bad.contains (s.dev.ringAt c.index).block = false ∧
      s.dev.nand.reserve.head? = some r ∧ s.dev.nand.shut = 0 ∧ (s.dev.ringAt (s.dev.ringNext c.index 1)).erased = true :=
  ⟨qn, {}, cm, 2, 88, 0, [], true, true, 3, (st ((fsets n0 [(F.NAND_STAT_STATE,2)]).putNand {nd with pend := some cm, ring := nd.ring.map fun x => {x with erased := true}})), by decide⟩
theorem meets_LogStore_6 : ∃ (q : NandInfo) (z : RecoveryRead) (c : Commit) (j : Nat) (r : Nat) (h : Fin 2) (lost : List Nat) (flag unc : Bool) (corr : Nat) (s : State),
    s.dev.running = true ∧ s.dev.f F.NAND_STAT_STATE = 0 ∧ nandSupported (s.dev.nandSeen q) = true :=
  ⟨qn, {}, cm, 2, 88, 0, [], true, true, 3, (st n0), by decide⟩
theorem meets_LogStore_7 : ∃ (q : NandInfo) (z : RecoveryRead) (c : Commit) (j : Nat) (r : Nat) (h : Fin 2) (lost : List Nat) (flag unc : Bool) (corr : Nat) (s : State),
    s.dev.running = true ∧ s.dev.f F.NAND_STAT_STATE = 1 ∧ s.dev.nand.read = false ∧ s.dev.nand.erase = none ∧ s.dev.nand.shut = 0 ∧
      s.dev.nand.pend = some c ∧ z.whole = false :=
  ⟨qn, {}, cm, 2, 88, 0, [], true, true, 3, (st ((fsets n0 [(F.NAND_STAT_STATE,1)]).putNand {nd with pend := some cm})), by decide⟩
theorem meets_RecordReads_1 : ∃ (i : BitVec 10) (corr : Byte) (r : BrickRead) (p : Nat) (x : Nat × Nat) (s : State),
    s.dev.alive = true ∧ s.dev.nand.fetch = some x ∧ s.dev.f F.REC_CTL_RESULT = 0 ∧ s.dev.brickAt x.1 x.2 = some p ∧
      corr.toNat ≤ s.dev.f F.NAND_CFG_RETIRE :=
  ⟨0, 3, .good, 394, (5,0), (st (r0.putNand {nd with fetch := some (5,0), store := bk})), by decide⟩
theorem meets_RecordReads_2 : ∃ (i : BitVec 10) (corr : Byte) (r : BrickRead) (p : Nat) (x : Nat × Nat) (s : State),
    s.dev.alive = true ∧ s.dev.nand.fetch = none ∧ s.dev.f F.REC_CTL_RESULT = 2 :=
  ⟨0, 3, .good, 394, (5,0), (st ((r0.set F.REC_CTL_RESULT 2).putNand {nd with buffer := [1,2,3,4,5], offset := 0})), by decide⟩
theorem meets_RecordReads_3 : ∃ (i : BitVec 10) (corr : Byte) (r : BrickRead) (p : Nat) (x : Nat × Nat) (s : State),
    s.dev.alive = true ∧ s.dev.nand.fetch = some x ∧ s.dev.brickAt x.1 x.2 = none :=
  ⟨0, 3, .good, 394, (5,0), (st (r0.putNand {nd with fetch := some (5,0)})), by decide⟩
theorem meets_RecordReads_4 : ∃ (i : BitVec 10) (corr : Byte) (r : BrickRead) (p : Nat) (x : Nat × Nat) (s : State),
    s.dev.alive = true ∧ s.dev.f F.REC_CTL_RESULT ≠ 0 ∧ s.dev.f F.REC_CTL_RESULT ≠ 2 :=
  ⟨0, 3, .crcFailed, 394, (5,0), (st ((r0.set F.REC_CTL_RESULT 3).putNand {nd with fetch := some (5,0), store := bk})), by decide⟩
theorem meets_StorageWindows_1 : ∃ (w : BitVec 32) (n : BitVec 10) (i : Byte) (a : Fin 0x300000) (rows : List (List Nat)) (unc : Option Nat) (last : Bool) (s : State),
    s.dev.alive = true ∧ (s.dev.f F.BG_CTL_MSCRUB = 1 ∨ s.dev.f F.FUNC_PEND_MSCRUB = 1) ∧ s.dev.f F.BG_CTL_MSCRUB = 1 ∧
      s.dev.f F.MRAM_STAT_SPARE_LEFT ≠ 0 ∧ i.toNat < s.dev.f F.FLOW_STAT_CAPACITY :=
  ⟨0x12345678, 3, 4, 0x180008, [[0,1,2],[1],[0]], (some 0x340010), true, (st (m0.putNv [(0x101,7)])), by decide⟩
theorem meets_StorageWindows_2 : ∃ (w : BitVec 32) (n : BitVec 10) (i : Byte) (a : Fin 0x300000) (rows : List (List Nat)) (unc : Option Nat) (last : Bool) (s : State),
    s.dev.alive = true ∧ s.dev.f F.FLOW_STAT_CAPACITY ≤ i.toNat :=
  ⟨0, 5, 200, 0x8, [], none, false, (st (m0.putRing {flows := [(4,{state := 2, flowId := 0x1234, allow := 77})]})), by decide⟩
end W08

/-! ### Witnesses: chunk life -/

namespace W09


theorem meets_BackgroundControl_1 : ∃ (f : Func) (w : BitVec 32) (slot scrub : Bool) (s : State),
    s.dev.alive = true ∧ s.dev.fbit (pendBit f).1 (pendBit f).2 = true ∧ s.dev.atSafePoint f = true ∧ f ≠ .chg ∧ f ≠ .patrol ∧
      s.dev.recov.autoCheck = [] ∧ s.dev.f F.BG_STAT_SCRUB_AGE_H ≤ 24 ∧ s.dev.f F.BG_STAT_SLOT_AGE_H ≤ 24 :=
  ⟨(.shed 2), 0x5, true, true, (st (fsets base [(F.FUNC_PEND_SHED,0x2c),(F.BG_CTL_PATROL,1),(F.BG_CTL_SLOT_CHK,1)])), by decide⟩
theorem meets_BackgroundControl_2 : ∃ (f : Func) (w : BitVec 32) (slot scrub : Bool) (s : State),
    s.dev.alive = true ∧ s.dev.fbit (pendBit f).1 (pendBit f).2 = true ∧ s.dev.atSafePoint f = true ∧ f = .patrol :=
  ⟨.patrol, 0x8, true, true, (st (fsets base [(F.FUNC_PEND_PATROL,1),(F.NAND_STAT_PATROL,1),(F.BG_CTL_PATROL,1),(F.BG_CTL_MSCRUB,1)])), by decide⟩
theorem meets_BackgroundControl_3 : ∃ (f : Func) (w : BitVec 32) (slot scrub : Bool) (s : State),
    s.dev.alive = true ∧ s.dev.fbit (pendBit f).1 (pendBit f).2 = true ∧ s.dev.atSafePoint f = true ∧ f = .chg ∧
      chargingPhase (s.dev.f F.CHG_PHASE_PHASE) = true :=
  ⟨.chg, 0x8, true, true, (st (fsets base [(F.FUNC_PEND_CHG,1),(F.CHG_PHASE_PHASE,3),(F.BG_STAT_SLOT_AGE_H,30)])), by decide⟩
theorem meets_CalibrationAndDeferral_1 : ∃ (u : Fin 2) (load : Nat) (t : Fin 16) (n : Fin 24) (s : State),
    s.dev.running = true ∧ s.dev.f (adcPending u) = 1 ∧ s.dev.f F.ST_ADC_RESULT0 ≠ 1 ∧ s.dev.f F.ST_ADC_RESULT1 ≠ 1 ∧
      load * 100 ≤ (100 - s.dev.f F.ST_CFG_MARGIN) * 20000 ∧ s.dev.f (F.TILE_STAT_TEST_PENDING t) = 1 ∧ s.dev.f (F.LENS_STAT_PENDING n) = 1 :=
  ⟨1, 9000, 5, 7, (st (fsets base [(F.ST_ADC_PENDING1,1),(F.TILE_STAT_TEST_PENDING 5,1),(F.LENS_STAT_PENDING 7,1)])), by decide⟩
theorem meets_CalibrationAndDeferral_2 : ∃ (u : Fin 2) (load : Nat) (t : Fin 16) (n : Fin 24) (s : State),
    s.dev.running = true ∧ s.dev.f (adcResult u) = 1 :=
  ⟨1, 9000, 5, 7, (st (fsets base [(F.ST_ADC_RESULT1,1)])), by decide⟩
theorem meets_CalibrationAndDeferral_3 : ∃ (u : Fin 2) (load : Nat) (t : Fin 16) (n : Fin 24) (s : State),
    s.dev.running = true ∧ s.dev.f (adcPending u) = 0 ∧ s.dev.f (adcResult u) ≠ 1 :=
  ⟨1, 9000, 5, 7, (st base), by decide⟩
theorem meets_DebugAndTasks_1 : ∃ (s : State),
    s.dev.alive = true ∧ s.dev.f F.LC_STAT_STATE ≠ 2 ∧ s.dev.f F.DBG_CTL_OPENED = 1 ∧ s.dev.f F.DBG_CTL_HALTED = 0 ∧ s.dev.supervisor = true ∧
      s.dev.faults = [] :=
  ⟨(st (fsets base [(F.DBG_CTL_OPENED,1)])), by decide⟩
theorem meets_DebugAndTasks_2 : ∃ (s : State),
    s.dev.alive = true ∧ s.dev.f F.LC_STAT_STATE = 2 ∧ s.dev.f F.DBG_CTL_OPENED = 0 :=
  ⟨(st (fsets base [(F.LC_STAT_STATE,2),(F.DBG_CTL_HALTED,1)])), by decide⟩
theorem meets_DebugAndTasks_3 : ∃ (s : State),
    s.dev.alive = true ∧ s.dev.f F.DBG_CTL_OPENED = 1 ∧ s.dev.f F.DBG_CTL_HALTED = 1 :=
  ⟨(st (fsets base [(F.DBG_CTL_OPENED,1),(F.DBG_CTL_HALTED,1)])), by decide⟩
theorem meets_DebugAndTasks_4 : ∃ (s : State),
    s.dev.alive = true ∧ s.dev.f F.LC_STAT_STATE ≠ 2 ∧ s.dev.f F.DBG_CTL_OPENED = 0 :=
  ⟨(st (fsets base [(F.LC_STAT_STATE,1)])), by decide⟩
theorem meets_Advance_1 : ∃ (key : BitVec 2) (target : Byte) (cut : Option (Fin 8)) (c : Fin 8) (r : Nat) (s : State),
    s.dev.alive = true ∧ s.dev.f F.LC_STAT_BUSY = 0 ∧ s.dev.advanceBar target.toNat = none ∧
      (target = 1 ∨ target = 3 ∧ s.dev.f F.LC_STAT_STATE = 0 ∨ s.dev.lcUnsigned 1 key.toNat target.toNat = none) ∧ s.dev.f F.LC_STAT_STATE = 0 :=
  ⟨1, 1, none, 4, 1, (st (base.putNv [(4,5)])), by decide⟩
theorem meets_Advance_2 : ∃ (key : BitVec 2) (target : Byte) (cut : Option (Fin 8)) (c : Fin 8) (r : Nat) (s : State),
    s.dev.alive = true ∧ s.dev.f F.LC_STAT_BUSY = 0 ∧ s.dev.advanceBar target.toNat = some r ∧ r < 16 ∧ s.dev.f F.LC_STAT_STATE = 3 :=
  ⟨1, 3, (some 2), 4, 1, (st (fsets base [(F.LC_STAT_STATE,3)])), by decide⟩
theorem meets_Advance_3 : ∃ (key : BitVec 2) (target : Byte) (cut : Option (Fin 8)) (c : Fin 8) (r : Nat) (s : State),
    s.dev.alive = true ∧ s.dev.f F.LC_STAT_BUSY = 0 ∧ s.dev.advanceBar target.toNat = none ∧ target ≠ 1 ∧
      (¬(target = 3 ∧ s.dev.f F.LC_STAT_STATE = 0)) ∧ s.dev.lcUnsigned 1 key.toNat target.toNat = some r ∧ r < 16 :=
  ⟨1, 2, none, 4, 3, (st (fsets base [(F.LC_STAT_STATE,1),(F.LC_STAT_PRESENT,4)])), by decide⟩
theorem meets_LifeCycleCommands_1 : ∃ (key : BitVec 2) (k : Fin 4) (arg : Byte) (op : BitVec 4) (s : State),
    s.dev.alive = true ∧ s.dev.f F.LC_STAT_BUSY = 0 ∧ s.dev.f F.LC_STAT_STATE ≤ 1 ∧ k.val ≠ 0 ∧ s.dev.fbit F.LC_STAT_PRESENT k = true ∧
      (1 < s.dev.f F.LC_STAT_STATE ∨ within 1 3 arg.toNat = false) ∧ (within 1 2 (s.dev.f F.LC_STAT_STATE) = false ∨ 3 < arg.toNat) ∧
      s.dev.f F.LC_STAT_STATE = 1 ∧ s.dev.fuseBar arg.toNat = none ∧
      (s.dev.f F.LC_STAT_STATE = 1 ∨ s.dev.f F.LC_STAT_STATE = 2 ∧ s.dev.ownerKeys ≠ [k.val]) ∧ key.toNat ≠ k.val ∧ within 1 4 op.toNat = false :=
  ⟨1, 2, 0xB, 9, (st ((fsets base [(F.LC_STAT_STATE,1),(F.LC_STAT_PRESENT,0xF)]))), by decide⟩
theorem meets_LifeCycleCommands_2 : ∃ (key : BitVec 2) (k : Fin 4) (arg : Byte) (op : BitVec 4) (s : State),
    s.dev.alive = true ∧ s.dev.f F.LC_STAT_BUSY = 0 ∧ s.dev.f F.LC_STAT_STATE ≤ 1 ∧ k.val ≠ 0 ∧ s.dev.fbit F.LC_STAT_PRESENT k = false ∧
      s.dev.f F.LC_STAT_STATE = 0 ∧ s.dev.fuseBar arg.toNat = none :=
  ⟨1, 2, 0xB, 9, (st base), by decide⟩
theorem meets_LifeCycleCommands_3 : ∃ (key : BitVec 2) (k : Fin 4) (arg : Byte) (op : BitVec 4) (s : State),
    s.dev.alive = true ∧ s.dev.f F.LC_STAT_BUSY = 0 ∧ 1 < s.dev.f F.LC_STAT_STATE ∧ s.dev.f F.LC_STAT_STATE = 2 ∧ s.dev.ownerKeys = [k.val] :=
  ⟨2, 1, 0xF, 0, (st ((fsets base [(F.LC_STAT_STATE,2),(F.LC_STAT_PRESENT,0x2)]))), by decide⟩
theorem meets_LifeCycleCommands_4 : ∃ (key : BitVec 2) (k : Fin 4) (arg : Byte) (op : BitVec 4) (s : State),
    s.dev.alive = true ∧ s.dev.f F.LC_STAT_BUSY = 0 ∧ (s.dev.f F.LC_STAT_STATE = 1 ∨ s.dev.f F.LC_STAT_STATE = 2 ∧ s.dev.ownerKeys ≠ [k.val]) ∧
      key.toNat = k.val :=
  ⟨2, 2, 0xB, 0, (st ((fsets base [(F.LC_STAT_STATE,1),(F.LC_STAT_PRESENT,0xF)]))), by decide⟩
theorem meets_LifeCycleCommands_5 : ∃ (key : BitVec 2) (k : Fin 4) (arg : Byte) (op : BitVec 4) (s : State),
    s.dev.alive = true ∧ s.dev.f F.LC_STAT_BUSY = 0 ∧ s.dev.f F.LC_STAT_STATE = 0 ∧ arg.toNat % 8 ≠ 0 ∧ s.dev.recov.fuseWindow = true :=
  ⟨2, 2, 0xB, 0, (st (base.putRecov {fuseWindow := true})), by decide⟩
theorem meets_LifeCycleCommands_6 : ∃ (key : BitVec 2) (k : Fin 4) (arg : Byte) (op : BitVec 4) (s : State),
    s.dev.alive = true ∧ s.dev.f F.LC_STAT_BUSY = 1 :=
  ⟨2, 1, 0x5, 9, (st ((fsets base [(F.LC_STAT_BUSY,1)]))), by decide⟩
end W09

/-! ### Witnesses: chunk host -/

namespace W10
def x0 : AccessWorld := {}
def h0 := fsets base [(F.EVB_INT0_EN 3,0x77),(F.EVB_PEND_PEND 3,0x7F),(F.MRAM_STAT_CORRECTED,5)]
def fr (v : Nat) (c : Nat) : BitVec 64 := let b := v; BitVec.ofNat 64 (b * 256 + ((crc8 (beBytes 7 b)).toNat + c) % 256)
def q0 := (fsets h0 [(F.DMA_SRC_ADDR 2, 0x2C6C),(F.EVB_CORE_EN 3,0x99887766),(F.DMA_CTL_LEN 2,10),(F.DMA_DST_ADDR 2,0x100),(F.DMA_STAT_POS 2,4)]).putEv {dmaWait := [1,2]}

theorem meets_HostFrames_1 : ∃ (addr : BitVec 16) (k : Fin 6) (w : BitVec 32) (rw : ReadWorld) (x : AccessWorld) (s : State),
    s.dev.takesFrames addr.toNat ∧ (regAt addr.toNat).isSome = true ∧ (s.dev.takesFrames addr.toNat) ∧
      (∃ q ∈ regAt addr.toNat, (q.mask (fun p => p == .w1s) = 0#32) ∧ (addr.toNat ∉ [R.HOST_STAT, R.TIME_LO, R.EVF_DATA0, R.IMGDATA, R.NVDATA, R.REC_DATA, R.PTB_FRAC, R.PRISM_TMEAN]) ∧ ((addr.toNat = R.PWR_STAT → rw.pressed = false))) :=
  ⟨0x2C64, 3, 0x12345678, {}, x0, (st h0), by decide⟩
theorem meets_HostFrames_2 : ∃ (addr : BitVec 16) (k : Fin 6) (w : BitVec 32) (rw : ReadWorld) (x : AccessWorld) (s : State),
    s.dev.takesFrames addr.toNat ∧ regAt addr.toNat = none :=
  ⟨0xF000, 3, 0x12345678, {}, x0, (st h0), by decide⟩
theorem meets_RefusedFrames_1 : ∃ (addr : BitVec 16) (x : SpiFrame) (r : Response) (s : State),
    s.dev.alive = true ∧ s.dev.pw.hostReady = true ∧ s.dev.host.burst = [] ∧ addr.toNat % 4 ≠ 0 ∧ frameCrcOk x.bits = false :=
  ⟨0x2C65, {bits := fr 0x10300000000000 1}, {}, (st h0), by decide⟩
theorem meets_RefusedFrames_2 : ∃ (addr : BitVec 16) (x : SpiFrame) (r : Response) (s : State),
    s.dev.alive = true ∧ s.dev.pw.hostReady = true ∧ frameCrcOk x.bits = true ∧ frameOpOk x.bits = false ∧ s.dev.host.burst = [] ∧
      addr.toNat % 4 = 0 ∧ s.dev.host.last = some r ∧ r.stream = false :=
  ⟨0x2C64, {bits := fr 0xF0300000000000 0}, {status := 5, data := [7]}, (st (h0.putHost {last := some {status := 5, data := [7]}})), by decide⟩
theorem meets_RefusedFrames_3 : ∃ (addr : BitVec 16) (x : SpiFrame) (r : Response) (s : State),
    s.dev.alive = true ∧ s.dev.pw.hostReady = true ∧ s.dev.host.burst ≠ [] ∧ frameCrcOk x.bits = true ∧ frameOpOk x.bits = true ∧
      (s.dev.host.burst ≠ [] ∨ frameAddr x.bits % 4 ≠ 0) :=
  ⟨0x2C64, {bits := fr 0x10300000000000 0}, {}, (st (h0.putHost {burst := [1]})), by decide⟩
theorem meets_RefusedFrames_4 : ∃ (addr : BitVec 16) (x : SpiFrame) (r : Response) (s : State),
    s.dev.alive = true ∧ s.dev.pw.hostReady = true ∧ s.dev.host.burst = [] ∧ addr.toNat % 4 = 0 ∧ s.dev.host.last = none :=
  ⟨0x2C64, {bits := fr 0x10300000000000 0}, {}, (st (h0)), by decide⟩
theorem meets_RefusedFrames_5 : ∃ (addr : BitVec 16) (x : SpiFrame) (r : Response) (s : State),
    s.dev.alive = true ∧ s.dev.pw.hostReady = true ∧ s.dev.host.burst = [] ∧ addr.toNat % 4 = 0 ∧ s.dev.host.last = some r ∧ r.stream = true :=
  ⟨0x2C64, {bits := fr 0x10300000000000 0}, {status := 5, data := [7,8], stream := true}, (st (h0.putHost {last := some {status := 5, data := [7,8], stream := true}})), by decide⟩
theorem meets_Bursts_1 : ∃ (addr : BitVec 16) (k : Fin 6) (blen : Fin 11) (two : Fin 3) (ws : List Word) (crc : BitVec 8) (n : Option Nat) (rw : ReadWorld) (x : AccessWorld) (s : State),
    s.dev.takesFrames addr.toNat ∧ ws.length = 2 ^ blen.val ∧ burstCrcOk ws crc = true ∧ s.dev.alive = true ∧ s.dev.takesFrames 0 ∧
      0xFFFC < addr.toNat + 4 * (2 ^ blen.val - 1) :=
  ⟨0xFFFC, 3, 1, 2, [5,6], 0x0f, none, {}, x0, (st h0), by decide⟩
theorem meets_Bursts_2 : ∃ (addr : BitVec 16) (k : Fin 6) (blen : Fin 11) (two : Fin 3) (ws : List Word) (crc : BitVec 8) (n : Option Nat) (rw : ReadWorld) (x : AccessWorld) (s : State),
    s.dev.takesFrames addr.toNat ∧ ws.length = 2 ^ blen.val ∧ burstCrcOk ws crc = false ∧ s.dev.takesFrames 0 :=
  ⟨0xFFFC, 3, 2, 1, [5,6,7,8], 0x00, (some 3), {}, x0, (st h0), by decide⟩
theorem meets_Bursts_3 : ∃ (addr : BitVec 16) (k : Fin 6) (blen : Fin 11) (two : Fin 3) (ws : List Word) (crc : BitVec 8) (n : Option Nat) (rw : ReadWorld) (x : AccessWorld) (s : State),
    s.dev.alive = true ∧ s.dev.host.burstAddr = R.NVDATA :=
  ⟨0xFFFC, 3, 0, 1, [5], 0x00, (some 0), {}, x0, (st (h0.putHost {burst := [0x1234567], burstAddr := R.NVDATA})), by decide⟩
theorem meets_Bursts_4 : ∃ (addr : BitVec 16) (k : Fin 6) (blen : Fin 11) (two : Fin 3) (ws : List Word) (crc : BitVec 8) (n : Option Nat) (rw : ReadWorld) (x : AccessWorld) (s : State),
    s.dev.takesFrames addr.toNat ∧ addr.toNat + 4 * (2 ^ blen.val - 1) ≤ 0xFFFC :=
  ⟨0xFFFC, 3, 0, 1, [5], 0x00, (some 0), {}, x0, (st h0), by decide⟩
theorem meets_WritesByAccess_1 : ∃ (o : Origin) (addr : BitVec 16) (k : Fin 6) (t : Fin 16) (w : BitVec 32) (x : AccessWorld) (s : State),
    ((s.dev.alive = true) ∧ (o ≠ .debugger ∨ s.dev.f F.DBG_CTL_OPENED = 1)) ∧ s.dev.alive = true ∧ (o ≠ .debugger ∨ s.dev.f F.DBG_CTL_OPENED = 1) ∧
      s.dev.quiet ∧
      (∃ q ∈ regAt addr.toNat, (q.mask (fun p => p == .w1s) = 0#32) ∧ (s.dev.writable q addr.toNat = true) ∧ (s.dev.writeLive addr.toNat w x.t = none) ∧ (s.dev.writeOwn o addr.toNat w x = none) ∧ (s.dev.quiet)) :=
  ⟨.host, 0x2C68, 3, 5, 0xF0F0F0F0, x0, (st h0), by decide⟩
theorem meets_WritesByAccess_2 : ∃ (o : Origin) (addr : BitVec 16) (k : Fin 6) (t : Fin 16) (w : BitVec 32) (x : AccessWorld) (s : State),
    s.dev.alive = true ∧ o = .debugger ∧ s.dev.f F.DBG_CTL_OPENED = 0 ∧ addr.toNat ≠ R.IMGDATA :=
  ⟨.debugger, 0x2C68, 3, 5, 0xF0F0F0F0, x0, (st (fsets h0 [])), by decide⟩
theorem meets_WritesByAccess_3 : ∃ (o : Origin) (addr : BitVec 16) (k : Fin 6) (t : Fin 16) (w : BitVec 32) (x : AccessWorld) (s : State),
    ((s.dev.alive = true) ∧ (o ≠ .debugger ∨ s.dev.f F.DBG_CTL_OPENED = 1)) ∧ (∃ q ∈ regAt addr.toNat, (s.dev.writable q addr.toNat = false)) :=
  ⟨.host, (BitVec.ofNat 16 R.IMGRESULT), 3, 5, 0xF0F0F0F0, x0, (st h0), by decide⟩
theorem meets_TimeAndEvents_1 : ∃ (w : BitVec 32) (e : FifoEntry) (s : State),
    s.dev.alive = true ∧ s.dev.quiet ∧ s.dev.ev.fifo.head? = some e :=
  ⟨0xFEDCBA98, ⟨5,0x123456789A,true⟩, (st ((h0.putEv {fifo := [⟨5,0x123456789A,true⟩,⟨6,7,false⟩]}).putPw {h0.pw with time := 0x2233445566})), by decide⟩
theorem meets_TimeAndEvents_2 : ∃ (w : BitVec 32) (e : FifoEntry) (s : State),
    s.dev.alive = true ∧ s.dev.quiet ∧ s.dev.ev.fifo = [] :=
  ⟨0xFEDCBA98, ⟨5,0x123456789A,true⟩, (st h0), by decide⟩
theorem meets_DmaTransfers_1 : ∃ (n : Fin 8) (k : Fin 6) (w : BitVec 32) (s : State),
    s.dev.alive = true ∧ s.dev.running = true ∧ s.dev.ev.dmaWait.contains n.val = true ∧ s.dev.f (F.DMA_CTL_LEN n) ≠ 0 ∧
      s.dev.f (F.DMA_DST_ADDR n) + 4 * s.dev.f (F.DMA_STAT_POS n) + 4 ≤ 0x78000 ∧ s.dev.f (F.DMA_SRC_ADDR n) = R.EVB_CORE k ∧
      (w.getLsbD 31 = false ∨ s.dev.f (F.DMA_DST_ADDR n) + 4 * min (w.toNat % 8192) 4096 ≤ 0x78000) :=
  ⟨2, 3, 0x80000004, (st q0), by decide⟩
theorem meets_DmaTransfers_2 : ∃ (n : Fin 8) (k : Fin 6) (w : BitVec 32) (s : State),
    s.dev.alive = true ∧ w.getLsbD 31 = true ∧ 0x78000 < s.dev.f (F.DMA_DST_ADDR n) + 4 * min (w.toNat % 8192) 4096 :=
  ⟨2, 3, 0x80000004, (st (fsets q0 [(F.DMA_STAT_POS 2,9),(F.DMA_DST_ADDR 2,0x77FF4)])), by decide⟩
theorem meets_BusAccesses_1 : ∃ (o : Origin) (a : BitVec 32) (sz : Fin 3) (k : Fin 6) (v w : BitVec 32) (s : State),
    s.dev.alive = true ∧ a.toNat % 4 = 0 ∧ a.toNat < 0x80000 ∧ o ≠ .debugger ∧ s.dev.f F.DBG_CTL_OPENED = 0 :=
  ⟨.host, 0x100, 2, 3, 5, 0x12345678, (st h0), by decide⟩
theorem meets_BusAccesses_2 : ∃ (o : Origin) (a : BitVec 32) (sz : Fin 3) (k : Fin 6) (v w : BitVec 32) (s : State),
    s.dev.alive = true ∧ a.toNat % 4 = 0 ∧ within 0x10000000 0x103FFFFF a.toNat = true :=
  ⟨.core, 0x10000104, 2, 3, 5, 0x12345678, (st (h0.putNv [(0x105,7)])), by decide⟩
theorem meets_BusAccesses_3 : ∃ (o : Origin) (a : BitVec 32) (sz : Fin 3) (k : Fin 6) (v w : BitVec 32) (s : State),
    s.dev.alive = true ∧ within 0x78000 0x7FFFF a.toNat = true ∧ s.dev.supervisor = true :=
  ⟨.core, 0x78004, 1, 3, 5, 0x12345678, (st (fsets h0 [(F.DBG_CTL_OPENED,1)])), by decide⟩
end W10

/-! ### Witnesses: chunk sub -/

namespace W11
def z0 := fsets base [(F.CAP_EVT_START_EVT,0xFFFF),(F.CAP_EVT_STOP_EVT,0xFFFF),(F.EVB_WAKE_EN 1,0xFF),(F.EVB_FIFO_EN 1,0xFF),(F.EVB_FIFO_EN 2,0xFF)]
def z1 := (z0.putRaised [(33,7)]).putEv {fifo := List.replicate 64 ⟨1,2,false⟩}
def z2 := (fsets (z0.putRaised [(33,7)]) [(F.DMA_SRC_TRIG 2,33),(F.DMA_CTL_EN 2,1),(F.DMA_CTL_LEN 2,4)])
def z3 := (z2.putEv {dmaWait := [2]})

theorem meets_SoftwareEvents_1 : ∃ (bits : BitVec 6) (w : BitVec 32) (o : Origin) (x : AccessWorld) (s : State),
    s.dev.alive = true ∧ o ≠ .debugger :=
  ⟨0x2D, 0xFFFFFFF3, .core, {}, (st base), by decide⟩
theorem meets_LiveBounds_1 : ∃ (a : BitVec 16) (w : BitVec 32) (n : Fin 24) (lo hi : Byte) (k : Fin 32) (t : Nat) (frac : BitVec 16) (s : State),
    (s.dev.alive = true) ∧ s.dev.alive = true ∧ (s.dev.lensUsed n = false ∨ hi.toNat < lo.toNat) ∧ s.dev.f (F.SLOT_MAP_EN k) = 0 ∧
      s.dev.ptbTime t = s.dev ∧ (∃ x ∈ liveField a.toNat, (s.dev.liveBound x (x.read w) = true) ∧ (s.dev.running = false)) :=
  ⟨(BitVec.ofNat 16 (R.C_ILIM 2)), 0x00AA0055, 7, 5, 4, 9, 0, 3, (st ((fsets base [(⟨R.C_ILIM 2, 16, 16⟩,0x60)]).putPw {base.pw with engines := false})), by decide⟩
theorem meets_LiveBounds_2 : ∃ (a : BitVec 16) (w : BitVec 32) (n : Fin 24) (lo hi : Byte) (k : Fin 32) (t : Nat) (frac : BitVec 16) (s : State),
    (s.dev.alive = true) ∧ (∃ x ∈ liveField a.toNat, (s.dev.liveBound x (x.read w) = false)) :=
  ⟨(BitVec.ofNat 16 (R.C_ILIM 2)), 0x00AA0065, 7, 5, 4, 9, 0, 3, (st ((fsets base [(⟨R.C_ILIM 2, 16, 16⟩,0x60)]))), by decide⟩
theorem meets_LiveBounds_3 : ∃ (a : BitVec 16) (w : BitVec 32) (n : Fin 24) (lo hi : Byte) (k : Fin 32) (t : Nat) (frac : BitVec 16) (s : State),
    s.dev.alive = true ∧ s.dev.f (F.SLOT_MAP_EN k) = 1 :=
  ⟨(BitVec.ofNat 16 (R.SYS_SETPT)), 0x1200, 7, 5, 4, 9, 0, 3, (st (fsets base [(F.SLOT_MAP_EN 9,1),(F.SYS_BOUNDS_SETPOINT_MIN,0x1200),(F.SYS_BOUNDS_SETPOINT_MAX,0x1200)])), by decide⟩
theorem meets_RaisesArePending_1 : ∃ (n : Fin 192) (t : Nat) (d : Dev),
    (n.val, t) ∈ d.raised ∧ d.fbit (F.EVB_WAKE_EN (n / 32)) (n % 32) = true :=
  ⟨33, 7, ((z0.set (F.EVB_PEND_PEND 0) 3).putRaised [(100,4),(33,7),(33,9)]), by decide⟩
theorem meets_RaisesArePending_2 : ∃ (n : Fin 192) (t : Nat) (d : Dev),
    d.pendingEvent n = true :=
  ⟨1, 7, ((z0.set (F.EVB_PEND_PEND 0) 3).putRaised [(100,4),(33,7),(33,9)]), by decide⟩
theorem meets_EventDelivery_1 : ∃ (n m : Fin 192) (t : Nat) (k : Fin 8) (d : Dev),
    d.alive = true ∧ d.cap.wantOpen = none ∧ d.cap.wantClose = none ∧ 192 ≤ d.f F.CAP_EVT_START_EVT ∧ 192 ≤ d.f F.CAP_EVT_STOP_EVT ∧
      ((∀ j : Fin 8, j ≠ k → d.f (F.DMA_CTL_EN j) = 0)) ∧ d.raised = [(n.val, t)] ∧ d.fbit (F.EVB_FIFO_EN (n / 32)) (n % 32) = true ∧
      d.fbit (F.EVB_FIFO_EN 0) 16 = false ∧ d.f (F.DMA_CTL_EN k) = 0 ∧ d.ev.fifo.length = 64 ∧ d.f F.EVF_STAT_LOST = 0 :=
  ⟨33, 66, 7, 2, z1, by decide⟩
theorem meets_EventDelivery_2 : ∃ (n m : Fin 192) (t : Nat) (k : Fin 8) (d : Dev),
    d.alive = true ∧ d.cap.wantOpen = none ∧ d.cap.wantClose = none ∧ 192 ≤ d.f F.CAP_EVT_START_EVT ∧ 192 ≤ d.f F.CAP_EVT_STOP_EVT ∧
      ((∀ j : Fin 8, j ≠ k → d.f (F.DMA_CTL_EN j) = 0)) ∧ d.raised = [(n.val, t)] ∧ d.f (F.DMA_SRC_TRIG k) = n ∧ d.f (F.DMA_CTL_EN k) = 1 ∧
      d.f (F.DMA_CTL_LEN k) ≠ 0 ∧ n.val ≠ 16 ∧ n.val ≠ 21 ∧ d.ev.dmaWait.contains k.val = true :=
  ⟨33, 66, 7, 2, z3, by decide⟩
theorem meets_EventDelivery_3 : ∃ (n m : Fin 192) (t : Nat) (k : Fin 8) (d : Dev),
    d.alive = true ∧ d.cap.wantOpen = none ∧ d.cap.wantClose = none ∧ 192 ≤ d.f F.CAP_EVT_START_EVT ∧ 192 ≤ d.f F.CAP_EVT_STOP_EVT ∧
      ((∀ j : Fin 8, j ≠ k → d.f (F.DMA_CTL_EN j) = 0)) ∧ d.raised = [(m.val, t), (n.val, t)] ∧ n < m ∧
      d.fbit (F.EVB_FIFO_EN (n / 32)) (n % 32) = true ∧ d.fbit (F.EVB_FIFO_EN (m / 32)) (m % 32) = true ∧ d.f (F.DMA_CTL_EN k) = 0 ∧
      d.ev.fifo.length ≤ 62 :=
  ⟨33, 66, 7, 2, ((z0.set (F.EVB_PEND_PEND 0) 3).putRaised [(66,7),(33,7)]), by decide⟩
theorem meets_EventDelivery_4 : ∃ (n m : Fin 192) (t : Nat) (k : Fin 8) (d : Dev),
    d.alive = true ∧ d.cap.wantOpen = none ∧ d.cap.wantClose = none ∧ 192 ≤ d.f F.CAP_EVT_START_EVT ∧ 192 ≤ d.f F.CAP_EVT_STOP_EVT ∧
      ((∀ j : Fin 8, j ≠ k → d.f (F.DMA_CTL_EN j) = 0)) ∧ d.raised = [(n.val, t)] ∧ d.f (F.DMA_SRC_TRIG k) = n ∧ d.f (F.DMA_CTL_EN k) = 1 ∧
      d.f (F.DMA_CTL_LEN k) ≠ 0 ∧ n.val ≠ 16 ∧ n.val ≠ 21 ∧ d.ev.dmaWait.contains k.val = false :=
  ⟨33, 66, 7, 2, z2, by decide⟩
theorem meets_MemoriesStayCanonical_1 : ∃ (w : BitVec 32) (n : Fin 8) (k : Fin 6) (o : Origin) (x : AccessWorld) (s : State),
    Memory.wf s.dev = true :=
  ⟨5, 2, 3, .host, {}, (st (fsets z3 [(F.DMA_SRC_ADDR 2, R.EVB_CORE 3),(F.EVB_CORE_EN 3, 9)])), by decide⟩
end W11

end Sys2Proof.Tests
end

section
/-! CONTRACT of MAIN's PORT_STAT, a status field that the end of every command sets, whatever the command wrote (R13, R214). -/
namespace Sys2Proof.Machine

theorem Dev.f_setB_ne (d : Dev) {x y : Field} (b : Bool) (h : x.addr ≠ y.addr) : (d.setB y b).f x = d.f x := Dev.f_set_ne d _ h

/-- A change that leaves the power state alone does not power the logic die up or down. -/
theorem alive_of_rest {ps : List Part} {d e : Dev} (h : e.rest ps = d.rest ps) (hp : ps.contains .pw = false) : e.alive = d.alive := by
  have hpw : (e.rest ps).pw = (d.rest ps).pw := congrArg Dev.pw h
  simp only [Dev.rest, hp, Bool.false_eq_true, if_false] at hpw
  simp only [Dev.alive, hpw]

theorem EndSame.alive {d e : Dev} (h : EndSame d e) : e.alive = d.alive := alive_of_rest (d := d.still) (e := e.still) h.rest (by decide)

theorem f_settlePorts_mainContract (d : Dev) : d.settlePorts.f (F.PORT_STAT_CONTRACT 0) = 1 := by
  unfold Dev.settlePorts
  rw [Dev.f_setB_ne _ _ (by decide), Dev.f_set_same _ _ _ (by decide)]
  rfl

theorem f_settle_mainContract {d : Dev} (h : d.alive = true) : d.settle.f (F.PORT_STAT_CONTRACT 0) = 1 := by
  unfold Dev.settle
  rw [if_neg (by rw [Dev.alive_set, h]; decide)]
  unfold Dev.settleInts
  rw [Dev.f_putPw, Dev.f_putBalls, Dev.f_setB_ne _ _ (by decide), Dev.f_setB_ne _ _ (by decide), f_settlePorts_mainContract]

/-- CONTRACT of MAIN reads 1 after every command of a powered logic die. -/
theorem f_finish_mainContract {d : Dev} (h : d.alive = true) : (finish d).f (F.PORT_STAT_CONTRACT 0) = 1 := by
  have hend : EndSame d (Dev.deliverAll 8 (d.putPw { d.pw with coreWake := false })).writeLogs :=
    .trans (.trans (.wake d false) (.deliverAll 8 _)) (.writeLogs _)
  exact f_settle_mainContract (hend.alive.trans h)

/-- The row of the register map that holds the PORT_STAT registers: LOST is W1C, every other field RO. -/
def portStatRow : RegDesc :=
  ⟨R.PORT_STAT 0, 16, 5, 0, [⟨16, 16, .ro, []⟩, ⟨8, 7, .ro, []⟩, ⟨6, 1, .w1c, []⟩, ⟨5, 1, .ro, []⟩, ⟨4, 1, .ro, []⟩, ⟨3, 1, .ro, []⟩,
    ⟨2, 1, .ro, []⟩, ⟨0, 2, .ro, []⟩]⟩

theorem regAt_portStat_main : regAt (R.PORT_STAT 0) = some portStatRow := by decide

/-- The device on and out of reset, every register at its reset value: no command has ended yet. -/
def justReleased : Dev := { pw := { inReset := false, absent := false } }

end Sys2Proof.Machine

open Sys2Proof Sys2Proof.Machine

/-- Refutes O49: the clause of the access codes fails for a register that also holds a status field which the end of the command sets. The host writes 1
to LOST of MAIN's PORT_STAT in the state `justReleased`. By the codes the word stays 0, and with it CONTRACT, an RO field; but the end of the command
has set CONTRACT. -/
theorem not_registerWrites : ¬ Obligations.RegisterWrites := by
  unfold Obligations.RegisterWrites
  rintro ⟨hwrites, -⟩
  obtain ⟨hcodes, -⟩ := (hwrites .host (BitVec.ofNat 16 (R.PORT_STAT 0)) 0 0 0x40#32 {} { dev := justReleased } rfl).1 (.inl (by decide))
  obtain ⟨e, -, hkeeps, -, hread⟩ := hcodes portStatRow regAt_portStat_main (by decide) (by decide) (by decide) (by decide) (by decide)
  have halive : e.alive = true := alive_of_rest hkeeps.2 (by decide)
  have hword : (finish e).rd (R.PORT_STAT 0) = 0#32 := hread.trans (by decide)
  have hclear : (finish e).f (F.PORT_STAT_CONTRACT 0) = 0 := congrArg (F.PORT_STAT_CONTRACT 0).read hword
  exact absurd (hclear.symm.trans (f_finish_mainContract halive)) (by decide)
end

section
/-! The parts of the state that the effect of a command leaves alone, and a mirror fault of the course that a transfer of the lead brings in (R156, R186). -/
namespace Sys2Proof.Machine

/-- A change that does not name the power path leaves its hidden state alone. -/
theorem path_of_rest {ps : List Part} {d e : Dev} (h : e.rest ps = d.rest ps) (hp : ps.contains .path = false) : e.path = d.path := by
  have hpath : (e.rest ps).path = (d.rest ps).path := congrArg Dev.path h
  simpa only [Dev.rest, hp, Bool.false_eq_true, if_false] using hpath

theorem path_finish (d : Dev) : (finish d).path = d.path := path_of_rest (d := d.still) (e := (finish d).still) (EndSame.finish d).rest (by decide)

/-- A command whose frame does not name the power path leaves its hidden state alone. -/
theorem path_of_effect {i : Instr} {s t : State} {fs : List Field} {ps : List Part} {evs : List Nat} {P : Dev → Prop}
    (h : effect i s fs ps evs P) (hexec : exec i s = .next t) (hp : ps.contains .path = false) : t.dev.path = s.dev.path := by
  obtain ⟨e, he, ⟨-, hrest⟩, -⟩ := h
  obtain rfl : { s with dev := finish e } = t := Host.Outcome.next.inj (he.symm.trans hexec)
  exact (path_finish e).trans (path_of_rest hrest hp)

theorem exec_mirrorFault (c : Fin 6) (s : State) : exec (.mirrorFault c) s = .next { s with dev := finish (mirrorFault s.dev c) } := rfl

/-- A transfer of the lead from SERV to MAIN, out of SOURCE (R186): course 0 on MAIN delivers in I_PORT with tile 0, and the update just over was the
COUNT-th in which its lanes differed (R155). -/
def transferToMain : Dev :=
  let d : Dev := { pw := { inReset := false, absent := false, engines := true, coreRuns := true, hostReady := true } }
  let d := [(F.PATH_STAT_STATE, 4), (F.PATH_STAT_LEAD, 5), (F.PORT_STAT_QSTATE 0, 2), (F.GUARD_STAT_FET_ON 0, 1), (F.C_MAP_ENABLE 0, 1),
    (F.C_MAP_PORT 0, 1), (F.C_MODE_MODE 0, 3), (F.C_RSTAT_DELIVER 0, 1), (F.C_TILES_WORK_MASK 0, 1), (F.TILE_MAP_ROLE 0, 1),
    (F.TILE_STAT_STATE 0, 3)].foldl (fun d x => d.set x.1 x.2) d
  (d.putPath { incoming := 1, before := 1 }).modCourse 0 fun k => { k with mmDue := true }

/-- The mirror fault stops the incoming course, and the transfer is abandoned (R211). -/
theorem incoming_mirrorFault_transferToMain : (mirrorFault transferToMain 0).path.incoming = 0 := by decide

end Sys2Proof.Machine

open Sys2Proof Sys2Proof.Machine

/-- Refutes O19: the frame of a mirror fault that stops its course leaves out the power path, but the fault may stop the incoming course of a transfer, which
stands alone and does not lead. In the state `transferToMain` the transfer to MAIN is then abandoned. -/
theorem not_absenceAndHandback : ¬ Obligations.AbsenceAndHandback := by
  unfold Obligations.AbsenceAndHandback
  intro h
  obtain ⟨-, -, -, -, -, hframe⟩ := h 0 0 0 0 { dev := transferToMain } (by decide)
  have heffect := hframe (by decide) (by decide) (by decide) (by decide) (by decide) (by decide) (by decide)
  have hkept : (mirrorFault transferToMain 0).path = transferToMain.path :=
    (path_finish _).symm.trans (path_of_effect (t := { dev := finish (mirrorFault transferToMain 0) }) heffect (exec_mirrorFault 0 _) (by decide))
  exact absurd (incoming_mirrorFault_transferToMain.symm.trans (congrArg Path.incoming hkept)) (by decide)
end

section
/-! The end of a command: what it leaves alone, part by part, and the events raised, which are pending afterwards (R446). -/
namespace Sys2Proof.Machine

/-! ### Parts that the end of a command leaves alone -/

variable {d e : Dev}

theorem EndSame.boot (h : EndSame d e) : e.boot = d.boot := congrArg (·.boot) h.rest
theorem EndSame.img (h : EndSame d e) : e.img = d.img := congrArg (·.img) h.rest
theorem EndSame.slots (h : EndSame d e) : e.slots = d.slots := congrArg (·.slots) h.rest
theorem EndSame.live (h : EndSame d e) : e.live = d.live := congrArg (·.live) h.rest
theorem EndSame.recov (h : EndSame d e) : e.recov = d.recov := congrArg (·.recov) h.rest
theorem EndSame.readData (h : EndSame d e) : e.readData = d.readData := congrArg (·.readData) h.rest
theorem EndSame.resetCause (h : EndSame d e) : e.pw.resetCause = d.pw.resetCause := congrArg (·.pw.resetCause) h.rest

@[simp] theorem alive_finish (d : Dev) : (finish d).alive = d.alive := (EndSame.finish d).alive
@[simp] theorem boot_finish (d : Dev) : (finish d).boot = d.boot := (EndSame.finish d).boot
@[simp] theorem img_finish (d : Dev) : (finish d).img = d.img := (EndSame.finish d).img
@[simp] theorem slots_finish (d : Dev) : (finish d).slots = d.slots := (EndSame.finish d).slots
@[simp] theorem live_finish (d : Dev) : (finish d).live = d.live := (EndSame.finish d).live
@[simp] theorem recov_finish (d : Dev) : (finish d).recov = d.recov := (EndSame.finish d).recov
@[simp] theorem readData_finish (d : Dev) : (finish d).readData = d.readData := (EndSame.finish d).readData
@[simp] theorem resetCause_finish (d : Dev) : (finish d).pw.resetCause = d.pw.resetCause := (EndSame.finish d).resetCause

/-! ### Pending bits -/

/-- Every event pending in `d` is pending in `e`. -/
structure PendKept (d e : Dev) : Prop where
  pend : ∀ n < 192, d.pendingEvent n = true → e.pendingEvent n = true

theorem PendKept.refl (d : Dev) : PendKept d d := ⟨fun _ _ h => h⟩

theorem PendKept.trans {a b c : Dev} (h : PendKept a b) (g : PendKept b c) : PendKept a c := ⟨fun n hn hp => g.pend n hn (h.pend n hn hp)⟩

/-- A write of a register other than the pending bits. -/
theorem PendKept.set (d : Dev) {y : Field} (v : Nat) (h : ∀ k : Fin 6, R.EVB_PEND k ≠ y.addr) : PendKept d (d.set y v) := ⟨fun n hn hp => by
  rw [Dev.pendingEvent, Dev.fbit, Dev.f_set_ne d v (h ⟨n / 32, by omega⟩)]
  exact hp⟩

theorem PendKept.putRaised (d : Dev) (x : List (Nat × Nat)) : PendKept d (d.putRaised x) := ⟨fun _ _ h => h⟩
theorem PendKept.putFaults (d : Dev) (x : List LogReq) : PendKept d (d.putFaults x) := ⟨fun _ _ h => h⟩
theorem PendKept.putFreeCount (d : Dev) (x : Nat) : PendKept d (d.putFreeCount x) := ⟨fun _ _ h => h⟩
theorem PendKept.putPw (d : Dev) (x : PowerState) : PendKept d (d.putPw x) := ⟨fun _ _ h => h⟩
theorem PendKept.putEv (d : Dev) (x : EventState) : PendKept d (d.putEv x) := ⟨fun _ _ h => h⟩
theorem PendKept.putLog (d : Dev) (x : FaultLog) : PendKept d (d.putLog x) := ⟨fun _ _ h => h⟩
theorem PendKept.putCap (d : Dev) (x : Capture) : PendKept d (d.putCap x) := ⟨fun _ _ h => h⟩
theorem PendKept.putNand (d : Dev) (x : Nand) : PendKept d (d.putNand x) := ⟨fun _ _ h => h⟩
theorem PendKept.settleInts (d : Dev) : PendKept d d.settleInts := ⟨fun _ _ h => h⟩

theorem PendKept.ite {c : Prop} [Decidable c] {a b : Dev} (ha : PendKept d a) (hb : PendKept d b) : PendKept d (if c then a else b) := by
  split
  · exact ha
  · exact hb

theorem PendKept.foldl {β : Type} (g : Dev → β → Dev) (l : List β) (hg : ∀ d, ∀ x ∈ l, PendKept d (g d x)) (d : Dev) : PendKept d (l.foldl g d) := by
  induction l generalizing d with
  | nil => exact .refl d
  | cons x t ih => exact (hg d x (List.mem_cons_self ..)).trans (ih (fun d y hy => hg d y (List.mem_cons_of_mem _ hy)) _)

theorem PendKept.each (n : Nat) (g : Dev → Nat → Dev) (hg : ∀ d, ∀ k < n, PendKept d (g d k)) (d : Dev) : PendKept d (d.each n g) :=
  .foldl g _ (fun d k hk => hg d k (List.mem_range.1 hk)) d

theorem PendKept.raise (d : Dev) (b n : Nat) : PendKept d (d.raise b n) := .ite (.putRaised _ _) (.refl d)

/-- The pending bit that a delivery sets, and the others, which stay. -/
theorem pendingEvent_setBit (d : Dev) (m n : Nat) :
    (d.setBit (F.EVB_PEND_PEND (n / 32)) (n % 32) true).pendingEvent m = (decide (m = n) || d.pendingEvent m) := by
  unfold Dev.pendingEvent Dev.fbit Dev.setBit
  by_cases hb : m / 32 = n / 32
  · rw [hb, Dev.f_set_same _ _ _ (by simp [F.EVB_PEND_PEND]), Nat.testBit_mod_two_pow, withBit_testBit]
    have hlt : m % 32 < (F.EVB_PEND_PEND (n / 32)).width := Nat.mod_lt _ (by decide)
    have hiff : (m % 32 = n % 32) ↔ m = n := by omega
    simp only [hlt, hiff, decide_true, Bool.true_and]
    split <;> simp_all
  · have hne : R.EVB_PEND (m / 32) ≠ R.EVB_PEND (n / 32) := by simp only [R.EVB_PEND]; omega
    rw [Dev.f_set_ne _ _ hne, decide_eq_false (by omega), Bool.false_or]

theorem PendKept.dmaRequest (d : Dev) (n : Nat) : PendKept d (d.dmaRequest n) := by
  have hne : ∀ k : Fin 6, R.EVB_PEND k ≠ (F.DMA_STAT_OVERRUN n).addr := by
    intro k; simp only [R.EVB_PEND, F.DMA_STAT_OVERRUN, R.DMA_STAT]; omega
  exact .ite (.refl d) (.ite (.trans (.set d _ hne) (.raise _ _ _)) (.putEv _ _))

theorem PendKept.fifoPush (d : Dev) (n t : Nat) : PendKept d (d.fifoPush n t) := by
  unfold Dev.fifoPush
  have h : ∀ x, PendKept d ((d.incSat F.EVF_STAT_LOST).putEv x) := fun x => .trans (.set d _ (by decide)) (.putEv _ _)
  exact .ite (.refl d) (.ite (.putEv _ _) (.ite (.trans (h _) (.raise _ _ _)) (h _)))

/-- What a delivery does after it has set the pending bit: the core's wake, the FIFO and the DMA channels. -/
theorem pendKept_setBit_deliver (d : Dev) (x : Nat × Nat) :
    PendKept (d.setBit (F.EVB_PEND_PEND (x.1 % 192 / 32)) (x.1 % 192 % 32) true) (d.deliver x) := by
  unfold Dev.deliver
  dsimp only
  refine .trans ?_ (.each _ _ (fun d k _ => .ite (.dmaRequest d k) (.refl d)) _)
  exact .trans (.ite (.putPw _ _) (.refl _)) (.fifoPush _ _ _)

theorem PendKept.deliver (d : Dev) (x : Nat × Nat) : PendKept d (d.deliver x) :=
  .trans ⟨fun m _ hp => by rw [pendingEvent_setBit, hp, Bool.or_true]⟩ (pendKept_setBit_deliver d x)

theorem pendingEvent_deliver (d : Dev) {x : Nat × Nat} (h : x.1 < 192) : (d.deliver x).pendingEvent x.1 = true := by
  refine (pendKept_setBit_deliver d x).pend x.1 h ?_
  rw [Nat.mod_eq_of_lt h, pendingEvent_setBit]
  simp

/-! ### Capture windows -/

theorem PendKept.shutStore (d : Dev) (k : Nat) : PendKept d (d.shutStore k) :=
  .ite (.refl d) (.trans (.trans (.putNand d _) (.set _ _ (by decide))) (.raise _ _ _))

theorem PendKept.startErase (d : Dev) (j : Nat) : PendKept d (d.startErase j) :=
  .trans (.set d _ (y := F.LOG_TAIL_OLDEST) (by decide)) (.putNand _ _)

theorem PendKept.eraseAhead (d : Dev) : PendKept d d.eraseAhead := by
  unfold Dev.eraseAhead
  refine .ite (.refl d) ?_
  split
  · exact .refl d
  · exact .ite (.shutStore _ _) (.ite (.refl d) (.startErase _ _))

theorem PendKept.missWindow (d : Dev) : PendKept d d.missWindow := .trans (.set d _ (y := F.CAP_CNT_MISSED) (by decide)) (.raise _ _ _)

theorem PendKept.modHalf (d : Dev) (h : Nat) (g : Half → Half) : PendKept d (d.modHalf h g) := .putCap _ _

theorem PendKept.takeFrame (d : Dev) : PendKept d d.takeFrame := by
  unfold Dev.takeFrame
  dsimp only
  exact .trans (.trans (.trans (.modHalf d _ _) (.set _ _ (y := F.CAP_FRAMES_FRAMES) (by decide))) (.putCap _ _)) (.putFreeCount _ _)

theorem pend_ne_halfState (h : Nat) : ∀ k : Fin 6, R.EVB_PEND k ≠ (if (h == 0) = true then F.CAP_STAT_STATE_A else F.CAP_STAT_STATE_B).addr := by
  split <;> decide

theorem PendKept.openWindow (d : Dev) (c : Nat) : PendKept d (d.openWindow c) := by
  unfold Dev.openWindow
  refine .ite (.refl d) ?_
  dsimp only
  refine .trans (b := d.inc F.CAP_CYCLE_CYCLE) (.set d _ (by decide)) ?_
  split
  · exact .missWindow _
  · refine .ite (.missWindow _) (.trans (.trans (.trans ?_ (.takeFrame _)) (.raise _ _ _)) (.eraseAhead _))
    refine .trans (.trans (.trans ?_ (.set _ _ (y := F.CAP_STAT_HALF) (by decide))) (.set _ _ (y := F.CAP_FRAMES_FRAMES) (by decide)))
      (.set _ _ (y := F.CAP_CNT_WINDOWS) (by decide))
    exact .trans (.trans (.modHalf _ _ _) (.set _ _ (pend_ne_halfState _))) (.set _ _ (y := F.CAP_STAT_OPEN) (by decide))

theorem PendKept.freeHalf (d : Dev) (h : Nat) : PendKept d (d.freeHalf h) := .trans (.putCap d _) (.set _ _ (pend_ne_halfState _))

theorem PendKept.closeWindow (d : Dev) (c : Nat) : PendKept d (d.closeWindow c) := by
  unfold Dev.closeWindow
  refine .ite (.refl d) ?_
  dsimp only
  have h : ∀ g, PendKept d (((d.modHalf (d.f F.CAP_STAT_HALF) g).set F.CAP_STAT_OPEN 0).raise 5 24) := fun g =>
    .trans (.trans (.modHalf d _ g) (.set _ _ (by decide))) (.raise _ _ _)
  exact .ite (.trans (.trans (h _) (.freeHalf _ _)) (.set _ _ (y := F.CAP_CNT_MISSED) (by decide)))
    (.trans (.trans (h _) (.putCap _ _)) (.set _ _ (pend_ne_halfState _)))

theorem PendKept.windows (d : Dev) : PendKept d d.windows := by
  unfold Dev.windows
  dsimp only
  generalize d.cap.wantClose = c
  generalize d.cap.wantOpen = o
  refine .trans (.putCap d { d.cap with wantOpen := none, wantClose := none }) ?_
  cases c <;> cases o
  · exact .refl _
  · exact .openWindow _ _
  · exact .closeWindow _ _
  · exact .trans (.closeWindow _ _) (.openWindow _ _)

theorem PendKept.windowEvents (d : Dev) (rs : List (Nat × Nat)) : PendKept d (d.windowEvents rs) := by
  unfold Dev.windowEvents
  dsimp only
  have h : ∀ c : Bool, PendKept d (if c = true then d.askClose 1 else d) := fun c => .ite (.putCap _ _) (.refl d)
  exact .ite ((h _).trans (.putCap _ _)) (h _)

theorem PendKept.deliverAll (n : Nat) (d : Dev) : PendKept d (Dev.deliverAll n d) := by
  induction n generalizing d with
  | zero => exact .refl d
  | succ n ih =>
    unfold Dev.deliverAll
    refine .ite (.refl d) (.trans (.trans (.trans ?_ (.windowEvents _ _)) (.windows _)) (ih _))
    exact .trans (.putRaised d []) (.foldl _ _ (fun d x _ => .deliver d x) _)

/-! ### The fault log and the fields that follow -/

theorem PendKept.writeLog (d : Dev) (q : LogReq) : PendKept d (d.writeLog q) := by
  unfold Dev.writeLog
  dsimp only
  exact .trans (.trans (.set d _ (y := F.FLOG_STAT_NEWEST) (by decide)) (.set _ _ (y := F.FLOG_STAT_FIRST) (by decide))) (.putLog _ _)

theorem PendKept.writeLogs (d : Dev) : PendKept d d.writeLogs := .trans (.putFaults d []) (.foldl _ _ (fun d q _ => .writeLog d q) _)

theorem PendKept.settleCourse (d : Dev) (c : Nat) : PendKept d (d.settleCourse c) := by
  have hne : ∀ k : Fin 6, R.EVB_PEND k ≠ R.C_STAT c := by intro k; simp only [R.EVB_PEND, R.C_STAT]; omega
  have set : ∀ (d : Dev) (y : Field) (v : Nat), y.addr = R.C_STAT c → PendKept d (d.set y v) := fun d y v hy => .set d v (hy ▸ hne)
  unfold Dev.settleCourse
  dsimp only
  have g := fun u v w x y z k => ((((((set d (F.C_STAT_HEALTHY c) u rfl).trans (set _ (F.C_STAT_WORKCFG c) v rfl)).trans
    (set _ (F.C_STAT_RUNNING c) w rfl)).trans (set _ (F.C_STAT_LIMIT_CUT c) x rfl)).trans (set _ (F.C_STAT_SPARE_ARMING c) y rfl)).trans
    (set _ (F.C_STAT_NO_SPARE c) z rfl)).trans (set _ (F.C_STAT_TEST_ACTIVE c) k rfl)
  exact .ite (.trans (g _ _ _ _ _ _ _) (set _ _ _ rfl)) (g _ _ _ _ _ _ _)

theorem PendKept.settleSys (d : Dev) : PendKept d d.settleSys :=
  .trans (.set d _ (y := F.SYS_STAT_CB_ANY) (by decide)) (.set _ _ (y := F.SYS_STAT_BELOW_MIN) (by decide))

theorem PendKept.settlePorts (d : Dev) : PendKept d d.settlePorts := by
  have hne : ∀ p, ∀ k : Fin 6, R.EVB_PEND k ≠ R.PORT_STAT p := by intro p k; simp only [R.EVB_PEND, R.PORT_STAT]; omega
  exact .trans (.trans (.each _ _ (fun d p _ => .set d _ (y := F.PORT_STAT_LIMITED p) (hne p)) d)
    (.set _ 1 (y := F.PORT_STAT_CONTRACT 0) (by decide))) (.set _ _ (y := F.PATH_STAT_RETURN_PEND) (by decide))

theorem PendKept.settle (d : Dev) : PendKept d d.settle := by
  unfold Dev.settle
  refine .trans (.set d d.ev.fifo.length (y := F.EVF_STAT_COUNT) (by decide)) (.ite (.settleInts _) (.trans ?_ (.settleInts _)))
  refine .trans ?_ (.set _ _ (y := F.SYSCFG_PWR_DIE_OK) (by decide))
  refine .trans (.trans (.trans (.trans ?_ (.each _ _ (fun d c _ => .settleCourse d c) _)) (.settleSys _)) (.settlePorts _))
    (.set _ _ (y := F.PATH_STAT_HOT) (by decide))
  exact .set _ _ (y := F.SYSCFG_COMPAT) (by decide)

/-! ### A raise is pending after the command -/

theorem mem_insertRaise {x y : Nat × Nat} {l : List (Nat × Nat)} (h : x.1 = y.1 ∨ ∃ z ∈ l, z.1 = x.1) : ∃ z ∈ insertRaise y l, z.1 = x.1 := by
  induction l with
  | nil =>
    rcases h with h | ⟨z, hz, -⟩
    · exact ⟨y, by simp [insertRaise], h.symm⟩
    · simp at hz
  | cons w t ih =>
    unfold insertRaise
    split
    · rcases h with h | ⟨z, hz, hx⟩
      · exact ⟨y, by simp, h.symm⟩
      · exact ⟨z, List.mem_cons_of_mem _ hz, hx⟩
    · split
      · rcases h with h | ⟨z, hz, hx⟩
        · exact ⟨w, by simp, by omega⟩
        · exact ⟨z, hz, hx⟩
      · rcases h with h | ⟨z, hz, hx⟩
        · obtain ⟨z, hz, hx⟩ := ih (.inl h)
          exact ⟨z, List.mem_cons_of_mem _ hz, hx⟩
        · rcases List.mem_cons.1 hz with rfl | hz
          · exact ⟨z, by simp, hx⟩
          · obtain ⟨z, hz, hx⟩ := ih (.inr ⟨z, hz, hx⟩)
            exact ⟨z, List.mem_cons_of_mem _ hz, hx⟩

/-- Of the raises of one source at least one stays in the sorted list. -/
theorem mem_sortRaises {x : Nat × Nat} {l : List (Nat × Nat)} (h : x ∈ l) : ∃ z ∈ sortRaises l, z.1 = x.1 := by
  have aux : ∀ acc, ((∃ z ∈ acc, z.1 = x.1) ∨ x ∈ l) → ∃ z ∈ l.foldl (fun acc x => insertRaise x acc) acc, z.1 = x.1 := by
    clear h
    induction l with
    | nil => intro acc h; simpa using h
    | cons y t ih =>
      intro acc h
      refine ih _ ?_
      rcases h with h | h
      · exact .inl (mem_insertRaise (.inr h))
      · rcases List.mem_cons.1 h with rfl | h
        · exact .inl (mem_insertRaise (.inl rfl))
        · exact .inr h
  exact aux [] (.inr h)

theorem pendingEvent_foldl_deliver {x : Nat × Nat} {l : List (Nat × Nat)} (hx : x.1 < 192) (h : x ∈ l) (d : Dev) :
    (l.foldl Dev.deliver d).pendingEvent x.1 = true := by
  induction l generalizing d with
  | nil => simp at h
  | cons y t ih =>
    rcases List.mem_cons.1 h with rfl | h
    · exact (PendKept.foldl _ t (fun d y _ => .deliver d y) _).pend _ hx (pendingEvent_deliver d hx)
    · exact ih h _

/-- An event raised in a command is pending after it (R446). -/
theorem pendingEvent_finish {d : Dev} {n t : Nat} (hn : n < 192) (h : (n, t) ∈ d.raised) : (finish d).pendingEvent n = true := by
  refine ((PendKept.writeLogs _).trans (.settle _)).pend n hn ?_
  unfold Dev.deliverAll
  rw [if_neg (by rw [Dev.putPw_raised, List.isEmpty_eq_false_iff.2 (List.ne_nil_of_mem h)]; simp)]
  refine (((PendKept.windowEvents _ _).trans (.windows _)).trans (.deliverAll 7 _)).pend n hn ?_
  obtain ⟨z, hz, rfl⟩ := mem_sortRaises h
  exact pendingEvent_foldl_deliver hn hz _

end Sys2Proof.Machine
end

section
/-! The image store (R68 to R73, R86): what its commands do, branch by branch, and the bytes of a slot. -/
namespace Sys2Proof.Machine

variable {d e : Dev} {fs : List Field} {ps : List Part}

/-- A weaker claim about the device after the command. -/
theorem effect.mono {i : Instr} {s : State} {evs : List Nat} {P Q : Dev → Prop} (h : effect i s fs ps evs P) (hpq : ∀ d, P d → Q d) :
    effect i s fs ps evs Q := by
  obtain ⟨e, hexec, hkeeps, hraised, hp⟩ := h
  exact ⟨e, hexec, hkeeps, hraised, hpq _ hp⟩

/-! ### IMGRESULT, the boot record and the slots -/

theorem keeps.imgResult (o k c n : Nat) (h : keeps fs ps d e)
    (hfs : ∀ x ∈ [F.IMGRESULT_ORIGIN, F.IMGRESULT_SLOT, F.IMGRESULT_SECTION, F.IMGRESULT_CODE], x ∈ fs) : keeps fs ps d (e.imgResult o k c n) :=
  (((h.set o (hfs _ (by decide))).set k (hfs _ (by decide))).set n (hfs _ (by decide))).set c (hfs _ (by decide))

theorem f_imgResult_code (d : Dev) (o k c n : Nat) : (d.imgResult o k c n).f F.IMGRESULT_CODE = c % 256 := Dev.f_set_same _ _ _ (by decide)

theorem f_imgResult_section (d : Dev) (o k c n : Nat) : (d.imgResult o k c n).f F.IMGRESULT_SECTION = n % 256 :=
  (Dev.f_set_apart _ _ (by decide)).trans (Dev.f_set_same _ _ _ (by decide))

theorem f_imgResult_slot (d : Dev) (o k c n : Nat) : (d.imgResult o k c n).f F.IMGRESULT_SLOT = k % 2 :=
  (Dev.f_set_apart _ _ (by decide)).trans ((Dev.f_set_apart _ _ (by decide)).trans (Dev.f_set_same _ _ _ (by decide)))

theorem f_imgResult_origin (d : Dev) (o k c n : Nat) : (d.imgResult o k c n).f F.IMGRESULT_ORIGIN = o % 4 :=
  (Dev.f_set_apart _ _ (by decide)).trans ((Dev.f_set_apart _ _ (by decide)).trans ((Dev.f_set_apart _ _ (by decide)).trans
    (Dev.f_set_same _ _ _ (by decide))))

/-- A field of another register. -/
theorem f_imgResult_ne (d : Dev) {x : Field} (o k c n : Nat) (h : x.addr ≠ R.IMGRESULT) : (d.imgResult o k c n).f x = d.f x := by
  unfold Dev.imgResult
  rw [Dev.f_set_ne _ _ h, Dev.f_set_ne _ _ h, Dev.f_set_ne _ _ h, Dev.f_set_ne _ _ h]

theorem f_setB_same (d : Dev) (x : Field) (b : Bool) (h : x.lo + x.width ≤ 32) (hw : 0 < x.width) : (d.setB x b).f x = b.toNat :=
  Dev.f_set_lt d x _ h (b.toNat_lt.trans_le (Nat.le_self_pow hw.ne' 2))

theorem inactive_lt (d : Dev) : d.inactive < 2 := by unfold Dev.inactive; omega

theorem keeps.setAlt (b : Bool) (hx : F.IMGSTAT_ALT_VALID ∈ fs) (hp : ps.contains .boot = true) (h : keeps fs ps d e) : keeps fs ps d (e.setAlt b) :=
  (h.setB b hx).putBoot _ hp

theorem keeps.sealSlot (b : Bool) (hp : ps.contains .slots = true) (h : keeps fs ps d e) : keeps fs ps d (e.sealSlot b) := h.putSlots _ hp

theorem slot_sealSlot (d : Dev) (b : Bool) : vget (d.sealSlot b).slots d.inactive = { vget d.slots d.inactive with sealed := b } :=
  vget_vset_same _ _ (inactive_lt d)

theorem f_setAlt (d : Dev) (b : Bool) : (d.setAlt b).f F.IMGSTAT_ALT_VALID = b.toNat := f_setB_same d _ b (by decide) (by decide)

/-! ### The image commands, after FORCE has been written -/

/-- FORCE as a write of IMGCTL leaves it. -/
def Dev.withForce (d : Dev) (force : Bool) : Dev := d.setB F.IMGCTL_FORCE force

theorem f_withForce (d : Dev) (force : Bool) {x : Field} (h : x.addr ≠ R.IMGCTL) : (d.withForce force).f x = d.f x := Dev.f_set_ne d _ h

theorem imgBusy_withForce (d : Dev) (force : Bool) : (d.withForce force).imgBusy = d.imgBusy := by
  unfold Dev.imgBusy Dev.on
  rw [f_withForce d force (by decide)]
  rfl

theorem keeps_withForce (force : Bool) (hx : F.IMGCTL_FORCE ∈ fs) : keeps fs ps d (d.withForce force) := keeps.refl.setB force hx

section
variable {s : State} (h : s.dev.alive = true) (force : Bool)
include h

theorem exec_imgOpen : exec (.imgOpen force) s = done s (s.dev.withForce force).imgOpen := congrArg (done s) (if_pos h)
theorem exec_imgCheck : exec (.imgCheck force) s = done s (s.dev.withForce force).imgCheck := congrArg (done s) (if_pos h)
theorem exec_imgConfirm : exec (.imgConfirm force) s = done s (s.dev.withForce force).imgConfirm := congrArg (done s) (if_pos h)
theorem exec_imgAbort : exec (.imgAbort force) s = done s (s.dev.withForce force).imgAbort := congrArg (done s) (if_pos h)

end

theorem imgOpen_busy (h : d.imgBusy = true) : d.imgOpen = d.imgRefuse 0x11 0 := if_pos h
theorem imgCheck_busy (h : d.imgBusy = true) : d.imgCheck = d.imgRefuse 0x11 0 := if_pos h
theorem imgConfirm_busy (h : d.imgBusy = true) : d.imgConfirm = d.imgRefuse 0x11 0 := if_pos h

theorem imgOpen_onTrial (hb : d.imgBusy = false) (ht : d.f F.IMGSTAT_TRIAL = 1) : d.imgOpen = d.imgRefuse 0x13 0 := by
  simp [Dev.imgOpen, Dev.on, hb, ht]

theorem imgOpen_free (hb : d.imgBusy = false) (ht : d.f F.IMGSTAT_TRIAL = 0) :
    d.imgOpen = ((d.sealSlot false).setAlt false).putImg { d.img with slotOpen := true } := by
  simp [Dev.imgOpen, Dev.on, hb, ht]

theorem imgCheck_free (hb : d.imgBusy = false) : d.imgCheck = d.putImg { d.img with checking := true } := by
  simp [Dev.imgCheck, hb]

theorem imgConfirm_noTrial (hb : d.imgBusy = false) (ht : d.f F.IMGSTAT_TRIAL = 0) : d.imgConfirm = d.imgRefuse 0x13 0 := by
  simp [Dev.imgConfirm, Dev.on, hb, ht]

/-- The trial ends: TRIAL reads 0, and the boot record holds no trial. -/
def Dev.endTrial (d : Dev) : Dev := (d.set F.IMGSTAT_TRIAL 0).putBoot { d.boot with trial := false, booted := false }

/-- The lowest security version becomes the running image's; a fallback below it is no longer valid (R72). -/
def Dev.raiseMin (d : Dev) : Dev :=
  let e := d.set F.IMGSVN_SVN_MIN (d.f F.IMGINFO_SVN)
  if decide (imageSvn (vget d.slots d.inactive).bytes < d.f F.IMGINFO_SVN) then e.setAlt false else e

/-- What the rise of SVN_MIN leaves of the trial's end. -/
theorem raiseMin_keeps (d : Dev) : d.raiseMin.f F.IMGSTAT_TRIAL = d.f F.IMGSTAT_TRIAL ∧ d.raiseMin.alive = d.alive ∧
    ∃ alt, d.raiseMin.boot = { d.boot with altValid := alt } := by
  unfold Dev.raiseMin
  dsimp only
  split
  · exact ⟨(Dev.f_set_apart _ _ (by decide)).trans (Dev.f_set_ne _ _ (by decide)), rfl, false, rfl⟩
  · exact ⟨Dev.f_set_ne _ _ (by decide), rfl, d.boot.altValid, rfl⟩

theorem f_raiseMin (d : Dev) : d.raiseMin.f F.IMGSVN_SVN_MIN = d.f F.IMGINFO_SVN := by
  have hset : (d.set F.IMGSVN_SVN_MIN (d.f F.IMGINFO_SVN)).f F.IMGSVN_SVN_MIN = d.f F.IMGINFO_SVN := Dev.f_set_f d d _ _ (by decide) rfl
  unfold Dev.raiseMin
  dsimp only
  split
  · exact (Dev.f_set_ne _ _ (by decide)).trans hset
  · exact hset

/-- The end of a trial, with the rise of SVN_MIN where the image asks for it and lies above it (R72). -/
def Dev.confirmed (d : Dev) : Dev :=
  if d.img.raiseSvn && decide (d.f F.IMGSVN_SVN_MIN < d.f F.IMGINFO_SVN) then d.endTrial.raiseMin else d.endTrial

theorem confirmed_keeps (d : Dev) : d.confirmed.f F.IMGSTAT_TRIAL = 0 ∧ d.confirmed.alive = d.alive ∧
    ∃ alt, d.confirmed.boot = { d.boot with trial := false, booted := false, altValid := alt } := by
  have hend : d.endTrial.f F.IMGSTAT_TRIAL = 0 := Dev.f_set_lt d _ 0 (by decide) (by decide)
  unfold Dev.confirmed
  split
  · obtain ⟨htrial, halive, alt, hboot⟩ := raiseMin_keeps d.endTrial
    exact ⟨htrial.trans hend, halive, alt, hboot⟩
  · exact ⟨hend, rfl, d.boot.altValid, rfl⟩

theorem f_confirmed (d : Dev) : d.confirmed.f F.IMGSVN_SVN_MIN =
    if d.img.raiseSvn then max (d.f F.IMGSVN_SVN_MIN) (d.f F.IMGINFO_SVN) else d.f F.IMGSVN_SVN_MIN := by
  have hsvn : d.endTrial.f F.IMGINFO_SVN = d.f F.IMGINFO_SVN := Dev.f_set_ne d 0 (by decide)
  have hmin : d.endTrial.f F.IMGSVN_SVN_MIN = d.f F.IMGSVN_SVN_MIN := Dev.f_set_ne d 0 (by decide)
  cases hraise : d.img.raiseSvn with
  | false => simp [Dev.confirmed, hraise, hmin]
  | true =>
    by_cases hlt : d.f F.IMGSVN_SVN_MIN < d.f F.IMGINFO_SVN
    · simp [Dev.confirmed, hraise, hlt, f_raiseMin, hsvn, hlt.le]
    · simp [Dev.confirmed, hraise, hlt, hmin, Nat.le_of_not_lt hlt]

theorem imgConfirm_trial (hb : d.imgBusy = false) (hx : d.img.expiry = false) (ht : d.f F.IMGSTAT_TRIAL = 1) :
    d.imgConfirm = d.confirmed.raise 0 2 := by
  have hsvn : d.endTrial.f F.IMGINFO_SVN = d.f F.IMGINFO_SVN := Dev.f_set_ne d 0 (by decide)
  have hmin : d.endTrial.f F.IMGSVN_SVN_MIN = d.f F.IMGSVN_SVN_MIN := Dev.f_set_ne d 0 (by decide)
  simp only [Dev.confirmed, ← hsvn, ← hmin]
  simp only [Dev.imgConfirm, Dev.on, hb, hx, ht]
  rfl

theorem imgAbort_of_commit (hx : d.img.expiry = false) : d.imgAbort = d.set F.IMGSTAT_COMMIT_PENDING 0 := by
  simp [Dev.imgAbort, hx]

/-- A refused image command changes IMGRESULT and FORCE alone (R73, R86). -/
theorem effect_imgRefuse {i : Instr} {s : State} {force : Bool} {code : Nat} (hexec : exec i s = done s ((s.dev.withForce force).imgRefuse code 0))
    (hcode : code < 256) :
    effect i s [F.IMGCTL_FORCE, F.IMGRESULT_ORIGIN, F.IMGRESULT_SLOT, F.IMGRESULT_SECTION, F.IMGRESULT_CODE] [] [] fun d =>
      d.f F.IMGRESULT_CODE = code ∧ d.f F.IMGRESULT_ORIGIN = 3 ∧ d.f F.IMGRESULT_SLOT = s.dev.inactive % 2 := by
  refine ⟨_, hexec, (keeps_withForce force (by decide)).imgResult _ _ _ _ (by decide), (List.append_nil _).symm, ?_, ?_, ?_⟩
  · exact (Dev.f_finish _ (by decide)).trans ((f_imgResult_code ..).trans (Nat.mod_eq_of_lt hcode))
  · exact (Dev.f_finish _ (by decide)).trans (f_imgResult_origin ..)
  · exact (Dev.f_finish _ (by decide)).trans (f_imgResult_slot ..)

theorem exec_imgCheckDone {s : State} (h : s.dev.alive = true) (hc : s.dev.img.checking = true) :
    exec .imgCheckDone s = done s (match s.dev.checkSlot s.dev.inactive with
      | none => (((s.dev.putImg { s.dev.img with checking := false }).sealSlot true).setAlt true).putImg { s.dev.img with checking := false, slotOpen := false }
      | some x => ((s.dev.putImg { s.dev.img with checking := false }).setAlt false).imgResult 2 s.dev.inactive x.1 x.2) := by
  refine congrArg (done s) ?_
  unfold imgCheckDone
  rw [h, hc]
  rfl

/-! ### What a whole command does -/

section
variable {s : State} (halive : s.dev.alive = true) (force : Bool)
include halive

theorem effect_imgOpen (hb : s.dev.imgBusy = false) (ht : s.dev.f F.IMGSTAT_TRIAL = 0) :
    effect (.imgOpen force) s [F.IMGCTL_FORCE, F.IMGSTAT_ALT_VALID] [.slots, .boot, .img] [] fun d =>
      d.img.slotOpen = true ∧ d.boot.altValid = false ∧ d.f F.IMGSTAT_ALT_VALID = 0 ∧ (vget d.slots s.dev.inactive).sealed = false ∧
      (vget d.slots s.dev.inactive).bytes = (vget s.dev.slots s.dev.inactive).bytes ∧ d.boot.active = s.dev.boot.active := by
  have hexec := (exec_imgOpen halive force).trans
    (congrArg (done s) (imgOpen_free ((imgBusy_withForce ..).trans hb) ((f_withForce _ _ (by decide)).trans ht)))
  have hslot : vget ((s.dev.withForce force).sealSlot false).slots s.dev.inactive = { vget s.dev.slots s.dev.inactive with sealed := false } :=
    slot_sealSlot (s.dev.withForce force) false
  refine ⟨_, hexec, (((keeps_withForce force (by decide)).sealSlot false (by decide)).setAlt false (by decide) (by decide)).putImg _ (by decide),
    (List.append_nil _).symm, ?_, ?_, ?_, ?_, ?_, ?_⟩
  · rw [img_finish]; rfl
  · rw [boot_finish]; rfl
  · exact (Dev.f_finish _ (by decide)).trans (f_setAlt _ false)
  · rw [slots_finish]; exact congrArg (·.sealed) hslot
  · rw [slots_finish]; exact congrArg (·.bytes) hslot
  · rw [boot_finish]; rfl

theorem effect_imgCheck (hb : s.dev.imgBusy = false) :
    effect (.imgCheck force) s [F.IMGCTL_FORCE] [.img] [] fun d => d.img = { s.dev.img with checking := true } := by
  have hexec := (exec_imgCheck halive force).trans (congrArg (done s) (imgCheck_free ((imgBusy_withForce ..).trans hb)))
  exact ⟨_, hexec, (keeps_withForce force (by decide)).putImg _ (by decide), (List.append_nil _).symm, img_finish _⟩

theorem effect_imgAbort (hx : s.dev.img.expiry = false) :
    effect (.imgAbort force) s [F.IMGCTL_FORCE, F.IMGSTAT_COMMIT_PENDING] [] [] fun d =>
      d.f F.IMGSTAT_COMMIT_PENDING = 0 ∧ d.f F.IMGCTL_FORCE = force.toNat := by
  have hexec := (exec_imgAbort halive force).trans (congrArg (done s) (imgAbort_of_commit (d := s.dev.withForce force) hx))
  refine ⟨_, hexec, (keeps_withForce force (by decide)).set 0 (by decide), (List.append_nil _).symm, ?_, ?_⟩
  · exact (Dev.f_finish _ (by decide)).trans (Dev.f_set_lt _ _ 0 (by decide) (by decide))
  · exact (Dev.f_finish _ (by decide)).trans ((Dev.f_set_ne _ _ (by decide)).trans (f_setB_same _ _ _ (by decide) (by decide)))

/-- CONFIRM on trial: the trial ends, and SVN_MIN follows the image where the image asks for it (R72). -/
theorem leads_imgConfirm (hb : s.dev.imgBusy = false) (hx : s.dev.img.expiry = false) (ht : s.dev.f F.IMGSTAT_TRIAL = 1) :
    leads (.imgConfirm force) s fun d => d.f F.IMGSTAT_TRIAL = 0 ∧ d.boot.trial = false ∧ d.boot.booted = false ∧ d.boot.active = s.dev.boot.active ∧
      d.pendingEvent 2 = true ∧
      d.f F.IMGSVN_SVN_MIN = (if s.dev.img.raiseSvn then max (s.dev.f F.IMGSVN_SVN_MIN) (s.dev.f F.IMGINFO_SVN) else s.dev.f F.IMGSVN_SVN_MIN) := by
  have hexec := (exec_imgConfirm halive force).trans
    (congrArg (done s) (imgConfirm_trial ((imgBusy_withForce ..).trans hb) hx ((f_withForce _ _ (by decide)).trans ht)))
  obtain ⟨htrial, hlive, alt, hboot⟩ := confirmed_keeps (s.dev.withForce force)
  have hfield : ∀ x, endFields.all (fun y => x.apart y) = true → (finish ((s.dev.withForce force).confirmed.raise 0 2)).f x =
      (s.dev.withForce force).confirmed.f x := fun x hx => (Dev.f_finish _ hx).trans (Dev.f_raise ..)
  refine ⟨_, hexec, rfl, (hfield _ (by decide)).trans htrial, ?_, ?_, ?_, ?_, ?_⟩
  · rw [boot_finish, Dev.raise_boot, hboot]
  · rw [boot_finish, Dev.raise_boot, hboot]
  · rw [boot_finish, Dev.raise_boot, hboot]; rfl
  · refine pendingEvent_finish (t := (s.dev.withForce force).confirmed.pw.time) (by decide) ?_
    rw [Dev.raise_raised _ 0 2 (hlive.trans halive)]
    exact List.mem_append_right _ (List.mem_singleton_self _)
  · rw [hfield _ (by decide), f_confirmed, f_withForce _ _ (by decide), f_withForce _ _ (by decide)]
    rfl

/-- CONFIRM on trial of an image that leaves SVN_MIN alone. -/
theorem effect_imgConfirm (hb : s.dev.imgBusy = false) (hx : s.dev.img.expiry = false) (ht : s.dev.f F.IMGSTAT_TRIAL = 1)
    (hsvn : s.dev.img.raiseSvn = false) :
    effect (.imgConfirm force) s [F.IMGCTL_FORCE, F.IMGSTAT_TRIAL] [.boot] [2] fun d =>
      d.f F.IMGSTAT_TRIAL = 0 ∧ d.boot = { s.dev.boot with trial := false, booted := false } := by
  have hconf : (s.dev.withForce force).imgConfirm = (s.dev.withForce force).endTrial.raise 0 2 := by
    have hkeep : (s.dev.withForce force).img.raiseSvn = false := hsvn
    rw [imgConfirm_trial ((imgBusy_withForce ..).trans hb) hx ((f_withForce _ _ (by decide)).trans ht)]
    simp [Dev.confirmed, hkeep]
  refine ⟨_, (exec_imgConfirm halive force).trans (congrArg (done s) hconf),
    (((keeps_withForce force (by decide)).set 0 (by decide)).putBoot _ (by decide)).raise 0 2, Dev.raise_raised _ 0 2 halive, ?_, ?_⟩
  · rw [Dev.f_finish _ (by decide), Dev.f_raise]; exact Dev.f_set_lt _ _ 0 (by decide) (by decide)
  · rw [boot_finish, Dev.raise_boot]; rfl

omit force
/-- The end of CHECK: a slot that passes is sealed and closed; a failure reports its reason (R69). -/
theorem effect_imgCheckDone (hc : s.dev.img.checking = true) :
    effect .imgCheckDone s [F.IMGSTAT_ALT_VALID, F.IMGRESULT_ORIGIN, F.IMGRESULT_SLOT, F.IMGRESULT_SECTION, F.IMGRESULT_CODE]
      [.slots, .boot, .img] [] fun d =>
        d.img.checking = false ∧ d.f F.IMGSTAT_ALT_VALID = (s.dev.checkSlot s.dev.inactive).isNone.toNat ∧
        (s.dev.checkSlot s.dev.inactive = none → (vget d.slots s.dev.inactive).sealed = true ∧ d.img.slotOpen = false) ∧
        ∀ x ∈ s.dev.checkSlot s.dev.inactive, d.f F.IMGRESULT_CODE = x.1 % 256 ∧ d.f F.IMGRESULT_SECTION = x.2 % 256 ∧ d.f F.IMGRESULT_ORIGIN = 2 ∧
          d.slots = s.dev.slots ∧ d.img.slotOpen = s.dev.img.slotOpen := by
  have hexec := exec_imgCheckDone halive hc
  have hstart : ∀ x, keeps [F.IMGSTAT_ALT_VALID, F.IMGRESULT_ORIGIN, F.IMGRESULT_SLOT, F.IMGRESULT_SECTION, F.IMGRESULT_CODE] [.slots, .boot, .img]
      s.dev (s.dev.putImg x) := fun x => keeps.refl.putImg x (by decide)
  cases hcheck : s.dev.checkSlot s.dev.inactive with
  | none =>
    rw [hcheck] at hexec
    refine ⟨_, hexec, (((hstart _).sealSlot true (by decide)).setAlt true (by decide) (by decide)).putImg _ (by decide), (List.append_nil _).symm, ?_⟩
    refine ⟨by rw [img_finish]; rfl, (Dev.f_finish _ (by decide)).trans (f_setAlt _ true), fun _ => ⟨?_, by rw [img_finish]; rfl⟩, by simp⟩
    rw [slots_finish]
    exact congrArg (·.sealed) (slot_sealSlot (s.dev.putImg { s.dev.img with checking := false }) true)
  | some y =>
    rw [hcheck] at hexec
    refine ⟨_, hexec, ((hstart _).setAlt false (by decide) (by decide)).imgResult _ _ _ _ (by decide), (List.append_nil _).symm, ?_⟩
    refine ⟨by rw [img_finish]; rfl, ?_, by simp, ?_⟩
    · exact (Dev.f_finish _ (by decide)).trans ((f_imgResult_ne _ _ _ _ _ (by decide)).trans (f_setAlt _ false))
    · rintro x ⟨⟩
      refine ⟨?_, ?_, ?_, by rw [slots_finish]; rfl, by rw [img_finish]; rfl⟩
      · exact (Dev.f_finish _ (by decide)).trans (f_imgResult_code ..)
      · exact (Dev.f_finish _ (by decide)).trans (f_imgResult_section ..)
      · exact (Dev.f_finish _ (by decide)).trans (f_imgResult_origin ..)

end

end Sys2Proof.Machine
end

section
open Sys2Proof Sys2Proof.Machine

/-- Settles O30, command by command: refused while another runs (R73), else by the branch that TRIAL picks. -/
theorem imageCommands : Obligations.ImageCommands := by
  unfold Obligations.ImageCommands
  intro force s halive
  refine ⟨effect_imgOpen halive force, fun hb => ?_, fun hb ht => ?_, effect_imgCheck halive force, effect_imgCheckDone halive,
    leads_imgConfirm halive force, effect_imgConfirm halive force, fun hb ht => ?_, effect_imgAbort halive force⟩
  · have hbusy : (s.dev.withForce force).imgBusy = true := (imgBusy_withForce ..).trans hb
    intro x hx
    simp only [List.mem_cons, List.not_mem_nil, or_false] at hx
    obtain rfl | rfl | rfl := hx
    · exact effect_imgRefuse ((exec_imgOpen halive force).trans (congrArg (done s) (imgOpen_busy hbusy))) (by decide)
    · exact effect_imgRefuse ((exec_imgCheck halive force).trans (congrArg (done s) (imgCheck_busy hbusy))) (by decide)
    · exact effect_imgRefuse ((exec_imgConfirm halive force).trans (congrArg (done s) (imgConfirm_busy hbusy))) (by decide)
  · have hopen := imgOpen_onTrial ((imgBusy_withForce s.dev force).trans hb) ((f_withForce _ _ (by decide)).trans ht)
    exact (effect_imgRefuse ((exec_imgOpen halive force).trans (congrArg (done s) hopen)) (by decide)).mono fun d h => h.1
  · have hconf := imgConfirm_noTrial ((imgBusy_withForce s.dev force).trans hb) ((f_withForce _ _ (by decide)).trans ht)
    exact (effect_imgRefuse ((exec_imgConfirm halive force).trans (congrArg (done s) hconf)) (by decide)).mono
      fun d h => ⟨h.1, h.2.1⟩

end

section
/-! IMGADDR and IMGDATA: the word of a slot that they name (R68, R86). -/
namespace Sys2Proof.Machine

/-! ### The bytes of a word -/

/-- Byte `i` of a word, by its bits and by its value. -/
theorem ofNat_byte_eq_extractLsb' (w : Word) (i : Nat) : BitVec.ofNat 8 (w.toNat / 256 ^ i) = w.extractLsb' (8 * i) 8 := by
  rw [BitVec.extractLsb', Nat.shiftRight_eq_div_pow, Nat.pow_mul]

/-- Every byte after a word has been written: the word's own four, least significant first, and the others as they were. -/
theorem Mem.byte_setWord (m : List (Nat × Byte)) (a : Nat) (w : Word) (b : Nat) :
    Mem.byte (Mem.setWord m a w) b = if a ≤ b ∧ b < a + 4 then BitVec.ofNat 8 (w.toNat / 256 ^ (b - a)) else Mem.byte m b := by
  split
  · obtain ⟨i, rfl⟩ : ∃ i, b = a + i := ⟨b - a, by omega⟩
    have hi : i = 0 ∨ i = 1 ∨ i = 2 ∨ i = 3 := by omega
    rw [Nat.add_sub_cancel_left, ofNat_byte_eq_extractLsb']
    unfold Mem.setWord
    rcases hi with rfl | rfl | rfl | rfl
    · rw [Mem.byte_setByte_ne _ _ (by omega), Mem.byte_setByte_ne _ _ (by omega), Mem.byte_setByte_ne _ _ (by omega)]
      exact Mem.byte_setByte_same ..
    · rw [Mem.byte_setByte_ne _ _ (by omega), Mem.byte_setByte_ne _ _ (by omega), Mem.byte_setByte_same]
    · rw [Mem.byte_setByte_ne _ _ (by omega), Mem.byte_setByte_same]
    · rw [Mem.byte_setByte_same]
  · exact Mem.byte_setWord_ne _ _ (by omega)

/-- The bytes of the word read at `a` are those of the memory from `a` on. -/
theorem Mem.ofNat_byte_word (m : List (Nat × Byte)) (a : Nat) (i : Fin 4) :
    BitVec.ofNat 8 ((Mem.word m a).toNat / 256 ^ i.val) = Mem.byte m (a + i) := by
  rw [ofNat_byte_eq_extractLsb']
  ext j hj
  simp only [Mem.word, BitVec.getElem_extractLsb', BitVec.getLsbD_append]
  repeat' split
  all_goals
    rw [← BitVec.getLsbD_eq_getElem]
    congr 2 <;> omega

/-! ### IMGADDR -/

variable {d : Dev} {s : State}

theorem f_imgStep (h : d.f F.IMGADDR_OFFSET ≤ 0x17FFFC) :
    d.imgStep.f F.IMGADDR_OFFSET = if d.f F.IMGADDR_OFFSET = 0x17FFFC then 0 else d.f F.IMGADDR_OFFSET + 4 := by
  have hnext : (if d.f F.IMGADDR_OFFSET == lastOffset then 0 else d.f F.IMGADDR_OFFSET + 4) =
      if d.f F.IMGADDR_OFFSET = 0x17FFFC then 0 else d.f F.IMGADDR_OFFSET + 4 := by simp [lastOffset]
  dsimp only [Dev.imgStep]
  rw [hnext]
  exact Dev.f_set_lt _ _ _ (by decide) (show _ < 2 ^ 21 by split <;> omega)

theorem exec_imgdataWrite (h : s.dev.alive = true) (w : Word) : exec (.imgdataWrite w) s = done s (s.dev.imgDataWrite w) := congrArg (done s) (if_pos h)

theorem exec_imgdataRead (h : s.dev.alive = true) :
    exec .imgdataRead s = done s (s.dev.imgStep.putReadData (Mem.word (vget s.dev.slots s.dev.inactive).bytes (s.dev.f F.IMGADDR_OFFSET))) :=
  congrArg (done s) (if_pos h)

theorem exec_imgaddrWrite (h : s.dev.alive = true) (w : Word) : exec (.imgaddrWrite w) s = done s (s.dev.imgAddr w) := congrArg (done s) (if_pos h)

/-- The inactive slot with the word `w` written at IMGADDR; a word written whole can be read again (R391). -/
def Dev.storeImgWord (d : Dev) (w : Word) : Dev :=
  let s := vget d.slots d.inactive
  let a := d.f F.IMGADDR_OFFSET
  d.imgStep.putSlots (vset d.slots d.inactive { s with bytes := Mem.setWord s.bytes a w, spoilt := s.spoilt.filter fun x => x != a / 8 })

theorem imgDataWrite_open (w : Word) (h : d.img.slotOpen = true) : d.imgDataWrite w = d.storeImgWord w := by
  simp only [Dev.imgDataWrite, h]
  rfl

theorem imgDataWrite_closed (w : Word) (h : d.img.slotOpen = false) : d.imgDataWrite w = d.imgRefuse 0x13 0 := by
  simp [Dev.imgDataWrite, h]

theorem wordStored_storeImgWord (d : Dev) (w : Word) :
    wordStored (d.slotByte d.inactive) ((d.storeImgWord w).slotByte d.inactive) (d.f F.IMGADDR_OFFSET) w := by
  intro b
  have hslot : vget (d.storeImgWord w).slots d.inactive = _ := vget_vset_same _ _ (inactive_lt d)
  rw [Dev.slotByte, hslot]
  exact Mem.byte_setWord ..

end Sys2Proof.Machine

open Sys2Proof Sys2Proof.Machine

/-- Settles O32: the write, the read and the move of IMGADDR, each by its branch. -/
theorem imageData : Obligations.ImageData := by
  unfold Obligations.ImageData
  intro w s halive ha
  refine ⟨fun hopen => ?_, fun hclosed => ?_, ?_, fun hw => ?_, fun hw => ?_⟩
  · refine ⟨_, (exec_imgdataWrite halive w).trans (congrArg (done s) (imgDataWrite_open w hopen)),
      (keeps.refl.set _ (by decide)).putSlots _ (by decide), (List.append_nil _).symm, ?_, ?_, ?_⟩
    · have hbytes : (finish (s.dev.storeImgWord w)).slotByte s.dev.inactive = (s.dev.storeImgWord w).slotByte s.dev.inactive := by
        funext b; rw [Dev.slotByte, slots_finish]; rfl
      rw [hbytes]
      exact wordStored_storeImgWord s.dev w
    · rw [slots_finish]
      exact vget_vset_ne _ _ (by have := inactive_lt s.dev; omega)
    · exact (Dev.f_finish _ (by decide)).trans (f_imgStep ha)
  · refine ⟨_, (exec_imgdataWrite halive w).trans (congrArg (done s) (imgDataWrite_closed w hclosed)),
      keeps.refl.imgResult _ _ _ _ (by decide), (List.append_nil _).symm, ?_, ?_⟩
    · exact (Dev.f_finish _ (by decide)).trans (f_imgResult_code ..)
    · exact (Dev.f_finish _ (by decide)).trans (f_imgResult_origin ..)
  · refine ⟨_, exec_imgdataRead halive, (keeps.refl.set _ (by decide)).putReadData _ (by decide), (List.append_nil _).symm, ?_, ?_⟩
    · rw [readData_finish]
      exact Mem.ofNat_byte_word _ _
    · exact (Dev.f_finish _ (by decide)).trans (f_imgStep ha)
  · have haddr : s.dev.imgAddr w = s.dev.set F.IMGADDR_OFFSET (w.toNat % 2 ^ 21 / 4 * 4) := if_neg (by simp only [lastOffset]; omega)
    refine ⟨_, (exec_imgaddrWrite halive w).trans (congrArg (done s) haddr), keeps.refl.set _ (by decide), (List.append_nil _).symm, ?_⟩
    exact (Dev.f_finish _ (by decide)).trans (Dev.f_set_lt _ _ _ (by decide) (show _ < 2 ^ 21 by omega))
  · have haddr : s.dev.imgAddr w = s.dev := if_pos hw
    exact ⟨_, (exec_imgaddrWrite halive w).trans (congrArg (done s) haddr), keeps.refl, (List.append_nil _).symm, Dev.f_finish _ (by decide)⟩
end

section
/-! A COMMIT written while an expired trial waits for its restart, though TRIAL reads 0 (R70, R72, R73). -/
namespace Sys2Proof.Machine

/-- COMMIT_PENDING waits for an expired trial, TRIAL reads 0, and both slots are sealed and empty, so that neither passes the check. -/
def expiredWithoutTrial : Dev :=
  (({ pw := { inReset := false, absent := false } } : Dev).set F.IMGSTAT_COMMIT_PENDING 1).putImg { expiry := true } |>.putSlots
    (Vector.replicate 2 { sealed := true })

theorem exec_imgCommit (force : Bool) (v : Nat) (s : State) : exec (.imgCommit force v) s = .next { s with dev := finish (imgCommitRow s.dev force v) } := rfl

/-- The COMMIT is no repeated one and the slot fails, so IMGRESULT takes the reason; the wait for the restart goes on. -/
theorem commitPending_expiredWithoutTrial : (finish (imgCommitRow expiredWithoutTrial false 0)).f F.IMGSTAT_COMMIT_PENDING = 1 :=
  (Dev.f_finish _ (by decide)).trans (by decide)

end Sys2Proof.Machine

open Sys2Proof Sys2Proof.Machine

/-- Refutes O31: a COMMIT of a sealed slot is to leave COMMIT_PENDING set exactly where the slot passes. Where COMMIT_PENDING already waits for an expired
trial no command counts as running, and a COMMIT that fails leaves it 1: so in the state `expiredWithoutTrial`. -/
theorem not_commitAndTrial : ¬ Obligations.CommitAndTrial := by
  unfold Obligations.CommitAndTrial
  intro h
  obtain ⟨hsealed, -⟩ := h 0 false { dev := expiredWithoutTrial } (by decide)
  obtain ⟨t, hexec, -, hpending, -⟩ := hsealed (by decide) (by decide) (by decide)
  obtain rfl := Host.Outcome.next.inj ((exec_imgCommit ..).symm.trans hexec)
  have hfails : (expiredWithoutTrial.checkSlot expiredWithoutTrial.inactive).isNone = false := by decide
  rw [hfails, Bool.false_and] at hpending
  dsimp only at hpending
  rw [commitPending_expiredWithoutTrial] at hpending
  exact absurd hpending (by decide)
end

section
/-! Live writes (R74 to R76): which field a register's live write concerns, what acceptance and rejection leave, and what an accepted value sets off. -/
namespace Sys2Proof.Machine

variable {d e : Dev} {fs : List Field} {ps : List Part} {s : State}

/-! ### The live fields -/

/-- The live fields of R74, lenses and slots apart. -/
def liveFields : List Field :=
  [F.SYS_SETPT_SETPOINT, F.SYS_LOADLINE_SLOPE, F.CHG_ICC_I_CC, F.CHG_RESV_CYC] ++ (List.range 6).map F.C_ILIM_ILIM ++
    (List.range 5).map F.PORT_ILIM_IN ++ (List.range 5).map F.PORT_OLIM_OUT ++ (List.range 4).map F.ZONE_CFG_FLOOR

theorem liveField_eq_find (a : Nat) : liveField a = liveFields.find? fun x => x.addr == a := rfl

theorem liveField_mem {a : Nat} {x : Field} (h : liveField a = some x) : x ∈ liveFields :=
  List.mem_of_find?_eq_some ((liveField_eq_find a).symm.trans h)

theorem liveField_addr {a : Nat} {x : Field} (h : liveField a = some x) : x.addr = a :=
  eq_of_beq (List.find?_some (p := fun y : Field => y.addr == a) ((liveField_eq_find a).symm.trans h))

/-- A live field fits its register, and the end of a command, LIVE_REJ and the slots' arguments stand apart from it. -/
theorem liveFields_spec : ∀ x ∈ liveFields, x.lo + x.width ≤ 32 ∧ endFields.all (fun y => x.apart y) = true ∧ x.apart F.IMGSTAT_LIVE_REJ = true ∧
    ((List.range 32).find? fun k => x.addr == R.SLOT_ARG k) = none := by decide

theorem exec_liveWrite (a : BitVec 16) (w : Word) (s : State) : exec (.liveWrite a w) s = done s (liveWriteRow s.dev a.toNat w) := rfl

theorem exec_liveWrite_field {a : BitVec 16} {x : Field} (halive : s.dev.alive = true) (h : liveField a.toNat = some x) (w : Word) :
    exec (.liveWrite a w) s = done s (s.dev.liveWrite x (x.read w)) := by
  obtain ⟨-, -, -, hslot⟩ := liveFields_spec x (liveField_mem h)
  rw [liveField_addr h] at hslot
  rw [exec_liveWrite]
  unfold liveWriteRow
  simp only [halive, hslot, h]
  rfl

theorem find_slotArg : ∀ k : Fin 32, ((List.range 32).find? fun j => R.SLOT_ARG k == R.SLOT_ARG j) = some k.val := by decide

theorem toNat_slotArg : ∀ k : Fin 32, (BitVec.ofNat 16 (R.SLOT_ARG k)).toNat = R.SLOT_ARG k := by decide

theorem exec_liveWrite_slotArg (halive : s.dev.alive = true) (k : Fin 32) (w : Word) :
    exec (.liveWrite (BitVec.ofNat 16 (R.SLOT_ARG k)) w) s = done s (s.dev.slotArg k w.toNat) := by
  rw [exec_liveWrite, toNat_slotArg]
  unfold liveWriteRow
  simp only [halive, find_slotArg]
  rfl

/-! ### Rejection -/

/-- A rejected live write sets LIVE_REJ and raises EVB0 source 3, and changes nothing else (R75). -/
theorem effect_liveReject {i : Instr} (halive : s.dev.alive = true) (hexec : exec i s = done s s.dev.liveReject) :
    effect i s [F.IMGSTAT_LIVE_REJ] [] [3] fun d => d.f F.IMGSTAT_LIVE_REJ = 1 ∧
      ∀ x : Field, endFields.all (fun y => x.apart y) = true → x.apart F.IMGSTAT_LIVE_REJ = true → d.f x = s.dev.f x := by
  refine ⟨_, hexec, (keeps.refl.set 1 (by decide)).raise 0 3, Dev.raise_raised _ 0 3 halive, ?_, fun x hend hrej => ?_⟩
  · exact (Dev.f_finish _ (by decide)).trans ((Dev.f_raise ..).trans (Dev.f_set_lt _ _ 1 (by decide) (by decide)))
  · exact (Dev.f_finish _ hend).trans ((Dev.f_raise ..).trans (Dev.f_set_apart _ 1 hrej))

/-! ### Acceptance -/

theorem keeps.liveSet {x : Field} (v : Nat) (hx : x ∈ fs) (hp : ps.contains .live = true) (h : keeps fs ps d e) : keeps fs ps d (e.liveSet x v) :=
  (h.putLive _ hp).set v hx

theorem f_liveSet (d : Dev) {x : Field} {v : Nat} (h : x.lo + x.width ≤ 32) (hv : v < 2 ^ x.width) : (d.liveSet x v).f x = v :=
  Dev.f_set_lt _ _ _ h hv

theorem mem_live_liveSet (d : Dev) (x : Field) (v : Nat) : (⟨x, v⟩ : LiveEntry) ∈ (d.liveSet x v).live.entries :=
  List.mem_append_right _ (List.mem_singleton_self _)

theorem tag_liveSet (d : Dev) (x : Field) (v : Nat) : (d.liveSet x v).live.tag = d.digestTag := rfl

theorem Field.read_lt (x : Field) (w : Word) : x.read w < 2 ^ x.width := Nat.mod_lt _ (Nat.two_pow_pos _)

theorem liveWrite_rejected {x : Field} {v : Nat} (h : d.liveBound x v = false) : d.liveWrite x v = d.liveReject := by
  simp [Dev.liveWrite, h]

theorem liveWrite_accepted {x : Field} {v : Nat} (h : d.liveBound x v = true) : d.liveWrite x v = (d.liveSet x v).liveEffect x := if_pos h

/-- Without course engines an accepted value sets off nothing more. -/
theorem liveEffect_stopped (x : Field) (h : d.running = false) : d.liveEffect x = d := by
  simp [Dev.liveEffect, Dev.capContract, h]

/-- An accepted live write that sets off nothing more changes its field and the live record alone. -/
theorem effect_liveSet {i : Instr} {x : Field} {v : Nat} (hexec : exec i s = done s (s.dev.liveSet x v)) (hend : endFields.all (fun y => x.apart y) = true)
    (hx : x.lo + x.width ≤ 32) (hv : v < 2 ^ x.width) :
    effect i s [x] [.live] [] fun d => d.f x = v ∧ (⟨x, v⟩ : LiveEntry) ∈ d.live.entries ∧ d.live.tag = s.dev.digestTag := by
  refine ⟨_, hexec, keeps.refl.liveSet v (List.mem_singleton_self _) (by decide), (List.append_nil _).symm, ?_, ?_, ?_⟩
  · exact (Dev.f_finish _ hend).trans (f_liveSet _ hx hv)
  · rw [live_finish]; exact mem_live_liveSet ..
  · rw [live_finish]; exact tag_liveSet ..

theorem slotArg_spec : ∀ k : Fin 32, endFields.all (fun y => (F.SLOT_ARG_ARG k).apart y) = true := by decide

theorem read_slotArg (k : Nat) (w : Word) : (F.SLOT_ARG_ARG k).read w = w.toNat := by
  show (w >>> 0).toNat % 2 ^ 32 = w.toNat
  rw [BitVec.ushiftRight_zero, Nat.mod_eq_of_lt w.isLt]

theorem slotArg_off (k w : Nat) (h : d.slotOn k = false) : d.slotArg k w = d.liveReject := by simp [Dev.slotArg, h]

theorem slotArg_on (k w : Nat) (h : d.slotOn k = true) : d.slotArg k w = d.liveSet (F.SLOT_ARG_ARG k) w := if_pos h

/-- A live write of the argument of an enabled slot (R281). -/
theorem effect_slotArg (halive : s.dev.alive = true) (k : Fin 32) (w : Word) (hon : s.dev.slotOn k = true) :
    effect (.liveWrite (BitVec.ofNat 16 (R.SLOT_ARG k)) w) s [F.SLOT_ARG_ARG k] [.live] [] fun d =>
      d.f (F.SLOT_ARG_ARG k) = w.toNat ∧ (⟨F.SLOT_ARG_ARG k, w.toNat⟩ : LiveEntry) ∈ d.live.entries ∧ d.live.tag = s.dev.digestTag :=
  effect_liveSet ((exec_liveWrite_slotArg halive k w).trans (congrArg (done s) (slotArg_on k _ hon))) (slotArg_spec k) (Nat.le_refl 32) w.isLt

theorem effect_slotArg_off (halive : s.dev.alive = true) (k : Fin 32) (w : Word) (hoff : s.dev.slotOn k = false) :
    effect (.liveWrite (BitVec.ofNat 16 (R.SLOT_ARG k)) w) s [F.IMGSTAT_LIVE_REJ] [] [3] fun d => d.f F.IMGSTAT_LIVE_REJ = 1 :=
  (effect_liveReject halive ((exec_liveWrite_slotArg halive k w).trans (congrArg (done s) (slotArg_off k _ hoff)))).mono fun _ h => h.1

/-- A rejected write of thresholds moves no lens, so that the time base counts none either. -/
theorem exec_lensThWrite_rejected (halive : s.dev.alive = true) {n : Fin 24} {lo hi : Byte} (h : s.dev.lensUsed n = false ∨ hi.toNat < lo.toNat) :
    exec (.lensThWrite n lo hi) s = done s s.dev.liveReject := by
  have hreject : s.dev.lensThWrite n lo.toNat hi.toNat = s.dev.liveReject := if_pos (by simpa using h)
  have hout : s.dev.liveReject.f F.LENS_OUT_OUT = s.dev.f F.LENS_OUT_OUT := (Dev.f_raise ..).trans (Dev.f_set_ne _ _ (by decide))
  have hexec : exec (.lensThWrite n lo hi) s = done s (s.dev.lensCounted (if s.dev.alive then s.dev.lensThWrite n lo.toNat hi.toNat else s.dev)) := rfl
  rw [hexec, if_pos halive, hreject]
  refine congrArg (done s) (if_neg ?_)
  simp [Dev.fbit, hout]

end Sys2Proof.Machine

open Sys2Proof Sys2Proof.Machine

/-- Settles O57: each rejected write is the one rejection, each accepted one sets its field and nothing more. -/
theorem liveBounds : Obligations.LiveBounds := by
  unfold Obligations.LiveBounds
  intro a w n lo hi k t frac s halive
  refine ⟨fun x hx => ⟨fun hout => ?_, fun hin hstopped => ?_⟩, fun h => ?_, fun hoff => ⟨?_, fun ht => ?_⟩, fun hon => ?_⟩
  · have hexec := (exec_liveWrite_field halive hx w).trans (congrArg (done s) (liveWrite_rejected hout))
    exact (effect_liveReject halive hexec).mono fun d h => h.1
  · obtain ⟨hwidth, hend, -, -⟩ := liveFields_spec x (liveField_mem hx)
    have hwrite : s.dev.liveWrite x (x.read w) = s.dev.liveSet x (x.read w) := (liveWrite_accepted hin).trans (liveEffect_stopped x hstopped)
    exact (effect_liveSet ((exec_liveWrite_field halive hx w).trans (congrArg (done s) hwrite)) hend hwidth (x.read_lt w)).mono fun d h => h.1
  · exact (effect_liveReject halive (exec_lensThWrite_rejected halive h)).mono fun d h => h.1
  · exact effect_slotArg_off halive k w (by simp [Dev.slotOn, Dev.on, hoff])
  · have hrow : slotPosfWrite s.dev k t frac = s.dev.liveReject := by
      simp [slotPosfWrite, halive, ht, Dev.slotPosf, Dev.slotOn, Dev.on, hoff]
    have hexec : exec (.slotPosfWrite k t frac) s = done s (slotPosfWrite s.dev k t frac) := rfl
    exact (effect_liveReject halive (hexec.trans (congrArg (done s) hrow))).mono fun d h => h.1
  · rw [read_slotArg]
    exact (effect_slotArg halive k w (by simp [Dev.slotOn, Dev.on, hon])).mono fun d h => h.1
end

section
/-! What an accepted live value sets off (R74, R198, R238), the configuration scrub (R77, R78) and the check of the inactive slot (R80). -/
namespace Sys2Proof.Machine

/-! ### A register and the live record stay -/

/-- `e` agrees with `d` in the register at `a` and in the live record. -/
structure SameAt (a : Nat) (d e : Dev) : Prop where
  rd : e.rd a = d.rd a
  live : e.live = d.live

variable {a : Nat} {d e : Dev}

theorem SameAt.refl (d : Dev) : SameAt a d d := ⟨rfl, rfl⟩

theorem SameAt.trans {b c : Dev} (h : SameAt a d b) (g : SameAt a b c) : SameAt a d c := ⟨g.rd.trans h.rd, g.live.trans h.live⟩

theorem SameAt.f (h : SameAt a d e) {x : Field} (hx : x.addr = a) : e.f x = d.f x := by
  subst hx
  exact congrArg x.read h.rd

theorem SameAt.set (d : Dev) {x : Field} (v : Nat) (h : a ≠ x.addr) : SameAt a d (d.set x v) := ⟨Dev.rd_set_ne d v h, rfl⟩

theorem SameAt.putTile (d : Dev) (x : Vector Tile 16) : SameAt a d (d.putTile x) := ⟨rfl, rfl⟩
theorem SameAt.putCourse (d : Dev) (x : Vector Course 6) : SameAt a d (d.putCourse x) := ⟨rfl, rfl⟩
theorem SameAt.putPath (d : Dev) (x : Path) : SameAt a d (d.putPath x) := ⟨rfl, rfl⟩
theorem SameAt.putRing (d : Dev) (x : Ring) : SameAt a d (d.putRing x) := ⟨rfl, rfl⟩
theorem SameAt.modTile (d : Dev) (t : Nat) (g : Tile → Tile) : SameAt a d (d.modTile t g) := .putTile ..
theorem SameAt.modCourse (d : Dev) (c : Nat) (g : Course → Course) : SameAt a d (d.modCourse c g) := .putCourse ..
theorem SameAt.modSeg (d : Dev) (s : Nat) (g : Segment → Segment) : SameAt a d (d.modSeg s g) := .putRing ..
theorem SameAt.raise (d : Dev) (b n : Nat) : SameAt a d (d.raise b n) := ⟨Dev.rd_raise .., Dev.raise_live ..⟩
theorem SameAt.logFault (d : Dev) (b n : Nat) (w : List Word) : SameAt a d (d.logFault b n w) := ⟨Dev.rd_logFault .., Dev.logFault_live ..⟩
theorem SameAt.fault (d : Dev) (b n : Nat) (l : List Nat) : SameAt a d (d.fault b n l) := .trans (.raise d b n) (.logFault ..)

theorem SameAt.ite {c : Prop} [Decidable c] {x y : Dev} (hx : SameAt a d x) (hy : SameAt a d y) : SameAt a d (if c then x else y) := by
  split
  · exact hx
  · exact hy

theorem SameAt.foldl {β : Type} (g : Dev → β → Dev) (l : List β) (hg : ∀ d x, SameAt a d (g d x)) (d : Dev) : SameAt a d (l.foldl g d) := by
  induction l generalizing d with
  | nil => exact .refl d
  | cons x t ih => exact (hg d x).trans (ih _)

/-! ### The stop of a course leaves CHG_RESV -/

/-- A register of the tiles, at offset `k`, is not CHG_RESV. -/
theorem resv_ne_tile {k : Nat} (t : Nat) (h : k % 64 ≠ R.CHG_RESV % 64) : R.CHG_RESV ≠ k + 64 * t := by
  intro heq; rw [heq] at h; omega

/-- A register of the courses, at offset `k`, is not CHG_RESV. -/
theorem resv_ne_course {k : Nat} (c : Nat) (h : k % 128 ≠ R.CHG_RESV % 128) : R.CHG_RESV ≠ k + 128 * c := by
  intro heq; rw [heq] at h; omega

/-- `e` agrees with `d` in CHG_RESV and in the live record. -/
abbrev SameResv (d e : Dev) : Prop := SameAt R.CHG_RESV d e

theorem SameResv.sendTo (d : Dev) (t st : Nat) : SameResv d (d.sendTo t st) :=
  .ite (.modTile ..) (.trans (.set d (x := F.TILE_STAT_STATE t) st (resv_ne_tile t (k := 0x818) (by decide))) (.modTile ..))

theorem SameResv.leaveTest (d : Dev) (t : Nat) : SameResv d (d.leaveTest t) := by
  unfold Dev.leaveTest
  exact .trans (SameResv.sendTo d t _) (.modTile ..)

theorem SameResv.abortTest (d : Dev) (t : Nat) : SameResv d (d.abortTest t) := by
  unfold Dev.abortTest
  dsimp only
  have hstart : SameResv d (((d.set (F.TILE_TEST_RESULT t) 4).set (F.TILE_CTL_TEST_START t) 0).raise 1 28) :=
    .trans (.trans (.set d 4 (resv_ne_tile t (k := 0x830) (by decide))) (.set _ 0 (resv_ne_tile t (k := 0x814) (by decide)))) (.raise ..)
  exact .ite (.ite (hstart.trans (SameResv.leaveTest ..)) (hstart.trans (.modTile ..))) (.refl d)

theorem SameResv.abortTests (d : Dev) (c : Nat) : SameResv d (d.abortTests c) := .foldl _ _ (fun d t => SameResv.abortTest d t) d

theorem SameResv.cancelStagger (d : Dev) (c : Nat) : SameResv d (d.cancelStagger c) := by
  have hphase : ∀ t, R.CHG_RESV ≠ R.TILE_PHASE t := fun t => resv_ne_tile t (k := 0x820) (by decide)
  refine .trans (.foldl _ _ (fun d t => ?_) d) (.set _ 0 (resv_ne_course c (k := 0x1018) (by decide)))
  exact .trans (.set d (x := F.TILE_PHASE_NEXT_V t) 0 (hphase t)) (.set _ (x := F.TILE_PHASE_NEXT t) 0 (hphase t))

theorem SameResv.endShed (d : Dev) (c : Nat) : SameResv d (d.endShed c) := by
  refine .trans (.trans ?_ (.modCourse ..)) (.set _ 0 (resv_ne_course c (k := 0x1018) (by decide)))
  split
  · exact .set d 0 (resv_ne_tile _ (k := 0x818) (by decide))
  · exact .refl d

theorem SameResv.unshare (d : Dev) (c : Nat) : SameResv d (d.unshare c) := .ite (.set d (x := F.PATH_STAT_SHARERS) _ (by decide)) (.refl d)

theorem SameResv.traceStandIn (d : Dev) (c t : Nat) : SameResv d (d.traceStandIn c t) :=
  .trans (.trans (.set d (x := F.C_EVT_SPARE_IN c) 1 (resv_ne_course c (k := 0x101C) (by decide))) (.fault ..)) (.modTile ..)

theorem SameResv.haltTiles (d : Dev) (c : Nat) (now : Bool) : SameResv d (d.haltTiles c now) := by
  have hipk : ∀ t, R.CHG_RESV ≠ R.TILE_IPK t := fun t => resv_ne_tile t (k := 0x824) (by decide)
  refine .trans (.foldl _ _ (fun d t => .ite (SameResv.traceStandIn d c t) (.refl d)) d) (.foldl _ _ (fun d t => ?_) _)
  exact .ite (.trans (.modTile ..) (.set _ (x := F.TILE_IPK_DAC t) 0 (hipk t))) (.refl d)

/-- The writes of a halt to the course's own registers. -/
theorem SameResv.zeroCourse (d : Dev) (c : Nat) : SameResv d
    (((((((((d.set (F.C_MODE_MODE c) 0).set (F.C_RSTAT_DELIVER c) 0).set (F.C_RSTAT_START_ST c) 0).set (F.C_RSTAT_ACTIVE c) 0).set
      (F.C_RSTAT_TRACK_WAIT c) 0).set (F.C_DEMAND_D c) 0).set (F.C_DEMAND_CODE c) 0).set (F.C_REF_REF c) 0).set (F.C_REF_FINAL c) 0) := by
  have hmode : R.CHG_RESV ≠ R.C_MODE c := resv_ne_course c (k := 0x1040) (by decide)
  have hstat : R.CHG_RESV ≠ R.C_RSTAT c := resv_ne_course c (k := 0x105C) (by decide)
  have hdem : R.CHG_RESV ≠ R.C_DEMAND c := resv_ne_course c (k := 0x1058) (by decide)
  have href : R.CHG_RESV ≠ R.C_REF c := resv_ne_course c (k := 0x1054) (by decide)
  have hrun : SameResv d ((((d.set (F.C_MODE_MODE c) 0).set (F.C_RSTAT_DELIVER c) 0).set (F.C_RSTAT_START_ST c) 0).set (F.C_RSTAT_ACTIVE c) 0) :=
    .trans (.trans (.trans (.set d 0 hmode) (.set _ 0 hstat)) (.set _ 0 hstat)) (.set _ 0 hstat)
  exact .trans (.trans (.trans (.trans (.trans hrun (.set _ 0 hstat)) (.set _ 0 hdem)) (.set _ 0 hdem)) (.set _ 0 href)) (.set _ 0 href)

theorem SameResv.haltCourse (d : Dev) (c : Nat) (now : Bool) : SameResv d (d.haltCourse c now) := by
  refine .ite (.refl d) (.trans (.trans (.trans ?_ (SameResv.zeroCourse _ c)) (.modCourse ..)) (SameResv.haltTiles ..))
  exact .trans (.trans (.trans (SameResv.abortTests ..) (SameResv.cancelStagger ..)) (SameResv.endShed ..)) (SameResv.unshare ..)

theorem SameResv.fallCourse (d : Dev) (c : Nat) : SameResv d (d.fallCourse c) := by
  refine .ite (.trans (.trans ?_ (SameResv.abortTests ..)) (.modCourse ..)) (SameResv.haltCourse ..)
  exact .trans (.set d (x := F.C_MODE_MODE c) 0 (resv_ne_course c (k := 0x1040) (by decide)))
    (.set _ (x := F.C_RSTAT_START_ST c) 3 (resv_ne_course c (k := 0x105C) (by decide)))

theorem SameResv.hardStop (d : Dev) (c : Nat) (now : Bool) : SameResv d (d.hardStop c now) :=
  .ite (.refl d) (.trans (SameResv.haltCourse d c now) (.foldl _ _ (fun d k => SameResv.fallCourse d k) _))

theorem SameResv.goReserve (d : Dev) : SameResv d d.goReserve := by
  refine .trans (.trans ?_ (.trans (.set _ (x := F.PATH_STAT_STATE) 5 (by decide)) (.set _ (x := F.PATH_STAT_LEAD) 0 (by decide)))) (.putPath ..)
  split
  · exact SameResv.hardStop ..
  · exact .refl d

/-- Judging the floor leaves the reserve's own live field, and the live record. -/
theorem SameResv.judgeFloor (d : Dev) : SameResv d d.judgeFloor := by
  unfold Dev.judgeFloor
  refine .ite (.refl d) ?_
  extract_lets was now shown told judged st
  have hshown : SameResv d shown := .trans (.set d (x := F.CHG_ENERGY_E_RES) _ (by decide)) (.set _ (x := F.CHG_RESV_E_AT_FLOOR) _ (by decide))
  have htold : SameResv d told := .ite (hshown.trans (.raise ..)) hshown
  have hjudged : SameResv d judged := .ite (htold.trans (.set _ (x := F.CHG_RESV_E_RELEASED) 0 (by decide))) htold
  refine .ite (hjudged.trans (SameResv.goReserve _)) (.ite ?_ hjudged)
  split
  · exact hjudged.trans (.trans (SameResv.hardStop ..) (.set _ (x := F.PATH_STAT_ASSIST) 0 (by decide)))
  · exact hjudged

/-! ### A capped offer leaves the ports' limits -/

theorem SameAt.drive1 (d : Dev) (s : Nat) (f : Frame) : SameAt a d (d.drive1 s f) := .modSeg ..
theorem SameAt.onLine (d : Dev) (s : Nat) (o : Outgoing) : SameAt a d (d.onLine s o) := .modSeg ..

theorem SameAt.sendAgain (d : Dev) (s : Nat) (o : Outgoing) : SameAt a d (d.sendAgain s o) :=
  .ite (.trans (.trans (.modSeg ..) (.drive1 ..)) (.onLine ..)) (.refl d)

theorem SameAt.segStart (d : Dev) (s : Nat) : SameAt a d (d.segStart s) := by
  unfold Dev.segStart
  refine .ite (.refl d) ?_
  split
  · exact .sendAgain ..
  · split
    · exact .trans (.trans (.drive1 ..) (.onLine ..)) (.modSeg ..)
    · split
      · exact .ite (.refl d) (.trans (.drive1 ..) (.modSeg ..))
      · split
        · exact .refl d
        · exact .trans (.drive1 ..) (.modSeg ..)

theorem SameAt.originate (d : Dev) (s typ dst prio : Nat) (data : List Byte) : SameAt a d (d.originate s typ dst prio data) :=
  .ite (.refl d) (.trans (.trans (.putRing ..) (.modSeg ..)) (.segStart ..))

theorem SameAt.sendOffer (d : Dev) (s : Nat) (pts : List (Nat × Nat)) (capped : Bool) (h : a ≠ R.SEG_STAT s) : SameAt a d (d.sendOffer s pts capped) := by
  have hoffer : ∀ g data, SameAt a d ((d.sendNeigh s 0x08 data).modSeg s g) := fun g data => .trans (.originate ..) (.modSeg ..)
  exact .ite (.refl d) (.ite ((hoffer _ _).trans (.set _ 1 h)) (hoffer _ _))

theorem SameAt.capContract (d : Dev) (s : Nat) (h : a ≠ R.SEG_STAT s) : SameAt a d (d.capContract s) := .ite (.sendOffer d s _ _ h) (.refl d)

/-- What an accepted value sets off leaves its own field and the live record. -/
theorem SameAt.liveEffect (d : Dev) (x : Field) : SameAt x.addr d (d.liveEffect x) := by
  unfold Dev.liveEffect
  split
  · obtain rfl := eq_of_beq ‹(x == F.CHG_RESV_CYC) = true›
    exact .ite (SameResv.judgeFloor d) (.refl d)
  · split
    · obtain rfl := eq_of_beq ‹(x == F.PORT_OLIM_OUT 2) = true›
      exact .capContract d 0 (by decide)
    · split
      · obtain rfl := eq_of_beq ‹(x == F.PORT_OLIM_OUT 3) = true›
        exact .capContract d 1 (by decide)
      · exact .refl d

/-! ### An accepted live write -/

variable {s : State}

/-- An accepted live write takes effect and joins the live record, whatever it sets off (R74, R76). -/
theorem leads_liveWrite {a : BitVec 16} {x : Field} {w : Word} (halive : s.dev.alive = true) (h : liveField a.toNat = some x)
    (hin : s.dev.liveBound x (x.read w) = true) :
    leads (.liveWrite a w) s fun d => d.f x = x.read w ∧ (⟨x, x.read w⟩ : LiveEntry) ∈ d.live.entries ∧ d.live.tag = s.dev.digestTag := by
  obtain ⟨hwidth, hend, -, -⟩ := liveFields_spec x (liveField_mem h)
  have hsame : SameAt x.addr (s.dev.liveSet x (x.read w)) _ := SameAt.liveEffect _ x
  refine ⟨_, (exec_liveWrite_field halive h w).trans (congrArg (done s) (liveWrite_accepted hin)), rfl, ?_, ?_, ?_⟩
  · exact (Dev.f_finish _ hend).trans ((hsame.f rfl).trans (f_liveSet _ hwidth (x.read_lt w)))
  · rw [live_finish, hsame.live]; exact mem_live_liveSet ..
  · rw [live_finish, hsame.live]; exact tag_liveSet ..

/-! ### The SYS set-point -/

theorem liveField_setpoint : liveField (BitVec.ofNat 16 R.SYS_SETPT).toNat = some F.SYS_SETPT_SETPOINT := by decide

theorem liveBound_setpoint (d : Dev) (v : Nat) :
    d.liveBound F.SYS_SETPT_SETPOINT v = within (d.f F.SYS_BOUNDS_SETPOINT_MIN) (d.f F.SYS_BOUNDS_SETPOINT_MAX) v := rfl

theorem liveEffect_setpoint (d : Dev) : d.liveEffect F.SYS_SETPT_SETPOINT = d := rfl

/-! ### The configuration scrub -/

/-- What the reset of a running logic die leaves: held in reset with its cause, the image slots as they were (R406, R465). -/
theorem logicReset_spec {d : Dev} (cause : Nat) (h : d.alive = true) :
    (d.logicReset cause).alive = false ∧ (d.logicReset cause).pw.resetCause = cause ∧ (d.logicReset cause).slots = d.slots := by
  have hmode : (d.pw.mode != .on) = false := by simp_all [Dev.alive]
  have hreset : d.pw.inReset = false := by simp_all [Dev.alive]
  have hbefore : EndSame d d.beforeReset := .trans (.deliverAll 8 d) (.writeLogs _)
  unfold Dev.logicReset
  rw [hmode, hreset]
  exact ⟨Bool.and_false _, rfl, hbefore.slots⟩

theorem exec_configScrubError (double fails : Bool) (s : State) : exec (.configScrubError double fails) s = done s (scrubError s.dev double fails) := rfl

theorem scrubError_corrected (d : Dev) (fails : Bool) (h : d.alive = true) : scrubError d false fails = d.incSat F.SCRUBSTAT_CORRECTED := by
  simp [scrubError, h]

theorem scrubError_reloaded (d : Dev) (h : d.alive = true) :
    scrubError d true false = ((d.incSat F.SCRUBSTAT_RELOADED).set F.IMGSTAT_SCRUB_RELOAD 1).raise 0 4 := by
  simp [scrubError, h]

theorem scrubError_sourceFails (d : Dev) (h : d.alive = true) :
    ∃ e : Dev, e.alive = true ∧ e.slots = d.slots ∧ scrubError d true true = e.logicReset 7 := by
  refine ⟨_, ?_, ?_, by simp only [scrubError, h]; rfl⟩
  · exact (Dev.alive_logFault ..).trans h
  · exact Dev.logFault_slots ..

theorem f_incSat (d : Dev) (x : Field) (h : x.lo + x.width ≤ 32) : (d.incSat x).f x = min (d.f x + 1) (2 ^ x.width - 1) :=
  Dev.f_set_lt d x _ h (by have := Nat.two_pow_pos x.width; omega)

section
variable (halive : s.dev.alive = true) (fails : Bool)
include halive

theorem effect_scrubCorrected : effect (.configScrubError false fails) s [F.SCRUBSTAT_CORRECTED] [] [] fun d =>
    d.f F.SCRUBSTAT_CORRECTED = min (s.dev.f F.SCRUBSTAT_CORRECTED + 1) (2 ^ F.SCRUBSTAT_CORRECTED.width - 1) :=
  ⟨_, (exec_configScrubError ..).trans (congrArg (done s) (scrubError_corrected s.dev fails halive)), keeps.refl.incSat (by decide),
    (List.append_nil _).symm, (Dev.f_finish _ (by decide)).trans (f_incSat _ _ (by decide))⟩

omit fails
theorem effect_scrubReloaded : effect (.configScrubError true false) s [F.SCRUBSTAT_RELOADED, F.IMGSTAT_SCRUB_RELOAD] [] [4] fun d =>
    d.f F.SCRUBSTAT_RELOADED = min (s.dev.f F.SCRUBSTAT_RELOADED + 1) (2 ^ F.SCRUBSTAT_RELOADED.width - 1) ∧ d.f F.IMGSTAT_SCRUB_RELOAD = 1 := by
  refine ⟨_, (exec_configScrubError ..).trans (congrArg (done s) (scrubError_reloaded s.dev halive)),
    ((keeps.refl.incSat (by decide)).set 1 (by decide)).raise 0 4, Dev.raise_raised _ 0 4 halive, ?_, ?_⟩
  · exact (Dev.f_finish _ (by decide)).trans ((Dev.f_raise ..).trans ((Dev.f_set_ne _ 1 (by decide)).trans (f_incSat _ _ (by decide))))
  · exact (Dev.f_finish _ (by decide)).trans ((Dev.f_raise ..).trans (Dev.f_set_lt _ _ 1 (by decide) (by decide)))

theorem leads_scrubSourceFails : leads (.configScrubError true true) s fun d => d.alive = false ∧ d.pw.resetCause = 7 ∧ d.slots = s.dev.slots := by
  obtain ⟨e, hup, hslots, hrow⟩ := scrubError_sourceFails s.dev halive
  obtain ⟨hdown, hcause, hkept⟩ := logicReset_spec 7 hup
  refine ⟨_, (exec_configScrubError ..).trans (congrArg (done s) hrow), rfl, ?_, ?_, ?_⟩
  · exact (alive_finish _).trans hdown
  · exact (resetCause_finish _).trans hcause
  · exact (slots_finish _).trans (hkept.trans hslots)

end

/-- An event that a command raises is pending after it (R446). -/
theorem effect.pending {i : Instr} {fs : List Field} {ps : List Part} {evs : List Nat} {P : Dev → Prop} (h : effect i s fs ps evs P) :
    leads i s fun d => P d ∧ ∀ n ∈ evs, n < 192 → d.pendingEvent n = true := by
  obtain ⟨e, hexec, -, hraised, hp⟩ := h
  refine ⟨_, hexec, rfl, hp, fun n hn hlt => pendingEvent_finish (t := s.dev.pw.time) hlt ?_⟩
  rw [hraised]
  exact List.mem_append_right _ (List.mem_map.2 ⟨n, hn, rfl⟩)

theorem leads.mono {i : Instr} {P Q : Dev → Prop} (h : leads i s P) (hpq : ∀ d, P d → Q d) : leads i s Q := by
  obtain ⟨t, hexec, hpending, hp⟩ := h
  exact ⟨t, hexec, hpending, hpq _ hp⟩

/-! ### The check of the inactive slot -/

section
variable (halive : s.dev.alive = true) (hruns : s.dev.f F.BG_CTL_SLOT_CHK = 1 ∨ s.dev.f F.FUNC_PEND_SLOT = 1)
include halive hruns

/-- The age of the check starts anew (R410). -/
def Dev.slotAgeReset (d : Dev) : Dev := (d.set F.BG_STAT_SLOT_AGE_H 0).putRecov { d.recov with slotUs := 0 }

theorem exec_inactiveSlotCheck : exec .inactiveSlotCheck s = done s (if s.dev.sectionsGood s.dev.inactive then s.dev.slotAgeReset
    else (s.dev.slotAgeReset.setAlt false).fault 0 5 [R.IMGSTAT]) := by
  have hon : (s.dev.on F.BG_CTL_SLOT_CHK || s.dev.on F.FUNC_PEND_SLOT) = true := by
    rcases hruns with h | h <;> simp [Dev.on, h]
  refine congrArg (done s) ?_
  unfold inactiveCheck
  rw [halive, hon]
  rfl

theorem effect_inactiveSlotCheck_good (hgood : s.dev.sectionsGood s.dev.inactive = true) :
    effect .inactiveSlotCheck s [F.BG_STAT_SLOT_AGE_H] [.recov] [] fun d => d.f F.BG_STAT_SLOT_AGE_H = 0 ∧ d.recov.slotUs = 0 ∧ d.boot = s.dev.boot := by
  refine ⟨_, (exec_inactiveSlotCheck halive hruns).trans (congrArg (done s) (if_pos hgood)), (keeps.refl.set 0 (by decide)).putRecov _ (by decide),
    (List.append_nil _).symm, ?_, ?_, ?_⟩
  · exact (Dev.f_finish _ (by decide)).trans (Dev.f_set_lt _ _ 0 (by decide) (by decide))
  · rw [recov_finish]; rfl
  · rw [boot_finish]; rfl

theorem effect_inactiveSlotCheck_bad (hbad : s.dev.sectionsGood s.dev.inactive = false) :
    effect .inactiveSlotCheck s [F.BG_STAT_SLOT_AGE_H, F.IMGSTAT_ALT_VALID] [.recov, .boot, .faults] [5] fun d =>
      (d.f F.BG_STAT_SLOT_AGE_H = 0 ∧ d.recov.slotUs = 0) ∧ d.f F.IMGSTAT_ALT_VALID = 0 ∧ d.boot.altValid = false := by
  have hkeeps : keeps [F.BG_STAT_SLOT_AGE_H, F.IMGSTAT_ALT_VALID] [.recov, .boot, .faults] s.dev (s.dev.slotAgeReset.setAlt false) :=
    ((keeps.refl.set 0 (by decide)).putRecov _ (by decide)).setAlt false (by decide) (by decide)
  refine ⟨_, (exec_inactiveSlotCheck halive hruns).trans (congrArg (done s) (if_neg (by simp [hbad]))), hkeeps.fault 0 5 _ (by decide),
    (Dev.logFault_raised ..).trans (Dev.raise_raised _ 0 5 halive), ⟨?_, ?_⟩, ?_, ?_⟩
  · refine (Dev.f_finish _ (by decide)).trans ((Dev.f_logFault ..).trans ((Dev.f_raise ..).trans ((Dev.f_set_ne _ _ (by decide)).trans ?_)))
    exact Dev.f_set_lt _ _ 0 (by decide) (by decide)
  · rw [recov_finish, Dev.fault, Dev.logFault_recov, Dev.raise_recov]; rfl
  · exact (Dev.f_finish _ (by decide)).trans ((Dev.f_logFault ..).trans ((Dev.f_raise ..).trans (f_setAlt _ false)))
  · rw [boot_finish, Dev.fault, Dev.logFault_boot, Dev.raise_boot]; rfl

end

end Sys2Proof.Machine

open Sys2Proof Sys2Proof.Machine

/-- Settles O33: the live writes by their bound, the scrub by what it finds, the check of the inactive slot by its sections. -/
theorem liveAndScrub : Obligations.LiveAndScrub := by
  unfold Obligations.LiveAndScrub
  intro w a x k double fails s halive
  refine ⟨leads_liveWrite halive, fun hx hout => ?_, fun hon => ?_, effect_slotArg_off halive k w, ?_, fun hin => ?_, fun hout => ?_,
    effect_scrubCorrected halive fails, (effect_scrubReloaded halive).mono fun d h => h.2, fun hruns => ⟨?_, fun hgood => ?_, fun hbad => ?_⟩⟩
  · obtain ⟨-, hend, hrej, -⟩ := liveFields_spec x (liveField_mem hx)
    have hexec := (exec_liveWrite_field halive hx w).trans (congrArg (done s) (liveWrite_rejected hout))
    exact (effect_liveReject halive hexec).mono fun d h => ⟨h.1, h.2 x hend hrej⟩
  · exact (effect_slotArg halive k w hon).mono fun d h => ⟨h.1, h.2.1⟩
  · cases double with
    | false => exact (effect_scrubCorrected halive fails).pending.mono fun d h => h.1
    | true =>
      cases fails with
      | false => exact (effect_scrubReloaded halive).pending.mono fun d h => ⟨h.1.1, h.1.2, h.2 4 (by decide) (by decide)⟩
      | true => exact leads_scrubSourceFails halive
  · have hwrite := (liveWrite_accepted ((liveBound_setpoint s.dev _).trans hin)).trans (liveEffect_setpoint _)
    exact effect_liveSet ((exec_liveWrite_field halive liveField_setpoint w).trans (congrArg (done s) hwrite)) (by decide) (by decide) (Field.read_lt _ w)
  · have hexec := (exec_liveWrite_field halive liveField_setpoint w).trans (congrArg (done s) (liveWrite_rejected ((liveBound_setpoint s.dev _).trans hout)))
    exact (effect_liveReject halive hexec).mono fun d h => h.1
  · cases hgood : s.dev.sectionsGood s.dev.inactive with
    | true => exact (effect_inactiveSlotCheck_good halive hruns hgood).pending.mono fun d h => ⟨h.1.1, h.1.2.1, h.1.2.2⟩
    | false =>
      exact (effect_inactiveSlotCheck_bad halive hruns hgood).pending.mono fun d h =>
        ⟨h.1.1.1, h.1.1.2, h.1.2.1, h.1.2.2, h.2 5 (by decide) (by decide)⟩
  · exact (effect_inactiveSlotCheck_good halive hruns hgood).mono fun d h => ⟨h.1, h.2.1⟩
  · exact (effect_inactiveSlotCheck_bad halive hruns hbad).mono fun d h => h.2
end

section
/-! The state right after reset (R461, R465). -/
namespace Sys2Proof.Machine

/-- No register is listed at reset, so that each reads its reset value. -/
theorem rd_reset (a : Nat) : State.reset.dev.rd a = resetWord a := rfl

theorem resetWord_tileScale : ∀ t : Fin 16, resetWord (R.TILE_SCALE t) = 0x1D603E8#32 := by decide

theorem resetWord_pending : ∀ k : Fin 6, resetWord (R.EVB_PEND k) = 0#32 := by decide

theorem gates_reset : ∀ t : Fin 16, (vget State.reset.dev.tile t).gates = .off := by decide

/-- The logic die is in reset, so that every interrupt output is released (R447, R448). -/
theorem intsFollow_reset : intsFollow State.reset.dev := ⟨rfl, rfl, rfl⟩

end Sys2Proof.Machine

open Sys2Proof Sys2Proof.Machine

/-- Settles O59: each register reads the reset value of the map, and what no register shows its default. -/
theorem resetState : Obligations.ResetState := by
  unfold Obligations.ResetState
  simp only [rd_reset]
  refine ⟨⟨rfl, rfl, rfl, rfl, rfl, ?_, ?_, ?_, ?_, ?_, resetWord_tileScale, resetWord_pending, gates_reset⟩, intsFollow_reset, rfl, rfl⟩
  all_goals decide
end

section
/-! Tiles: the hidden part of one tile, loops over the tiles, and the gate supply (R87, R88, R102, R145). -/
namespace Sys2Proof.Machine

variable {d e : Dev} {s : State} {fs : List Field} {ps : List Part} {i : Instr}

/-! ### What the end of a command, and a frame, leave of the tiles and of SYS -/

theorem EndSame.tile (h : EndSame d e) : e.tile = d.tile := congrArg (·.tile) h.rest
theorem EndSame.fmap (h : EndSame d e) : e.fmap = d.fmap := congrArg (·.fmap) h.rest
theorem EndSame.vdrvOk (h : EndSame d e) : e.pw.vdrvOk = d.pw.vdrvOk := congrArg (·.pw.vdrvOk) h.rest

@[simp] theorem tile_finish (d : Dev) : (finish d).tile = d.tile := (EndSame.finish d).tile
@[simp] theorem fmap_finish (d : Dev) : (finish d).fmap = d.fmap := (EndSame.finish d).fmap
@[simp] theorem vdrvOk_finish (d : Dev) : (finish d).pw.vdrvOk = d.pw.vdrvOk := (EndSame.finish d).vdrvOk

/-- A command without an effect. -/
theorem effect_unchanged {P : Dev → Prop} (hexec : exec i s = done s s.dev) (hp : P (finish s.dev)) : effect i s fs ps [] P :=
  ⟨_, hexec, keeps.refl, (List.append_nil _).symm, hp⟩

/-! ### Fields of the tiles -/

theorem Field.apart_of_addr {x y : Field} (h : x.addr ≠ y.addr) : x.apart y = true := by simp [Field.apart, h]

/-- Two fields whose bits do not meet, whatever their registers. -/
theorem Field.apart_of_bits {x y : Field} (h : (Nat.ble (x.lo + x.width) y.lo || Nat.ble (y.lo + y.width) x.lo) = true) : x.apart y = true := by
  rw [Bool.or_eq_true, Nat.ble_eq, Nat.ble_eq] at h
  rcases h with h | h <;> simp [Field.apart, h]

/-- TILEn_STAT of two tiles. -/
theorem tileStat_ne {t u : Nat} (h : t ≠ u) : R.TILE_STAT t ≠ R.TILE_STAT u := by simp only [R.TILE_STAT]; omega

/-- The fields of tile `t` stand apart from those that the end of a command sets. -/
theorem tile_apart_end : ∀ t : Fin 16, ∀ x ∈ [F.TILE_STAT_STATE t, F.TILE_STAT_VDRV_OK t, F.TILE_STAT_CLEAR_REJ t, F.TILE_FAULT_CAUSE t, F.TILE_FAULT_DETAIL t,
    F.TILE_CYCLES_COUNT t], endFields.all (fun y => x.apart y) = true := by decide

/-! ### The hidden part of a tile -/

theorem f_modTile (d : Dev) (t : Nat) (g : Tile → Tile) (x : Field) : (d.modTile t g).f x = d.f x := rfl

theorem tile_modTile_same (d : Dev) {t : Nat} (g : Tile → Tile) (h : t < 16) : vget (d.modTile t g).tile t = g (vget d.tile t) := vget_vset_same _ _ h

theorem tile_modTile_ne (d : Dev) {t u : Nat} (g : Tile → Tile) (h : u ≠ t) : vget (d.modTile t g).tile u = vget d.tile u := vget_vset_ne _ _ h

theorem keeps.modTile (t : Nat) (g : Tile → Tile) (hp : ps.contains .tile = true) (h : keeps fs ps d e) : keeps fs ps d (e.modTile t g) := h.putTile _ hp

/-- A command that changes the hidden part of one tile. -/
theorem effect_modTile {t : Nat} {g : Tile → Tile} (hexec : exec i s = done s (s.dev.modTile t g)) :
    effect i s [] [.tile] [] fun d => d.tile = vset s.dev.tile t (g (vget s.dev.tile t)) :=
  ⟨_, hexec, keeps.refl.modTile t g (by decide), (List.append_nil _).symm, tile_finish _⟩

/-! ### Loops over the tiles -/

theorem each_succ (d : Dev) (n : Nat) (g : Dev → Nat → Dev) : d.each (n + 1) g = g (d.each n g) n := by
  simp [Dev.each, List.range_succ]

/-- What no turn changes. -/
theorem each_const {α : Type} (p : Dev → α) {g : Dev → Nat → Dev} (hg : ∀ e k, p (g e k) = p e) (n : Nat) (d : Dev) : p (d.each n g) = p d := by
  induction n with
  | zero => rfl
  | succ n ih => rw [each_succ, hg, ih]

/-- A field of each tile that takes its value at the tile's own turn and keeps it in the others. -/
theorem f_each {x : Nat → Field} {v n : Nat} {g : Dev → Nat → Dev} (hset : ∀ e k, (g e k).f (x k) = v)
    (hkeep : ∀ e j k, j ≠ k → (g e k).f (x j) = e.f (x j)) (d : Dev) {j : Nat} (hj : j < n) : (d.each n g).f (x j) = v := by
  induction n with
  | zero => omega
  | succ n ih =>
    rw [each_succ]
    by_cases h : j = n
    · rw [h]; exact hset _ n
    · exact (hkeep _ j n h).trans (ih (by omega))

/-- The hidden part of each tile, which changes at the tile's own turn alone, by a rule that `I` fixes. -/
theorem tile_each {I : Dev → Prop} {r : Nat → Tile → Tile} {g : Dev → Nat → Dev} (hI : ∀ e, ∀ k < 16, I e → I (g e k))
    (hsame : ∀ e, ∀ k < 16, I e → vget (g e k).tile k = r k (vget e.tile k)) (hother : ∀ e j k, j ≠ k → vget (g e k).tile j = vget e.tile j)
    (hd : I d) {n : Nat} (hn : n ≤ 16) (j : Nat) : I (d.each n g) ∧ vget (d.each n g).tile j = if j < n then r j (vget d.tile j) else vget d.tile j := by
  induction n with
  | zero => exact ⟨hd, rfl⟩
  | succ n ih =>
    obtain ⟨hi, htile⟩ := ih (by omega)
    rw [each_succ]
    refine ⟨hI _ n (by omega) hi, ?_⟩
    by_cases h : j = n
    · subst h; rw [hsame _ j (by omega) hi, htile, if_neg (Nat.lt_irrefl j), if_pos (Nat.lt_succ_self j)]
    · rw [hother _ j n h, htile]; simp only [show j < n + 1 ↔ j < n by omega]

/-! ### VDRV_OK and BOOT_OK -/

/-- What VDRV and the bootstraps show, tile by tile. -/
def supplyFields : List Field := (List.range 16).map F.TILE_STAT_VDRV_OK ++ (List.range 16).map F.TILE_STAT_BOOT_OK

/-- VDRV_OK and BOOT_OK of tile `t` as a change of VDRV shows them. -/
def Dev.showSupply (d : Dev) (t vdrv : Nat) (boot : Bool) : Dev := (d.set (F.TILE_STAT_VDRV_OK t) vdrv).setB (F.TILE_STAT_BOOT_OK t) boot

theorem mem_supplyFields {t : Nat} (h : t < 16) : F.TILE_STAT_VDRV_OK t ∈ supplyFields ∧ F.TILE_STAT_BOOT_OK t ∈ supplyFields :=
  ⟨List.mem_append_left _ (List.mem_map_of_mem (List.mem_range.2 h)), List.mem_append_right _ (List.mem_map_of_mem (List.mem_range.2 h))⟩

theorem keeps.showSupply {t : Nat} (ht : t < 16) (v : Nat) (b : Bool) (h : keeps supplyFields ps d e) : keeps supplyFields ps d (e.showSupply t v b) :=
  (h.set v (mem_supplyFields ht).1).setB b (mem_supplyFields ht).2

theorem f_showSupply_same (d : Dev) (t : Nat) {v : Nat} (b : Bool) (h : v < 2) : (d.showSupply t v b).f (F.TILE_STAT_VDRV_OK t) = v :=
  (Dev.f_set_apart _ _ (Field.apart_of_bits rfl)).trans (Dev.f_set_lt _ _ _ (Nat.le_of_ble_eq_true rfl) h)

theorem f_showSupply_ne (d : Dev) {t : Nat} (v : Nat) (b : Bool) {x : Field} (h : x.addr ≠ R.TILE_STAT t) : (d.showSupply t v b).f x = d.f x :=
  (Dev.f_set_ne _ _ h).trans (Dev.f_set_ne _ _ h)

/-- The parts of a tile's registers that VDRV and the bootstraps do not show. -/
theorem supply_apart : ∀ t : Fin 16, ∀ x ∈ [F.TILE_STAT_ARMING t, F.TILE_MAP_ROLE t, F.TILE_CFG_SPAN t, F.TILE_DUMPSTAT_LIMITED t],
    supplyFields.all (fun y => x.apart y) = true := by decide

end Sys2Proof.Machine
end

section
/-! The VDRV threshold and the ends of a pulse (R88, R92 to R97, R102, R145, R159). -/
namespace Sys2Proof.Machine

variable {d e : Dev} {s : State} {fs : List Field} {ps : List Part} {i : Instr}

/-! ### Below the threshold -/

theorem exec_vdrvUvlo (s : State) : exec .vdrvUvlo s = done s (vdrvUvlo s.dev) := rfl
theorem exec_vdrvRecover (s : State) : exec .vdrvRecover s = done s (vdrvRecover s.dev) := rfl

/-- A tile without VDRV: its gates off, its arming stopped. -/
def Tile.unsupplied (x : Tile) : Tile := { x with gates := .off, armRuns := false }

/-- Tile `t` as VDRV_UVLO leaves it. -/
def Dev.cutSupply (d : Dev) (t : Nat) : Dev := (d.showSupply t 0 (!d.isDump t && d.on (F.TILE_STAT_BOOT_OK t))).modTile t Tile.unsupplied

theorem vdrvUvlo_eq (d : Dev) : vdrvUvlo d = ((d.each 16 Dev.cutSupply).putPw { (d.each 16 Dev.cutSupply).pw with vdrvOk := false }).raise 1 31 := rfl

theorem tile_each_cutSupply (d : Dev) (t : Fin 16) : vget (d.each 16 Dev.cutSupply).tile t = (vget d.tile t).unsupplied :=
  (tile_each (I := fun _ => True) (r := fun _ => Tile.unsupplied) (fun _ _ _ _ => trivial) (fun e k hk _ => tile_modTile_same (e.showSupply k 0 _) _ hk)
    (fun e _ k hj => tile_modTile_ne (e.showSupply k 0 _) _ hj) trivial (Nat.le_refl 16) t).2.trans (if_pos t.isLt)

theorem f_each_cutSupply (d : Dev) (t : Fin 16) : (d.each 16 Dev.cutSupply).f (F.TILE_STAT_VDRV_OK t) = 0 :=
  f_each (x := F.TILE_STAT_VDRV_OK) (fun e k => (f_modTile ..).trans (f_showSupply_same e k _ (by decide)))
    (fun e _ _ hj => (f_modTile ..).trans (f_showSupply_ne e _ _ (tileStat_ne hj))) d t.isLt

theorem effect_vdrvUvlo (halive : s.dev.alive = true) (t : Fin 16) :
    effect .vdrvUvlo s supplyFields [.tile, .pw] [1 * 32 + 31] fun d =>
      d.pw.vdrvOk = false ∧ d.f (F.TILE_STAT_VDRV_OK t) = 0 ∧ (vget d.tile t).gates = .off ∧ (vget d.tile t).armRuns = false := by
  have hpw : (s.dev.each 16 Dev.cutSupply).pw = s.dev.pw := each_const Dev.pw (fun _ _ => rfl) 16 s.dev
  have hraised : (s.dev.each 16 Dev.cutSupply).raised = s.dev.raised := each_const Dev.raised (fun _ _ => rfl) 16 s.dev
  have hlive : ((s.dev.each 16 Dev.cutSupply).putPw { s.dev.pw with vdrvOk := false }).alive = true := halive
  have hexec := (exec_vdrvUvlo s).trans (congrArg (done s) (vdrvUvlo_eq s.dev))
  rw [hpw] at hexec
  have hkeeps : keeps supplyFields [.tile, .pw] s.dev (s.dev.each 16 Dev.cutSupply) :=
    keeps.refl.each 16 fun e k hk h => (h.showSupply hk 0 _).modTile k _ (by decide)
  refine ⟨_, hexec, (hkeeps.putPw _ (by decide)).raise 1 31, ?_, ?_, ?_, ?_, ?_⟩
  · rw [Dev.raise_raised _ 1 31 hlive, Dev.putPw_raised, hraised]; rfl
  · rw [vdrvOk_finish, Dev.raise_pw]; rfl
  · rw [Dev.f_finish _ (tile_apart_end t _ (by simp)), Dev.f_raise, Dev.f_putPw, f_each_cutSupply]
  · rw [tile_finish, Dev.raise_tile, Dev.putPw_tile, tile_each_cutSupply]; rfl
  · rw [tile_finish, Dev.raise_tile, Dev.putPw_tile, tile_each_cutSupply]; rfl

/-! ### Above the threshold -/

/-- The gates of a tile that the crowbar holds, with VDRV (R145). -/
def Dev.clampGates (d : Dev) (t : Nat) : Gates :=
  if (d.pd (F.TILE_MAP_ROLE t) = 3 ∧ d.f (F.TILE_DUMPSTAT_LIMITED t) = 0) ∨ (d.pd (F.TILE_MAP_ROLE t) ≠ 3 ∧ d.pd (F.TILE_CFG_SPAN t) = 1) then .lowHeld else .off

/-- A tile whose clamped gates follow `g`. -/
def Tile.clampTo (g : Gates) (x : Tile) : Tile := if x.clamp then { x with gates := g } else x

theorem tile_holdClamp_same {t : Nat} (ht : t < 16) (hv : d.pw.vdrvOk = true) (hm : d.pw.mode = .on) :
    vget (d.holdClamp t).tile t = (vget d.tile t).clampTo (d.clampGates t) := by
  have hgates : d.clampGates t = if ((d.pd (F.TILE_MAP_ROLE t) == 3 && !d.on (F.TILE_DUMPSTAT_LIMITED t)) ||
      (d.pd (F.TILE_MAP_ROLE t) != 3 && d.pd (F.TILE_CFG_SPAN t) == 1)) && d.pw.vdrvOk && d.pw.mode == .on then .lowHeld else .off := by
    simp [Dev.clampGates, Dev.on, hv, hm]
  unfold Dev.holdClamp Tile.clampTo
  split
  · rw [tile_modTile_same _ _ ht, hgates]
  · rfl

theorem tile_holdClamp_ne (d : Dev) {t u : Nat} (h : u ≠ t) : vget (d.holdClamp t).tile u = vget d.tile u := by
  unfold Dev.holdClamp
  split
  · exact tile_modTile_ne _ _ h
  · rfl

theorem keeps.holdClamp (t : Nat) (hp : ps.contains .tile = true) (h : keeps fs ps d e) : keeps fs ps d (e.holdClamp t) := .ite (h.modTile t _ hp) h

theorem holdClamp_raised (d : Dev) (t : Nat) : (d.holdClamp t).raised = d.raised := by unfold Dev.holdClamp; split <;> rfl
theorem holdClamp_pw (d : Dev) (t : Nat) : (d.holdClamp t).pw = d.pw := by unfold Dev.holdClamp; split <;> rfl

/-- Tile `t` as VDRV_RECOVER leaves it, before the crowbar has its low side again. -/
def Dev.giveSupply (d : Dev) (t : Nat) : Dev :=
  (d.showSupply t 1 (d.isDump t || d.on (F.TILE_STAT_BOOT_OK t))).modTile t fun x => { x with armRuns := d.on (F.TILE_STAT_ARMING t) && !d.holds t }

/-- The device of VDRV_RECOVER, with VDRV shown and the armings running. -/
def Dev.supplied (d : Dev) : Dev := (d.putPw { d.pw with vdrvOk := true }).each 16 Dev.giveSupply

theorem vdrvRecover_eq (d : Dev) : vdrvRecover d = d.supplied.each 16 Dev.holdClamp := rfl

/-- What the return of VDRV leaves: all but VDRV_OK and BOOT_OK, the tiles, and that VDRV is there. -/
structure Supplied (d e : Dev) : Prop where
  keep : keeps supplyFields [.tile, .pw] d e
  pw : e.pw = { d.pw with vdrvOk := true }

theorem sys_of_rest (h : e.rest ps = d.rest ps) (hp : ps.contains .sys = false) : e.sys = d.sys := by
  have hsys : (e.rest ps).sys = (d.rest ps).sys := congrArg Dev.sys h
  simpa only [Dev.rest, hp, Bool.false_eq_true, if_false] using hsys

namespace Supplied
variable (h : Supplied d e) (t : Fin 16)
include h

theorem f {x : Field} (hx : supplyFields.all (fun y => x.apart y) = true) : e.f x = d.f x := h.keep.1 x hx

theorem holds : e.holds t = d.holds t := by unfold Dev.holds; rw [sys_of_rest h.keep.2 (by decide)]

theorem pd {x : Field} (hx : supplyFields.all (fun y => x.apart y) = true) : e.pd x = d.pd x := by
  simp only [Dev.pd, Dev.running, Dev.alive, h.f hx, h.pw]
  rfl

theorem clampGates : e.clampGates t = d.clampGates t := by
  unfold Dev.clampGates
  rw [h.pd (supply_apart t _ (by simp)), h.pd (supply_apart t _ (by simp)), h.f (supply_apart t _ (by simp))]

end Supplied

/-- A tile whose arming runs if `b`. -/
def Tile.armIf (b : Bool) (x : Tile) : Tile := { x with armRuns := b }

theorem tile_supplied (d : Dev) (t : Fin 16) :
    Supplied d d.supplied ∧ vget d.supplied.tile t = (vget d.tile t).armIf (d.on (F.TILE_STAT_ARMING t) && !d.holds t) := by
  have hstart : Supplied d (d.putPw { d.pw with vdrvOk := true }) := ⟨keeps.refl.putPw _ (by decide), rfl⟩
  have htile := tile_each (I := Supplied d) (g := Dev.giveSupply) (r := fun k => Tile.armIf (d.on (F.TILE_STAT_ARMING k) && !d.holds k))
    (fun e k hk h => ⟨(h.keep.showSupply hk 1 _).modTile k _ (by decide), h.pw⟩)
    (fun e k hk h => by
      have harming : e.on (F.TILE_STAT_ARMING k) = d.on (F.TILE_STAT_ARMING k) := by
        unfold Dev.on; rw [h.f (supply_apart ⟨k, hk⟩ _ (by simp))]
      have hholds : e.holds k = d.holds k := h.holds ⟨k, hk⟩
      rw [← harming, ← hholds]
      exact tile_modTile_same (e.showSupply k 1 _) _ hk)
    (fun e j k hj => tile_modTile_ne (e.showSupply k 1 _) _ hj) hstart (Nat.le_refl 16) t
  exact ⟨htile.1, htile.2.trans (if_pos t.isLt)⟩

theorem f_supplied (d : Dev) (t : Fin 16) : d.supplied.f (F.TILE_STAT_VDRV_OK t) = 1 :=
  f_each (x := F.TILE_STAT_VDRV_OK) (fun e k => (f_modTile ..).trans (f_showSupply_same e k _ (by decide)))
    (fun e _ _ hj => (f_modTile ..).trans (f_showSupply_ne e _ _ (tileStat_ne hj))) _ t.isLt

theorem tile_vdrvRecover (halive : d.alive = true) (t : Fin 16) : Supplied d (vdrvRecover d) ∧
    vget (vdrvRecover d).tile t = ((vget d.tile t).armIf (d.on (F.TILE_STAT_ARMING t) && !d.holds t)).clampTo (d.clampGates t) := by
  have hmode : d.pw.mode = .on := by simp_all [Dev.alive]
  obtain ⟨hsupplied, harm⟩ := tile_supplied d t
  have htile := tile_each (I := Supplied d) (g := Dev.holdClamp) (r := fun k => Tile.clampTo (d.clampGates k))
    (fun e k _ h => ⟨h.keep.holdClamp k (by decide), (holdClamp_pw e k).trans h.pw⟩)
    (fun e k hk h => by
      have hgates : e.clampGates k = d.clampGates k := h.clampGates ⟨k, hk⟩
      rw [← hgates]
      exact tile_holdClamp_same hk (by rw [h.pw]) (by rw [h.pw]; exact hmode))
    (fun e j k hj => tile_holdClamp_ne e hj) hsupplied (Nat.le_refl 16) t
  rw [vdrvRecover_eq]
  exact ⟨htile.1, htile.2.trans ((if_pos t.isLt).trans (congrArg _ harm))⟩

theorem effect_vdrvRecover (halive : s.dev.alive = true) (t : Fin 16) :
    effect .vdrvRecover s supplyFields [.tile, .pw] [] fun d =>
      d.pw.vdrvOk = true ∧ d.f (F.TILE_STAT_VDRV_OK t) = 1 ∧ (vget d.tile t).armRuns = (s.dev.on (F.TILE_STAT_ARMING t) && !s.dev.holds t) ∧
      (vget d.tile t).gates = if (vget s.dev.tile t).clamp = true then s.dev.clampGates t else (vget s.dev.tile t).gates := by
  obtain ⟨hsupplied, htile⟩ := tile_vdrvRecover halive t
  have hshown : (vdrvRecover s.dev).f (F.TILE_STAT_VDRV_OK t) = 1 := by
    have hclamps : keeps [] [.tile] s.dev.supplied (s.dev.supplied.each 16 Dev.holdClamp) :=
      keeps.refl.each 16 fun e k _ h => h.holdClamp k (by decide)
    rw [vdrvRecover_eq, hclamps.1 _ rfl, f_supplied]
  have hraised : (vdrvRecover s.dev).raised = s.dev.raised := by
    rw [vdrvRecover_eq, each_const Dev.raised holdClamp_raised]
    exact each_const Dev.raised (fun _ _ => rfl) 16 _
  refine ⟨_, exec_vdrvRecover s, hsupplied.keep, hraised.trans (List.append_nil _).symm, ?_, ?_, ?_, ?_⟩
  · rw [vdrvOk_finish, hsupplied.pw]
  · rw [Dev.f_finish _ (tile_apart_end t _ (by simp)), hshown]
  · rw [tile_finish, htile]; unfold Tile.clampTo; split <;> rfl
  · rw [tile_finish, htile]; unfold Tile.clampTo; exact apply_ite ..

/-! ### The ends of a pulse -/

theorem exec_peakCurrentTrip (t : Fin 16) (n : Nat) (s : State) : exec (.peakCurrentTrip t n) s = done s (peakTrip s.dev t n) := rfl
theorem exec_maxOnExpiry (t : Fin 16) (s : State) : exec (.maxOnExpiry t) s = done s (maxOn s.dev t) := rfl
theorem exec_dcmZeroCross (t : Fin 16) (n : Nat) (s : State) : exec (.dcmZeroCross t n) s = done s (dcmZero s.dev t n) := rfl

/-- A pulse of the hold loop ends with the gates off and some code in LAST_CODE (R159). -/
theorem effect_holdPulse {t : Fin 16} (hexec : exec i s = done s (s.dev.holdPulse t)) :
    effect i s [F.HOLD_STAT_LAST_CODE] [.tile, .free] [] fun d => (vget d.tile t).gates = .off := by
  refine ⟨_, hexec, ((keeps.refl.putFreeCount _ (by decide)).set _ (by decide)).modTile t _ (by decide), (List.append_nil _).symm, ?_⟩
  show (vget (finish _).tile t).gates = .off
  rw [tile_finish]
  exact congrArg Tile.gates (tile_modTile_same ((s.dev.fresh.2).set F.HOLD_STAT_LAST_CODE _) _ t.isLt)

section
variable {t n : Nat}

theorem peakTrip_held (h : d.holds t = true) : peakTrip d t n = d.holdPulse t := if_pos h
theorem maxOn_held (h : d.holds t = true) : maxOn d t = d.holdPulse t := if_pos h

/-- A tile that its course runs is not the hold loop's. -/
theorem holds_of_runs (h : d.runs t = true) : d.holds t = false := by
  rw [Dev.runs, Bool.and_eq_true, Bool.not_eq_true'] at h
  exact h.2

/-- The tile after the comparator has ended its pulse `n` PWM clocks after the turn-on. -/
def Dev.trip (d : Dev) (t n : Nat) (counts : Bool) (x : Tile) : Tile := { x with gates := d.gatesAfter t n, tripped := true, tOn := n, pulsed := counts }

section
variable (hruns : d.runs t = true) (hactive : (vget d.tile t).gates = .active)
include hruns hactive

theorem peakTrip_counted (hdump : d.isDump t = false) (hblank : d.blanking t ≤ n) (hdead : d.deadTime t (d.highActive (d.f (F.TILE_MAP_COURSE t)) t) < n) :
    peakTrip d t n = d.modTile t (d.trip t n true) := by
  have homitted : decide (n ≤ d.deadTime t (d.highActive (d.f (F.TILE_MAP_COURSE t)) t)) = false := decide_eq_false (Nat.not_le.2 hdead)
  unfold peakTrip
  rw [if_neg (by simp [holds_of_runs hruns]), if_pos (by simp [hruns, hactive, hdump, hblank]), homitted]
  rfl

theorem peakTrip_omitted (hdump : d.isDump t = false) (hblank : d.blanking t ≤ n) (hdead : n ≤ d.deadTime t (d.highActive (d.f (F.TILE_MAP_COURSE t)) t)) :
    peakTrip d t n = (d.modTile t (d.trip t n false)).set (F.TILE_CYCLES_COUNT t) (d.f (F.TILE_CYCLES_COUNT t) + (2 ^ 32 - 1)) := by
  unfold peakTrip
  rw [if_neg (by simp [holds_of_runs hruns]), if_pos (by simp [hruns, hactive, hdump, hblank]), decide_eq_true hdead]
  rfl

theorem maxOn_active : maxOn d t = d.modTile t fun x => if d.isDump t then { x with gates := .off, maxed := true } else
    { x with gates := d.gatesAfter t (d.maxOnTime (d.f (F.TILE_MAP_COURSE t)) t), maxed := true, tOn := d.maxOnTime (d.f (F.TILE_MAP_COURSE t)) t } := by
  simp [maxOn, holds_of_runs hruns, hruns, hactive]

end

theorem dcmZero_ends (hruns : d.runs t = true) (hdcm : d.dcm t = true) (hpulse : (vget d.tile t).gates = .sync ∨
      ((vget d.tile t).gates = .off ∧ (vget d.tile t).tripped = true ∧ (vget d.tile t).tFall = 0 ∧ d.isDump t = false)) :
    dcmZero d t n = d.modTile t fun x => { x with gates := .off, tFall := n } := by
  rcases hpulse with hsync | ⟨hoff, htrip, hfall, hdump⟩
  · simp [dcmZero, hruns, hdcm, hsync]
  · simp [dcmZero, hruns, hdcm, hoff, htrip, hfall, hdump]

end

/-- A pulse that ends inside its own dead time is taken back from CYCLES (R93). -/
theorem effect_peakTrip_omitted {t : Fin 16} {n : Nat} (hruns : s.dev.runs t = true) (hactive : (vget s.dev.tile t).gates = .active)
    (hdump : s.dev.isDump t = false) (hblank : s.dev.blanking t ≤ n) (hdead : n ≤ s.dev.deadTime t (s.dev.highActive (s.dev.f (F.TILE_MAP_COURSE t)) t)) :
    effect (.peakCurrentTrip t n) s [F.TILE_CYCLES_COUNT t] [.tile] [] fun d =>
      (vget d.tile t).pulsed = false ∧ d.f (F.TILE_CYCLES_COUNT t) = (s.dev.f (F.TILE_CYCLES_COUNT t) + (2 ^ 32 - 1)) % 2 ^ 32 := by
  refine ⟨_, (exec_peakCurrentTrip t n s).trans (congrArg (done s) (peakTrip_omitted hruns hactive hdump hblank hdead)),
    (keeps.refl.modTile t _ (by decide)).set _ (List.mem_singleton_self _), (List.append_nil _).symm, ?_, ?_⟩
  · rw [tile_finish, Dev.set_tile, tile_modTile_same _ _ t.isLt]; rfl
  · rw [Dev.f_finish _ (tile_apart_end t _ (by simp))]; exact Dev.f_set_same _ _ _ (Nat.le_refl 32)

end Sys2Proof.Machine

open Sys2Proof Sys2Proof.Machine

/-- Settles O4: VDRV tile by tile, and each end of a pulse by its branch. -/
theorem gateSupplyAndPulses : Obligations.GateSupplyAndPulses := by
  unfold Obligations.GateSupplyAndPulses
  intro t n s halive
  refine ⟨effect_vdrvUvlo halive t, effect_vdrvRecover halive t, fun hholds => ⟨?_, ?_⟩, fun hruns hactive => ⟨fun hdump hblank hdead => ?_,
    effect_peakTrip_omitted hruns hactive, ?_⟩, fun hruns hdcm hpulse => ?_⟩
  · exact effect_holdPulse ((exec_peakCurrentTrip t n s).trans (congrArg (done s) (peakTrip_held hholds)))
  · exact effect_holdPulse ((exec_maxOnExpiry t s).trans (congrArg (done s) (maxOn_held hholds)))
  · exact effect_modTile ((exec_peakCurrentTrip t n s).trans (congrArg (done s) (peakTrip_counted hruns hactive hdump hblank hdead)))
  · exact effect_modTile ((exec_maxOnExpiry t s).trans (congrArg (done s) (maxOn_active hruns hactive)))
  · exact effect_modTile ((exec_dcmZeroCross t n s).trans (congrArg (done s) (dcmZero_ends hruns hdcm hpulse)))
end

section
/-! What the failure of a tile records stays through all that follows on its course (R100, R101, R117, R118, R125, R182). -/
namespace Sys2Proof.Machine

/-- The fields that record the failure of tile `t` of course `c`. -/
def failFields (t : Fin 16) (c : Fin 6) : List Field := [F.TILE_STAT_STATE t, F.TILE_FAULT_CAUSE t, F.C_EVT_TILE_FAIL c]

/-- Tile `t` is out of use: no self-test has it, and it is in FAILED or the crowbar holds it. -/
structure OutOfUse (t : Fin 16) (d : Dev) : Prop where
  notTest : d.tst t ≠ 5
  noRamp  : (vget d.tile t).testRamp = false
  barred  : d.tst t = 6 ∨ (vget d.tile t).clamp = true

/-- Device `d` has tile `t` of course `c` out of use, and `e`, whose course engines run, keeps what `d` records of its failure. -/
structure FailKept (t : Fin 16) (c : Fin 6) (d e : Dev) : Prop where
  out      : OutOfUse t d
  field    : ∀ x ∈ failFields t c, e.f x = d.f x
  failed   : (vget e.fmap t).failed = (vget d.fmap t).failed
  cause    : (vget e.fmap t).cause = (vget d.fmap t).cause
  clamp    : (vget e.tile t).clamp = (vget d.tile t).clamp
  testRamp : (vget e.tile t).testRamp = (vget d.tile t).testRamp
  raised   : ∀ p ∈ d.raised, p ∈ e.raised
  running  : e.running = true

variable {t : Fin 16} {c : Fin 6} {d e : Dev}

/-! ### Fields that record no failure -/

/-- A field apart from those that record the failure of tile `t` of course `c`. -/
def Field.offFail (x : Field) (t : Fin 16) (c : Fin 6) : Prop := ∀ y ∈ failFields t c, y.apart x = true

theorem Field.offFail_of {x : Field} (hs : (F.TILE_STAT_STATE t).apart x = true) (hf : R.TILE_FAULT t ≠ x.addr)
    (he : (F.C_EVT_TILE_FAIL c).apart x = true) : x.offFail t c := by
  intro y hy
  simp only [failFields, List.mem_cons, List.not_mem_nil, or_false] at hy
  rcases hy with rfl | rfl | rfl
  · exact hs
  · exact Field.apart_of_addr hf
  · exact he

theorem Field.offFail_of_addr {x : Field} (hs : R.TILE_STAT t ≠ x.addr) (hf : R.TILE_FAULT t ≠ x.addr) (he : R.C_EVT c ≠ x.addr) : x.offFail t c :=
  Field.offFail_of (Field.apart_of_addr hs) hf (Field.apart_of_addr he)

/-- A register of the tiles, at offset `k`, other than TILEn_STAT and TILEn_FAULT. -/
theorem Field.offFail_tile {x : Field} (k u : Nat) (hx : x.addr = k + 64 * u) (hstat : k % 64 ≠ 0x18) (hevt : k % 64 ≠ 0x1C) : x.offFail t c := by
  apply Field.offFail_of_addr <;> simp only [R.TILE_STAT, R.TILE_FAULT, R.C_EVT, hx] <;> omega

/-- A register of the courses, at offset `k`, other than Cn_EVT. -/
theorem Field.offFail_course {x : Field} (k n : Nat) (hx : x.addr = k + 128 * n) (hk : 0x1000 ≤ k) (hevt : k % 128 ≠ 0x1C) : x.offFail t c := by
  apply Field.offFail_of_addr <;> simp only [R.TILE_STAT, R.TILE_FAULT, R.C_EVT, hx] <;> omega

/-- A register before those of the tiles, or past those of the courses. -/
theorem Field.offFail_fixed {x : Field} (hx : x.addr < 0x800 ∨ 0x1300 ≤ x.addr) : x.offFail t c := by
  apply Field.offFail_of_addr <;> simp only [R.TILE_STAT, R.TILE_FAULT, R.C_EVT] <;> omega

/-- A field of TILEn_STAT other than STATE. -/
theorem Field.offFail_stat {x : Field} (u : Nat) (hx : x.addr = R.TILE_STAT u) (hlo : Nat.ble 3 x.lo = true) : x.offFail t c := by
  refine Field.offFail_of (Field.apart_of_bits ?_) ?_ ?_
  · exact Bool.or_eq_true_iff.2 (.inl hlo)
  · simp only [R.TILE_STAT, R.TILE_FAULT, hx]; omega
  · exact Field.apart_of_addr (by simp only [F.C_EVT_TILE_FAIL, R.TILE_STAT, R.C_EVT, hx]; omega)

/-- STATE of another tile. -/
theorem Field.offFail_state {u : Nat} (hu : u ≠ t) : (F.TILE_STAT_STATE u).offFail t c := by
  apply Field.offFail_of_addr <;> simp only [R.TILE_STAT, R.TILE_FAULT, R.C_EVT, F.TILE_STAT_STATE] <;> omega

/-- A field of Cn_EVT other than TILE_FAIL. -/
theorem Field.offFail_evt {x : Field} (n : Nat) (hx : x.addr = R.C_EVT n) (hbits : (Nat.ble 4 x.lo || Nat.ble (x.lo + x.width) 3) = true) : x.offFail t c := by
  refine Field.offFail_of ?_ ?_ (Field.apart_of_bits hbits)
  · exact Field.apart_of_addr (by simp only [R.C_EVT, R.TILE_STAT, F.TILE_STAT_STATE, hx]; omega)
  · simp only [R.C_EVT, R.TILE_FAULT, hx]; omega

/-! ### The state operations -/

namespace FailKept

theorem refl (h : OutOfUse t d) (hrun : d.running = true) : FailKept t c d d := ⟨h, fun _ _ => rfl, rfl, rfl, rfl, rfl, fun _ h => h, hrun⟩

/-- Tile `t` has the state that `d` gives it. -/
theorem tst (h : FailKept t c d e) : e.tst t = d.tst t := h.field _ (by simp [failFields])

theorem set (h : FailKept t c d e) {x : Field} (v : Nat) (hx : x.offFail t c) : FailKept t c d (e.set x v) :=
  { h with field := fun y hy => (Dev.f_set_apart e v (hx y hy)).trans (h.field y hy) }

theorem setTile (h : FailKept t c d e) {x : Field} (k u v : Nat) (hx : x.addr = k + 64 * u := by rfl) (hstat : k % 64 ≠ 0x18 := by decide)
    (hevt : k % 64 ≠ 0x1C := by decide) : FailKept t c d (e.set x v) := h.set v (Field.offFail_tile k u hx hstat hevt)

theorem setCourse (h : FailKept t c d e) {x : Field} (k n v : Nat) (hx : x.addr = k + 128 * n := by rfl) (hk : 0x1000 ≤ k := by decide)
    (hevt : k % 128 ≠ 0x1C := by decide) : FailKept t c d (e.set x v) := h.set v (Field.offFail_course k n hx hk hevt)

theorem setFixed (h : FailKept t c d e) {x : Field} (v : Nat) (hx : x.addr < 0x800 ∨ 0x1300 ≤ x.addr := by decide) : FailKept t c d (e.set x v) :=
  h.set v (Field.offFail_fixed hx)

theorem putTile (h : FailKept t c d e) {x : Vector Tile 16} (hc : (vget x t).clamp = (vget e.tile t).clamp)
    (hr : (vget x t).testRamp = (vget e.tile t).testRamp) : FailKept t c d (e.putTile x) :=
  { h with clamp := hc.trans h.clamp, testRamp := hr.trans h.testRamp }

theorem modTile (h : FailKept t c d e) (u : Nat) {g : Tile → Tile} (hc : ∀ x, (g x).clamp = x.clamp := by intro; rfl)
    (hr : ∀ x, (g x).testRamp = x.testRamp := by intro; rfl) :
    FailKept t c d (e.modTile u g) := by
  by_cases hu : (t : Nat) = u
  · subst hu
    have hsame := tile_modTile_same e g t.isLt
    exact h.putTile ((congrArg Tile.clamp hsame).trans (hc _)) ((congrArg Tile.testRamp hsame).trans (hr _))
  · have hother := tile_modTile_ne e g hu
    exact h.putTile (congrArg Tile.clamp hother) (congrArg Tile.testRamp hother)

theorem modTile_ne (h : FailKept t c d e) {u : Nat} (g : Tile → Tile) (hu : u ≠ t) : FailKept t c d (e.modTile u g) := by
  have hother := tile_modTile_ne e g hu.symm
  exact h.putTile (congrArg Tile.clamp hother) (congrArg Tile.testRamp hother)

theorem setMap (h : FailKept t c d e) (u : Nat) (s : Option Nat) : FailKept t c d (e.setMap u { vget e.fmap u with slot := s }) := by
  by_cases hu : (t : Nat) = u
  · subst hu
    have hsame : vget (e.setMap t { vget e.fmap t with slot := s }).fmap t = { vget e.fmap t with slot := s } := vget_vset_same _ _ t.isLt
    exact { h with failed := (congrArg FailEntry.failed hsame).trans h.failed, cause := (congrArg FailEntry.cause hsame).trans h.cause }
  · have hother : vget (e.setMap u { vget e.fmap u with slot := s }).fmap t = vget e.fmap t := vget_vset_ne _ _ hu
    exact { h with failed := (congrArg FailEntry.failed hother).trans h.failed, cause := (congrArg FailEntry.cause hother).trans h.cause }

theorem modCourse (h : FailKept t c d e) (n : Nat) (g : Course → Course) : FailKept t c d (e.modCourse n g) := { h with }
theorem putPath (h : FailKept t c d e) (x : Path) : FailKept t c d (e.putPath x) := { h with }
theorem putPw (h : FailKept t c d e) (x : PowerState) (hx : (e.putPw x).running = e.running := by rfl) : FailKept t c d (e.putPw x) :=
  { h with running := hx.trans h.running }
theorem putSys (h : FailKept t c d e) (x : SysLoop) : FailKept t c d (e.putSys x) := { h with }
theorem putRet (h : FailKept t c d e) (x : Retained) : FailKept t c d (e.putRet x) := { h with }
theorem logFault (h : FailKept t c d e) (b n : Nat) (w : List Word) : FailKept t c d (e.logFault b n w) := by
  unfold Dev.logFault
  split
  · exact { h with }
  · exact h

theorem raise (h : FailKept t c d e) (b n : Nat) : FailKept t c d (e.raise b n) := by
  unfold Dev.raise
  split
  · exact { h with raised := fun p hp => List.mem_append_left _ (h.raised p hp) }
  · exact h

theorem fault (h : FailKept t c d e) (b n : Nat) (l : List Nat) : FailKept t c d (e.fault b n l) := (h.raise b n).logFault ..

theorem ite {p : Prop} [Decidable p] {x y : Dev} (hx : FailKept t c d x) (hy : FailKept t c d y) : FailKept t c d (if p then x else y) := by
  split
  · exact hx
  · exact hy

theorem foldl {β : Type} {g : Dev → β → Dev} (l : List β) (hg : ∀ e x, FailKept t c d e → FailKept t c d (g e x)) (h : FailKept t c d e) :
    FailKept t c d (l.foldl g e) := by
  induction l generalizing e with
  | nil => exact h
  | cons x l ih => exact ih (hg e x h)

/-- A change for the value of an option, if it has one. -/
theorem onOption (h : FailKept t c d e) (o : Option Nat) {g : Nat → Dev} (hg : ∀ n, FailKept t c d (g n)) :
    FailKept t c d (match o with | some n => g n | none => e) := by
  cases o with
  | none => exact h
  | some n => exact hg n

/-! ### Shedding and self-tests -/

theorem cancelStagger (h : FailKept t c d e) (n : Nat) : FailKept t c d (e.cancelStagger n) :=
  (h.foldl _ fun _ u h => (h.setTile 0x820 u 0).setTile 0x820 u 0).setCourse 0x1018 n 0

theorem pendStagger (h : FailKept t c d e) (n : Nat) : FailKept t c d (e.pendStagger n) :=
  (h.foldl _ fun _ x h => (h.setTile 0x820 x.1 _).setTile 0x820 x.1 1).setCourse 0x1018 n 1

theorem endShed (h : FailKept t c d e) (n : Nat) : FailKept t c d (e.endShed n) := by
  refine .setCourse (.modCourse ?_ ..) 0x1018 n 0
  exact h.onOption _ fun u => h.set 0 (Field.offFail_stat u rfl rfl)

theorem countAbort (h : FailKept t c d e) (n : Nat) : FailKept t c d (e.countAbort n) :=
  ((h.setCourse 0x1020 n _).set 1 (Field.offFail_evt n rfl rfl)).raise 1 (22 + n)

theorem setTst_ne (h : FailKept t c d e) {u : Nat} (v : Nat) (hu : u ≠ t) : FailKept t c d (e.setTst u v) := h.set v (Field.offFail_state hu)

theorem leaveTest (h : FailKept t c d e) {u : Nat} (hu : u ≠ t) : FailKept t c d (e.leaveTest u) := by
  unfold Dev.leaveTest Dev.sendTo
  exact (FailKept.ite (h.modTile_ne _ hu) ((h.setTst_ne _ hu).modTile_ne _ hu)).modTile_ne _ hu

/-- No self-test of the failed tile runs. -/
theorem abortTest_self (h : FailKept t c d e) : e.abortTest t = e := by
  have hstate : e.tst t ≠ 5 := h.tst ▸ h.out.notTest
  have hramp : (vget e.tile t).testRamp = false := h.testRamp.trans h.out.noRamp
  simp [Dev.abortTest, hstate, hramp]

theorem abortTest (h : FailKept t c d e) (u : Nat) : FailKept t c d (e.abortTest u) := by
  by_cases hu : u = t
  · rw [hu, h.abortTest_self]; exact h
  · have hstart : FailKept t c d (((e.set (F.TILE_TEST_RESULT u) 4).set (F.TILE_CTL_TEST_START u) 0).raise 1 28) :=
      ((h.setTile 0x830 u 4).setTile 0x814 u 0).raise 1 28
    unfold Dev.abortTest
    exact .ite (.ite (hstart.leaveTest hu) (hstart.modTile_ne _ hu)) h

theorem abortTests (h : FailKept t c d e) (n : Nat) : FailKept t c d (e.abortTests n) := h.foldl _ fun _ u h => h.abortTest u

/-! ### The stop of a course -/

theorem unshare (h : FailKept t c d e) (n : Nat) : FailKept t c d (e.unshare n) := .ite (h.setFixed _) h

theorem traceStandIn (h : FailKept t c d e) (n u : Nat) : FailKept t c d (e.traceStandIn n u) :=
  .modTile ((h.set 1 (Field.offFail_evt n rfl rfl)).fault 1 (16 + n) _) u

theorem haltTiles (h : FailKept t c d e) (n : Nat) (now : Bool) : FailKept t c d (e.haltTiles n now) := by
  have hann : FailKept t c d (e.announceAll n (e.tilesOf n)) := h.foldl _ fun _ u h => .ite (h.traceStandIn n u) h
  exact hann.foldl _ fun _ u h => .ite (.setTile (.modTile h u) 0x824 u 0) h

/-- The writes of a halt to the course's own registers. -/
theorem zeroCourse (h : FailKept t c d e) (n : Nat) : FailKept t c d
    (((((((((e.set (F.C_MODE_MODE n) 0).set (F.C_RSTAT_DELIVER n) 0).set (F.C_RSTAT_START_ST n) 0).set (F.C_RSTAT_ACTIVE n) 0).set
      (F.C_RSTAT_TRACK_WAIT n) 0).set (F.C_DEMAND_D n) 0).set (F.C_DEMAND_CODE n) 0).set (F.C_REF_REF n) 0).set (F.C_REF_FINAL n) 0) := by
  refine .setCourse (.setCourse (.setCourse (.setCourse (.setCourse ?_ 0x105C n 0) 0x1058 n 0) 0x1058 n 0) 0x1054 n 0) 0x1054 n 0
  exact .setCourse (.setCourse (.setCourse (.setCourse h 0x1040 n 0) 0x105C n 0) 0x105C n 0) 0x105C n 0

theorem haltCourse (h : FailKept t c d e) (n : Nat) (now : Bool) : FailKept t c d (e.haltCourse n now) :=
  .ite h (.haltTiles (.modCourse ((((h.abortTests n).cancelStagger n).endShed n).unshare n |>.zeroCourse n) ..) ..)

theorem fallCourse (h : FailKept t c d e) (n : Nat) : FailKept t c d (e.fallCourse n) :=
  .ite (.modCourse (.abortTests (.setCourse (.setCourse h 0x1040 n 0) 0x105C n 3) n) ..) (h.haltCourse n false)

theorem hardStop (h : FailKept t c d e) (n : Nat) (now : Bool) : FailKept t c d (e.hardStop n now) :=
  .ite h ((h.haltCourse n now).foldl _ fun _ k h => h.fallCourse k)

/-! ### The power path after the loss of a course -/

theorem phaseToIdle (h : FailKept t c d e) : FailKept t c d e.phaseToIdle :=
  .ite (.raise (.putRet (.setFixed (.setFixed (.setFixed h _) 0) 0) _) 3 0) h

theorem powerFailSave (h : FailKept t c d e) : FailKept t c d e.powerFailSave := .ite (.putRet (.putPw h _) _) h

theorem setPath (h : FailKept t c d e) (st lead : Nat) : FailKept t c d (e.setPath st lead) := .setFixed (.setFixed h st) lead

theorem goDark (h : FailKept t c d e) : FailKept t c d e.goDark := by
  unfold Dev.goDark
  extract_lets sources battery
  have hsources : FailKept t c d sources := h.foldl _ fun _ _ h => h.onOption _ fun n => .ite (h.hardStop n false) h
  have hbattery : FailKept t c d battery := hsources.onOption _ fun n => .ite (hsources.hardStop n false).phaseToIdle hsources
  exact .powerFailSave (.setFixed (.setFixed (.setPath (.putPath hbattery _) 6 0) 0) 0)

theorem endSurplusC1 (h : FailKept t c d e) : FailKept t c d e.endSurplusC1 := h.onOption _ fun n => .ite (h.hardStop n false) h

theorem takeOver (h : FailKept t c d e) (p n : Nat) : FailKept t c d (e.takeOver p n) := by
  unfold Dev.takeOver
  extract_lets turned len first told moded refd
  have htold : FailKept t c d told := .ite (FailKept.setFixed h 0).phaseToIdle (.setFixed h _)
  have hmoded : FailKept t c d moded := .setCourse (.setCourse htold 0x1040 n 1) 0x105C n 0
  have hrefd : FailKept t c d refd := .setCourse (.setCourse (.setCourse hmoded 0x1054 n _) 0x1054 n _) 0x105C n 2
  exact (hrefd.abortTests n).modCourse ..

theorem handTo (h : FailKept t c d e) (target : Option Nat) (late : Nat) : FailKept t c d (e.handTo target late) := by
  cases target with
  | none => exact h.goDark
  | some p =>
    unfold Dev.handTo
    dsimp only
    split
    · exact h.goDark
    · exact .takeOver (.setFixed (.putPath (.ite h h.endSurplusC1) _) 2) ..

theorem handover (h : FailKept t c d e) (late : Nat) : FailKept t c d (e.handover late) :=
  .handTo (h.onOption _ fun n => h.hardStop n true) ..

theorem abandonTransfer (h : FailKept t c d e) : FailKept t c d e.abandonTransfer := .putPath (.setFixed h _) _

theorem loseBattery (h : FailKept t c d e) (now idle : Bool) : FailKept t c d (e.loseBattery now idle) := by
  unfold Dev.loseBattery
  extract_lets taking leads path told lost stopped
  have htold : FailKept t c d told := .ite (h.putPath _) h
  have hlost : FailKept t c d lost := .setFixed (.ite htold.phaseToIdle htold) 0
  have hstopped : FailKept t c d stopped := hlost.onOption _ fun n => hlost.hardStop n now
  exact .ite htold (.ite (hstopped.handTo ..) hstopped)

theorem courseLost (h : FailKept t c d e) (n : Nat) : FailKept t c d (e.courseLost n) := by
  have hstop := h.hardStop n false
  exact .ite (h.loseBattery ..) (.ite (h.handover 0) (.ite hstop.abandonTransfer hstop))

theorem judgeHealthy (h : FailKept t c d e) (n : Nat) : FailKept t c d (e.judgeHealthy n) :=
  .ite (.raise (.courseLost (.setCourse h 0x1018 n 1) n) 1 29) h

/-! ### The hold map, and a stand-in -/

theorem showHold (h : FailKept t c d e) : FailKept t c d e.showHold := by
  unfold Dev.showHold
  extract_lets rest shown state
  have hshown : ∀ {e}, FailKept t c d e → ∀ u, FailKept t c d (shown e u) := fun h u => h.set _ (Field.offFail_stat u rfl rfl)
  have hall : FailKept t c d (e.each 16 fun d t => if d.running then shown d t else state (shown d t) t) :=
    h.foldl _ fun e u h => by rw [if_pos h.running]; exact hshown h u
  exact .ite (.ite (.setFixed hall 1) hall) h

theorem sendHoldMap (h : FailKept t c d e) : FailKept t c d e.sendHoldMap := .ite (h.putSys _).showHold (h.putSys _)

/-- No free spare is the failed tile itself, unless the hold loop drives it. -/
theorem freeSpare_ne (h : FailKept t c d e) (hspare : e.tst t ≠ 1) {n u : Nat} (hfree : e.freeSpare n = some u) (hheld : e.holds u = false) : u ≠ t := by
  rintro rfl
  have hfound := List.find?_some hfree
  have hbarred := h.out.barred
  rw [← h.tst, ← h.clamp] at hbarred
  rcases hbarred with hstate | hclamp
  · simp [hheld, hstate] at hfound
  · simp [hspare, hclamp] at hfound

theorem assignSpare (h : FailKept t c d e) (hspare : e.tst t ≠ 1) (n s : Nat) : FailKept t c d (e.assignSpare n s) := by
  unfold Dev.assignSpare
  split
  next => exact .setCourse h 0x1018 n 1
  next u hfree =>
    have hslot : FailKept t c d ((e.modTile u fun x => { x with assigned := some s }).setMap u { vget e.fmap u with slot := some s }) :=
      .setMap (.modTile h u) u (some s)
    cases hheld : e.holds u with
    | true => exact hslot
    | false =>
      have hu := h.freeSpare_ne hspare hfree hheld
      exact .setCourse (.modTile (.set (hslot.setTst_ne 2 hu) 1 (Field.offFail_stat u rfl rfl)) u) 0x1018 n 1

/-- What follows a failure on the course, for a tile that was no spare or leaves no slot. -/
theorem afterFailure (h : FailKept t c d e) (n : Nat) (slot : Option Nat) (ran ramping : Bool) (hspare : slot = none ∨ d.tst t ≠ 1) :
    FailKept t c d (Machine.afterFailure e n slot ran ramping) := by
  unfold Machine.afterFailure
  extract_lets shed judged marked staggered
  have hshed : FailKept t c d shed := .ite (((h.cancelStagger n).endShed n).countAbort n) h
  have hjudged : FailKept t c d judged := (hshed.abortTests n).judgeHealthy n
  have hmarked : FailKept t c d marked := .ite (hjudged.modCourse ..) hjudged
  have hstaggered : FailKept t c d staggered := .ite (.modCourse (hmarked.pendStagger n) ..) hmarked
  cases slot with
  | none => exact hstaggered
  | some s => exact .ite (hstaggered.assignSpare (hstaggered.tst ▸ hspare.resolve_left (by simp)) n s) hstaggered

end FailKept

end Sys2Proof.Machine
end

section
/-! A tile fails, and an admitted CLEAR_FAIL ends its failure (R100, R101, R117, R119, R145). -/
namespace Sys2Proof.Machine

variable {t : Fin 16} {c : Fin 6} {d e : Dev} {s : State} {fs : List Field} {ps : List Part}

/-! ### Tile `t` leaves the running set -/

/-- A tile as it fails: nothing waits for it, and its gates are off unless the crowbar holds it. -/
def Tile.takenOut (x : Tile) : Tile :=
  { x with
    gates := if x.clamp then x.gates else .off, armRuns := false, assigned := none, next := none, testRamp := false, testBack := false, wantAdd := false
    announce := false, passed := false, skip := 0, det := Vector.replicate 7 0 }

/-- Tile `t` is in FAILED, or stays with the crowbar. -/
def Dev.enterFailed (d : Dev) (t : Nat) : Dev := (if (vget d.tile t).clamp then d else d.setTst t 6).modTile t Tile.takenOut

/-- The failure of tile `t` in its own registers. -/
def Dev.showFailure (d : Dev) (t cause detail : Nat) : Dev :=
  (((((d.set (F.TILE_STAT_ARMING t) 0).set (F.TILE_STAT_SHEDDING t) 0).set (F.TILE_STAT_STANDIN_V t) 0).set (F.TILE_STAT_STANDIN t) 0).set
    (F.TILE_FAULT_CAUSE t) cause).set (F.TILE_FAULT_DETAIL t) detail

/-- The failure of tile `t` of course `c` in the registers and in the failure map. -/
def Dev.mapFailure (d : Dev) (t c cause detail : Nat) : Dev :=
  ((d.showFailure t cause detail).setMap t { failed := true, cause := cause, detail := detail % 256 }).set (F.C_EVT_TILE_FAIL c) 1

/-- Tile `t` of course `c` fails, before the hold map is sent. -/
def Dev.takeOut (d : Dev) (t c cause detail : Nat) : Dev := ((d.enterFailed t).mapFailure t c cause detail).fault 1 t [R.TILE_FAULT t, R.TILE_STAT t]

theorem tst_setTst (d : Dev) (t : Nat) {v : Nat} (hv : v < 8) : (d.setTst t v).tst t = v := Dev.f_set_lt d _ v (Nat.le_of_ble_eq_true rfl) hv

theorem tst_enterFailed (d : Dev) (t : Nat) : (d.enterFailed t).tst t = if (vget d.tile t).clamp then d.tst t else 6 := by
  unfold Dev.enterFailed
  split
  · rfl
  · exact tst_setTst d t (by decide)

theorem tile_enterFailed (d : Dev) (t : Fin 16) : vget (d.enterFailed t).tile t = (vget d.tile t).takenOut := by
  unfold Dev.enterFailed
  split
  · exact tile_modTile_same _ _ t.isLt
  · exact tile_modTile_same _ _ t.isLt

theorem enterFailed_raised (d : Dev) (t : Nat) : (d.enterFailed t).raised = d.raised := by unfold Dev.enterFailed; split <;> rfl
theorem enterFailed_pw (d : Dev) (t : Nat) : (d.enterFailed t).pw = d.pw := by unfold Dev.enterFailed; split <;> rfl

theorem tileFailed_eq (t : Fin 16) (cause detail : Nat) (hc : d.f (F.TILE_MAP_COURSE t) = c) :
    d.tileFailed t cause detail = if (c : Nat) == 1 then (d.takeOut t c cause detail).sendHoldMap else d.takeOut t c cause detail := by
  unfold Dev.tileFailed
  simp only [hc]
  rw [if_pos c.isLt]
  rfl

/-! ### What the failure records -/

/-- The fields that show the failure of tile `t` of course `c`, but for STATE. -/
def failMarks (t : Fin 16) (c : Fin 6) : List Field :=
  [F.TILE_STAT_ARMING t, F.TILE_STAT_SHEDDING t, F.TILE_STAT_STANDIN_V t, F.TILE_STAT_STANDIN t, F.TILE_FAULT_CAUSE t, F.TILE_FAULT_DETAIL t,
    F.C_EVT_TILE_FAIL c]

theorem f_setMap (d : Dev) (t : Nat) (x : FailEntry) (y : Field) : (d.setMap t x).f y = d.f y := rfl

/-- A field shows the failure before it is logged. -/
theorem f_takeOut (d : Dev) (t c cause detail : Nat) (x : Field) : (d.takeOut t c cause detail).f x = ((d.enterFailed t).mapFailure t c cause detail).f x :=
  Dev.f_congr (Dev.fault_regs ..) x

theorem keeps.showFailure (cause detail : Nat) (hfs : failMarks t c ⊆ fs) (h : keeps fs ps d e) : keeps fs ps d (e.showFailure t cause detail) := by
  have hmem : ∀ x ∈ failMarks t c, x ∈ fs := fun _ hx => hfs hx
  simp only [failMarks, List.forall_mem_cons] at hmem
  obtain ⟨harming, hshedding, hvalid, hstandin, hcause, hdetail, -⟩ := hmem
  exact (((((h.set 0 harming).set 0 hshedding).set 0 hvalid).set 0 hstandin).set cause hcause).set detail hdetail

theorem keeps.mapFailure (cause detail : Nat) (hfs : failMarks t c ⊆ fs) (hp : ps.contains .fmap = true) (h : keeps fs ps d e) :
    keeps fs ps d (e.mapFailure t c cause detail) :=
  ((h.showFailure cause detail hfs).putFmap _ hp).set 1 (hfs (by simp [failMarks]))

theorem state_apart_failMarks : ∀ (t : Fin 16) (c : Fin 6), (failMarks t c).all (fun y => (F.TILE_STAT_STATE t).apart y) = true := by decide

/-- A tile fails: FAILED, unless the crowbar holds it. -/
theorem tst_takeOut (d : Dev) (t : Fin 16) (c : Fin 6) (cause detail : Nat) :
    (d.takeOut t c cause detail).tst t = if (vget d.tile t).clamp then d.tst t else 6 := by
  have hmap : ((d.enterFailed t).mapFailure t c cause detail).tst t = (d.enterFailed t).tst t :=
    (keeps.refl.mapFailure (fs := failMarks t c) (ps := [.fmap]) cause detail (List.Subset.refl _) rfl).1 _ (state_apart_failMarks t c)
  exact (f_takeOut ..).trans (hmap.trans (tst_enterFailed d t))

theorem cause_apart : ∀ (t : Fin 16) (c : Fin 6), (F.TILE_FAULT_CAUSE t).apart (F.TILE_FAULT_DETAIL t) = true ∧
    (F.TILE_FAULT_CAUSE t).apart (F.C_EVT_TILE_FAIL c) = true ∧ (F.TILE_FAULT_DETAIL t).apart (F.C_EVT_TILE_FAIL c) = true := by decide

theorem cause_takeOut (d : Dev) (t : Fin 16) (c : Fin 6) {cause : Nat} (detail : Nat) (h : cause < 16) :
    (d.takeOut t c cause detail).f (F.TILE_FAULT_CAUSE t) = cause := by
  obtain ⟨hdetail, hevt, -⟩ := cause_apart t c
  rw [f_takeOut, Dev.mapFailure, Dev.f_set_apart _ _ hevt, f_setMap, Dev.showFailure, Dev.f_set_apart _ _ hdetail]
  exact Dev.f_set_lt _ _ _ (Nat.le_of_ble_eq_true rfl) h

theorem detail_takeOut (d : Dev) (t : Fin 16) (c : Fin 6) (cause : Nat) {detail : Nat} (h : detail < 256) :
    (d.takeOut t c cause detail).f (F.TILE_FAULT_DETAIL t) = detail := by
  obtain ⟨-, -, hevt⟩ := cause_apart t c
  rw [f_takeOut, Dev.mapFailure, Dev.f_set_apart _ _ hevt, f_setMap, Dev.showFailure]
  exact Dev.f_set_lt _ _ _ (Nat.le_of_ble_eq_true rfl) h

theorem evt_takeOut (d : Dev) (t : Nat) (c : Fin 6) (cause detail : Nat) : (d.takeOut t c cause detail).f (F.C_EVT_TILE_FAIL c) = 1 := by
  rw [f_takeOut, Dev.mapFailure]
  exact Dev.f_set_lt _ _ _ (Nat.le_of_ble_eq_true rfl) (Nat.le_of_ble_eq_true rfl)

theorem tile_takeOut (d : Dev) (t : Fin 16) (c cause detail : Nat) : vget (d.takeOut t c cause detail).tile t = (vget d.tile t).takenOut := by
  rw [← tile_enterFailed]
  simp [Dev.takeOut, Dev.mapFailure, Dev.showFailure, Dev.setMap, Dev.fault]

theorem fmap_takeOut (d : Dev) (t : Fin 16) (c cause detail : Nat) :
    vget (d.takeOut t c cause detail).fmap t = { failed := true, cause := cause, detail := detail % 256 } := by
  simp [Dev.takeOut, Dev.mapFailure, Dev.setMap, Dev.fault]

theorem takeOut_pw (d : Dev) (t c cause detail : Nat) : (d.takeOut t c cause detail).pw = d.pw := by
  rw [← enterFailed_pw d t]
  simp [Dev.takeOut, Dev.mapFailure, Dev.showFailure, Dev.setMap, Dev.fault]

theorem takeOut_raised (t c cause detail : Nat) (halive : d.alive = true) :
    (d.takeOut t c cause detail).raised = d.raised ++ [(1 * 32 + t, d.pw.time)] := by
  have hmap : ((d.enterFailed t).mapFailure t c cause detail).raised = d.raised ∧ ((d.enterFailed t).mapFailure t c cause detail).pw = d.pw := by
    rw [← enterFailed_raised d t, ← enterFailed_pw d t]
    simp [Dev.mapFailure, Dev.showFailure, Dev.setMap]
  have hlive : ((d.enterFailed t).mapFailure t c cause detail).alive = true := by rw [Dev.alive, hmap.2]; exact halive
  rw [Dev.takeOut, Dev.fault, Dev.logFault_raised, Dev.raise_raised _ _ _ hlive, hmap.1, hmap.2]

theorem keeps.takeOut (cause detail : Nat) (hfs : F.TILE_STAT_STATE t :: failMarks t c ⊆ fs) (htile : ps.contains .tile = true)
    (hmap : ps.contains .fmap = true) (hfaults : ps.contains .faults = true) (h : keeps fs ps d e) : keeps fs ps d (e.takeOut t c cause detail) := by
  obtain ⟨hstate, hmarks⟩ := List.cons_subset.1 hfs
  have henter : keeps fs ps d (e.enterFailed t) := (keeps.ite h (h.set 6 hstate)).modTile t _ htile
  exact (henter.mapFailure cause detail hmarks hmap).fault 1 t _ hfaults

/-! ### A failure with all that follows on the course -/

/-- The abort of a self-test that has not entered TEST leaves the tile in its state, and what holds it. -/
theorem abortTest_ramp (d : Dev) (t : Fin 16) (h : d.tst t ≠ 5) {x : Field} (hx : x.addr ≠ R.TILE_TEST t ∧ x.addr ≠ R.TILE_CTL t) :
    (d.abortTest t).f x = d.f x ∧ (vget (d.abortTest t).tile t).clamp = (vget d.tile t).clamp ∧ (d.abortTest t).running = d.running := by
  obtain ⟨htest, hctl⟩ := hx
  unfold Dev.abortTest
  split
  · extract_lets aborted
    have hf : ∀ y : Field, y.addr ≠ R.TILE_TEST t → y.addr ≠ R.TILE_CTL t → aborted.f y = d.f y := fun y htest hctl =>
      (Dev.f_raise ..).trans ((Dev.f_set_ne _ _ hctl).trans (Dev.f_set_ne _ _ htest))
    have hstate : aborted.tst t = d.tst t := hf (F.TILE_STAT_STATE t) (by simp [F.TILE_STAT_STATE, R.TILE_STAT, R.TILE_TEST])
      (by simp [F.TILE_STAT_STATE, R.TILE_STAT, R.TILE_CTL])
    rw [if_neg (by simpa [hstate] using h)]
    refine ⟨hf x htest hctl, ?_, ?_⟩
    · rw [tile_modTile_same _ _ t.isLt]
      simp [aborted]
    · simp [Dev.running, Dev.alive, Dev.modTile, aborted]
  · exact ⟨rfl, rfl, rfl⟩

/-- A tile that is not in TEST fails: FAILED, unless the crowbar holds it. -/
theorem tst_takeOut_abortTest (c : Fin 6) (cause detail : Nat) (h : d.tst t ≠ 5) :
    ((d.abortTest t).takeOut t c cause detail).tst t = if (vget d.tile t).clamp then d.tst t else 6 := by
  obtain ⟨hstate, hclamp, -⟩ := abortTest_ramp d t h (x := F.TILE_STAT_STATE t) (by simp [F.TILE_STAT_STATE, R.TILE_STAT, R.TILE_TEST, R.TILE_CTL])
  have htst : (d.abortTest t).tst t = d.tst t := hstate
  rw [tst_takeOut, hclamp, htst]

/-- Tile `t` of course `c`, which is not in TEST, fails: it is out of use, and what that records stays. -/
theorem failKept_failTile (hrun : d.running = true) (hc : d.f (F.TILE_MAP_COURSE t) = c) (hstate : d.tst t ≠ 5) (cause detail : Nat) :
    FailKept t c ((d.abortTest t).takeOut t c cause detail) (failTile d t cause detail) := by
  obtain ⟨hcourse, hclamp, hlive⟩ := abortTest_ramp d t hstate (x := F.TILE_MAP_COURSE t) (by simp [F.TILE_MAP_COURSE, R.TILE_MAP, R.TILE_TEST, R.TILE_CTL])
  have hrun' : ((d.abortTest t).takeOut t c cause detail).running = true := by
    rw [Dev.running, Dev.alive, takeOut_pw]; exact hlive.trans hrun
  have hout := tst_takeOut_abortTest c cause detail hstate
  have htile := tile_takeOut (d.abortTest t) t c cause detail
  have hrefl : FailKept t c ((d.abortTest t).takeOut t c cause detail) ((d.abortTest t).takeOut t c cause detail) := by
    refine .refl ⟨?_, by rw [htile]; rfl, ?_⟩ hrun'
    · rw [hout]; split <;> omega
    · rw [hout, htile]
      cases hcl : (vget d.tile t).clamp with
      | true => exact .inr (hclamp.trans hcl)
      | false => exact .inl rfl
  have hfailed : FailKept t c ((d.abortTest t).takeOut t c cause detail) ((d.abortTest t).tileFailed t cause detail) := by
    rw [tileFailed_eq t cause detail (hcourse.trans hc)]
    exact .ite hrefl.sendHoldMap hrefl
  unfold failTile
  simp only [hc]
  rw [if_pos c.isLt]
  refine hfailed.afterFailure c _ _ _ ?_
  by_cases hspare : d.tst t = 1
  · exact .inl (if_pos (by simpa using hspare))
  · refine .inr ?_
    rw [hout]; split <;> omega

/-- Cn_EVT.TILE_FAIL stands apart from what the end of a command sets. -/
theorem tileFail_apart_end : ∀ c : Fin 6, endFields.all (fun y => (F.C_EVT_TILE_FAIL c).apart y) = true := by decide

/-- What the failure of a tile records (R100, R101, R117). -/
theorem leads_failTile {i : Instr} {cause detail : Nat} (hexec : exec i s = done s (failTile s.dev t cause detail)) (hrun : s.dev.running = true)
    (hc : s.dev.f (F.TILE_MAP_COURSE t) = c) (hstate : s.dev.tst t ≠ 5) (hcause : cause < 16) :
    leads i s fun d => d.tst t = (if (vget s.dev.tile t).clamp then s.dev.tst t else 6) ∧ d.f (F.TILE_FAULT_CAUSE t) = cause ∧ d.f (F.C_EVT_TILE_FAIL c) = 1 ∧
      (vget d.fmap t).failed = true ∧ (vget d.fmap t).cause = cause ∧ d.pendingEvent (1 * 32 + t.val) = true := by
  have hkept := failKept_failTile hrun hc hstate cause detail
  obtain ⟨-, -, hlive⟩ := abortTest_ramp s.dev t hstate (x := F.TILE_STAT_STATE t) (by simp [F.TILE_STAT_STATE, R.TILE_STAT, R.TILE_TEST, R.TILE_CTL])
  have halive : (s.dev.abortTest t).alive = true := (Bool.and_eq_true_iff.1 (hlive.trans hrun)).1
  refine ⟨_, hexec, rfl, ?_, ?_, ?_, ?_, ?_, ?_⟩
  · exact (Dev.f_finish _ (tile_apart_end t _ (by simp))).trans (hkept.tst.trans (tst_takeOut_abortTest c cause detail hstate))
  · exact (Dev.f_finish _ (tile_apart_end t _ (by simp))).trans ((hkept.field _ (by simp [failFields])).trans (cause_takeOut _ t c detail hcause))
  · exact (Dev.f_finish _ (tileFail_apart_end c)).trans ((hkept.field _ (by simp [failFields])).trans (evt_takeOut ..))
  · rw [fmap_finish, hkept.failed, fmap_takeOut]
  · rw [fmap_finish, hkept.cause, fmap_takeOut]
  · refine pendingEvent_finish (by omega) (hkept.raised (_, (s.dev.abortTest t).pw.time) ?_)
    rw [takeOut_raised _ _ _ _ halive]
    exact List.mem_append_right _ (List.mem_singleton_self _)

/-! ### A failure with which nothing else ends -/

theorem f_takeOut_ne (d : Dev) (t : Fin 16) (c : Fin 6) (cause detail : Nat) {x : Field} (hs : x.addr ≠ R.TILE_STAT t) (hf : x.addr ≠ R.TILE_FAULT t)
    (he : x.addr ≠ R.C_EVT c) : (d.takeOut t c cause detail).f x = d.f x := by
  have hkeeps := (keeps.refl (d := d)).takeOut (ps := [.tile, .fmap, .faults]) cause detail (List.Subset.refl (F.TILE_STAT_STATE t :: failMarks t c)) rfl rfl rfl
  refine hkeeps.1 x (List.all_eq_true.2 fun y hy => Field.apart_of_addr ?_)
  have haddr : y.addr = R.TILE_STAT t ∨ y.addr = R.TILE_FAULT t ∨ y.addr = R.C_EVT c := by
    simp only [failMarks, List.mem_cons, List.not_mem_nil, or_false] at hy
    rcases hy with rfl | rfl | rfl | rfl | rfl | rfl | rfl | rfl <;> simp [F.TILE_STAT_STATE, F.TILE_STAT_ARMING, F.TILE_STAT_SHEDDING,
      F.TILE_STAT_STANDIN_V, F.TILE_STAT_STANDIN, F.TILE_FAULT_CAUSE, F.TILE_FAULT_DETAIL, F.C_EVT_TILE_FAIL]
  rcases haddr with h | h | h <;> rw [h] <;> assumption

theorem abortTest_idle {u : Nat} (h : d.f (F.TILE_TEST_RESULT u) ≠ 1) : d.abortTest u = d := by simp [Dev.abortTest, h]

theorem abortTests_idle (h : ∀ u : Fin 16, d.f (F.TILE_TEST_RESULT u) ≠ 1) (n : Nat) : d.abortTests n = d := by
  have hlist : ∀ l : List Nat, (∀ u ∈ l, u < 16) → l.foldl (fun d u => d.abortTest u) d = d := by
    intro l hl
    induction l with
    | nil => rfl
    | cons u l ih =>
      rw [List.foldl_cons, abortTest_idle (h ⟨u, hl u (by simp)⟩)]
      exact ih fun v hv => hl v (by simp [hv])
  exact hlist _ fun u hu => List.mem_range.1 (List.mem_filter.1 hu).1

theorem judgeHealthy_idle {n : Nat} (h : d.healthy n ≠ 0) : d.judgeHealthy n = d := by simp [Dev.judgeHealthy, h]

/-- Nothing ends with the failure of a tile of course `c` but the tile's own use: no self-test runs, the course does not deliver, and keeps a healthy slot. -/
structure Calm (c : Nat) (d : Dev) : Prop where
  noTest  : ∀ u : Fin 16, d.f (F.TILE_TEST_RESULT u) ≠ 1
  stopped : d.delivers c = false
  healthy : d.healthy c ≠ 0

/-- A failing tile leaves a calm course calm. -/
theorem calm_takeOut (hres : ∀ u : Fin 16, d.f (F.TILE_TEST_RESULT u) ≠ 1) (hstop : d.delivers c = false) (cause detail : Nat)
    (hhealthy : (d.takeOut t c cause detail).healthy c ≠ 0) : Calm c (d.takeOut t c cause detail) := by
  refine ⟨fun u => ?_, ?_, hhealthy⟩
  · rw [f_takeOut_ne] <;> simp only [F.TILE_TEST_RESULT, R.TILE_TEST, R.TILE_STAT, R.TILE_FAULT, R.C_EVT]
    · exact hres u
    all_goals omega
  · rw [Dev.delivers, Dev.on, f_takeOut_ne] <;> simp only [F.C_RSTAT_DELIVER, R.C_RSTAT, R.TILE_STAT, R.TILE_FAULT, R.C_EVT]
    · exact hstop
    all_goals omega

theorem afterFailure_none {n : Nat} (h : Calm n d) (ran : Bool) : afterFailure d n none ran false = d := by
  simp [afterFailure, abortTests_idle h.noTest, judgeHealthy_idle h.healthy, h.stopped]

/-- No stand-in is free for the slot, if it is one of the course. -/
theorem afterFailure_some {n : Nat} (h : Calm n d) (hfree : d.freeSpare n = none) (slot : Nat) (ran : Bool) :
    afterFailure d n (some slot) ran false =
      if d.portCode n != 6 && d.fbit (F.C_TILES_WORK_MASK n) slot && d.slotOpen slot then d.set (F.C_STAT_NO_SPARE n) 1 else d := by
  simp [afterFailure, abortTests_idle h.noTest, judgeHealthy_idle h.healthy, h.stopped, Dev.assignSpare, hfree]

/-- The hold map names tiles of C1 alone. -/
theorem tileFailed_apart (cause : Nat) {detail : Nat} (hc : d.f (F.TILE_MAP_COURSE t) = c) (hone : c ≠ 1) :
    d.tileFailed t cause detail = d.takeOut t c cause detail := by
  rw [tileFailed_eq t cause detail hc, if_neg]
  simpa [Fin.ext_iff] using hone

/-- A failure with no self-test and no shed to abort: the tile is taken out, and what follows is for its slot alone. -/
theorem failTile_calm (hc : d.f (F.TILE_MAP_COURSE t) = c) (hone : c ≠ 1) (hshed : (vget d.course c).shedTile = none)
    (hres : ∀ u : Fin 16, d.f (F.TILE_TEST_RESULT u) ≠ 1) (cause detail : Nat) :
    failTile d t cause detail = afterFailure (d.takeOut t c cause detail) c
      (if d.tst t == 1 then none else some ((vget d.tile t).assigned.getD (d.slotOf t))) (d.runs t || d.tst t == 4) false := by
  unfold failTile
  simp only [hc, abortTest_idle (hres t), tileFailed_apart cause hc hone, hshed]
  rw [if_pos c.isLt]
  simp

/-- The frame of a failure with which nothing else ends: `e` is as the failing tile leaves the device, but for fields in `fs`. -/
theorem effect_takeOut {i : Instr} {cause : Nat} (hexec : exec i s = done s e) (hkeeps : keeps fs [.tile, .fmap, .faults] s.dev e)
    (hdetail : e.f (F.TILE_FAULT_DETAIL t) = (s.dev.takeOut t c cause 0).f (F.TILE_FAULT_DETAIL t)) (htile : e.tile = (s.dev.takeOut t c cause 0).tile)
    (hmap : e.fmap = (s.dev.takeOut t c cause 0).fmap) (hraised : e.raised = (s.dev.takeOut t c cause 0).raised) (halive : s.dev.alive = true)
    (hclamp : (vget s.dev.tile t).clamp = false) : effect i s fs [.tile, .fmap, .faults] [1 * 32 + t.val] fun d =>
      d.f (F.TILE_FAULT_DETAIL t) = 0 ∧ (vget d.tile t).gates = .off ∧ vget d.fmap t = { failed := true, cause := cause, detail := 0 } := by
  refine ⟨e, hexec, hkeeps, hraised.trans (takeOut_raised _ _ _ _ halive), ?_, ?_, ?_⟩
  · rw [Dev.f_finish _ (tile_apart_end t _ (by simp)), hdetail, detail_takeOut _ _ _ _ (by decide)]
  · rw [tile_finish, htile, tile_takeOut, Tile.takenOut, hclamp]; rfl
  · rw [fmap_finish, hmap, fmap_takeOut]

/-! ### The detectors, and FORCE_FAIL -/

theorem exec_tileFailDetect (t : Fin 16) (s : State) : exec (.tileFailDetect t) s = done s (tileFailDetect s.dev t) := rfl
theorem exec_forceFail (t : Fin 16) (s : State) : exec (.forceFail t) s = done s (forceFail s.dev t) := rfl

/-- There are six detectors. -/
theorem firedCause_lt (x : Tile) : firedCause x < 7 := by
  have hfold : ∀ (l : List Nat) (m : Nat), (∀ i ∈ l, i < 7) → m < 7 →
      l.foldl (fun m i => if 1 ≤ i && decide (detectorCycles i ≤ vget x.det i) then i else m) m < 7 := by
    intro l
    induction l with
    | nil => exact fun m _ hm => hm
    | cons i l ih =>
      intro m hl hm
      refine ih _ (fun j hj => hl j (by simp [hj])) ?_
      dsimp only
      split
      · exact hl i (by simp)
      · exact hm
  exact hfold _ 0 (fun i hi => List.mem_range.1 hi) (by decide)

theorem tst_of_runs {t : Nat} (h : d.runs t = true) : d.tst t = 3 := by
  rw [Dev.runs, Bool.and_eq_true, beq_iff_eq] at h
  exact h.1

/-- DETAIL of a failure that a detector has found (R127). -/
def Tile.failDetail (x : Tile) : Nat := if firedCause x == 3 then min 255 x.ratio3 else if firedCause x < 3 then min 255 x.ratio else 0

theorem failDetail_of_stuck {x : Tile} (h : firedCause x = 6) : x.failDetail = 0 := by simp [Tile.failDetail, h]

theorem tileFailDetect_fires {t : Nat} (hrun : d.running = true) (hruns : d.runs t = true) (hfired : firedCause (vget d.tile t) ≠ 0) :
    tileFailDetect d t = failTile d t (firedCause (vget d.tile t)) (vget d.tile t).failDetail := by
  simp [tileFailDetect, hrun, hruns, hfired, Tile.failDetail]

theorem forceFail_takes {t : Nat} (hrun : d.running = true) (hstate : within 1 4 (d.tst t) = true) (hmap : (vget d.fmap t).failed = false) :
    forceFail d t = failTile d t 8 0 := by
  simp [forceFail, hrun, hstate, hmap]

theorem forceFail_failed {t : Nat} (h : (vget d.fmap t).failed = true) : forceFail d t = d := by simp [forceFail, h]

section
variable (hc : s.dev.f (F.TILE_MAP_COURSE t) = c) (hone : c ≠ 1) (halive : s.dev.alive = true) (hclamp : (vget s.dev.tile t).clamp = false)
  (hshed : (vget s.dev.course c).shedTile = none) (hres : ∀ u : Fin 16, s.dev.f (F.TILE_TEST_RESULT u) ≠ 1) (hstop : s.dev.delivers c = false)
include hc hone halive hclamp hshed hres hstop

/-- The failure of a SPARE tile leaves no slot open. -/
theorem effect_failTile_spare {i : Instr} {cause : Nat} (hexec : exec i s = done s (failTile s.dev t cause 0)) (hstate : s.dev.tst t = 1)
    (hhealthy : (s.dev.takeOut t c cause 0).healthy c ≠ 0) : effect i s
      [F.TILE_STAT_STATE t, F.TILE_STAT_ARMING t, F.TILE_STAT_SHEDDING t, F.TILE_STAT_STANDIN_V t, F.TILE_STAT_CROWBAR t, F.TILE_STAT_STANDIN t,
        F.TILE_FAULT_CAUSE t, F.TILE_FAULT_DETAIL t, F.C_EVT_TILE_FAIL c] [.tile, .fmap, .faults] [1 * 32 + t.val] fun d =>
      d.f (F.TILE_FAULT_DETAIL t) = 0 ∧ (vget d.tile t).gates = .off ∧ vget d.fmap t = { failed := true, cause := cause, detail := 0 } := by
  have hcalm := calm_takeOut (t := t) hres hstop cause 0 hhealthy
  rw [failTile_calm hc hone hshed hres, hstate, if_pos (beq_self_eq_true 1), afterFailure_none hcalm] at hexec
  exact effect_takeOut hexec (keeps.refl.takeOut cause 0 (by simp [failMarks]) rfl rfl rfl) rfl rfl rfl rfl halive hclamp

/-- The failure of another tile leaves its slot open where no spare is free. -/
theorem effect_failTile_unfilled {i : Instr} {cause : Nat} (hexec : exec i s = done s (failTile s.dev t cause 0)) (hstate : s.dev.tst t ≠ 1)
    (hhealthy : (s.dev.takeOut t c cause 0).healthy c ≠ 0) (hfree : (s.dev.takeOut t c cause 0).freeSpare c = none) : effect i s
      [F.TILE_STAT_STATE t, F.TILE_STAT_ARMING t, F.TILE_STAT_SHEDDING t, F.TILE_STAT_STANDIN_V t, F.TILE_STAT_CROWBAR t, F.TILE_STAT_STANDIN t,
        F.TILE_FAULT_CAUSE t, F.TILE_FAULT_DETAIL t, F.C_EVT_TILE_FAIL c, F.C_STAT_NO_SPARE c] [.tile, .fmap, .faults] [1 * 32 + t.val] fun d =>
      d.f (F.TILE_FAULT_DETAIL t) = 0 ∧ (vget d.tile t).gates = .off ∧ vget d.fmap t = { failed := true, cause := cause, detail := 0 } := by
  have hcalm := calm_takeOut (t := t) hres hstop cause 0 hhealthy
  have hkeeps := (keeps.refl (d := s.dev)).takeOut (t := t) (c := c) (fs := [F.TILE_STAT_STATE t, F.TILE_STAT_ARMING t, F.TILE_STAT_SHEDDING t,
    F.TILE_STAT_STANDIN_V t, F.TILE_STAT_CROWBAR t, F.TILE_STAT_STANDIN t, F.TILE_FAULT_CAUSE t, F.TILE_FAULT_DETAIL t, F.C_EVT_TILE_FAIL c,
    F.C_STAT_NO_SPARE c]) (ps := [.tile, .fmap, .faults]) cause 0 (by simp [failMarks]) rfl rfl rfl
  rw [failTile_calm hc hone hshed hres, if_neg (by simpa using hstate), afterFailure_some hcalm hfree] at hexec
  split at hexec
  · exact effect_takeOut hexec (hkeeps.set 1 (by simp)) (Dev.f_set_ne _ _ (by simp [F.TILE_FAULT_DETAIL, F.C_STAT_NO_SPARE, R.TILE_FAULT, R.C_STAT]; omega))
      rfl rfl rfl halive hclamp
  · exact effect_takeOut hexec hkeeps rfl rfl rfl rfl halive hclamp

end

/-! ### CLEAR_FAIL -/

theorem exec_clearFail (t : Fin 16) (s : State) : exec (.clearFail t) s = done s (clearFail s.dev t) := rfl

/-- A stand-in that still arms for the slot of tile `t` gives it up where the tile gets its slot back. -/
def Dev.yieldSlot (d : Dev) (t : Nat) : Dev := if d.clearedState t == 4 || d.clearedState t == 2 then d.dismiss t else d

/-- The failure map without tile `t`, whose self-test has served. -/
def Dev.unmap (d : Dev) (t : Nat) : Dev := (d.setMap t {}).modTile t fun x => { x with passed := false }

/-- Tile `t` as an admitted CLEAR_FAIL leaves it, before the log entry. -/
def Dev.clearedTile (d : Dev) (t : Nat) : Dev := ((d.yieldSlot t).unmap t).sendTo t (d.clearedState t)

theorem clearFail_admitted {t : Nat} (hrun : d.running = true) (hstate : d.tst t = 6) (hres : d.f (F.TILE_TEST_RESULT t) = 2)
    (hpassed : (vget d.tile t).passed = true) (hnext : (vget d.tile t).next = none) :
    clearFail d t = (d.clearedTile t).logFault 1 t [(d.clearedTile t).rd (R.TILE_FAULT t), (d.clearedTile t).rd (R.TILE_STAT t)] := by
  simp [clearFail, hrun, hstate, hres, hpassed, hnext, Dev.clearedTile, Dev.unmap, Dev.yieldSlot]

theorem clearFail_refused {t : Nat} (halive : d.alive = true) (hres : d.f (F.TILE_TEST_RESULT t) ≠ 2) (hnext : d.tst t = 6 → (vget d.tile t).next = none) :
    clearFail d t = d.set (F.TILE_STAT_CLEAR_REJ t) 1 := by
  by_cases hstate : d.tst t = 6 <;> simp [clearFail, halive, hres, hstate, hnext]

theorem sendTo_enabled {st : Nat} (hc : d.f (F.TILE_MAP_COURSE t) = c) (hen : d.f (F.C_MAP_ENABLE c) = 1) :
    d.sendTo t st = d.modTile t fun x => { x with next := some st, gates := .off } := by
  simp [Dev.sendTo, hc, Dev.on, hen]

theorem sendTo_disabled {st : Nat} (hc : d.f (F.TILE_MAP_COURSE t) = c) (hen : d.f (F.C_MAP_ENABLE c) = 0) :
    d.sendTo t st = (d.setTst t st).modTile t fun x => { x with gates := .off } := by
  simp [Dev.sendTo, hc, Dev.on, hen]

theorem sendTo_fmap (d : Dev) (t st : Nat) : (d.sendTo t st).fmap = d.fmap := by unfold Dev.sendTo; dsimp only; split <;> rfl

theorem fmap_unmap (d : Dev) (t : Fin 16) : vget (d.unmap t).fmap t = {} := vget_vset_same _ _ t.isLt

theorem f_unmap (d : Dev) (t : Nat) (x : Field) : (d.unmap t).f x = d.f x := rfl

theorem f_yieldSlot (d : Dev) (t : Nat) (x : Field) : (d.yieldSlot t).f x = d.f x := by
  unfold Dev.yieldSlot
  split
  · refine each_const (fun d => d.f x) (fun e k => ?_) 16 d
    split <;> rfl
  · rfl

theorem clearedState_disabled (hc : d.f (F.TILE_MAP_COURSE t) = c) (hen : d.f (F.C_MAP_ENABLE c) = 0) : d.clearedState t = 0 := by
  simp [Dev.clearedState, hc, Dev.on, hen]

/-- The slot of a working tile that no stand-in fills is its own again (R119). -/
theorem clearedState_own (hc : d.f (F.TILE_MAP_COURSE t) = c) (hen : d.f (F.C_MAP_ENABLE c) = 1) (hrole : d.f (F.TILE_MAP_ROLE t) = 1)
    (hwork : d.fbit (F.C_TILES_WORK_MASK c) t = true) (hstand : ∀ u : Fin 16, d.f (F.TILE_STAT_STANDIN_V u) = 0) :
    d.clearedState t = if d.delivers c then 4 else 2 := by
  have hfor : d.stoodFor t = false := List.any_eq_false.2 fun u hu => by
    have hnone := hstand ⟨u, List.mem_range.1 hu⟩
    simp only [Dev.on] at *
    simp [hnone]
  simp [Dev.clearedState, hc, Dev.on, hen, hrole, hwork, hfor, Dev.isDump]

theorem each_self {n : Nat} {g : Dev → Nat → Dev} (h : ∀ k < n, g d k = d) : d.each n g = d := by
  induction n with
  | zero => rfl
  | succ n ih => rw [each_succ, ih fun k hk => h k (by omega), h n (by omega)]

theorem yieldSlot_unassigned (t : Nat) (h : ∀ u : Fin 16, (vget d.tile u).assigned = none) : d.yieldSlot t = d := by
  have hdismiss : d.dismiss t = d := each_self fun u hu => by rw [h ⟨u, hu⟩]; rfl
  unfold Dev.yieldSlot
  split
  · exact hdismiss
  · rfl

/-- An admitted CLEAR_FAIL leaves the failure map without the tile, which enters its state at a boundary, or at once where its course has none. -/
theorem leads_clearFail (hexec : clearFail s.dev t = (s.dev.clearedTile t).logFault 1 t [(s.dev.clearedTile t).rd (R.TILE_FAULT t),
      (s.dev.clearedTile t).rd (R.TILE_STAT t)]) (hc : s.dev.f (F.TILE_MAP_COURSE t) = c) :
    leads (.clearFail t) s fun d => vget d.fmap t = {} ∧
      (s.dev.f (F.C_MAP_ENABLE c) = 1 → (vget d.tile t).next = some (s.dev.clearedState t)) ∧ (s.dev.f (F.C_MAP_ENABLE c) = 0 → d.tst t = 0) := by
  have hcourse := (f_unmap (s.dev.yieldSlot t) t (F.TILE_MAP_COURSE t)).trans (f_yieldSlot ..)
  have henable := (f_unmap (s.dev.yieldSlot t) t (F.C_MAP_ENABLE c)).trans (f_yieldSlot ..)
  refine ⟨_, (exec_clearFail t s).trans (congrArg (done s) hexec), rfl, ?_, fun hen => ?_, fun hen => ?_⟩
  · rw [fmap_finish, Dev.logFault_fmap, Dev.clearedTile, sendTo_fmap, fmap_unmap]
  · rw [tile_finish, Dev.logFault_tile, Dev.clearedTile, sendTo_enabled (hcourse.trans hc) (henable.trans hen), tile_modTile_same _ _ t.isLt]
  · have hoff : (s.dev.clearedTile t).tst t = 0 := by
      rw [Dev.clearedTile, sendTo_disabled (hcourse.trans hc) (henable.trans hen), clearedState_disabled hc hen]
      exact tst_setTst _ _ (by decide)
    rw [Dev.tst, Dev.f_finish _ (tile_apart_end t _ (by simp)), Dev.f_logFault]
    exact hoff

/-- A working tile gets its slot back at the next boundary of its course, where no other tile stands in for it or is to. -/
theorem effect_clearFail (hexec : clearFail s.dev t = (s.dev.clearedTile t).logFault 1 t [(s.dev.clearedTile t).rd (R.TILE_FAULT t),
      (s.dev.clearedTile t).rd (R.TILE_STAT t)]) (hc : s.dev.f (F.TILE_MAP_COURSE t) = c) (hen : s.dev.f (F.C_MAP_ENABLE c) = 1)
    (hrole : s.dev.f (F.TILE_MAP_ROLE t) = 1) (hwork : s.dev.fbit (F.C_TILES_WORK_MASK c) t = true)
    (hstand : ∀ u : Fin 16, s.dev.f (F.TILE_STAT_STANDIN_V u) = 0) (hfree : ∀ u : Fin 16, (vget s.dev.tile u).assigned = none) :
    effect (.clearFail t) s [] [.tile, .fmap, .faults] [] fun d => (vget d.tile t).next = some (if s.dev.delivers c then 4 else 2) := by
  have hstate := clearedState_own hc hen hrole hwork hstand
  have hcleared : s.dev.clearedTile t = (s.dev.unmap t).modTile t fun x => { x with next := some (s.dev.clearedState t), gates := .off } := by
    rw [Dev.clearedTile, yieldSlot_unassigned t hfree]
    exact sendTo_enabled ((f_unmap ..).trans hc) ((f_unmap ..).trans hen)
  rw [hcleared] at hexec
  refine ⟨_, (exec_clearFail t s).trans (congrArg (done s) hexec), ?_, ?_, ?_⟩
  · exact (((keeps.refl.putFmap _ (by decide)).modTile t _ (by decide)).modTile t _ (by decide)).logFault 1 t _ (by decide)
  · rw [Dev.logFault_raised]; exact (List.append_nil _).symm
  · show (vget (finish _).tile t).next = _
    rw [tile_finish, Dev.logFault_tile, tile_modTile_same _ _ t.isLt, hstate]

end Sys2Proof.Machine

open Sys2Proof Sys2Proof.Machine

/-- Settles O5: what a failing tile records stays through all that follows on its course (`failKept_failTile`); where nothing else ends with the failure,
nothing else changes; a CLEAR_FAIL is admitted or refused. -/
theorem tileFailures : Obligations.TileFailures := by
  unfold Obligations.TileFailures
  intro t c s hrun hc
  have halive : s.dev.alive = true := (Bool.and_eq_true_iff.1 hrun).1
  refine ⟨fun hruns hclamp hfired => ?_, fun hmap => ?_, fun hstate hmap => ?_,
    fun hone hclamp hmap hstop hshed hres => ⟨fun hstate hheld hfired hhealthy hfree => ?_, fun hstate hhealthy => ?_⟩,
    fun hstate hres hpassed hnext => ?_, fun hres hnext => ?_⟩
  · have hexec := (exec_tileFailDetect t s).trans (congrArg (done s) (tileFailDetect_fires hrun hruns hfired))
    have hstate := tst_of_runs hruns
    have hlt := firedCause_lt (vget s.dev.tile t)
    refine (leads_failTile hexec hrun hc (by omega) (by omega)).mono fun d h => ?_
    simpa only [hclamp, Bool.false_eq_true, if_false] using h
  · exact effect_unchanged ((exec_forceFail t s).trans (congrArg (done s) (forceFail_failed hmap))) (Dev.f_finish _ (tile_apart_end t _ (by simp)))
  · have hexec := (exec_forceFail t s).trans (congrArg (done s) (forceFail_takes hrun hstate hmap))
    have hrange := hstate
    simp only [within, Bool.and_eq_true, decide_eq_true_eq] at hrange
    exact leads_failTile hexec hrun hc (by omega) (by decide)
  · have hruns : s.dev.runs t = true := by simp [Dev.runs, hstate, hheld]
    have hexec := (exec_tileFailDetect t s).trans (congrArg (done s) (tileFailDetect_fires hrun hruns (by omega)))
    rw [hfired, failDetail_of_stuck hfired] at hexec
    rw [tileFailed_apart 6 hc hone] at hhealthy hfree
    exact effect_failTile_unfilled hc hone halive hclamp hshed hres hstop hexec (by omega) hhealthy hfree
  · have hexec := (exec_forceFail t s).trans (congrArg (done s) (forceFail_takes hrun (by rw [hstate]; rfl) hmap))
    rw [tileFailed_apart 8 hc hone] at hhealthy
    exact (effect_failTile_spare hc hone halive hclamp hshed hres hstop hexec hstate hhealthy).mono fun d h => h.2
  · have hexec := clearFail_admitted hrun hstate hres hpassed hnext
    refine ⟨leads_clearFail hexec hc, fun hwork hrole hen hfree => ?_⟩
    exact effect_clearFail hexec hc hen hrole hwork (fun u => (hfree u).1) fun u => (hfree u).2
  · have hexec := (exec_clearFail t s).trans (congrArg (done s) (clearFail_refused halive hres hnext))
    refine ⟨_, hexec, keeps.refl.set 1 (List.mem_singleton_self _), (List.append_nil _).symm, ?_⟩
    exact (Dev.f_finish _ (tile_apart_end t _ (by simp))).trans (Dev.f_set_lt _ _ _ (Nat.le_of_ble_eq_true rfl) (Nat.le_of_ble_eq_true rfl))
end

section
/-! A tile that the crowbar holds does not enter FAILED (R145): an arming, and a self-test, that fails under the latch. -/
namespace Sys2Proof.Machine

/-- What a claim says of a command holds of the device that its meaning leaves. -/
theorem leads.of_exec {i : Instr} {s : State} {P : Dev → Prop} {d : Dev} (h : leads i s P) (hexec : exec i s = done s d) : P (finish d) := by
  obtain ⟨t, ht, -, hp⟩ := h
  obtain rfl : { s with dev := finish d } = t := Host.Outcome.next.inj (hexec.symm.trans ht)
  exact hp

/-- A running device with the fields given, and every other register at its reset value. -/
def runningWith (l : List (Field × Nat)) : Dev :=
  l.foldl (fun d x => d.set x.1 x.2) { pw := { inReset := false, absent := false, engines := true, coreRuns := true, hostReady := true } }

theorem exec_armingDone (t : Fin 16) (ok : Bool) (s : State) : exec (.armingDone t ok) s = done s (armingDone s.dev t ok) := rfl

theorem exec_tileTestEnd (t : Fin 16) (r : TestReading) (s : State) : exec (.tileTestEnd t r) s = done s (testEnd s.dev t r) := rfl

/-- An ARMED tile whose arming runs when its course latches the crowbar: the latch holds the tile and leaves the arming (R144). -/
def armingUnderCrowbar : Dev :=
  (runningWith [(F.TILE_MAP_COURSE 0, 2), (F.TILE_STAT_STATE 0, 2), (F.TILE_STAT_ARMING 0, 1), (F.TILE_STAT_CROWBAR 0, 1), (F.C_PCTL_CB_LATCH 2, 1)]).modTile 0
    fun x => { x with armRuns := true, clamp := true, gates := .lowHeld }

/-- The failed arming leaves the tile in ARMED (log entry 18). -/
theorem tst_armingDone_underCrowbar : (armingDone armingUnderCrowbar 0 false).tst 0 = 2 := by decide

/-- A tile that the crowbar holds, in TEST with step 1 selected. -/
def testUnderCrowbar : Dev :=
  (runningWith [(F.TILE_MAP_COURSE 0, 2), (F.TILE_STAT_STATE 0, 5), (F.TILE_TEST_RESULT 0, 1), (F.TILE_TEST_STEP 0, 1)]).modTile 0
    fun x => { x with testSel := 1, clamp := true, gates := .lowHeld }

/-- Step 1 measures a rise time above its bound (R124). -/
def slowRise : TestReading := { rise := 151 }

/-- The failed self-test leaves the tile in TEST. -/
theorem tst_testEnd_underCrowbar : (testEnd testUnderCrowbar 0 slowRise).tst 0 = 5 := by decide

end Sys2Proof.Machine

open Sys2Proof Sys2Proof.Machine

/-- Refutes O6: a failed arming is to take its tile to FAILED, whatever holds it. A tile that the crowbar holds stays in ARMED: so in the state
`armingUnderCrowbar`. -/
theorem not_armingAndShedding : ¬ Obligations.ArmingAndShedding := by
  unfold Obligations.ArmingAndShedding
  rintro ⟨harming, -⟩
  obtain ⟨-, hfails, -⟩ := harming 0 2 { dev := armingUnderCrowbar } (by decide) (by decide) (by decide) (by decide)
  obtain ⟨hstate, -⟩ := hfails.of_exec (exec_armingDone 0 false _)
  have hkept := (Dev.f_finish (armingDone armingUnderCrowbar 0 false) (x := F.TILE_STAT_STATE 0) (by decide)).trans tst_armingDone_underCrowbar
  exact absurd (hkept.symm.trans hstate) (by decide)

/-- Refutes O7: a self-test with a failing step is to take its tile to FAILED, whatever holds it. The hypotheses let the crowbar hold the tile, which
then keeps its state: so in the state `testUnderCrowbar`. -/
theorem not_tileTests : ¬ Obligations.TileTests := by
  unfold Obligations.TileTests
  intro h
  obtain ⟨-, -, -, -, -, hend, -⟩ := h 0 2 slowRise { dev := testUnderCrowbar } (by decide) (by decide)
  obtain ⟨-, hfails⟩ := hend (by decide) (by decide)
  obtain ⟨-, -, hstate, -⟩ := (hfails 1 (by decide)).of_exec (exec_tileTestEnd 0 slowRise _)
  have hkept := (Dev.f_finish (testEnd testUnderCrowbar 0 slowRise) (x := F.TILE_STAT_STATE 0) (by decide)).trans tst_testEnd_underCrowbar
  exact absurd (hkept.symm.trans hstate) (by decide)
end

section
/-! The boundary at which a tile that a self-test had taken out of FAILED enters it again (R100, R125, R126). -/
namespace Sys2Proof.Machine

/-- A field that a command's frame leaves alone, and the end of the command too, is as it was in the device that the meaning leaves. -/
theorem effect.field {i : Instr} {s : State} {fs : List Field} {ps : List Part} {evs : List Nat} {P : Dev → Prop} {d : Dev}
    (h : effect i s fs ps evs P) (hexec : exec i s = done s d) {x : Field} (hx : fs.all (fun y => x.apart y) = true)
    (hend : endFields.all (fun y => x.apart y) = true) : d.f x = s.dev.f x := by
  obtain ⟨e, he, ⟨hfield, -⟩, -⟩ := h
  have hdev : finish d = finish e := congrArg State.dev (Host.Outcome.next.inj (hexec.symm.trans he))
  rw [← Dev.f_finish d hend, hdev, Dev.f_finish e hend, hfield x hx]

theorem exec_courseCycleBoundary (c : Fin 6) (q : CycleSample) (s : State) :
    exec (.courseCycleBoundary c q) s = done s ((s.dev.boundary c q).courseResults c) := rfl

/-- Every bootstrap stands at 7.00 V. -/
def bootsCharged : CycleSample := { tiles := Vector.replicate 16 { boot := 700 } }

/-- Tile 0, alone on a stopped course of MAIN, while the power path waits for a handback: its STATE, its BOOT_OK, TILE_FAIL of its course, the state that it
is told to enter, the block clock of SYS below CB_REL, and the events raised. -/
def tileOnMain (state boot traced : Nat) (next : Option Nat) (below : Option Nat) (raised : List (Nat × Nat)) : Dev :=
  (((runningWith [(F.TILE_MAP_ROLE 0, 1), (F.TILE_MAP_COURSE 0, 0), (F.TILE_STAT_STATE 0, state), (F.TILE_STAT_BOOT_OK 0, boot), (F.C_MAP_ENABLE 0, 1),
    (F.C_MAP_PORT 0, 1), (F.C_EVT_TILE_FAIL 0, traced)]).modTile 0 fun x => { x with testFrom := 6, next := next }).putSys
      { handback := true, belowSince := below }).putRaised raised

/-- The tile is in TEST, from FAILED, and told to enter FAILED again. -/
def returningToFailed : Dev := tileOnMain 5 0 0 (some 6) none []

/-- The same device with the samples of the cycle. -/
def returningSampled : Dev := tileOnMain 5 1 0 (some 6) (some 0) []

/-- The same device after the boundary: the tile in FAILED, TILE_FAIL set and EVB1 source 0 raised (R126). -/
def returnedToFailed : Dev := tileOnMain 6 1 1 none (some 0) [(32, 0)]

theorem boundary_returningToFailed : returningToFailed.boundary 0 bootsCharged = returnedToFailed := by
  have hsamples : (returningToFailed.modCourse 0 fun k => { k with replaced := false, mmDue := false }).takeSamples 0 bootsCharged = returningSampled := by
    rfl
  have hstates : returningSampled.boundaryStates 0 = returnedToFailed := by rfl
  have hloop : (returnedToFailed.boundaryLoop 0 bootsCharged false).guardFollows 0 = returnedToFailed := by rfl
  have hkept : (vget returnedToFailed.course 0).replaced = false := by decide
  have hpulses : returnedToFailed.startPulses 0 bootsCharged [] = returnedToFailed := by rfl
  have hpath : ((returnedToFailed.transferUpdate 0).handoverUpdate 0).batteryUpdate 0 = returnedToFailed := by rfl
  have hport : ((returnedToFailed.servUpdate 0).holdCycle 0 bootsCharged).pathReview = returnedToFailed := by rfl
  have hstopped : returningToFailed.delivers 0 = false := by decide
  unfold Dev.boundary
  rw [if_neg (by decide), if_neg (by decide)]
  simp only [hsamples, hstates, hstopped, hloop, hkept, hpulses, hpath, hport, Bool.false_eq_true, if_false]

theorem exec_boundary_returningToFailed :
    exec (.courseCycleBoundary 0 bootsCharged) { dev := returningToFailed } = done { dev := returningToFailed } (returnedToFailed.courseResults 0) := by
  rw [← boundary_returningToFailed]
  exact exec_courseCycleBoundary ..

theorem courseResults_returnedToFailed : (returnedToFailed.courseResults 0).f (F.C_EVT_TILE_FAIL 0) = 1 := by decide

end Sys2Proof.Machine

open Sys2Proof Sys2Proof.Machine

/-- Refutes O8: the frame of the boundary leaves out Cn_EVT.TILE_FAIL, which sets where a tile that a self-test took out of FAILED is told to enter it
again: so in the state `returningToFailed`. -/
theorem not_courseBoundary : ¬ Obligations.CourseBoundary := by
  unfold Obligations.CourseBoundary
  intro h
  obtain ⟨-, hframe⟩ := h 0 0 6 bootsCharged { dev := returningToFailed } (by decide) (by decide)
  have heffect := hframe (by decide) (by decide) (by decide) (by decide) (by decide) (by decide) (by decide) (by decide) (by decide) (by decide)
    (by decide) (by decide) (by decide) (by decide) (by decide) (by decide) (by decide) (by decide) (by decide) (by decide) (by decide)
  have hkept := heffect.field exec_boundary_returningToFailed (x := F.C_EVT_TILE_FAIL 0) (by decide) (by decide)
  exact absurd (courseResults_returnedToFailed.symm.trans hkept) (by decide)
end

section
/-! Three states that the frames of course regulation leave out: an over-current retry after a REARM, a tile that the hold loop drives in a course that stops,
and a crowbar latch while the power die counts the logic die as absent (R144, R152, R157, R161, R164). -/
namespace Sys2Proof.Machine

variable {d : Dev}

/-! ### An over-current retry after a REARM (R152, R173, log entry 22) -/

theorem exec_guardOcRetry (p : Fin 5) (s : State) : exec (.guardOcRetry p) s = done s (guardRetry s.dev p) := rfl

/-- MAIN, whose FET an over-current trip holds open, after a REARM within 1 s of that trip: LATCHED and RETRIES clear, and the port qualified afresh. -/
def rearmedMain : Dev := (runningWith [(F.PORT_STAT_QSTATE 0, 2)]).modPort 1 fun x => { x with ocHeld := true, rearmed := true }

/-- The FET closes without a retry counted. -/
theorem retries_guardRetry_rearmedMain : (guardRetry rearmedMain 0).f (F.GUARD_STAT_RETRIES 0) = 0 := by decide

/-! ### A SURPLUS course with a tile that the hold loop drives (R143, R157, R161) -/

theorem exec_surplusExit (c : Fin 6) (s : State) : exec (.surplusExit c) s = done s (surplusExit s.dev c) := rfl

/-- The hold loop drives tile `t`, which reads RUN and is told to enter no other state. -/
structure Held (t : Nat) (d : Dev) : Prop where
  holds : d.holds t = true
  run : d.tst t = 3
  next : (vget d.tile t).next = none

theorem Held.set {t : Nat} (h : Held t d) {x : Field} (v : Nat) (hx : (F.TILE_STAT_STATE t).apart x = true) : Held t (d.set x v) :=
  ⟨h.holds, (Dev.f_set_apart d v hx).trans h.run, h.next⟩

theorem Held.modCourse {t : Nat} (h : Held t d) (c : Nat) (g : Course → Course) : Held t (d.modCourse c g) := ⟨h.holds, h.run, h.next⟩

theorem Held.modTile_ne {t u : Nat} (h : Held t d) (g : Tile → Tile) (hu : t ≠ u) : Held t (d.modTile u g) :=
  ⟨h.holds, h.run, (congrArg Tile.next (tile_modTile_ne d g hu)).trans h.next⟩

theorem Held.foldl {t : Nat} {g : Dev → Nat → Dev} (hg : ∀ e u, Held t e → Held t (g e u)) (l : List Nat) (h : Held t d) : Held t (l.foldl g d) := by
  induction l generalizing d with
  | nil => exact h
  | cons u l ih => exact ih (hg d u h)

theorem announceAll_quiet (h : ∀ u : Fin 16, (vget d.tile u).announce = false) (c : Nat) : d.announceAll c (d.tilesOf c) = d := by
  have hlist : ∀ l : List Nat, (∀ u ∈ l, u < 16) → d.announceAll c l = d := by
    intro l hl
    induction l with
    | nil => rfl
    | cons u l ih =>
      rw [Dev.announceAll, List.foldl_cons, if_neg (by simp [h ⟨u, hl u (by simp)⟩])]
      exact ih fun v hv => hl v (by simp [hv])
  exact hlist _ fun u hu => List.mem_range.1 (List.mem_filter.1 hu).1

/-- A course that stops changes no tile that the hold loop drives. -/
theorem Held.haltTiles {t : Nat} (h : Held t d) (c : Nat) (now : Bool) (hquiet : ∀ u : Fin 16, (vget d.tile u).announce = false) :
    Held t (d.haltTiles c now) := by
  unfold Dev.haltTiles
  rw [announceAll_quiet hquiet]
  refine h.foldl (fun e u he => ?_) _
  by_cases hu : t = u
  · subst hu
    rw [if_neg (by simp [he.run, he.holds, he.next])]
    exact he
  · split
    · exact (he.modTile_ne _ hu).set 0 (Field.apart_of_addr (by simp only [R.TILE_STAT, R.TILE_IPK, F.TILE_STAT_STATE, F.TILE_IPK_DAC]; omega))
    · exact he

/-- A tile's STATE stands apart from the courses' registers. -/
theorem state_apart_course (t : Fin 16) {x : Field} (hx : 0x1000 ≤ x.addr) : (F.TILE_STAT_STATE t).apart x = true :=
  Field.apart_of_addr (by simp only [F.TILE_STAT_STATE, R.TILE_STAT]; omega)

theorem Held.setCourse {t : Fin 16} (h : Held t d) {x : Field} (k c v : Nat) (hx : x.addr = k + 128 * c := by rfl) (hk : 0x1000 ≤ k := by decide) :
    Held t (d.set x v) := h.set v (state_apart_course t (by omega))

theorem Held.haltCourse {t : Fin 16} (h : Held t d) (c : Nat) (now : Bool) (hquiet : ∀ u : Fin 16, (vget d.tile u).announce = false)
    (hcalm : (((d.abortTests c).cancelStagger c).endShed c).unshare c = d) : Held t (d.haltCourse c now) := by
  have hmode := ((h.setCourse (x := F.C_MODE_MODE c) 0x1040 c 0).setCourse (x := F.C_RSTAT_DELIVER c) 0x105C c 0).setCourse
    (x := F.C_RSTAT_START_ST c) 0x105C c 0
  have hstat := (hmode.setCourse (x := F.C_RSTAT_ACTIVE c) 0x105C c 0).setCourse (x := F.C_RSTAT_TRACK_WAIT c) 0x105C c 0
  have hdemand := (hstat.setCourse (x := F.C_DEMAND_D c) 0x1058 c 0).setCourse (x := F.C_DEMAND_CODE c) 0x1058 c 0
  have href := (hdemand.setCourse (x := F.C_REF_REF c) 0x1054 c 0).setCourse (x := F.C_REF_FINAL c) 0x1054 c 0
  unfold Dev.haltCourse
  rw [hcalm]
  split
  · exact h
  · exact (href.modCourse c _).haltTiles c now hquiet

theorem tile_showSurplus (d : Dev) (n : Nat) : (d.showSurplus n).tile = d.tile := by
  unfold Dev.showSurplus Dev.onlyIf
  simp only [Dev.set_tile]
  split <;> split <;> simp

/-- C1 in SURPLUS on BAT, with no demand for 16 updates, while the hold loop drives its tile 0. -/
def surplusOnHold : Dev :=
  ((runningWith [(F.SYS_STAT_SURP_ST, 3), (F.C_MAP_ENABLE 1, 1), (F.C_MAP_PORT 1, 2), (F.C_MODE_MODE 1, 5), (F.TILE_MAP_COURSE 0, 1), (F.TILE_MAP_ROLE 0, 1),
    (F.TILE_STAT_STATE 0, 3)]).modCourse 1 fun k => { k with run0 := 16 }).putSys { holdMap := [0], holdRuns := true, handback := true }

theorem held_haltCourse_surplusOnHold : Held (0 : Fin 16) (surplusOnHold.haltCourse 1 false) :=
  Held.haltCourse ⟨by decide, by decide, by decide⟩ 1 false (by decide) (by decide)

theorem next_surplusExit_surplusOnHold : (vget (surplusExit surplusOnHold 1).tile 0).next = none := by
  have hmode : surplusOnHold.otherMode 1 = none := by decide
  have hlone : surplusOnHold.followers 1 = [] := by decide
  unfold surplusExit Dev.hardStop
  rw [if_neg (by decide), if_neg (by decide), hmode, hlone]
  simp only [tile_showSurplus, List.foldl_nil]
  exact held_haltCourse_surplusOnHold.next

/-! ### A crowbar latch while the logic die counts as absent (R144, R157, R164) -/

theorem exec_crowbarTrip (v : Nat) (s : State) : exec (.crowbarTrip v) s = done s (crowbarTrip s.dev v) := rfl

/-- A stopped dump course, alone enabled and alone with CB_EN, with the course engines running, a hold map, and the logic die counted as absent. -/
def dumpWhileAbsent : Dev :=
  let d := runningWith ([(F.C_MAP_ENABLE 3, 1), (F.C_MAP_PORT 3, 6)] ++ [0, 1, 2, 4, 5].map fun k => (F.C_MODE_CB_EN k, 0))
  (d.putPw { d.pw with absent := true }).putSys { holdMap := [0] }

/-- The latch blocks the hold loop, which CB_BLOCK shows. -/
theorem cbBlock_crowbarTrip_dumpWhileAbsent : (crowbarTrip dumpWhileAbsent 0x1900).f F.HOLD_STAT_CB_BLOCK = 1 := by decide

end Sys2Proof.Machine

open Sys2Proof Sys2Proof.Machine

/-- Refutes O9: the frame of the latch leaves out HOLD_STAT.CB_BLOCK, which sets where the hold loop does not run but may, the logic die being counted as
absent. The hypotheses ask for running engines and do not ask that the die is present: so in the state `dumpWhileAbsent`. -/
theorem not_crowbarAndTwins : ¬ Obligations.CrowbarAndTwins := by
  unfold Obligations.CrowbarAndTwins
  intro h
  obtain ⟨-, -, -, hframe, -⟩ := h 3 0 0x1900 { dev := dumpWhileAbsent } (by decide)
  have heffect := hframe (by decide) (by decide) (by decide) (by decide) (by decide) (by decide) (by decide) (by decide) (by decide) (by decide) (by decide)
  have hkept := heffect.field (exec_crowbarTrip 0x1900 _) (x := F.HOLD_STAT_CB_BLOCK) (by decide) (by decide)
  exact absurd (cbBlock_crowbarTrip_dumpWhileAbsent.symm.trans hkept) (by decide)

/-- Refutes O10: every closing of the FET is to count a retry. After a REARM within 1 s of the trip it counts none: so in the state `rearmedMain`. -/
theorem not_portGuards : ¬ Obligations.PortGuards := by
  unfold Obligations.PortGuards
  intro h
  obtain ⟨-, hretry, -⟩ := h 0 0 {} 0 false { dev := rearmedMain } (by decide)
  obtain ⟨hcounted, -⟩ := (hretry (by decide) (by decide) (by decide)).of_exec (exec_guardOcRetry 0 _)
  have hkept := (Dev.f_finish (guardRetry rearmedMain 0) (x := F.GUARD_STAT_RETRIES 0) (by decide)).trans retries_guardRetry_rearmedMain
  exact absurd (hkept.symm.trans hcounted) (by decide)

/-- Refutes O11: a course that leaves SURPLUS and stops is to send every tile in RUN to ARMED. The hypotheses let the hold loop drive the tile, which no
course has then: so in the state `surplusOnHold`. -/
theorem not_sysWindowAndSurplus : ¬ Obligations.SysWindowAndSurplus := by
  unfold Obligations.SysWindowAndSurplus
  intro h
  obtain ⟨hrunning, -⟩ := h 1 0 { dev := surplusOnHold }
  obtain ⟨-, -, -, -, -, hexit⟩ := hrunning (by decide)
  have heffect := hexit (by decide) (by decide) (by decide) (by decide) (by decide)
  obtain ⟨⟨-, -, -, htiles⟩, -⟩ := heffect.pending.of_exec (exec_surplusExit 1 _)
  obtain ⟨hnext, -⟩ := htiles 0 (by decide) (by decide)
  rw [tile_finish] at hnext
  exact absurd (next_surplusExit_surplusOnHold.symm.trans hnext) (by decide)
end

section
/-! What the stop, the fall and the start of a course leave alone: every register past those of the courses but for the shares of R178, and every part of the
state but the tiles, the courses and the fault log's requests (R125, R131, R141, R143). -/
namespace Sys2Proof.Machine

/-- The field is of a register past those of the courses, none that a tile's number could reach, and holds no share of R178. -/
def Field.pastCourses (x : Field) : Bool := decide (0x1300 ≤ x.addr) && x.addr % 64 != 0x18 && x.apart F.PATH_STAT_SHARERS

/-- The parts that work on a course may change. -/
def courseParts : List Part := [.tile, .course, .faults]

/-- From `d` to `e` work was done on courses alone: the registers past theirs, every other part of the state, and the events raised are kept. -/
structure CourseKept (d e : Dev) : Prop where
  field  : ∀ x : Field, x.pastCourses = true → e.f x = d.f x
  rest   : e.rest courseParts = d.rest courseParts
  raised : ∀ p ∈ d.raised, p ∈ e.raised

variable {d e : Dev}

/-- A course enabled on a port has one of the six numbers. -/
theorem courseOf_lt {p n : Nat} (h : d.courseOf p = some n) : n < 6 := List.mem_range.1 (List.mem_of_find?_eq_some h)

theorem tilesOf_lt {n u : Nat} (h : u ∈ d.tilesOf n) : u < 16 := List.mem_range.1 (List.mem_filter.1 h).1

theorem followers_lt {n k : Nat} (h : k ∈ d.followers n) : k < 6 := List.mem_range.1 (List.mem_filter.1 h).1

/-- A field past the courses stands apart from every field of a register of a course or a tile. -/
theorem Field.pastCourses_apart {x y : Field} (h : x.pastCourses = true) (hy : y.addr < 0x1300) : x.apart y = true := by
  simp only [Field.pastCourses, Bool.and_eq_true, decide_eq_true_eq] at h
  obtain ⟨⟨haddr, -⟩, -⟩ := h
  exact Field.apart_of_addr (by omega)

namespace CourseKept

theorem refl : CourseKept d d := ⟨fun _ _ => rfl, rfl, fun _ h => h⟩

theorem trans {c : Dev} (h : CourseKept d e) (g : CourseKept e c) : CourseKept d c :=
  ⟨fun x hx => (g.field x hx).trans (h.field x hx), g.rest.trans h.rest, fun p hp => g.raised p (h.raised p hp)⟩

theorem pw (h : CourseKept d e) : e.pw = d.pw := congrArg (·.pw) h.rest
theorem chg (h : CourseKept d e) : e.chg = d.chg := congrArg (·.chg) h.rest
theorem ret (h : CourseKept d e) : e.ret = d.ret := congrArg (·.ret) h.rest
theorem sys (h : CourseKept d e) : e.sys = d.sys := congrArg (·.sys) h.rest
theorem path (h : CourseKept d e) : e.path = d.path := congrArg (·.path) h.rest
theorem ring (h : CourseKept d e) : e.ring = d.ring := congrArg (·.ring) h.rest
theorem alive (h : CourseKept d e) : e.alive = d.alive := by unfold Dev.alive; rw [h.pw]

theorem set (h : CourseKept d e) {x : Field} (v : Nat) (hx : ∀ y : Field, y.pastCourses = true → y.apart x = true) : CourseKept d (e.set x v) :=
  { h with field := fun y hy => (Dev.f_set_apart e v (hx y hy)).trans (h.field y hy) }

theorem setCourse (h : CourseKept d e) {x : Field} (k n v : Nat) (hn : n < 6) (hx : x.addr = k + 128 * n := by rfl) (hk : k < 0x1080 := by decide) :
    CourseKept d (e.set x v) := h.set v fun _ hy => Field.pastCourses_apart hy (by omega)

theorem setTile (h : CourseKept d e) {x : Field} (k u v : Nat) (hu : u < 16) (hx : x.addr = k + 64 * u := by rfl) (hk : k < 0x840 := by decide) :
    CourseKept d (e.set x v) := h.set v fun _ hy => Field.pastCourses_apart hy (by omega)

/-- A field of TILEn_STAT, whatever the number. -/
theorem setStat (h : CourseKept d e) {x : Field} (u v : Nat) (hx : x.addr = R.TILE_STAT u := by rfl) : CourseKept d (e.set x v) :=
  h.set v fun y hy => Field.apart_of_addr fun heq => by
    simp only [Field.pastCourses, Bool.and_eq_true, bne_iff_ne] at hy
    obtain ⟨⟨-, hmod⟩, -⟩ := hy
    simp only [R.TILE_STAT] at hx
    omega

theorem setSharers (h : CourseKept d e) (v : Nat) : CourseKept d (e.set F.PATH_STAT_SHARERS v) := h.set v fun y hy => by
  simp only [Field.pastCourses, Bool.and_eq_true] at hy
  exact hy.2

theorem modTile (h : CourseKept d e) (u : Nat) (g : Tile → Tile) : CourseKept d (e.modTile u g) :=
  { h with rest := (Dev.rest_putTile _ _ rfl).trans h.rest }

theorem modCourse (h : CourseKept d e) (n : Nat) (g : Course → Course) : CourseKept d (e.modCourse n g) :=
  { h with rest := (Dev.rest_putCourse _ _ rfl).trans h.rest }

theorem raise (h : CourseKept d e) (b n : Nat) : CourseKept d (e.raise b n) := by
  unfold Dev.raise
  split
  · exact { h with raised := fun p hp => List.mem_append_left _ (h.raised p hp) }
  · exact h

theorem logFault (h : CourseKept d e) (b n : Nat) (w : List Word) : CourseKept d (e.logFault b n w) := by
  unfold Dev.logFault
  split
  · exact { h with rest := (Dev.rest_putFaults _ _ rfl).trans h.rest }
  · exact h

theorem fault (h : CourseKept d e) (b n : Nat) (l : List Nat) : CourseKept d (e.fault b n l) := (h.raise b n).logFault ..

theorem ite {p : Prop} [Decidable p] {x y : Dev} (hx : CourseKept d x) (hy : CourseKept d y) : CourseKept d (if p then x else y) := by
  split
  · exact hx
  · exact hy

theorem foldl {g : Dev → Nat → Dev} (l : List Nat) (hg : ∀ e, ∀ x ∈ l, CourseKept d e → CourseKept d (g e x)) (h : CourseKept d e) :
    CourseKept d (l.foldl g e) := by
  induction l generalizing e with
  | nil => exact h
  | cons x l ih => exact ih (fun e y hy => hg e y (List.mem_cons_of_mem _ hy)) (hg e x List.mem_cons_self h)

/-! ### Self-tests, staggers and sheds -/

theorem sendTo (h : CourseKept d e) {u : Nat} (hu : u < 16) (st : Nat) : CourseKept d (e.sendTo u st) :=
  .ite (h.modTile ..) ((h.setTile 0x818 u st hu).modTile ..)

theorem leaveTest (h : CourseKept d e) {u : Nat} (hu : u < 16) : CourseKept d (e.leaveTest u) := by
  unfold Dev.leaveTest
  exact (h.sendTo hu _).modTile ..

theorem abortTest (h : CourseKept d e) {u : Nat} (hu : u < 16) : CourseKept d (e.abortTest u) := by
  have hstart : CourseKept d (((e.set (F.TILE_TEST_RESULT u) 4).set (F.TILE_CTL_TEST_START u) 0).raise 1 28) :=
    ((h.setTile 0x830 u 4 hu).setTile 0x814 u 0 hu).raise 1 28
  unfold Dev.abortTest
  exact .ite (.ite (hstart.leaveTest hu) (hstart.modTile ..)) h

theorem abortTests (h : CourseKept d e) (n : Nat) : CourseKept d (e.abortTests n) := h.foldl _ fun _ _ hu h => h.abortTest (tilesOf_lt hu)

theorem cancelStagger (h : CourseKept d e) {n : Nat} (hn : n < 6) : CourseKept d (e.cancelStagger n) :=
  (h.foldl _ fun _ u hu h => (h.setTile 0x820 u 0 (tilesOf_lt hu)).setTile 0x820 u 0 (tilesOf_lt hu)).setCourse 0x1018 n 0 hn

theorem endShed (h : CourseKept d e) {n : Nat} (hn : n < 6) : CourseKept d (e.endShed n) := by
  refine .setCourse (.modCourse ?_ ..) 0x1018 n 0 hn
  split
  · exact h.setStat _ 0
  · exact h

theorem unshare (h : CourseKept d e) (n : Nat) : CourseKept d (e.unshare n) := .ite (h.setSharers _) h

/-! ### The stop and the fall of a course (R143) -/

theorem haltTiles (h : CourseKept d e) {n : Nat} (hn : n < 6) (now : Bool) : CourseKept d (e.haltTiles n now) := by
  have htrace : CourseKept d (e.announceAll n (e.tilesOf n)) :=
    h.foldl _ fun _ _ _ h => .ite (.modTile ((h.setCourse 0x101C n 1 hn).fault 1 (16 + n) _) ..) h
  exact htrace.foldl _ fun _ u hu h => .ite (.setTile (.modTile h ..) 0x824 u 0 (tilesOf_lt hu)) h

/-- The writes of a halt to the course's own registers. -/
theorem zeroCourse (h : CourseKept d e) {n : Nat} (hn : n < 6) : CourseKept d
    (((((((((e.set (F.C_MODE_MODE n) 0).set (F.C_RSTAT_DELIVER n) 0).set (F.C_RSTAT_START_ST n) 0).set (F.C_RSTAT_ACTIVE n) 0).set
      (F.C_RSTAT_TRACK_WAIT n) 0).set (F.C_DEMAND_D n) 0).set (F.C_DEMAND_CODE n) 0).set (F.C_REF_REF n) 0).set (F.C_REF_FINAL n) 0) := by
  refine .setCourse (.setCourse (.setCourse (.setCourse (.setCourse ?_ 0x105C n 0 hn) 0x1058 n 0 hn) 0x1058 n 0 hn) 0x1054 n 0 hn) 0x1054 n 0 hn
  exact .setCourse (.setCourse (.setCourse (.setCourse h 0x1040 n 0 hn) 0x105C n 0 hn) 0x105C n 0 hn) 0x105C n 0 hn

theorem haltCourse (h : CourseKept d e) {n : Nat} (hn : n < 6) (now : Bool) : CourseKept d (e.haltCourse n now) :=
  .ite h (.haltTiles (.modCourse ((((h.abortTests n).cancelStagger hn).endShed hn).unshare n |>.zeroCourse hn) ..) hn now)

theorem fallCourse (h : CourseKept d e) {n : Nat} (hn : n < 6) : CourseKept d (e.fallCourse n) :=
  .ite (.modCourse (.abortTests (.setCourse (.setCourse h 0x1040 n 0 hn) 0x105C n 3 hn) n) ..) (h.haltCourse hn false)

theorem stopCourse (h : CourseKept d e) {n : Nat} (hn : n < 6) : CourseKept d (e.stopCourse n) :=
  .ite h (foldl _ (fun _ _ hk h => h.fallCourse (followers_lt hk)) (.ite (h.fallCourse hn) (h.haltCourse hn false)))

theorem hardStop (h : CourseKept d e) {n : Nat} (hn : n < 6) (now : Bool) : CourseKept d (e.hardStop n now) :=
  .ite h ((h.haltCourse hn now).foldl _ fun _ _ hk h => h.fallCourse (followers_lt hk))

/-! ### The start of a course (R131, R141) -/

theorem setDir (h : CourseKept d e) {n : Nat} (hn : n < 6) (dr : Nat) : CourseKept d (e.setDir n dr) := by
  unfold Dev.setDir
  exact (h.setCourse 0x105C n dr hn).modCourse ..

theorem giveModeOpen (h : CourseKept d e) {n : Nat} (hn : n < 6) (m final dr : Nat) : CourseKept d (e.giveModeOpen n m final dr) := by
  have htold : CourseKept d ((e.setDir n dr).set (F.C_MODE_MODE n) m) := (h.setDir hn dr).setCourse 0x1040 n m hn
  unfold Dev.giveModeOpen
  refine .ite (h.stopCourse hn) (.ite h (.ite (htold.setCourse 0x1054 n _ hn) (.ite ?_ ?_)))
  · refine .setCourse (.setCourse (.setCourse (.setCourse (.modCourse ?_ ..) 0x1058 n 0 hn) 0x105C n 0 hn) 0x1054 n _ hn) 0x105C n 1 hn
    exact (htold.abortTests n).setCourse 0x1054 n final hn
  · exact (.setCourse (.setCourse (htold.modCourse ..) 0x1054 n _ hn) 0x1054 n _ hn)

theorem giveMode (h : CourseKept d e) {n : Nat} (hn : n < 6) (m final dr : Nat) : CourseKept d (e.giveMode n m final dr) :=
  .ite h (h.giveModeOpen hn m final dr)

end CourseKept

/-- The charger's mode for C1 is work on a course alone (R187). -/
theorem courseKept_applyCharge (d : Dev) : CourseKept d d.applyCharge := by
  unfold Dev.applyCharge
  split
  · exact .refl
  next n hn =>
    have hlt := courseOf_lt hn
    refine .ite .refl (.ite .refl ?_)
    split
    · exact CourseKept.refl.giveMode hlt ..
    · exact .ite (CourseKept.refl.stopCourse hlt) .refl

end Sys2Proof.Machine
end

section
/-! Three states that the statements on sources, sharing and battery presence leave out: BAT in window after the wake by an EMERG HOLD, and a tile of C1 that
the hold loop drives when C1 stops (R143, R157, R172, R173, R176, R178, R200, R201). -/
namespace Sys2Proof.Machine

variable {d : Dev}

/-! ### BAT enters its window after the wake by an EMERG HOLD (R172, R173, R176, R200) -/

theorem exec_portWindowChange (p : Fin 5) (x : NodeSample) (s : State) : exec (.portWindowChange p x) s = done s (portWindow s.dev p x) := rfl

/-- BAT, out of its window and with its FET open, after the wake by an EMERG HOLD, while the power path waits for a handback. -/
def wokenByHold : Dev :=
  (runningWith [(F.PORT_QUAL_QUAL_VMIN 1, 1000), (F.PORT_QUAL_QUAL_VMAX 1, 6000), (F.CHG_RESV_E_HOLD_RX, 1), (F.RSTCAUSE_CAUSE, 9)]).putSys { handback := true }

/-- BAT in window counts as debounced at once, so its FET closes. -/
theorem fetOn_portWindow_wokenByHold : (portWindow wokenByHold 1 { node := 4000 }).f (F.GUARD_STAT_FET_ON 1) = 1 := by decide

/-! ### C1 stops with a tile that the hold loop drives (R143, R157, R178, R201) -/

theorem exec_shareRelease (pos : Option (Fin 4)) (s : State) : exec (.shareRelease pos) s = done s (shareRelease s.dev pos) := rfl

theorem exec_probeEnd (v : Nat) (s : State) : exec (.probeEnd v) s = done s (probeEnd s.dev v) := rfl

/-- C1 on BAT in I_PORT, with a reference of 0 for 16 updates, while the hold loop drives its tile 0 and the power path waits for a handback; with the fields
and the charger's part given. -/
def batteryOnHold (l : List (Field × Nat)) (x : Charger) : Dev :=
  (((runningWith (l ++ [(F.C_MAP_ENABLE 1, 1), (F.C_MAP_PORT 1, 2), (F.C_MODE_MODE 1, 3), (F.TILE_MAP_COURSE 0, 1), (F.TILE_MAP_ROLE 0, 1),
    (F.TILE_STAT_STATE 0, 3)])).modCourse 1 fun k => { k with runF0 := 16 }).putSys { holdMap := [0], holdRuns := true, handback := true }).putChg x

/-- C1 assists. -/
def assistOnHold : Dev := batteryOnHold [(F.PATH_STAT_ASSIST, 1), (F.CHG_PHASE_PHASE, 0)] {}

/-- A presence probe runs from a BAT at 0 V. -/
def probeOnHold : Dev := batteryOnHold [(F.CHG_CFG_CHEM, 3)] { probe := some 0 }

/-- While the power path uses C1, the charger gives it no mode. -/
theorem applyCharge_used (h : d.pathUsesC1 = true) : d.applyCharge = d := by
  unfold Dev.applyCharge
  split
  · rfl
  · rw [if_pos (by simp [h])]

theorem pathUsesC1_handback (h : d.sys.handback = true) : d.pathUsesC1 = true := by simp [Dev.pathUsesC1, h]

theorem next_shareRelease_assistOnHold : (vget (shareRelease assistOnHold none).tile 0).next = none := by
  have hheld : Held (0 : Fin 16) (assistOnHold.haltCourse 1 false) := Held.haltCourse ⟨by decide, by decide, by decide⟩ 1 false (by decide) (by decide)
  have hstop : assistOnHold.stopCourse 1 = assistOnHold.haltCourse 1 false := by
    have hlone : assistOnHold.followers 1 = [] := by decide
    unfold Dev.stopCourse
    rw [if_neg (by decide), if_neg (by decide), hlone, List.foldl_nil]
  have hback : ((assistOnHold.stopCourse 1).set F.PATH_STAT_ASSIST 0).sys.handback = true := by
    rw [Dev.set_sys, (CourseKept.refl.stopCourse (by decide)).sys]; rfl
  have hcourse : assistOnHold.courseOf 2 = some 1 := by decide
  unfold shareRelease
  simp only [hcourse]
  rw [if_neg (by decide), if_pos (by decide), applyCharge_used (pathUsesC1_handback hback), Dev.set_tile, hstop]
  exact hheld.next

/-- The same device after the pulse, before C1 stops. -/
def probedOnHold : Dev := batteryOnHold [(F.CHG_CFG_CHEM, 3)] { vBat := 101 }

theorem probeEnd_probeOnHold : probeEnd probeOnHold 101 = probedOnHold.hardStop 1 false := by
  have hprobe : (if probeOnHold.running then probeOnHold.chg.probe else none) = some 0 := by decide
  have hended : probeOnHold.putChg { probeOnHold.chg with probe := none, vBat := ((101 : Nat) : Int) } = probedOnHold := rfl
  have hcourse : probedOnHold.courseOf 2 = some 1 := by decide
  unfold probeEnd
  simp only [hprobe, hended, hcourse]
  rw [if_neg (by simp)]

theorem next_probeEnd_probeOnHold : (vget (probeEnd probeOnHold 101).tile 0).next = none := by
  have hheld : Held (0 : Fin 16) (probedOnHold.haltCourse 1 false) := Held.haltCourse ⟨by decide, by decide, by decide⟩ 1 false (by decide) (by decide)
  have hlone : probedOnHold.followers 1 = [] := by decide
  rw [probeEnd_probeOnHold]
  unfold Dev.hardStop
  rw [if_neg (by decide), hlone, List.foldl_nil]
  exact hheld.next

end Sys2Proof.Machine

open Sys2Proof Sys2Proof.Machine

/-- Refutes O12: the frame of an entry into the window leaves out GUARD_STAT.FET_ON, which sets at once for BAT after the wake by an EMERG HOLD (R176): so in
the state `wokenByHold`. -/
theorem not_sourcePorts : ¬ Obligations.SourcePorts := by
  unfold Obligations.SourcePorts
  rintro ⟨hwindow, -⟩
  obtain ⟨-, -, hentry, -⟩ := hwindow 1 { node := 4000 } 4000 { dev := wokenByHold } (by decide) (by decide)
  have heffect := hentry (by decide) (by decide) (by decide) (by decide) (by decide)
  have hkept := heffect.field (exec_portWindowChange 1 _ _) (x := F.GUARD_STAT_FET_ON 1) (by decide) (by decide)
  exact absurd (fetOn_portWindow_wokenByHold.symm.trans hkept) (by decide)

/-- Refutes O13: an assist that ends is to send every tile of C1 in RUN to ARMED. The hypotheses let the hold loop drive a tile, which no course has then: so
in the state `assistOnHold`. -/
theorem not_sharingAndAssist : ¬ Obligations.SharingAndAssist := by
  unfold Obligations.SharingAndAssist
  intro h
  obtain ⟨-, -, -, -, halone⟩ := h 0 1 { dev := assistOnHold } (by decide)
  obtain ⟨-, -, -, hrelease⟩ := halone (by decide)
  have heffect := hrelease (by decide) (by decide) (by decide) (by decide) (by decide) (by decide)
  obtain ⟨⟨-, -, -, -, htiles⟩, -⟩ := heffect.pending.of_exec (exec_shareRelease none _)
  obtain ⟨hnext, -⟩ := htiles 0 (by decide) (by decide)
  rw [tile_finish] at hnext
  exact absurd (next_shareRelease_assistOnHold.symm.trans hnext) (by decide)

/-- Refutes O15: a probe that fails is to send every tile of C1 in RUN to ARMED. The hypotheses let the hold loop drive a tile, which no course has then: so
in the state `probeOnHold`. -/
theorem not_batteryPresence : ¬ Obligations.BatteryPresence := by
  unfold Obligations.BatteryPresence
  intro h
  obtain ⟨-, -, -, halone⟩ := h 1 101 0 0 { dev := probeOnHold } (by decide) (by decide) (by decide)
  obtain ⟨-, hfails, -⟩ := halone (by decide)
  have heffect := hfails (by decide) (by decide) (by decide)
  obtain ⟨⟨-, -, ⟨-, -, -, htiles⟩, -⟩, -⟩ := heffect.pending.of_exec (exec_probeEnd 101 _)
  obtain ⟨hnext, -⟩ := htiles 0 (by decide) (by decide)
  rw [tile_finish] at hnext
  exact absurd (next_probeEnd_probeOnHold.symm.trans hnext) (by decide)
end

section
/-! The button and the lamps (R204, R206, R208 to R210). -/
namespace Sys2Proof.Machine

variable {d e : Dev} {s : State}

theorem EndSame.lamp (h : EndSame d e) : e.lamp = d.lamp := congrArg (·.lamp) h.rest

@[simp] theorem lamp_finish (d : Dev) : (finish d).lamp = d.lamp := (EndSame.finish d).lamp

/-! ### Ship requests and presses -/

theorem exec_shipArm (s : State) : exec .shipArm s = done s (if s.dev.alive then s.dev.set F.PWR_STAT_SHIP_PEND 1 else s.dev) := rfl
theorem exec_shipCancel (s : State) : exec .shipCancel s = done s (if s.dev.alive then s.dev.set F.PWR_STAT_SHIP_PEND 0 else s.dev) := rfl
theorem exec_btnShortPress (ms : Nat) (s : State) : exec (.btnShortPress ms) s = done s (shortPress s.dev ms) := rfl
theorem exec_btnLongPress (s : State) : exec .btnLongPress s = done s (longPress s.dev) := rfl
theorem exec_nbtnRelease (ms : Nat) (s : State) : exec (.nbtnRelease ms) s = done s (s.dev.pressEnds ms) := rfl

/-- A command that writes one value to one field and raises nothing. -/
theorem effect_set {i : Instr} {x : Field} {v : Nat} (hexec : exec i s = done s (s.dev.set x v)) (hx : x.lo + x.width ≤ 32) (hv : v < 2 ^ x.width)
    (hend : endFields.all (fun y => x.apart y) = true) : effect i s [x] [] [] fun d => d.f x = v :=
  ⟨_, hexec, keeps.refl.set v (List.mem_singleton_self x), (List.append_nil _).symm, (Dev.f_finish _ hend).trans (Dev.f_set_lt _ _ _ hx hv)⟩

/-- The device at the end of a press of `ms` milliseconds, with VKA up. -/
def Dev.pressed (d : Dev) (ms : Nat) : Dev := (d.set F.PWR_STAT_PRESS_10MS (min 65535 (ms / 10))).set F.PWR_STAT_BTN 0

theorem pressEnds_powered (ms : Nat) (h : d.pw.vkaLow = false) : d.pressEnds ms = d.pressed ms := by simp [Dev.pressEnds, Dev.pressed, h]

theorem keeps_pressed (ms : Nat) : keeps [F.PWR_STAT_PRESS_10MS, F.PWR_STAT_BTN] [] d (d.pressed ms) := (keeps.refl.set _ (by simp)).set _ (by simp)

theorem f_pressed (d : Dev) (ms : Nat) :
    (d.pressed ms).f F.PWR_STAT_PRESS_10MS = min 65535 (ms / 10) ∧ (d.pressed ms).f F.PWR_STAT_BTN = 0 := by
  refine ⟨(Dev.f_set_apart _ _ (by decide)).trans (Dev.f_set_lt _ _ _ (by decide) ?_), Dev.f_set_lt _ _ _ (by decide) (by decide)⟩
  have hwidth : 2 ^ F.PWR_STAT_PRESS_10MS.width = 65536 := rfl
  omega

theorem f_finish_press (d : Dev) : (finish d).f F.PWR_STAT_PRESS_10MS = d.f F.PWR_STAT_PRESS_10MS ∧ (finish d).f F.PWR_STAT_BTN = d.f F.PWR_STAT_BTN :=
  ⟨Dev.f_finish d (by decide), Dev.f_finish d (by decide)⟩

theorem shortPress_short {ms : Nat} (hlong : 50 ≤ ms) (hshort : ms < 2000) (h : d.pw.vkaLow = false) : shortPress d ms = (d.pressed ms).raise 3 11 := by
  have hup : (d.pressed ms).pw.vkaLow = false := h
  simp [shortPress, pressEnds_powered ms h, hup, hlong, hshort]

theorem longPress_powered (h : d.pw.vkaLow = false) : longPress d = (d.set F.PWR_STAT_BTN 1).raise 3 12 := by simp [longPress, h]

/-! ### The lamps -/

/-- The lamp after a slot that ends with pattern `w` wanted: a new pattern starts at slot 0. -/
def Lamp.after (l : Lamp) (w : Nat) : Lamp :=
  let n := if l.pattern == w then (l.slot + 1) % 8 else 0
  { pattern := w, slot := n, lit := (patternBits w).testBit n }

/-- The field that shows the pattern of lamp `i`. -/
def patField (i : Nat) : Field := if i == 0 then F.STAT_CTL_PAT0 else F.STAT_CTL_PAT1

theorem lampSlot_eq (d : Dev) (i : Nat) :
    d.lampSlot i = (d.putLamp (vset d.lamp i ((vget d.lamp i).after (d.wantPattern i)))).set (patField i) (d.wantPattern i) := rfl

theorem patField_mem (i : Nat) : patField i ∈ [F.STAT_CTL_PAT0, F.STAT_CTL_PAT1] := by unfold patField; split <;> simp

/-- The pattern wanted on a lamp does not depend on those that the lamps show. -/
theorem wantPattern_congr (i : Nat) (h : ∀ x : Field, x.apart F.STAT_CTL_PAT0 = true → x.apart F.STAT_CTL_PAT1 = true → e.f x = d.f x) :
    e.wantPattern i = d.wantPattern i := by
  have hoff {x : Field} (hx : x.addr ≠ R.STAT_CTL) : e.f x = d.f x := h x (Field.apart_of_addr hx) (Field.apart_of_addr hx)
  have hlatch (c : Nat) : e.f (F.C_PCTL_CB_LATCH c) = d.f (F.C_PCTL_CB_LATCH c) := hoff (by simp only [F.C_PCTL_CB_LATCH, R.C_PCTL, R.STAT_CTL]; omega)
  have hguard (p : Nat) : e.f (F.GUARD_STAT_LATCHED p) = d.f (F.GUARD_STAT_LATCHED p) :=
    hoff (by simp only [F.GUARD_STAT_LATCHED, R.GUARD_STAT, R.STAT_CTL]; omega)
  have hfail (c : Nat) : e.f (F.C_STAT_COURSE_FAIL c) = d.f (F.C_STAT_COURSE_FAIL c) := hoff (by simp only [F.C_STAT_COURSE_FAIL, R.C_STAT, R.STAT_CTL]; omega)
  have hlatched : e.latchedAny = d.latchedAny := by simp only [Dev.latchedAny, Dev.on, hlatch, hguard]
  have hfailed : (List.range 6).any (fun c => e.on (F.C_STAT_COURSE_FAIL c)) = (List.range 6).any fun c => d.on (F.C_STAT_COURSE_FAIL c) := by
    simp only [Dev.on, hfail]
  have hcompat : e.on F.SYSCFG_COMPAT = d.on F.SYSCFG_COMPAT := congrArg (· != 0) (hoff (by decide))
  have hauto : e.autoPattern i = d.autoPattern i := by
    unfold Dev.autoPattern
    rw [hoff (x := F.CHG_PHASE_PHASE) (by decide), hoff (x := F.PATH_STAT_STATE) (by decide), hcompat, hlatched, hfailed]
  have hforce : e.f (if i == 0 then F.STAT_CTL_FORCE0 else F.STAT_CTL_FORCE1) = d.f (if i == 0 then F.STAT_CTL_FORCE0 else F.STAT_CTL_FORCE1) := by
    split
    · exact h _ (by decide) (by decide)
    · exact h _ (by decide) (by decide)
  simp only [Dev.wantPattern, hauto, hforce]

theorem autoPattern_lt (d : Dev) (i : Nat) : d.autoPattern i < 8 := by
  unfold Dev.autoPattern
  dsimp only
  repeat' split
  all_goals decide

/-- A pattern fits the field that shows it. -/
theorem wantPattern_lt (d : Dev) (i : Nat) : d.wantPattern i < 8 := by
  have hforced (n : Nat) : (if within 1 6 n then n else d.autoPattern i) < 8 := by
    split
    next hn => simp only [within, Bool.and_eq_true, decide_eq_true_eq] at hn; omega
    next => exact autoPattern_lt d i
  exact hforced _

theorem wantPattern_lampSlot (d : Dev) (i k : Nat) : (d.lampSlot i).wantPattern k = d.wantPattern k := by
  refine wantPattern_congr k fun x h0 h1 => ?_
  rw [lampSlot_eq]
  refine Dev.f_set_apart _ _ ?_
  obtain heq | heq : patField i = F.STAT_CTL_PAT0 ∨ patField i = F.STAT_CTL_PAT1 := by simpa using patField_mem i
  · rwa [heq]
  · rwa [heq]

theorem lamp_lampSlot_same (d : Dev) {i : Nat} (h : i < 2) : vget (d.lampSlot i).lamp i = (vget d.lamp i).after (d.wantPattern i) := vget_vset_same _ _ h

theorem lamp_lampSlot_ne (d : Dev) {i k : Nat} (h : k ≠ i) : vget (d.lampSlot i).lamp k = vget d.lamp k := vget_vset_ne _ _ h

theorem exec_statSlot (s : State) : exec .statSlot s = done s (statSlot s.dev) := rfl

theorem statSlot_present (halive : d.alive = true) (h : d.pw.absent = false) : statSlot d = (d.lampSlot 0).lampSlot 1 := by simp [statSlot, halive, h]

theorem keeps.lampSlot {fs : List Field} (i : Nat) (hfs : [F.STAT_CTL_PAT0, F.STAT_CTL_PAT1] ⊆ fs) (h : keeps fs [.lamp] d e) :
    keeps fs [.lamp] d (e.lampSlot i) := by
  rw [lampSlot_eq]
  exact (h.putLamp _ rfl).set _ (hfs (patField_mem i))

theorem f_pat_statSlot (d : Dev) : ((d.lampSlot 0).lampSlot 1).f F.STAT_CTL_PAT0 = d.wantPattern 0 ∧
    ((d.lampSlot 0).lampSlot 1).f F.STAT_CTL_PAT1 = d.wantPattern 1 := by
  rw [lampSlot_eq _ 1, wantPattern_lampSlot]
  refine ⟨(Dev.f_set_apart _ _ (by decide)).trans ?_, Dev.f_set_lt _ _ _ (by decide) (wantPattern_lt d 1)⟩
  exact Dev.f_set_lt _ _ _ (by decide) (wantPattern_lt d 0)

theorem effect_statSlot (halive : s.dev.alive = true) (h : s.dev.pw.absent = false) :
    effect .statSlot s [F.STAT_CTL_PAT0, F.STAT_CTL_PAT1] [.lamp] [] fun d =>
      d.f F.STAT_CTL_PAT0 = s.dev.wantPattern 0 ∧ d.f F.STAT_CTL_PAT1 = s.dev.wantPattern 1 ∧
      ∀ i : Fin 2, vget d.lamp i = (vget s.dev.lamp i).after (s.dev.wantPattern i) := by
  obtain ⟨hpat0, hpat1⟩ := f_pat_statSlot s.dev
  refine ⟨_, (exec_statSlot s).trans (congrArg (done s) (statSlot_present halive h)), (keeps.refl.lampSlot 0 (by simp)).lampSlot 1 (by simp),
    (List.append_nil _).symm, (Dev.f_finish _ (by decide)).trans hpat0, (Dev.f_finish _ (by decide)).trans hpat1, fun i => ?_⟩
  rw [lamp_finish]
  match i with
  | 0 => exact (lamp_lampSlot_ne _ (by decide)).trans (lamp_lampSlot_same _ (by decide))
  | 1 =>
    have hsecond := lamp_lampSlot_same (s.dev.lampSlot 0) (i := 1) (by decide)
    rwa [wantPattern_lampSlot, lamp_lampSlot_ne s.dev (i := 0) (by decide)] at hsecond

/-- What a slot leaves of a lamp, in terms of the slot that it then shows. -/
theorem Lamp.after_eq (l : Lamp) (w : Nat) :
    l.after w = { pattern := w, lit := (patternBits w).testBit (l.after w).slot, slot := if l.pattern = w then (l.slot + 1) % 8 else 0 } := by
  simp [Lamp.after]

end Sys2Proof.Machine

open Sys2Proof Sys2Proof.Machine

/-- Settles O17: each command's meaning is one or two writes, and the pattern wanted on the second lamp does not depend on the one shown on the first. -/
theorem buttonAndLamps : Obligations.ButtonAndLamps := by
  unfold Obligations.ButtonAndLamps
  intro ms s halive hpresent
  refine ⟨?_, ?_, fun hlong hshort hvka => ?_, fun hvka => ?_, fun hvka => ?_,
    (effect_statSlot halive hpresent).mono fun d ⟨hpat0, hpat1, hlamp⟩ => ⟨hpat0, hpat1, fun i => ?_⟩⟩
  · exact effect_set ((exec_shipArm s).trans (congrArg (done s) (if_pos halive))) (by decide) (by decide) (by decide)
  · exact effect_set ((exec_shipCancel s).trans (congrArg (done s) (if_pos halive))) (by decide) (by decide) (by decide)
  · obtain ⟨htime, hbtn⟩ := f_finish_press ((s.dev.pressed ms).raise 3 11)
    obtain ⟨hpress, hdown⟩ := f_pressed s.dev ms
    refine ⟨_, (exec_btnShortPress ms s).trans (congrArg (done s) (shortPress_short hlong hshort hvka)), (keeps_pressed ms).raise 3 11,
      Dev.raise_raised _ 3 11 halive, htime.trans ((Dev.f_raise ..).trans (hpress.trans ?_)), hbtn.trans ((Dev.f_raise ..).trans hdown)⟩
    omega
  · exact ⟨_, (exec_btnLongPress s).trans (congrArg (done s) (longPress_powered hvka)), (keeps.refl.set 1 (by simp)).raise 3 12,
      Dev.raise_raised _ 3 12 halive, (Dev.f_finish _ (by decide)).trans ((Dev.f_raise ..).trans (Dev.f_set_lt _ _ _ (by decide) (by decide)))⟩
  · obtain ⟨htime, hbtn⟩ := f_finish_press (s.dev.pressed ms)
    obtain ⟨hpress, hdown⟩ := f_pressed s.dev ms
    exact ⟨_, (exec_nbtnRelease ms s).trans (congrArg (done s) (pressEnds_powered ms hvka)), keeps_pressed ms, (List.append_nil _).symm,
      htime.trans hpress, hbtn.trans hdown⟩
  · rw [hlamp i]
    exact Lamp.after_eq ..
end

section
/-! What the power path leaves alone where it stops, starts and changes the lead: the registers past those of the courses but for PATH_STAT, CHG_PHASE and
SYS_TARGET, the charger's part, and the power state but for the power-fail save (R175, R182, R186, R203, R404). -/
namespace Sys2Proof.Machine

/-- The field is of a register past those of the courses that no decision of the power path writes. -/
def Field.offPath (x : Field) : Bool := x.pastCourses && x.addr != R.PATH_STAT && x.addr != R.CHG_PHASE && x.addr != R.SYS_TARGET

/-- The parts that a decision of the power path may change. -/
def pathParts : List Part := courseParts ++ [.path, .ret, .sys, .pw]

/-- The power state without what a power-fail save writes. -/
def PowerState.unsaved (x : PowerState) : PowerState := { x with pfsDone := false, pfsOld := 0 }

/-- From `d` to `e` the power path was decided: the registers off the path, every other part of the state, the power state but for a power-fail save, and the
events raised are kept. -/
structure PathKept (d e : Dev) : Prop where
  field  : ∀ x : Field, x.offPath = true → e.f x = d.f x
  rest   : e.rest pathParts = d.rest pathParts
  power  : e.pw.unsaved = d.pw.unsaved
  raised : ∀ p ∈ d.raised, p ∈ e.raised

variable {d e : Dev}

namespace PathKept

theorem refl : PathKept d d := ⟨fun _ _ => rfl, rfl, rfl, fun _ h => h⟩

theorem chg (h : PathKept d e) : e.chg = d.chg := congrArg (·.chg) h.rest

/-- Work on a course decides nothing else. -/
theorem course {c : Dev} (h : PathKept d e) (g : CourseKept e c) : PathKept d c where
  field x hx := by
    refine (g.field x ?_).trans (h.field x hx)
    simp only [Field.offPath, Bool.and_eq_true] at hx
    exact hx.1.1.1
  rest := (congrArg (Dev.rest pathParts) g.rest).trans h.rest
  power := (congrArg PowerState.unsaved g.pw).trans h.power
  raised p hp := g.raised p (h.raised p hp)

theorem set (h : PathKept d e) {x : Field} (v : Nat) (hx : x.addr = R.PATH_STAT ∨ x.addr = R.CHG_PHASE ∨ x.addr = R.SYS_TARGET := by decide) :
    PathKept d (e.set x v) :=
  { h with
    field := fun y hy => by
      refine (Dev.f_set_ne e v fun heq => ?_).trans (h.field y hy)
      simp only [Field.offPath, Bool.and_eq_true, bne_iff_ne] at hy
      obtain ⟨⟨⟨-, hpath⟩, hphase⟩, htarget⟩ := hy
      rcases hx with hx | hx | hx
      · exact hpath (heq.trans hx)
      · exact hphase (heq.trans hx)
      · exact htarget (heq.trans hx) }

theorem putPath (h : PathKept d e) (x : Path) : PathKept d (e.putPath x) := { h with rest := (Dev.rest_putPath _ _ rfl).trans h.rest }
theorem putRet (h : PathKept d e) (x : Retained) : PathKept d (e.putRet x) := { h with rest := (Dev.rest_putRet _ _ rfl).trans h.rest }
theorem putSys (h : PathKept d e) (x : SysLoop) : PathKept d (e.putSys x) := { h with rest := (Dev.rest_putSys _ _ rfl).trans h.rest }

theorem raise (h : PathKept d e) (b n : Nat) : PathKept d (e.raise b n) := h.course (CourseKept.refl.raise b n)

theorem modCourse (h : PathKept d e) (n : Nat) (g : Course → Course) : PathKept d (e.modCourse n g) := h.course (CourseKept.refl.modCourse n g)

theorem hardStop (h : PathKept d e) {n : Nat} (hn : n < 6) (now : Bool) : PathKept d (e.hardStop n now) := h.course (CourseKept.refl.hardStop hn now)

theorem ite {p : Prop} [Decidable p] {x y : Dev} (hx : PathKept d x) (hy : PathKept d y) : PathKept d (if p then x else y) := by
  split
  · exact hx
  · exact hy

theorem foldl {g : Dev → Nat → Dev} (l : List Nat) (hg : ∀ e x, PathKept d e → PathKept d (g e x)) (h : PathKept d e) : PathKept d (l.foldl g e) := by
  induction l generalizing e with
  | nil => exact h
  | cons x l ih => exact ih (hg e x h)

/-- A change for the course enabled on a port, if there is one. -/
theorem onCourse {x : Dev} (h : PathKept d e) (p : Nat) {g : Nat → Dev} (hg : ∀ n < 6, PathKept d (g n)) :
    PathKept d (match x.courseOf p with | some n => g n | none => e) := by
  split
  next n hn => exact hg n (courseOf_lt hn)
  next => exact h

theorem phaseToIdle (h : PathKept d e) : PathKept d e.phaseToIdle := .ite (.raise (.putRet (.set (.set (.set h _) 0) 0) _) 3 0) h

theorem powerFailSave (h : PathKept d e) : PathKept d e.powerFailSave := by
  unfold Dev.powerFailSave
  refine .ite (.putRet ?_ _) h
  exact { h with rest := (Dev.rest_putPw _ _ rfl).trans h.rest }

theorem setPath (h : PathKept d e) (st lead : Nat) : PathKept d (e.setPath st lead) := .set (.set h st) lead

/-! ### The lead is given up (R182, R200, R203) -/

theorem goDark (h : PathKept d e) : PathKept d e.goDark := by
  unfold Dev.goDark
  extract_lets sources battery
  have hsources : PathKept d sources := h.foldl _ fun _ p h => h.onCourse p fun n hn => .ite (h.hardStop hn false) h
  have hbattery : PathKept d battery := hsources.onCourse 2 fun n hn => .ite (hsources.hardStop hn false).phaseToIdle hsources
  exact .powerFailSave (.set (.set (.setPath (.putPath hbattery _) 6 0) 0) 0)

theorem endSurplusC1 (h : PathKept d e) : PathKept d e.endSurplusC1 := h.onCourse 2 fun _ hn => .ite (h.hardStop hn false) h

theorem takeOver (h : PathKept d e) (p : Nat) {n : Nat} (hn : n < 6) : PathKept d (e.takeOver p n) := by
  unfold Dev.takeOver
  extract_lets turned len first told moded refd
  have htold : PathKept d told := .ite (PathKept.set h 0).phaseToIdle (.set h _)
  have hmoded : CourseKept told moded := .setCourse (.setCourse .refl 0x1040 n 1 hn) 0x105C n 0 hn
  have hrefd : CourseKept told refd := .setCourse (.setCourse (.setCourse hmoded 0x1054 n _ hn) 0x1054 n _ hn) 0x105C n 2 hn
  exact htold.course ((hrefd.abortTests n).modCourse ..)

theorem handTo (h : PathKept d e) (target : Option Nat) (late : Nat) : PathKept d (e.handTo target late) := by
  cases target with
  | none => exact h.goDark
  | some p =>
    unfold Dev.handTo
    dsimp only
    split
    · exact h.goDark
    next n hn => exact .takeOver (.set (.putPath (.ite h h.endSurplusC1) _) 2) _ (courseOf_lt hn)

theorem handover (h : PathKept d e) (late : Nat) : PathKept d (e.handover late) := .handTo (h.onCourse _ fun _ hn => h.hardStop hn true) ..

theorem abandonTransfer (h : PathKept d e) : PathKept d e.abandonTransfer := .putPath (.set h _) _

theorem loseBattery (h : PathKept d e) (now idle : Bool) : PathKept d (e.loseBattery now idle) := by
  unfold Dev.loseBattery
  extract_lets taking leads path marked told stopped
  have hmarked : PathKept d marked := .ite (h.putPath _) h
  have htold : PathKept d told := .set (.ite hmarked.phaseToIdle hmarked) 0
  have hstopped : PathKept d stopped := htold.onCourse 2 fun _ hn => htold.hardStop hn now
  exact .ite hmarked (.ite (hstopped.handTo ..) hstopped)

theorem goReserve (h : PathKept d e) : PathKept d e.goReserve := .putPath (.setPath (h.onCourse 2 fun _ hn => h.hardStop hn false) 5 0) _

/-! ### A lead is chosen (R175, R177, R186) -/

theorem coldLead (h : PathKept d e) (p : Nat) {n : Nat} (hn : n < 6) (st : Nat) : PathKept d (e.coldLead p n st) := by
  unfold Dev.coldLead
  extract_lets sys started aimed slewed told given
  have haimed : PathKept d aimed := .set (.putSys (h.set _) _) _
  have hslewed : PathKept d slewed := .ite (haimed.set _) haimed
  have htold : PathKept d told := .ite hslewed.phaseToIdle hslewed
  exact .ite (.setPath (htold.course (CourseKept.refl.giveMode hn ..)) st p) htold

theorem startTransfer (h : PathKept d e) (p : Nat) {n : Nat} (hn : n < 6) : PathKept d (e.startTransfer p n) := by
  unfold Dev.startTransfer
  extract_lets _ given
  have hgiven : PathKept d given := .ite h (h.course (CourseKept.refl.giveMode hn ..))
  exact .ite (.putPath (hgiven.set 4) _) h

theorem pathReview (h : PathKept d e) : PathKept d e.pathReview := by
  unfold Dev.pathReview
  refine .ite h ?_
  extract_lets
  refine .ite ?_ (.ite ?_ h)
  · split
    · exact h.onCourse _ fun _ hn => h.coldLead _ hn 1
    · exact h.onCourse 2 fun _ hn => .ite (h.coldLead 2 hn 3) h
  · extract_lets
    split
    · exact .ite (h.onCourse _ fun _ hn => h.startTransfer _ hn) h
    · exact h

end PathKept
end Sys2Proof.Machine
end

section
/-! The energy account, its floor, and the release reserve (R197 to R199). -/
namespace Sys2Proof.Machine

variable {d e : Dev} {s : State}

theorem EndSame.chg (h : EndSame d e) : e.chg = d.chg := congrArg (·.chg) h.rest
theorem EndSame.ret (h : EndSame d e) : e.ret = d.ret := congrArg (·.ret) h.rest

@[simp] theorem chg_finish (d : Dev) : (finish d).chg = d.chg := (EndSame.finish d).chg
@[simp] theorem ret_finish (d : Dev) : (finish d).ret = d.ret := (EndSame.finish d).ret

theorem exec_energyAccountTick (v : Nat) (i : Int) (s : State) : exec (.energyAccountTick v i) s = done s (energyTick s.dev v i) := rfl
theorem exec_energyRetain (s : State) : exec .energyRetain s = done s (energyRetain s.dev) := rfl
theorem exec_reserveRelease (s : State) : exec .reserveRelease s = done s (if s.dev.running then s.dev.releaseReserve else s.dev) := rfl
theorem exec_reserveRestore (s : State) : exec .reserveRestore s = done s (reserveRestore s.dev) := rfl

theorem alive_of_running (h : d.running = true) : d.alive = true := by
  simp only [Dev.running, Bool.and_eq_true] at h
  exact h.1

/-! ### The floor -/

/-- AT_FLOOR and E_RES after the floor has been judged, with EVB3 source 9 where it is reached (R198). -/
def Dev.floorMarked (d : Dev) : Dev :=
  let e := (d.set F.CHG_ENERGY_E_RES d.eRes).setB F.CHG_RESV_E_AT_FLOOR d.floorReached
  if d.floorReached && !d.on F.CHG_RESV_E_AT_FLOOR then e.raise 3 9 else e

/-- A release is over: a source has qualified and the floor is left (R199). -/
def Dev.releaseOver (d : Dev) : Bool :=
  !d.floorReached && d.floorMarked.on F.CHG_RESV_E_RELEASED && d.floorMarked.bestSource.isSome &&
    (d.on F.CHG_RESV_E_AT_FLOOR || d.floorMarked.f F.PATH_STAT_STATE == 1)

/-- The state after the floor has been judged, before C1 follows it. -/
def Dev.floorJudged (d : Dev) : Dev := if d.releaseOver then d.floorMarked.set F.CHG_RESV_E_RELEASED 0 else d.floorMarked

theorem judgeFloor_kept (h : d.f F.CHG_CFG_CHEM ≠ 0) : PathKept d.floorJudged d.judgeFloor := by
  unfold Dev.judgeFloor
  rw [if_neg (by simpa using h)]
  exact .ite PathKept.refl.goReserve (.ite (PathKept.refl.onCourse 2 fun _ hn => .set (PathKept.refl.hardStop hn false) 0) .refl)

/-- While a handover runs and C1 does not assist, C1 does not follow the floor. -/
theorem judgeFloor_handover (h : d.f F.CHG_CFG_CHEM ≠ 0) (hstate : d.floorJudged.f F.PATH_STAT_STATE = 2) (hassist : d.floorJudged.f F.PATH_STAT_ASSIST = 0) :
    d.judgeFloor = d.floorJudged := by
  unfold Dev.judgeFloor
  rw [if_neg (by simpa using h)]
  change (if d.floorReached && !d.floorJudged.on F.CHG_RESV_E_RELEASED &&
      (d.floorJudged.f F.PATH_STAT_STATE == 3 || (d.floorJudged.f F.PATH_STAT_STATE == 4 && d.floorJudged.f F.PATH_STAT_LEAD == 2)) then d.floorJudged.goReserve
    else if d.floorReached && !d.floorJudged.on F.CHG_RESV_E_RELEASED && d.floorJudged.on F.PATH_STAT_ASSIST then _ else d.floorJudged) = _
  rw [if_neg (by simp [hstate]), if_neg (by simp [Dev.on, hassist])]

/-- While a handover runs, the power path decides nothing. -/
theorem pathReview_handover (h : d.f F.PATH_STAT_STATE = 2) : d.pathReview = d := by
  unfold Dev.pathReview
  split
  · rfl
  · simp [h]

theorem f_floorMarked {x : Field} (hres : x.apart F.CHG_ENERGY_E_RES = true) (hfloor : x.apart F.CHG_RESV_E_AT_FLOOR = true) : d.floorMarked.f x = d.f x := by
  unfold Dev.floorMarked
  split
  · rw [Dev.f_raise]; exact (Dev.f_set_apart _ _ hfloor).trans (Dev.f_set_apart _ _ hres)
  · exact (Dev.f_set_apart _ _ hfloor).trans (Dev.f_set_apart _ _ hres)

theorem f_atFloor_floorMarked (d : Dev) : d.floorMarked.f F.CHG_RESV_E_AT_FLOOR = d.floorReached.toNat := by
  have hset := f_setB_same (d.set F.CHG_ENERGY_E_RES d.eRes) F.CHG_RESV_E_AT_FLOOR d.floorReached (by decide) (by decide)
  unfold Dev.floorMarked
  split
  · rw [Dev.f_raise]; exact hset
  · exact hset

theorem floorMarked_chg (d : Dev) : d.floorMarked.chg = d.chg := by
  unfold Dev.floorMarked
  split
  · exact Dev.raise_chg ..
  · rfl

/-- The floor is left, or was reached before: nothing is raised. -/
theorem floorMarked_raised_same (h : d.floorReached = false ∨ d.f F.CHG_RESV_E_AT_FLOOR = 1) : d.floorMarked.raised = d.raised := by
  unfold Dev.floorMarked
  rw [if_neg]
  · rfl
  · rcases h with h | h <;> simp [Dev.on, h]

/-- The floor is reached. -/
theorem floorMarked_raised_new (halive : d.alive = true) (h : d.floorReached = true) (hwas : d.f F.CHG_RESV_E_AT_FLOOR = 0) :
    d.floorMarked.raised = d.raised ++ [(3 * 32 + 9, d.pw.time)] := by
  unfold Dev.floorMarked
  rw [if_pos (by simp [Dev.on, h, hwas])]
  exact Dev.raise_raised _ 3 9 halive

theorem keeps.floorMarked {fs : List Field} {ps : List Part} (hres : F.CHG_ENERGY_E_RES ∈ fs) (hfloor : F.CHG_RESV_E_AT_FLOOR ∈ fs) (h : keeps fs ps d e) :
    keeps fs ps d e.floorMarked :=
  .ite (((h.set _ hres).setB _ hfloor).raise 3 9) ((h.set _ hres).setB _ hfloor)

/-- No release is in force, or the floor is reached: the judgement ends none. -/
theorem floorJudged_eq (h : d.f F.CHG_RESV_E_RELEASED = 0 ∨ d.floorReached = true) : d.floorJudged = d.floorMarked := by
  have hover : d.releaseOver = false := by
    rcases h with h | h
    · have hreleased : d.floorMarked.f F.CHG_RESV_E_RELEASED = 0 := (f_floorMarked (by decide) (by decide)).trans h
      simp [Dev.releaseOver, Dev.on, hreleased]
    · simp [Dev.releaseOver, h]
  rw [Dev.floorJudged, hover]
  rfl

/-- During a handover without an assist the judgement of the floor marks it and no more. -/
theorem floor_handover (hchem : d.f F.CHG_CFG_CHEM ≠ 0) (hstate : d.f F.PATH_STAT_STATE = 2) (hassist : d.f F.PATH_STAT_ASSIST = 0)
    (h : d.f F.CHG_RESV_E_RELEASED = 0 ∨ d.floorReached = true) : d.judgeFloor.pathReview = d.floorMarked := by
  have hjudged := floorJudged_eq h
  have hpath : d.floorMarked.f F.PATH_STAT_STATE = 2 := (f_floorMarked (by decide) (by decide)).trans hstate
  have hidle : d.floorMarked.f F.PATH_STAT_ASSIST = 0 := (f_floorMarked (by decide) (by decide)).trans hassist
  rw [judgeFloor_handover hchem (hjudged ▸ hpath) (hjudged ▸ hidle), hjudged, pathReview_handover hpath]

/-! ### The account -/

/-- The state with the exact account at `n`, before the floor is judged. -/
def Dev.accounted (d : Dev) (n : Nat) : Dev := (d.putChg { d.chg with energy := n }).set F.CHG_ENERGY_E_AVAIL (n / 360000000000)

theorem energyTick_eq (v : Nat) (i : Int) (hrun : d.running = true) (hchem : d.f F.CHG_CFG_CHEM ≠ 0) :
    energyTick d v i = (d.accounted (d.accountAfter v i)).judgeFloor.pathReview := by
  unfold energyTick
  rw [if_neg (by simp [hrun, hchem]), Dev.accounted]

theorem f_accounted (n : Nat) {x : Field} (h : x.apart F.CHG_ENERGY_E_AVAIL = true) : (d.accounted n).f x = d.f x := Dev.f_set_apart _ _ h

theorem f_eAvail_accounted (d : Dev) (n : Nat) : (d.accounted n).f F.CHG_ENERGY_E_AVAIL = n / 360000000000 % 65536 := Dev.f_set_same _ _ _ (by decide)

theorem accounted_energy (d : Dev) (n : Nat) : (d.accounted n).chg.energy = n := rfl
theorem accounted_raised (d : Dev) (n : Nat) : (d.accounted n).raised = d.raised := rfl
theorem accounted_pw (d : Dev) (n : Nat) : (d.accounted n).pw = d.pw := rfl

theorem floorJudged_f {x : Field} (hres : x.apart F.CHG_ENERGY_E_RES = true) (hfloor : x.apart F.CHG_RESV_E_AT_FLOOR = true)
    (hreleased : x.apart F.CHG_RESV_E_RELEASED = true) : d.floorJudged.f x = d.f x := by
  unfold Dev.floorJudged
  split
  · exact (Dev.f_set_apart _ _ hreleased).trans (f_floorMarked hres hfloor)
  · exact f_floorMarked hres hfloor

theorem floorJudged_chg (d : Dev) : d.floorJudged.chg = d.chg := by
  unfold Dev.floorJudged
  split <;> exact floorMarked_chg d

/-- The floor by the battery's voltage, while the account is not calibrated. -/
theorem floorReached_uncal (h : d.f F.CHG_RESV_E_UNCAL = 1) : d.floorReached = decide (d.f F.CHG_MEAS_V_CELL ≤ d.f F.CHG_VFLOOR_V_RES) := by
  rw [Dev.floorReached, if_pos (by simp [Dev.on, h]), Dev.vCell]

theorem leads_energyAccountTick (v : Nat) (i : Int) (hrun : s.dev.running = true) (hchem : s.dev.f F.CHG_CFG_CHEM ≠ 0) :
    leads (.energyAccountTick v i) s fun d =>
      d.chg.energy = s.dev.accountAfter v i ∧ d.f F.CHG_ENERGY_E_AVAIL = s.dev.accountAfter v i / 360000000000 % 65536 := by
  have hkept : PathKept (s.dev.accounted (s.dev.accountAfter v i)).floorJudged (s.dev.accounted (s.dev.accountAfter v i)).judgeFloor.pathReview :=
    (judgeFloor_kept (by rwa [f_accounted _ (by decide)])).pathReview
  refine ⟨_, (exec_energyAccountTick v i s).trans (congrArg (done s) (energyTick_eq v i hrun hchem)), rfl, ?_, ?_⟩
  · rw [chg_finish, hkept.chg, floorJudged_chg, accounted_energy]
  · rw [Dev.f_finish _ (by decide), hkept.field _ (by decide), floorJudged_f (by decide) (by decide) (by decide), f_eAvail_accounted]

/-- A millisecond during a handover without an assist. -/
theorem effect_energyAccountTick (v : Nat) (i : Int) {evs : List Nat} {P : Dev → Prop} (hrun : s.dev.running = true) (hchem : s.dev.f F.CHG_CFG_CHEM ≠ 0)
    (hstate : s.dev.f F.PATH_STAT_STATE = 2) (hassist : s.dev.f F.PATH_STAT_ASSIST = 0) (hreleased : s.dev.f F.CHG_RESV_E_RELEASED = 0)
    (hraised : (s.dev.accounted (s.dev.accountAfter v i)).floorMarked.raised = s.dev.raised ++ evs.map fun n => (n, s.dev.pw.time))
    (hp : P (finish (s.dev.accounted (s.dev.accountAfter v i)).floorMarked)) :
    effect (.energyAccountTick v i) s [F.CHG_ENERGY_E_AVAIL, F.CHG_ENERGY_E_RES, F.CHG_RESV_E_AT_FLOOR] [.chg] evs P := by
  have hfield {x : Field} (hx : x.apart F.CHG_ENERGY_E_AVAIL = true) : (s.dev.accounted (s.dev.accountAfter v i)).f x = s.dev.f x := f_accounted _ hx
  have hfloor : (s.dev.accounted (s.dev.accountAfter v i)).judgeFloor.pathReview = (s.dev.accounted (s.dev.accountAfter v i)).floorMarked :=
    floor_handover (by rwa [hfield (by decide)]) ((hfield (by decide)).trans hstate) ((hfield (by decide)).trans hassist)
      (.inl ((hfield (by decide)).trans hreleased))
  have hkeeps : keeps [F.CHG_ENERGY_E_AVAIL, F.CHG_ENERGY_E_RES, F.CHG_RESV_E_AT_FLOOR] [.chg] s.dev (s.dev.accounted (s.dev.accountAfter v i)) :=
    (keeps.refl.putChg _ rfl).set _ (by simp)
  exact ⟨_, (exec_energyAccountTick v i s).trans (congrArg (done s) ((energyTick_eq v i hrun hchem).trans hfloor)),
    hkeeps.floorMarked (by simp) (by simp), hraised, hp⟩

/-! ### The release (R199) -/

theorem effect_energyRetain (halive : s.dev.alive = true) : effect .energyRetain s [] [.ret] [] fun d => d.ret.eAvail = s.dev.f F.CHG_ENERGY_E_AVAIL := by
  refine ⟨s.dev.putRet { s.dev.ret with eAvail := s.dev.f F.CHG_ENERGY_E_AVAIL }, (exec_energyRetain s).trans (congrArg (done s) ?_), keeps.refl.putRet _ rfl,
    (List.append_nil _).symm, ?_⟩
  · simp [energyRetain, halive]
  · exact congrArg (·.eAvail) (ret_finish _)

/-- The reserve freed, with its event and its fault-log entry, before the power path follows. -/
def Dev.freed (d : Dev) : Dev := (d.set F.CHG_RESV_E_RELEASED 1).fault 3 10 [R.CHG_RESV_E, R.CHG_ENERGY]

theorem exec_reserveRelease_first (hrun : s.dev.running = true) (h : s.dev.f F.CHG_RESV_E_RELEASED = 0) :
    exec .reserveRelease s = done s s.dev.freed.pathReview := by
  rw [exec_reserveRelease, if_pos hrun, Dev.releaseReserve, if_neg (by simp [Dev.on, h])]
  rfl

theorem f_freed (d : Dev) (x : Field) : d.freed.f x = (d.set F.CHG_RESV_E_RELEASED 1).f x := by simp [Dev.freed, Dev.fault]

theorem f_freed_same (d : Dev) : d.freed.f F.CHG_RESV_E_RELEASED = 1 := (f_freed ..).trans (Dev.f_set_lt _ _ _ (by decide) (by decide))

theorem freed_raised (h : d.alive = true) : d.freed.raised = d.raised ++ [(3 * 32 + 10, d.pw.time)] := by
  unfold Dev.freed Dev.fault
  rw [Dev.logFault_raised]
  exact Dev.raise_raised _ 3 10 h

theorem leads_reserveRelease (hrun : s.dev.running = true) (h : s.dev.f F.CHG_RESV_E_RELEASED = 0) :
    leads .reserveRelease s fun d => d.f F.CHG_RESV_E_RELEASED = 1 ∧ d.pendingEvent (3 * 32 + 10) = true := by
  have hkept : PathKept s.dev.freed s.dev.freed.pathReview := PathKept.refl.pathReview
  refine ⟨_, exec_reserveRelease_first hrun h, rfl, ?_, pendingEvent_finish (t := s.dev.pw.time) (by decide) (hkept.raised _ ?_)⟩
  · rw [Dev.f_finish _ (by decide), hkept.field _ (by decide), f_freed_same]
  · rw [freed_raised (alive_of_running hrun)]
    exact List.mem_append_right _ (List.mem_singleton_self _)

theorem effect_reserveRelease (hrun : s.dev.running = true) (hstate : s.dev.f F.PATH_STAT_STATE = 2) (h : s.dev.f F.CHG_RESV_E_RELEASED = 0) :
    effect .reserveRelease s [F.CHG_RESV_E_RELEASED] [.faults] [3 * 32 + 10] fun d => d.f F.CHG_RESV_E_RELEASED = 1 := by
  have hpath : s.dev.freed.f F.PATH_STAT_STATE = 2 := ((f_freed ..).trans (Dev.f_set_ne _ _ (by decide))).trans hstate
  refine ⟨_, (exec_reserveRelease_first hrun h).trans (congrArg (done s) (pathReview_handover hpath)), ?_, freed_raised (alive_of_running hrun),
    (Dev.f_finish _ (by decide)).trans (f_freed_same _)⟩
  exact (keeps.refl.set 1 (by simp)).fault 3 10 _ rfl

/-- The release ended, before the floor is judged. -/
def Dev.restored (d : Dev) : Dev := d.set F.CHG_RESV_E_RELEASED 0

theorem exec_reserveRestore_released (hrun : s.dev.running = true) (h : s.dev.f F.CHG_RESV_E_RELEASED = 1) :
    exec .reserveRestore s = done s s.dev.restored.judgeFloor.pathReview := by
  rw [exec_reserveRestore, reserveRestore, if_pos (by simp [hrun, Dev.on, h])]
  rfl

theorem f_restored (d : Dev) {x : Field} (h : x.apart F.CHG_RESV_E_RELEASED = true) : d.restored.f x = d.f x := Dev.f_set_apart _ _ h

theorem f_restored_same (d : Dev) : d.restored.f F.CHG_RESV_E_RELEASED = 0 := Dev.f_set_lt _ _ _ (by decide) (by decide)

theorem floorReached_restored (d : Dev) : d.restored.floorReached = d.floorReached := by
  have huncal := f_restored d (x := F.CHG_RESV_E_UNCAL) (by decide)
  have hcell := f_restored d (x := F.CHG_MEAS_V_CELL) (by decide)
  have hvolts := f_restored d (x := F.CHG_VFLOOR_V_RES) (by decide)
  have havail := f_restored d (x := F.CHG_ENERGY_E_AVAIL) (by decide)
  have hcycles := f_restored d (x := F.CHG_RESV_CYC) (by decide)
  have hreserve := f_restored d (x := F.CHG_RESV_E_RESERVE_E) (by decide)
  have hcapacity := f_restored d (x := F.CHG_BAT_CAPACITY) (by decide)
  unfold Dev.floorReached Dev.on Dev.vCell Dev.eRes
  rw [huncal, hcell, hvolts, havail, hcycles, hreserve, hcapacity]

theorem leads_reserveRestore (hrun : s.dev.running = true) (hchem : s.dev.f F.CHG_CFG_CHEM ≠ 0) (h : s.dev.f F.CHG_RESV_E_RELEASED = 1) :
    leads .reserveRestore s fun d => d.f F.CHG_RESV_E_RELEASED = 0 := by
  have hkept : PathKept s.dev.restored.floorJudged s.dev.restored.judgeFloor.pathReview :=
    (judgeFloor_kept (by rwa [f_restored _ (by decide)])).pathReview
  refine ⟨_, exec_reserveRestore_released hrun h, rfl, ?_⟩
  have hjudged : s.dev.restored.floorJudged.f F.CHG_RESV_E_RELEASED = 0 := by
    rw [floorJudged_eq (.inl (f_restored_same _)), f_floorMarked (by decide) (by decide), f_restored_same]
  exact (Dev.f_finish _ (by decide)).trans ((hkept.field _ (by decide)).trans hjudged)

theorem effect_reserveRestore (hrun : s.dev.running = true) (hchem : s.dev.f F.CHG_CFG_CHEM ≠ 0) (hstate : s.dev.f F.PATH_STAT_STATE = 2)
    (hassist : s.dev.f F.PATH_STAT_ASSIST = 0) (h : s.dev.f F.CHG_RESV_E_RELEASED = 1) (hwas : s.dev.f F.CHG_RESV_E_AT_FLOOR = 1)
    (hreached : s.dev.floorReached = true) :
    effect .reserveRestore s [F.CHG_RESV_E_RELEASED, F.CHG_ENERGY_E_RES, F.CHG_RESV_E_AT_FLOOR] [] [] fun d =>
      d.f F.CHG_RESV_E_RELEASED = 0 ∧ d.f F.CHG_RESV_E_AT_FLOOR = 1 := by
  have hfloor : s.dev.restored.judgeFloor.pathReview = s.dev.restored.floorMarked :=
    floor_handover (by rwa [f_restored _ (by decide)]) ((f_restored _ (by decide)).trans hstate) ((f_restored _ (by decide)).trans hassist)
      (.inl (f_restored_same _))
  have hatFloor := f_atFloor_floorMarked s.dev.restored
  rw [floorReached_restored, hreached] at hatFloor
  have hkeeps : keeps [F.CHG_RESV_E_RELEASED, F.CHG_ENERGY_E_RES, F.CHG_RESV_E_AT_FLOOR] [] s.dev s.dev.restored := keeps.refl.set 0 (by simp)
  refine ⟨_, (exec_reserveRestore_released hrun h).trans (congrArg (done s) hfloor), hkeeps.floorMarked (by simp) (by simp), ?_, ?_, ?_⟩
  · exact (floorMarked_raised_same (.inr ((f_restored _ (by decide)).trans hwas))).trans (List.append_nil _).symm
  · rw [Dev.f_finish _ (by decide), f_floorMarked (by decide) (by decide), f_restored_same]
  · exact (Dev.f_finish _ (by decide)).trans hatFloor

end Sys2Proof.Machine

open Sys2Proof Sys2Proof.Machine

/-- Settles O16: what the power path decides after the account has moved, or the floor has been judged, leaves the account, E_AVAIL and RELEASED alone
(`PathKept`), and during a handover it decides nothing. -/
theorem energyAndReserve : Obligations.EnergyAndReserve := by
  unfold Obligations.EnergyAndReserve
  intro v i s hrun hchem
  have halive := alive_of_running hrun
  refine ⟨leads_energyAccountTick v i hrun hchem, effect_energyRetain halive, leads_reserveRelease hrun, leads_reserveRestore hrun hchem, fun hstate hassist =>
    ⟨fun huncal hreleased hbound => ?_, effect_reserveRelease hrun hstate, effect_reserveRestore hrun hchem hstate hassist⟩⟩
  have hreached : (s.dev.accounted (s.dev.accountAfter v i)).floorReached = decide (s.dev.f F.CHG_MEAS_V_CELL ≤ s.dev.f F.CHG_VFLOOR_V_RES) := by
    rw [floorReached_uncal ((f_accounted _ (by decide)).trans huncal), f_accounted _ (by decide), f_accounted _ (by decide)]
  have hatFloor := f_atFloor_floorMarked (s.dev.accounted (s.dev.accountAfter v i))
  refine ⟨fun habove => ?_, fun hbelow hwas => ?_⟩
  · have hfalse : (s.dev.accounted (s.dev.accountAfter v i)).floorReached = false := hreached.trans (decide_eq_false (by omega))
    refine effect_energyAccountTick v i hrun hchem hstate hassist hreleased 
      ((floorMarked_raised_same (.inl hfalse)).trans ((accounted_raised ..).trans (List.append_nil _).symm)) ⟨?_, ?_, ?_⟩
    · rw [chg_finish, floorMarked_chg, accounted_energy, Dev.accountAfter]
    · rw [chg_finish, floorMarked_chg, accounted_energy, Dev.f_finish _ (by decide), f_floorMarked (by decide) (by decide), f_eAvail_accounted]
      omega
    · rw [Dev.f_finish _ (by decide), hatFloor, hfalse]; rfl
  · have htrue : (s.dev.accounted (s.dev.accountAfter v i)).floorReached = true := hreached.trans (decide_eq_true hbelow)
    have hlive : (s.dev.accounted (s.dev.accountAfter v i)).alive = true := by rw [Dev.alive, accounted_pw]; exact halive
    have hraised := floorMarked_raised_new hlive htrue ((f_accounted _ (by decide)).trans hwas)
    rw [accounted_raised, accounted_pw] at hraised
    refine effect_energyAccountTick v i hrun hchem hstate hassist hreleased hraised ?_
    rw [Dev.f_finish _ (by decide), hatFloor, htrue]; rfl
end

section
/-! A change of the charge phase: what it shows and raises, and what the charger's mode for C1 leaves of it (R187 to R194). -/
namespace Sys2Proof.Machine

variable {d e : Dev} {s : State} {p : Nat}

theorem exec_chargeDwellExpiry (s : State) : exec .chargeDwellExpiry s = done s (chargeDwell s.dev) := rfl
theorem exec_chargeSafetyTimerExpiry (s : State) : exec .chargeSafetyTimerExpiry s = done s (chargeTimer s.dev) := rfl
theorem exec_chgClearFault (s : State) : exec .chgClearFault s = done s (chgClearFault s.dev) := rfl

/-- A frame may name more fields and parts. -/
theorem keeps.widen {fs gs : List Field} {ps qs : List Part} (h : keeps fs ps d e) (hfs : fs ⊆ gs)
    (hqs : ∀ x : Dev, (x.rest ps).rest qs = x.rest qs := by intro; rfl) : keeps gs qs d e := by
  refine ⟨fun x hx => h.1 x (List.all_eq_true.2 fun y hy => List.all_eq_true.1 hx y (hfs hy)), ?_⟩
  rw [← hqs e, h.2, hqs d]

/-! ### The timer of a phase (R190) -/

/-- From `d` to `e` at most a phase timer, its kept time and the minutes shown of it have changed. -/
structure Timed (d e : Dev) : Prop where
  keep   : keeps [F.CHG_PHASE_TIMER] [.chg, .ret] d e
  raised : e.raised = d.raised
  probe  : e.chg.probe = d.chg.probe

namespace Timed

theorem refl : Timed d d := ⟨keeps.refl, rfl, rfl⟩

theorem f (h : Timed d e) {x : Field} (hx : x.apart F.CHG_PHASE_TIMER = true) : e.f x = d.f x := h.keep.1 x (by simpa using hx)

theorem setTimer (h : Timed d e) (v : Nat) : Timed d (e.set F.CHG_PHASE_TIMER v) := ⟨h.keep.set v (by simp), h.raised, h.probe⟩

theorem putRet (h : Timed d e) (x : Retained) : Timed d (e.putRet x) := ⟨h.keep.putRet x rfl, h.raised, h.probe⟩

theorem putChg (h : Timed d e) (x : Charger) (hx : x.probe = e.chg.probe) : Timed d (e.putChg x) := ⟨h.keep.putChg x rfl, h.raised, hx.trans h.probe⟩

theorem showTimer (h : Timed d e) : Timed d e.showTimer := by
  unfold Dev.showTimer
  split
  · exact h.setTimer 0
  · exact h.setTimer _

theorem keepTimer (h : Timed d e) : Timed d e.keepTimer := by
  unfold Dev.keepTimer
  dsimp only
  split
  · split
    · exact h.putRet _
    · exact h
  · exact h.putRet _

end Timed

/-! ### A change of phase (R189) -/

/-- The events of an entry into phase `p`: EVB3 source 0, and source 5 at DONE. -/
def phaseEvents (p : Nat) : List Nat := if p = 6 then [3 * 32, 3 * 32 + 5] else [3 * 32]

/-- From `d` to `e` the charge phase has become `p`. -/
structure Phased (p : Nat) (d e : Dev) : Prop where
  keep   : keeps [F.CHG_PHASE_PHASE, F.CHG_PHASE_PREV, F.CHG_PHASE_TIMER] [.chg, .ret] d e
  phase  : e.f F.CHG_PHASE_PHASE = p
  prev   : e.f F.CHG_PHASE_PREV = d.f F.CHG_PHASE_PHASE
  raised : e.raised = d.raised ++ (phaseEvents p).map fun n => (n, d.pw.time)
  probe  : e.chg.probe = d.chg.probe

/-- PHASE and PREV written, and the events of the entry raised. -/
def Dev.enterPhase (d : Dev) (p : Nat) : Dev :=
  let e := ((d.set F.CHG_PHASE_PREV (d.f F.CHG_PHASE_PHASE)).set F.CHG_PHASE_PHASE p).raise 3 0
  if p == 6 then e.raise 3 5 else e

theorem phased_enterPhase (halive : d.alive = true) (hp : p < 16) : Phased p d (d.enterPhase p) := by
  have hfield (x : Field) : (d.enterPhase p).f x = ((d.set F.CHG_PHASE_PREV (d.f F.CHG_PHASE_PHASE)).set F.CHG_PHASE_PHASE p).f x := by
    unfold Dev.enterPhase
    split <;> simp
  have hprev : (d.set F.CHG_PHASE_PREV (d.f F.CHG_PHASE_PHASE)).f F.CHG_PHASE_PREV = d.f F.CHG_PHASE_PHASE := Dev.f_set_f _ _ _ _ (by decide) rfl
  have hkeeps : keeps [F.CHG_PHASE_PHASE, F.CHG_PHASE_PREV, F.CHG_PHASE_TIMER] [.chg, .ret] d
      ((d.set F.CHG_PHASE_PREV (d.f F.CHG_PHASE_PHASE)).set F.CHG_PHASE_PHASE p) := (keeps.refl.set _ (by simp)).set _ (by simp)
  refine ⟨.ite ((hkeeps.raise 3 0).raise 3 5) (hkeeps.raise 3 0), (hfield _).trans (Dev.f_set_lt _ _ _ (by decide) hp),
    (hfield _).trans ((Dev.f_set_apart _ _ (by decide)).trans hprev), ?_, ?_⟩
  · have hfirst : (((d.set F.CHG_PHASE_PREV (d.f F.CHG_PHASE_PHASE)).set F.CHG_PHASE_PHASE p).raise 3 0).raised = d.raised ++ [(3 * 32, d.pw.time)] :=
      Dev.raise_raised _ 3 0 halive
    have hlive : (((d.set F.CHG_PHASE_PREV (d.f F.CHG_PHASE_PHASE)).set F.CHG_PHASE_PHASE p).raise 3 0).alive = true := by simpa using halive
    unfold Dev.enterPhase phaseEvents
    by_cases h6 : p = 6
    · simp only [h6, beq_self_eq_true, if_true] at hlive hfirst ⊢
      rw [Dev.raise_raised _ 3 5 hlive, hfirst, List.append_assoc]
      simp
    · simpa [h6] using hfirst
  · unfold Dev.enterPhase
    split <;> simp

theorem Phased.timed {c : Dev} (h : Phased p d e) (g : Timed e c) : Phased p d c where
  keep := h.keep.trans ⟨fun x hx => g.keep.1 x (by simp only [List.all_cons, List.all_nil, Bool.and_eq_true] at hx ⊢; exact hx.2.2), g.keep.2⟩
  phase := (g.f (by decide)).trans h.phase
  prev := (g.f (by decide)).trans h.prev
  raised := g.raised.trans h.raised
  probe := g.probe.trans h.probe

theorem phased_setPhase (halive : d.alive = true) (hp : p < 16) (h : d.f F.CHG_PHASE_PHASE ≠ p) : Phased p d (d.setPhase p) := by
  unfold Dev.setPhase
  dsimp only
  rw [if_neg (by simpa using h)]
  refine (phased_enterPhase halive hp).timed (.showTimer (.keepTimer ?_))
  split
  · exact Timed.refl.putChg _ rfl
  · exact .refl

namespace Phased

theorem pw (h : Phased p d e) : e.pw = d.pw := congrArg (·.pw) h.keep.2

theorem alive (h : Phased p d e) : e.alive = d.alive := alive_of_rest h.keep.2 (by decide)

theorem f (h : Phased p d e) {x : Field} (hphase : x.apart F.CHG_PHASE_PHASE = true) (hprev : x.apart F.CHG_PHASE_PREV = true)
    (htimer : x.apart F.CHG_PHASE_TIMER = true) : e.f x = d.f x := h.keep.1 x (by simp [hphase, hprev, htimer])

/-- A field of another register. -/
theorem f_ne (h : Phased p d e) {x : Field} (hx : x.addr ≠ R.CHG_PHASE) : e.f x = d.f x :=
  h.f (Field.apart_of_addr hx) (Field.apart_of_addr hx) (Field.apart_of_addr hx)

theorem entered (h : Phased p d e) : (3 * 32, d.pw.time) ∈ e.raised := by
  rw [h.raised]
  refine List.mem_append_right _ (List.mem_map.2 ⟨_, ?_, rfl⟩)
  unfold phaseEvents
  split <;> simp

theorem pathUsesC1 (h : Phased p d e) : e.pathUsesC1 = d.pathUsesC1 := by
  have hlead := h.f_ne (x := F.PATH_STAT_LEAD) (by decide)
  have hassist := h.f_ne (x := F.PATH_STAT_ASSIST) (by decide)
  simp only [Dev.pathUsesC1, Dev.on, hlead, hassist, path_of_rest h.keep.2 (by decide), sys_of_rest h.keep.2 (by decide)]

end Phased

/-! ### What follows a change of phase: C1's mode, and the minutes shown -/

/-- A field that neither work on a course nor the timer's minutes change. -/
theorem f_followed {x : Field} (hx : x.pastCourses = true) (htimer : x.apart F.CHG_PHASE_TIMER = true) : d.applyCharge.showTimer.f x = d.f x :=
  (Timed.refl.showTimer.f htimer).trans ((courseKept_applyCharge d).field x hx)

theorem raised_followed {q : Nat × Nat} (h : q ∈ d.raised) : q ∈ d.applyCharge.showTimer.raised := by
  rw [Timed.refl.showTimer.raised]
  exact (courseKept_applyCharge d).raised q h

/-- A field of CHG_PHASE but the minutes, at the end of a command that ends with C1's mode. -/
theorem f_finish_followed {x : Field} (hx : x.pastCourses = true) (htimer : x.apart F.CHG_PHASE_TIMER = true)
    (hend : endFields.all (fun y => x.apart y) = true) : (finish d.applyCharge.showTimer).f x = d.f x := (Dev.f_finish _ hend).trans (f_followed hx htimer)

theorem pendingEvent_followed {n t : Nat} (hn : n < 192) (h : (n, t) ∈ d.raised) : (finish d.applyCharge.showTimer).pendingEvent n = true :=
  pendingEvent_finish hn (raised_followed h)

theorem leads_phased {i : Instr} {x : Dev} (h : Phased p x e) (hexec : exec i s = done s e.applyCharge.showTimer) :
    leads i s fun d => d.f F.CHG_PHASE_PHASE = p ∧ d.f F.CHG_PHASE_PREV = x.f F.CHG_PHASE_PHASE ∧ d.pendingEvent (3 * 32) = true :=
  ⟨_, hexec, rfl, (f_finish_followed (by decide) (by decide) (by decide)).trans h.phase,
    (f_finish_followed (by decide) (by decide) (by decide)).trans h.prev, pendingEvent_followed (by decide) h.entered⟩

/-! ### The end of a charge, and its faults (R189, R194) -/

/-- From `d` to `e` the charge has ended in DONE with END `n`. -/
structure Ended (n : Nat) (d e : Dev) : Prop where
  phase  : e.f F.CHG_PHASE_PHASE = 6
  reason : e.f F.CHG_PHASE_END = n
  raised : (3 * 32 + 5, d.pw.time) ∈ e.raised

/-- Another register written, another part changed, or a further event raised. -/
theorem Ended.other {n : Nat} {c : Dev} (h : Ended n d e) (hf : ∀ x : Field, x.addr = R.CHG_PHASE → c.f x = e.f x) (hr : ∀ q ∈ e.raised, q ∈ c.raised) :
    Ended n d c := ⟨(hf _ rfl).trans h.phase, (hf _ rfl).trans h.reason, hr _ h.raised⟩

theorem Ended.set {n : Nat} (h : Ended n d e) {x : Field} (v : Nat) (hx : R.CHG_PHASE ≠ x.addr := by decide) : Ended n d (e.set x v) :=
  h.other (fun _ hy => Dev.f_set_ne _ _ (hy ▸ hx)) fun _ hq => hq

theorem Ended.putChg {n : Nat} (h : Ended n d e) (x : Charger) : Ended n d (e.putChg x) := h.other (fun _ _ => Dev.f_putChg ..) fun _ hq => hq

theorem Ended.raise {n : Nat} (h : Ended n d e) (b k : Nat) : Ended n d (e.raise b k) :=
  h.other (fun _ _ => Dev.f_raise ..) (CourseKept.refl.raise b k).raised

theorem Ended.ite {n : Nat} {c : Prop} [Decidable c] {x y : Dev} (hx : Ended n d x) (hy : Ended n d y) : Ended n d (if c then x else y) := by
  split
  · exact hx
  · exact hy

theorem ended_chargeDone (halive : d.alive = true) {n : Nat} (hn : n < 4) (h : d.f F.CHG_PHASE_PHASE ≠ 6) : Ended n d (d.chargeDone n) := by
  have hphased : Phased 6 (d.set F.CHG_PHASE_END n) ((d.set F.CHG_PHASE_END n).setPhase 6) :=
    phased_setPhase halive (by decide) (by rwa [Dev.f_set_apart _ _ (by decide)])
  have hdone : Ended n d ((d.set F.CHG_PHASE_END n).setPhase 6) := by
    refine ⟨hphased.phase, (hphased.f (by decide) (by decide) (by decide)).trans (Dev.f_set_lt _ _ _ (by decide) hn), ?_⟩
    rw [hphased.raised]
    exact List.mem_append_right _ (by simp [phaseEvents])
  have hcalibrated (v : Nat) (x : Charger) := (hdone.set (x := F.CHG_ENERGY_E_AVAIL) v).putChg x
  exact .ite (.ite (.raise (.set (hcalibrated ..) 0) 3 15) (hcalibrated ..)) hdone

theorem leads_ended {i : Instr} {n : Nat} {x : Dev} (h : Ended n x e) (hexec : exec i s = done s e.applyCharge.showTimer) :
    leads i s fun d => d.f F.CHG_PHASE_PHASE = 6 ∧ d.f F.CHG_PHASE_END = n ∧ d.pendingEvent (3 * 32 + 5) = true :=
  ⟨_, hexec, rfl, (f_finish_followed (by decide) (by decide) (by decide)).trans h.phase,
    (f_finish_followed (by decide) (by decide) (by decide)).trans h.reason, pendingEvent_followed (by decide) h.raised⟩

/-- The charger's fault with a cause other than an NTC that reads short. -/
theorem chargeFault_eq {n : Nat} (h : n ≠ 5) : d.chargeFault n = ((d.setPhase 10).set F.CHG_PHASE_CAUSE n).fault 3 1 [R.CHG_PHASE, R.CHG_MEAS] :=
  if_neg (by simpa using h)

/-- From `d` to `e` the charger has entered FAULT with cause `n`. -/
structure Faulted (n : Nat) (d e : Dev) : Prop where
  keep   : keeps [F.CHG_PHASE_PHASE, F.CHG_PHASE_PREV, F.CHG_PHASE_TIMER, F.CHG_PHASE_CAUSE] [.chg, .ret, .faults] d e
  phase  : e.f F.CHG_PHASE_PHASE = 10
  prev   : e.f F.CHG_PHASE_PREV = d.f F.CHG_PHASE_PHASE
  cause  : e.f F.CHG_PHASE_CAUSE = n
  raised : e.raised = d.raised ++ [(3 * 32, d.pw.time), (3 * 32 + 1, d.pw.time)]

theorem faulted_chargeFault (halive : d.alive = true) {n : Nat} (hn : n < 5) (h : d.f F.CHG_PHASE_PHASE ≠ 10) : Faulted n d (d.chargeFault n) := by
  have hphased : Phased 10 d (d.setPhase 10) := phased_setPhase halive (by decide) h
  have hfield (x : Field) : (d.chargeFault n).f x = ((d.setPhase 10).set F.CHG_PHASE_CAUSE n).f x := by
    rw [chargeFault_eq (by omega), Dev.fault, Dev.f_logFault, Dev.f_raise]
  have hkeeps : keeps [F.CHG_PHASE_PHASE, F.CHG_PHASE_PREV, F.CHG_PHASE_TIMER, F.CHG_PHASE_CAUSE] [.chg, .ret, .faults] d (d.setPhase 10) :=
    hphased.keep.widen (by simp)
  refine ⟨?_, ?_, ?_, ?_, ?_⟩
  · rw [chargeFault_eq (by omega)]
    exact (hkeeps.set n (by simp)).fault 3 1 _ rfl
  · exact (hfield _).trans ((Dev.f_set_apart _ _ (by decide)).trans hphased.phase)
  · exact (hfield _).trans ((Dev.f_set_apart _ _ (by decide)).trans hphased.prev)
  · exact (hfield _).trans (Dev.f_set_lt _ _ _ (by decide) (by change n < 16; omega))
  · have hlive : ((d.setPhase 10).set F.CHG_PHASE_CAUSE n).alive = true := hphased.alive.trans halive
    rw [chargeFault_eq (by omega), Dev.fault, Dev.logFault_raised, Dev.raise_raised _ 3 1 hlive, Dev.set_raised, Dev.set_pw, hphased.raised, hphased.pw]
    simp [phaseEvents]

/-! ### The commands of the charge phases -/

theorem chargeDwell_eq (hrun : d.running = true) (hchem : d.f F.CHG_CFG_CHEM ≠ 0) {x : Dev}
    (h : (if d.f F.CHG_PHASE_PHASE == 1 && decide (d.f F.CHG_VTH_V_DEEP ≤ d.vCell) then d.setPhase 2
      else if d.f F.CHG_PHASE_PHASE == 2 && decide (d.f F.CHG_VTH_V_PRE ≤ d.vCell) then
        (if d.reducedWin then (d.set F.CHG_PHASE_REG 0).setPhase 8 else d.setPhase 3)
      else if d.f F.CHG_PHASE_PHASE == 5 then d.chargeDone 0
      else if d.f F.CHG_PHASE_PHASE == 8 && d.on F.CHG_PHASE_REG && decide (100 * d.chg.iBat.natAbs < d.f F.CHG_ITERM_I_TERM * d.winPct) then d.chargeDone 2
      else if d.f F.CHG_PHASE_PHASE == 6 && decide (d.vCell < d.f F.CHG_VCV_V_RECHG) && d.chargeSource then d.derive else d) = x) :
    chargeDwell d = x.applyCharge.showTimer := by
  unfold chargeDwell
  dsimp only
  rw [if_neg (by simp [hrun, hchem]), h]

/-- A dwell of TRICKLE at V_DEEP. -/
theorem chargeDwell_trickle (hrun : d.running = true) (hchem : d.f F.CHG_CFG_CHEM ≠ 0) (hphase : d.f F.CHG_PHASE_PHASE = 1)
    (h : d.f F.CHG_VTH_V_DEEP ≤ d.f F.CHG_MEAS_V_CELL) : chargeDwell d = (d.setPhase 2).applyCharge.showTimer :=
  chargeDwell_eq hrun hchem (if_pos (Bool.and_eq_true_iff.2 ⟨by simp [hphase], decide_eq_true h⟩))

/-- A dwell of PRECHARGE at V_PRE. -/
theorem chargeDwell_precharge (hrun : d.running = true) (hchem : d.f F.CHG_CFG_CHEM ≠ 0) (hphase : d.f F.CHG_PHASE_PHASE = 2)
    (h : d.f F.CHG_VTH_V_PRE ≤ d.f F.CHG_MEAS_V_CELL) :
    chargeDwell d = (if d.reducedWin then (d.set F.CHG_PHASE_REG 0).setPhase 8 else d.setPhase 3).applyCharge.showTimer :=
  chargeDwell_eq hrun hchem ((if_neg (by simp [hphase])).trans (if_pos (Bool.and_eq_true_iff.2 ⟨by simp [hphase], decide_eq_true h⟩)))

/-- A dwell of TERMINATE. -/
theorem chargeDwell_terminate (hrun : d.running = true) (hchem : d.f F.CHG_CFG_CHEM ≠ 0) (hphase : d.f F.CHG_PHASE_PHASE = 5) :
    chargeDwell d = (d.chargeDone 0).applyCharge.showTimer :=
  chargeDwell_eq hrun hchem ((if_neg (by simp [hphase])).trans ((if_neg (by simp [hphase])).trans (if_pos (by simp [hphase]))))

/-- The phase whose timer has expired, as the next C1 update finds it. -/
def Dev.timeout (d : Dev) : Dev := d.putChg { d.chg with timedOut := some (d.f F.CHG_PHASE_PHASE) }

theorem chargeTimer_eq (hrun : d.running = true) {n : Nat} (h : d.timerOf (d.f F.CHG_PHASE_PHASE) = some n) :
    chargeTimer d = (if n < 3 then d.timeout.chargeFault (n + 1) else d.timeout.chargeDone 1).applyCharge.showTimer := by
  unfold chargeTimer
  rw [if_neg (by simp [hrun])]
  simp only [h]
  rfl

theorem chargeTimer_fault (hrun : d.running = true) (h : within 1 3 (d.f F.CHG_PHASE_PHASE) = true) :
    chargeTimer d = (d.timeout.chargeFault (d.f F.CHG_PHASE_PHASE)).applyCharge.showTimer := by
  simp only [within, Bool.and_eq_true, decide_eq_true_eq] at h
  obtain hp | hp | hp : d.f F.CHG_PHASE_PHASE = 1 ∨ d.f F.CHG_PHASE_PHASE = 2 ∨ d.f F.CHG_PHASE_PHASE = 3 := by omega
  all_goals rw [chargeTimer_eq hrun (n := d.f F.CHG_PHASE_PHASE - 1) (by simp [Dev.timerOf, hp]), hp]; rfl

theorem chargeTimer_done (hrun : d.running = true) (h : within 4 5 (d.f F.CHG_PHASE_PHASE) = true) :
    chargeTimer d = (d.timeout.chargeDone 1).applyCharge.showTimer := by
  simp only [within, Bool.and_eq_true, decide_eq_true_eq] at h
  have htimer : d.timerOf (d.f F.CHG_PHASE_PHASE) = some 3 := by
    obtain hp | hp : d.f F.CHG_PHASE_PHASE = 4 ∨ d.f F.CHG_PHASE_PHASE = 5 := by omega
    all_goals simp [Dev.timerOf, hp]
  rw [chargeTimer_eq hrun htimer, if_neg (by decide)]

theorem derived_lt (d : Dev) : d.derived < 9 := by
  unfold Dev.derived
  repeat' split
  all_goals decide

theorem derivedPhase_lt (d : Dev) : d.derivedPhase < 9 := by
  unfold Dev.derivedPhase
  split
  · decide
  · exact derived_lt d

theorem chgClearFault_cleared (hrun : d.running = true) (hphase : d.f F.CHG_PHASE_PHASE = 10) (h : d.causePresent = false) :
    chgClearFault d = d.derive.applyCharge.showTimer := by
  unfold chgClearFault
  rw [if_neg (by simp [hrun, hphase]), if_neg (by simp [h])]

theorem chgClearFault_refused (hrun : d.running = true) (hphase : d.f F.CHG_PHASE_PHASE = 10) (h : d.causePresent = true) :
    chgClearFault d = d.set F.CHG_CTL_CLEAR_REJ 1 := by
  unfold chgClearFault
  rw [if_neg (by simp [hrun, hphase]), if_pos h]

/-- The device that derives its phase: REG reads 0 before an entry into REDUCED_TEMP. -/
def Dev.deriving (d : Dev) : Dev := if d.derivedPhase == 8 then d.set F.CHG_PHASE_REG 0 else d

theorem f_deriving {x : Field} (hx : x.apart F.CHG_PHASE_REG = true) : d.deriving.f x = d.f x := by
  unfold Dev.deriving
  split
  · exact Dev.f_set_apart _ _ hx
  · rfl

theorem alive_deriving (d : Dev) : d.deriving.alive = d.alive := by
  unfold Dev.deriving
  split <;> rfl

theorem phased_derive (halive : d.alive = true) (h : d.f F.CHG_PHASE_PHASE = 10) : Phased d.derivedPhase d.deriving d.derive := by
  have hlt := derivedPhase_lt d
  refine phased_setPhase ((alive_deriving d).trans halive) (by omega) ?_
  rw [f_deriving (by decide), h]
  omega

/-! ### C1 goes on in its mode (R131, R187) -/

theorem courseOf_congr {q : Nat} (h : ∀ x : Field, x.addr ≠ R.CHG_PHASE → e.f x = d.f x) : e.courseOf q = d.courseOf q := by
  have hport (c : Nat) : e.f (F.C_MAP_PORT c) = d.f (F.C_MAP_PORT c) := h _ (by simp only [F.C_MAP_PORT, R.C_MAP, R.CHG_PHASE]; omega)
  have henable (c : Nat) : e.f (F.C_MAP_ENABLE c) = d.f (F.C_MAP_ENABLE c) := h _ (by simp only [F.C_MAP_ENABLE, R.C_MAP, R.CHG_PHASE]; omega)
  simp only [Dev.courseOf, Dev.portCode, Dev.on, hport, henable]

theorem slotHealthy_congr {u : Nat} (h : ∀ x : Field, x.addr ≠ R.CHG_PHASE → e.f x = d.f x) (htile : e.tile = d.tile) (hfmap : e.fmap = d.fmap) :
    e.slotHealthy u = d.slotHealthy u := by
  have hstat {x : Field} (t : Nat) (hx : x.addr = R.TILE_STAT t) : e.f x = d.f x := h x (by simp only [hx, R.TILE_STAT, R.CHG_PHASE]; omega)
  have hstate (t : Nat) : e.f (F.TILE_STAT_STATE t) = d.f (F.TILE_STAT_STATE t) := hstat t rfl
  have hstandIn (t : Nat) : e.f (F.TILE_STAT_STANDIN_V t) = d.f (F.TILE_STAT_STANDIN_V t) ∧ e.f (F.TILE_STAT_STANDIN t) = d.f (F.TILE_STAT_STANDIN t) :=
    ⟨hstat t rfl, hstat t rfl⟩
  have howns : e.ownsSlot u = d.ownsSlot u := by simp only [Dev.ownsSlot, Dev.tst, Dev.on, hstate, (hstandIn _).1, htile]
  have hfills : (fun t => e.on (F.TILE_STAT_STANDIN_V t) && e.f (F.TILE_STAT_STANDIN t) == u) =
      fun t => d.on (F.TILE_STAT_STANDIN_V t) && d.f (F.TILE_STAT_STANDIN t) == u := by
    simp only [Dev.on, (hstandIn _).1, (hstandIn _).2]
  have hslot : e.slotTile u = d.slotTile u := by
    unfold Dev.slotTile
    rw [hfills, howns]
  simp only [Dev.slotHealthy, hslot, Dev.tst, hstate, htile, hfmap]

theorem canTake_congr {c : Nat} (h : ∀ x : Field, x.addr ≠ R.CHG_PHASE → e.f x = d.f x) (hpw : e.pw = d.pw) (htile : e.tile = d.tile)
    (hfmap : e.fmap = d.fmap) : e.canTake c = d.canTake c := by
  have hrun : e.running = d.running := by unfold Dev.running Dev.alive; rw [hpw]
  have henable : e.on (F.C_MAP_ENABLE c) = d.on (F.C_MAP_ENABLE c) := congrArg (· != 0) (h _ (by simp only [F.C_MAP_ENABLE, R.C_MAP, R.CHG_PHASE]; omega))
  have hlatch : e.on (F.C_PCTL_CB_LATCH c) = d.on (F.C_PCTL_CB_LATCH c) :=
    congrArg (· != 0) (h _ (by simp only [F.C_PCTL_CB_LATCH, R.C_PCTL, R.CHG_PHASE]; omega))
  have hfault : e.on (F.C_PCTL_MM_FAULT c) = d.on (F.C_PCTL_MM_FAULT c) :=
    congrArg (· != 0) (h _ (by simp only [F.C_PCTL_MM_FAULT, R.C_PCTL, R.CHG_PHASE]; omega))
  have hzone (z : Nat) : e.f (F.ZONE_CFG_COURSES z) = d.f (F.ZONE_CFG_COURSES z) ∧ e.f (F.ZONE_STAT_SHUT z) = d.f (F.ZONE_STAT_SHUT z) :=
    ⟨h _ (by simp only [F.ZONE_CFG_COURSES, R.ZONE_CFG, R.CHG_PHASE]; omega), h _ (by simp only [F.ZONE_STAT_SHUT, R.ZONE_STAT, R.CHG_PHASE]; omega)⟩
  have hshut : e.zoneShut c = d.zoneShut c := by simp only [Dev.zoneShut, Dev.fbit, Dev.on, (hzone _).1, (hzone _).2]
  have hdie : e.on F.THERM_HW_PD_SHUT = d.on F.THERM_HW_PD_SHUT := congrArg (· != 0) (h _ (by decide))
  have hmask : e.f (F.C_TILES_WORK_MASK c) = d.f (F.C_TILES_WORK_MASK c) := h _ (by simp only [F.C_TILES_WORK_MASK, R.C_TILES, R.CHG_PHASE]; omega)
  have hhealthy : e.healthy c = d.healthy c := by
    have hslots : e.slotHealthy = d.slotHealthy := funext fun _ => slotHealthy_congr h htile hfmap
    simp only [Dev.healthy, Dev.slotsOf, Dev.fbit, hmask, hslots]
  unfold Dev.canTake
  rw [hrun, henable, hlatch, hfault, hshut, hdie, hhealthy]

/-- A course that already regulates in mode `m` takes a new final reference and direction. -/
theorem giveMode_again {c m final dr : Nat} (hfet : d.fetOn (d.portCode c) = true) (hcan : d.canTake c = true) (hm : m ≠ 0)
    (h : d.f (F.C_MODE_MODE c) = m) : d.giveMode c m final dr = ((d.setDir c dr).set (F.C_MODE_MODE c) m).set (F.C_REF_FINAL c) final := by
  unfold Dev.giveMode Dev.giveModeOpen
  rw [if_neg (by simp [hfet]), if_neg (by simpa using hm), if_neg (by simp [hcan])]
  simp only [h, beq_self_eq_true, if_true]

theorem portCode_courseOf {q c : Nat} (h : d.courseOf q = some c) : d.portCode c = q := by
  have hfound := List.find?_some h
  simp only [Bool.and_eq_true, beq_iff_eq] at hfound
  exact hfound.1

/-- The charger gives C1, in I_PORT already, the current of PRECHARGE. -/
theorem applyCharge_precharge {c : Nat} (hphase : d.f F.CHG_PHASE_PHASE = 2) (hcourse : d.courseOf 2 = some c) (hused : d.pathUsesC1 = false)
    (hprobe : d.chg.probe = none) (hfet : d.fetOn 2 = true) (hcan : d.canTake c = true) (hmode : d.f (F.C_MODE_MODE c) = 3) :
    d.applyCharge = ((d.setDir c 1).set (F.C_MODE_MODE c) 3).set (F.C_REF_FINAL c) (d.f F.CHG_IPRE_I_PRE) := by
  have hgiven : d.chargeMode = some (3, d.f F.CHG_IPRE_I_PRE, 1) := by
    simp [Dev.chargeMode, Dev.cvPhase, chargingPhase, within, hphase]
  unfold Dev.applyCharge
  simp only [hcourse, hgiven]
  rw [if_neg (by simp [hused, hprobe]), if_neg (by simp [hmode])]
  exact giveMode_again (by rwa [portCode_courseOf hcourse]) hcan (by decide) hmode

theorem keeps.setDir {fs : List Field} {ps : List Part} {c : Nat} (dr : Nat) (hdir : F.C_RSTAT_DIR c ∈ fs) (hp : ps.contains .course = true)
    (h : keeps fs ps d e) : keeps fs ps d (e.setDir c dr) := by
  unfold Dev.setDir
  exact (h.set dr hdir).putCourse _ hp

end Sys2Proof.Machine
end

section
/-! What the commands of the charge phases change, where C1 carries the charge on and where C1 is not the charger's to drive (R187 to R194). -/
namespace Sys2Proof.Machine

variable {d e : Dev} {s : State} {p : Nat}

/-- The fields of C1 that a new final reference changes. -/
theorem course_apart_phase : ∀ c : Fin 6, ∀ x ∈ [F.CHG_PHASE_PHASE, F.CHG_PHASE_PREV],
    [F.C_RSTAT_DIR c, F.C_MODE_MODE c, F.C_REF_FINAL c, F.CHG_PHASE_TIMER].all (fun y => x.apart y) = true := by decide

theorem refFinal_apart_end : ∀ c : Fin 6, endFields.all (fun y => (F.C_REF_FINAL c).apart y) = true := by decide

/-- A dwell of TRICKLE that C1 carries. -/
theorem effect_chargeDwell_carried {c : Fin 6} (hrun : s.dev.running = true) (hchem : s.dev.f F.CHG_CFG_CHEM ≠ 0) (hphase : s.dev.f F.CHG_PHASE_PHASE = 1)
    (hdeep : s.dev.f F.CHG_VTH_V_DEEP ≤ s.dev.f F.CHG_MEAS_V_CELL) (hcourse : s.dev.courseOf 2 = some c.val) (hcan : s.dev.canTake c = true)
    (hfet : s.dev.fetOn 2 = true) (hused : s.dev.pathUsesC1 = false) (hprobe : s.dev.chg.probe = none) (hmode : s.dev.f (F.C_MODE_MODE c) = 3) :
    effect .chargeDwellExpiry s [F.CHG_PHASE_PHASE, F.CHG_PHASE_PREV, F.CHG_PHASE_TIMER, F.C_REF_FINAL c, F.C_RSTAT_DIR c, F.C_MODE_MODE c]
      [.chg, .ret, .course] [3 * 32] fun d =>
        d.f F.CHG_PHASE_PHASE = 2 ∧ d.f F.CHG_PHASE_PREV = 1 ∧ d.f (F.C_REF_FINAL c) = s.dev.f F.CHG_IPRE_I_PRE := by
  have hphased : Phased 2 s.dev (s.dev.setPhase 2) := phased_setPhase (alive_of_running hrun) (by decide) (by rw [hphase]; decide)
  have hsame (x : Field) (hx : x.addr ≠ R.CHG_PHASE) : (s.dev.setPhase 2).f x = s.dev.f x := hphased.f_ne hx
  have htile : (s.dev.setPhase 2).tile = s.dev.tile := congrArg (·.tile) hphased.keep.2
  have hfmap : (s.dev.setPhase 2).fmap = s.dev.fmap := congrArg (·.fmap) hphased.keep.2
  have hfetOn : (s.dev.setPhase 2).fetOn 2 = true := by
    unfold Dev.fetOn Dev.on
    rw [hsame _ (by decide)]
    exact hfet
  have hgiven := applyCharge_precharge (d := s.dev.setPhase 2) hphased.phase ((courseOf_congr hsame).trans hcourse) (hphased.pathUsesC1.trans hused)
    (hphased.probe.trans hprobe) hfetOn ((canTake_congr hsame hphased.pw htile hfmap).trans hcan)
    ((hsame _ (by simp only [F.C_MODE_MODE, R.C_MODE, R.CHG_PHASE]; omega)).trans hmode)
  rw [hsame _ (by decide)] at hgiven
  have hexec := (exec_chargeDwellExpiry s).trans (congrArg (done s) (chargeDwell_trickle hrun hchem hphase hdeep))
  have hkeeps : keeps [F.CHG_PHASE_PHASE, F.CHG_PHASE_PREV, F.CHG_PHASE_TIMER, F.C_REF_FINAL c, F.C_RSTAT_DIR c, F.C_MODE_MODE c] [.chg, .ret, .course]
      s.dev (s.dev.setPhase 2) := hphased.keep.widen (by simp)
  refine ⟨_, hexec, ?_, ?_, ?_⟩
  · refine .trans ?_ (Timed.refl.showTimer.keep.widen (by simp))
    rw [hgiven]
    exact ((hkeeps.setDir 1 (by simp) rfl).set 3 (by simp)).set _ (by simp)
  · rw [Timed.refl.showTimer.raised, hgiven]
    exact hphased.raised
  · have hlead : ∀ x : Field, x.apart F.CHG_PHASE_TIMER = true → (s.dev.setPhase 2).applyCharge.showTimer.f x =
        ((((s.dev.setPhase 2).setDir c 1).set (F.C_MODE_MODE c) 3).set (F.C_REF_FINAL c) (s.dev.f F.CHG_IPRE_I_PRE)).f x :=
      fun x hx => (Timed.refl.showTimer.f hx).trans (by rw [hgiven])
    refine ⟨(f_finish_followed (by decide) (by decide) (by decide)).trans hphased.phase,
      (f_finish_followed (by decide) (by decide) (by decide)).trans (hphased.prev.trans hphase), ?_⟩
    rw [Dev.f_finish _ (refFinal_apart_end c), hlead _ (Field.apart_of_addr (by simp only [F.C_REF_FINAL, F.CHG_PHASE_TIMER, R.C_REF, R.CHG_PHASE]; omega))]
    exact Dev.f_set_f _ _ _ _ (Nat.le_of_ble_eq_true rfl) rfl

/-- FAULT runs no timer. -/
theorem showTimer_fault (h : d.f F.CHG_PHASE_PHASE = 10) : d.showTimer = d.set F.CHG_PHASE_TIMER 0 := by
  have hnone : d.timerOf (d.f F.CHG_PHASE_PHASE) = none := by simp [Dev.timerOf, h]
  unfold Dev.showTimer
  rw [hnone]

theorem pathUsesC1_faulted {n : Nat} (h : Faulted n d e) : e.pathUsesC1 = d.pathUsesC1 := by
  have hlead : e.f F.PATH_STAT_LEAD = d.f F.PATH_STAT_LEAD := h.keep.1 _ (by decide)
  have hassist : e.f F.PATH_STAT_ASSIST = d.f F.PATH_STAT_ASSIST := h.keep.1 _ (by decide)
  simp only [Dev.pathUsesC1, Dev.on, hlead, hassist, path_of_rest h.keep.2 (by decide), sys_of_rest h.keep.2 (by decide)]

theorem leads_faulted {i : Instr} {n : Nat} (h : Faulted n d e) (hexec : exec i s = done s e.applyCharge.showTimer) :
    leads i s fun d => d.f F.CHG_PHASE_PHASE = 10 ∧ d.f F.CHG_PHASE_CAUSE = n ∧ d.pendingEvent (3 * 32 + 1) = true := by
  refine ⟨_, hexec, rfl, (f_finish_followed (by decide) (by decide) (by decide)).trans h.phase,
    (f_finish_followed (by decide) (by decide) (by decide)).trans h.cause, pendingEvent_followed (t := d.pw.time) (by decide) ?_⟩
  rw [h.raised]
  exact List.mem_append_right _ (by simp)

/-- The timer of PRECHARGE expires while C1 is not the charger's to drive. -/
theorem effect_chargeTimer_precharge (hrun : s.dev.running = true) (hphase : s.dev.f F.CHG_PHASE_PHASE = 2) (hused : s.dev.pathUsesC1 = true) :
    effect .chargeSafetyTimerExpiry s [F.CHG_PHASE_PHASE, F.CHG_PHASE_PREV, F.CHG_PHASE_TIMER, F.CHG_PHASE_CAUSE] [.chg, .ret, .faults]
      [3 * 32, 3 * 32 + 1] fun d =>
        d.f F.CHG_PHASE_PHASE = 10 ∧ d.f F.CHG_PHASE_CAUSE = 2 ∧ d.f F.CHG_PHASE_PREV = 2 ∧ d.f F.CHG_PHASE_TIMER = 0 := by
  have hfault : Faulted 2 s.dev.timeout (s.dev.timeout.chargeFault 2) :=
    faulted_chargeFault (d := s.dev.timeout) (n := 2) (alive_of_running hrun) (by decide) (by change s.dev.f _ ≠ _; rw [hphase]; decide)
  have hmeaning : chargeTimer s.dev = (s.dev.timeout.chargeFault 2).set F.CHG_PHASE_TIMER 0 := by
    rw [chargeTimer_fault hrun (by rw [hphase]; rfl), hphase, applyCharge_used ((pathUsesC1_faulted hfault).trans hused), showTimer_fault hfault.phase]
  have htimeout : keeps [F.CHG_PHASE_PHASE, F.CHG_PHASE_PREV, F.CHG_PHASE_TIMER, F.CHG_PHASE_CAUSE] [.chg, .ret, .faults] s.dev s.dev.timeout :=
    keeps.refl.putChg _ rfl
  refine ⟨_, (exec_chargeSafetyTimerExpiry s).trans (congrArg (done s) hmeaning), (htimeout.trans hfault.keep).set 0 (by simp), hfault.raised, ?_, ?_, ?_, ?_⟩
  · exact (Dev.f_finish _ (by decide)).trans ((Dev.f_set_apart _ _ (by decide)).trans hfault.phase)
  · exact (Dev.f_finish _ (by decide)).trans ((Dev.f_set_apart _ _ (by decide)).trans hfault.cause)
  · exact (Dev.f_finish _ (by decide)).trans ((Dev.f_set_apart _ _ (by decide)).trans (hfault.prev.trans hphase))
  · exact (Dev.f_finish _ (by decide)).trans (Dev.f_set_lt _ _ _ (by decide) (by decide))

/-- CLEAR_FAULT derives PRECHARGE while C1 is not the charger's to drive. -/
theorem effect_chgClearFault_precharge (hrun : s.dev.running = true) (hphase : s.dev.f F.CHG_PHASE_PHASE = 10) (hcause : s.dev.causePresent = false)
    (hused : s.dev.pathUsesC1 = true) (hderived : s.dev.derivedPhase = 2) :
    effect .chgClearFault s [F.CHG_PHASE_PHASE, F.CHG_PHASE_PREV, F.CHG_PHASE_TIMER] [.chg, .ret] [3 * 32] fun d =>
      d.f F.CHG_PHASE_PHASE = 2 ∧ d.f F.CHG_PHASE_PREV = 10 := by
  have hphased : Phased 2 s.dev s.dev.derive := by
    unfold Dev.derive
    rw [hderived]
    exact phased_setPhase (alive_of_running hrun) (by decide) (by rw [hphase]; decide)
  have hmeaning : chgClearFault s.dev = s.dev.derive.showTimer := by
    rw [chgClearFault_cleared hrun hphase hcause, applyCharge_used (hphased.pathUsesC1.trans hused)]
  have hshown : Phased 2 s.dev s.dev.derive.showTimer := hphased.timed Timed.refl.showTimer
  exact ⟨_, (exec_chgClearFault s).trans (congrArg (done s) hmeaning), hshown.keep, hshown.raised, (Dev.f_finish _ (by decide)).trans hshown.phase,
    (Dev.f_finish _ (by decide)).trans (hshown.prev.trans hphase)⟩

end Sys2Proof.Machine

open Sys2Proof Sys2Proof.Machine

/-- Settles O14: each expiry is a change of phase (`Phased`), the end of a charge (`Ended`) or a fault (`Faulted`), and the mode that C1 then takes is work on
a course alone (`CourseKept`), which leaves CHG_PHASE and the events raised as they are. -/
theorem chargePhases : Obligations.ChargePhases := by
  unfold Obligations.ChargePhases
  intro c s hrun hchem
  have halive := alive_of_running hrun
  refine ⟨fun hphase hdeep => ?_, fun hphase hpre => ?_, fun hphase => ?_, fun hphase => ?_, fun hphase => ?_, fun hphase hcause => ?_,
    fun hphase hdeep hcourse hcan hfet hused hprobe hmode _ => ?_, fun hphase hused => effect_chargeTimer_precharge hrun hphase hused,
    fun hphase hcause hused hderived => effect_chgClearFault_precharge hrun hphase hcause hused hderived, fun hphase hcause => ?_⟩
  · have hphased : Phased 2 s.dev (s.dev.setPhase 2) := phased_setPhase halive (by decide) (by rw [hphase]; decide)
    exact (leads_phased hphased ((exec_chargeDwellExpiry s).trans (congrArg (done s) (chargeDwell_trickle hrun hchem hphase hdeep)))).mono
      fun d ⟨hnew, hprev, hevent⟩ => ⟨hnew, hprev.trans hphase, hevent⟩
  · have hexec := (exec_chargeDwellExpiry s).trans (congrArg (done s) (chargeDwell_precharge hrun hchem hphase hpre))
    by_cases hwindow : s.dev.reducedWin = true
    · rw [if_pos hwindow] at hexec ⊢
      have hphased : Phased 8 (s.dev.set F.CHG_PHASE_REG 0) ((s.dev.set F.CHG_PHASE_REG 0).setPhase 8) :=
        phased_setPhase halive (by decide) (by rw [Dev.f_set_apart _ _ (by decide), hphase]; decide)
      exact (leads_phased hphased hexec).mono fun d ⟨hnew, _, hevent⟩ => ⟨hnew, hevent⟩
    · rw [if_neg hwindow] at hexec ⊢
      have hphased : Phased 3 s.dev (s.dev.setPhase 3) := phased_setPhase halive (by decide) (by rw [hphase]; decide)
      exact (leads_phased hphased hexec).mono fun d ⟨hnew, _, hevent⟩ => ⟨hnew, hevent⟩
  · exact leads_ended (ended_chargeDone halive (by decide) (by rw [hphase]; decide))
      ((exec_chargeDwellExpiry s).trans (congrArg (done s) (chargeDwell_terminate hrun hchem hphase)))
  · have hrange : 1 ≤ s.dev.f F.CHG_PHASE_PHASE ∧ s.dev.f F.CHG_PHASE_PHASE ≤ 3 := by simpa [within] using hphase
    have hfault : Faulted (s.dev.f F.CHG_PHASE_PHASE) s.dev.timeout (s.dev.timeout.chargeFault (s.dev.f F.CHG_PHASE_PHASE)) :=
      faulted_chargeFault (d := s.dev.timeout) (n := s.dev.f F.CHG_PHASE_PHASE) halive (by omega) (by change s.dev.f _ ≠ _; omega)
    exact leads_faulted hfault ((exec_chargeSafetyTimerExpiry s).trans (congrArg (done s) (chargeTimer_fault hrun hphase)))
  · have hrange : 4 ≤ s.dev.f F.CHG_PHASE_PHASE ∧ s.dev.f F.CHG_PHASE_PHASE ≤ 5 := by simpa [within] using hphase
    exact leads_ended (ended_chargeDone (d := s.dev.timeout) halive (by decide) (by change s.dev.f _ ≠ _; omega))
      ((exec_chargeSafetyTimerExpiry s).trans (congrArg (done s) (chargeTimer_done hrun hphase)))
  · exact (leads_phased (phased_derive halive hphase) ((exec_chgClearFault s).trans (congrArg (done s) (chgClearFault_cleared hrun hphase hcause)))).mono
      fun d ⟨hnew, hprev, _⟩ => ⟨hnew, hprev.trans ((f_deriving (by decide)).trans hphase)⟩
  · exact effect_chargeDwell_carried hrun hchem hphase hdeep hcourse hcan hfet hused hprobe hmode
  · exact effect_set ((exec_chgClearFault s).trans (congrArg (done s) (chgClearFault_refused hrun hphase hcause))) (by decide) (by decide) (by decide)
end

section
/-! What the registers hold after a reset of the logic die, and after one of both dies (R406, R427, R465). -/
namespace Sys2Proof.Machine

variable {d e : Dev} {s : State}

/-! ### Writes of a list of fields -/

theorem f_foldl_set_apart (g : Field → Nat) {y : Field} (l : List Field) (h : ∀ x ∈ l, y.apart x = true) (e : Dev) :
    (l.foldl (fun e x => e.set x (g x)) e).f y = e.f y := by
  induction l generalizing e with
  | nil => rfl
  | cons x l ih => exact (ih (fun z hz => h z (List.mem_cons_of_mem _ hz)) _).trans (Dev.f_set_apart _ _ (h x List.mem_cons_self))

/-- No two fields of the list share a bit. -/
def disjointFields : List Field → Bool
  | [] => true
  | x :: l => l.all (fun y => x.apart y) && disjointFields l

/-- A field of a disjoint list holds what was written to it. -/
theorem f_foldl_set_mem (g : Field → Nat) {y : Field} {l : List Field} (hl : disjointFields l = true) (hy : y ∈ l) (hend : y.lo + y.width ≤ 32)
    (hg : g y < 2 ^ y.width) (e : Dev) : (l.foldl (fun e x => e.set x (g x)) e).f y = g y := by
  induction l generalizing e with
  | nil => exact absurd hy List.not_mem_nil
  | cons x l ih =>
    simp only [disjointFields, Bool.and_eq_true, List.all_eq_true] at hl
    obtain ⟨hhead, htail⟩ := hl
    rw [List.foldl_cons]
    rcases List.mem_cons.1 hy with rfl | hmem
    · exact (f_foldl_set_apart g l hhead _).trans (Dev.f_set_lt _ _ _ hend hg)
    · exact ih htail hmem _

theorem Field.write_read (x : Field) (w : Word) : x.write (x.read w) w = w := by
  apply BitVec.eq_of_getLsbD_eq
  intro i hi
  rw [Field.write_getLsbD _ _ _ _ hi]
  split
  next h => simp only [Field.read_testBit, Nat.add_sub_cancel' h.1, Bool.and_eq_right_iff_imp]; intro _; simpa using by omega
  next => rfl

/-- A write of the value that a field has changes nothing. -/
theorem f_set_self (d : Dev) (x y : Field) : (d.set x (d.f x)).f y = d.f y := by
  unfold Dev.set Dev.f
  rw [Field.write_read]
  by_cases h : y.addr = x.addr
  · rw [h, Dev.rd_wr_same]
  · rw [Dev.rd_wr_ne _ _ h]

/-! ### The registers after a reset of the logic die (R465) -/

theorem keptFields_disjoint : disjointFields keptFields = true := by decide

theorem keptFields_end : ∀ y ∈ keptFields, y.lo + y.width ≤ 32 := by decide

theorem keptFields_apart : ∀ y ∈ keptFields, y.apart F.CHG_ENERGY_E_AVAIL = true ∧ y.apart F.NAND_STAT_STATE = true := by decide

/-- The registers of a reset as those of a device. -/
def Dev.keptDev (d : Dev) : Dev :=
  ((keptFields.foldl (fun e x => e.set x (d.f x)) ({ regs := [] } : Dev)).set F.CHG_ENERGY_E_AVAIL d.ret.eAvail).onlyIf (d.f F.LC_STAT_STATE == 3) fun e =>
    e.set F.NAND_STAT_STATE 5

theorem f_cleared (d : Dev) (x : Field) : d.cleared.f x = d.keptDev.f x := Dev.f_congr rfl x

theorem f_keptDev {x : Field} (h : x.apart F.NAND_STAT_STATE = true) :
    d.keptDev.f x = ((keptFields.foldl (fun e x => e.set x (d.f x)) ({ regs := [] } : Dev)).set F.CHG_ENERGY_E_AVAIL d.ret.eAvail).f x := by
  unfold Dev.keptDev Dev.onlyIf
  split
  · exact Dev.f_set_apart _ _ h
  · rfl

theorem f_cleared_kept {y : Field} (h : y ∈ keptFields) : d.cleared.f y = d.f y := by
  obtain ⟨havail, hstore⟩ := keptFields_apart y h
  rw [f_cleared, f_keptDev hstore, Dev.f_set_apart _ _ havail]
  exact f_foldl_set_mem _ keptFields_disjoint h (keptFields_end y h) (Dev.f_lt ..) _

theorem f_cleared_reset {y : Field} (h : (F.CHG_ENERGY_E_AVAIL :: F.NAND_STAT_STATE :: keptFields).all (fun x => y.apart x) = true) :
    d.cleared.f y = y.read (resetWord y.addr) := by
  simp only [List.all_cons, Bool.and_eq_true, List.all_eq_true] at h
  obtain ⟨havail, hstore, hkept⟩ := h
  rw [f_cleared, f_keptDev hstore, Dev.f_set_apart _ _ havail, f_foldl_set_apart _ _ hkept]
  rfl

theorem f_cleared_eAvail : d.cleared.f F.CHG_ENERGY_E_AVAIL = d.ret.eAvail % 65536 := by
  rw [f_cleared, f_keptDev (by decide)]
  exact Dev.f_set_same _ _ _ (by decide)

theorem f_cleared_store : d.cleared.f F.NAND_STAT_STATE = if d.f F.LC_STAT_STATE = 3 then 5 else 0 := by
  have hbefore : ((keptFields.foldl (fun e x => e.set x (d.f x)) ({ regs := [] } : Dev)).set F.CHG_ENERGY_E_AVAIL d.ret.eAvail).f F.NAND_STAT_STATE = 0 := by
    rw [Dev.f_set_apart _ _ (by decide), f_foldl_set_apart _ _ (by decide)]
    decide
  rw [f_cleared]
  unfold Dev.keptDev Dev.onlyIf
  by_cases hreturn : d.f F.LC_STAT_STATE = 3
  · rw [if_pos (by simpa using hreturn), if_pos hreturn]
    exact Dev.f_set_lt _ _ _ (by decide) (by decide)
  · rw [if_neg (by simpa using hreturn), if_neg hreturn]
    exact hbefore

/-! ### The end of a command that leaves the logic die in reset -/

/-- A device in reset with nothing left to deliver or to log. -/
structure Dormant (d : Dev) : Prop where
  dead   : d.alive = false
  raised : d.raised = []
  faults : d.faults = []
  cap    : d.cap.wantOpen = none ∧ d.cap.wantClose = none

theorem deliverAll_quiet (h : d.quiet) (n : Nat) : Dev.deliverAll n d = d := by
  obtain ⟨hraised, hopen, hclose⟩ := h
  cases n with
  | zero => rfl
  | succ n => rw [Dev.deliverAll, if_pos (by simp [hraised, hopen, hclose])]

theorem writeLogs_none (h : d.faults = []) : d.writeLogs = d := by
  unfold Dev.writeLogs
  rw [h]
  change d.putFaults [] = d
  rw [← h]
  rfl

theorem beforeReset_quiet (h : d.quiet) (hfaults : d.faults = []) : d.beforeReset = d := by
  rw [Dev.beforeReset, deliverAll_quiet h, writeLogs_none hfaults]

/-- The device at the start of the end of a command: no wake of the core. -/
def Dev.unwoken (d : Dev) : Dev := d.putPw { d.pw with coreWake := false }

/-- Such a command ends with the FIFO count and the interrupt outputs released, and no more. -/
theorem finish_dormant (h : Dormant d) : finish d = (d.unwoken.set F.EVF_STAT_COUNT d.ev.fifo.length).settleInts := by
  have hquiet : d.unwoken.quiet := ⟨h.raised, h.cap.1, h.cap.2⟩
  have hdelivered : (Dev.deliverAll 8 d.unwoken).writeLogs = d.unwoken := by rw [deliverAll_quiet hquiet, writeLogs_none (d := d.unwoken) h.faults]
  have hdead : (d.unwoken.set F.EVF_STAT_COUNT d.ev.fifo.length).alive = false := h.dead
  change Dev.settle (Dev.deliverAll 8 d.unwoken).writeLogs = _
  rw [hdelivered]
  exact if_pos (by rw [Bool.not_eq_true']; exact hdead)

/-- It changes no field where COUNT shows the FIFO already. -/
theorem f_finish_dormant (h : Dormant d) (hcount : d.ev.fifo.length = d.f F.EVF_STAT_COUNT) (x : Field) : (finish d).f x = d.f x := by
  rw [finish_dormant h, hcount]
  exact f_set_self d.unwoken F.EVF_STAT_COUNT x

theorem log_finish_dormant (h : Dormant d) : (finish d).log = d.log := by rw [finish_dormant h]; rfl

theorem balls_finish_dormant (h : Dormant d) : (finish d).balls = { d.balls with nInt0 := false, nInt1 := false } := by
  have hlive : (d.unwoken.set F.EVF_STAT_COUNT d.ev.fifo.length).alive = false := h.dead
  rw [finish_dormant h]
  unfold Dev.settleInts
  simp only [hlive, Bool.false_and]
  rfl

theorem EndSame.sys (h : EndSame d e) : e.sys = d.sys := congrArg (·.sys) h.rest
theorem EndSame.ring (h : EndSame d e) : e.ring = d.ring := congrArg (·.ring) h.rest
theorem EndSame.serv (h : EndSame d e) : e.serv = d.serv := congrArg (·.serv) h.rest
theorem EndSame.nv (h : EndSame d e) : e.nv = d.nv := congrArg (·.nv) h.rest

/-- The power state without the outputs to the core. -/
def PowerState.muted (x : PowerState) : PowerState := { x with coreInt := false, coreWake := false }

theorem EndSame.power (h : EndSame d e) : e.pw.muted = d.pw.muted := congrArg (·.pw) h.rest

theorem power_finish (d : Dev) : (finish d).pw.muted = d.pw.muted := (EndSame.finish d).power

/-! ### A reset of the logic die -/

/-- The logic die held in reset by `cause`, with nothing left to deliver before. -/
def Dev.heldBy (d : Dev) (cause : Nat) : Dev :=
  let e := d.latchForward.cleared
  e.putPw { e.pw with inReset := true, resetCause := cause, resetAt := some e.pw.clock, engines := false, coreRuns := false, hostReady := false
                      coreInt := false, coreWake := false }

theorem logicReset_quiet (cause : Nat) (halive : d.alive = true) (hquiet : d.quiet) (hfaults : d.faults = []) : d.logicReset cause = d.heldBy cause := by
  have hup : d.pw.mode = .on ∧ d.pw.inReset = false := by simpa [Dev.alive] using halive
  unfold Dev.logicReset
  rw [if_neg (by simp [hup.1]), if_neg (by simp [hup.2]), beforeReset_quiet hquiet hfaults]
  rfl

theorem dormant_heldBy (d : Dev) (cause : Nat) : Dormant (d.heldBy cause) := ⟨Bool.and_false _, rfl, rfl, rfl, rfl⟩

theorem f_heldBy (d : Dev) (cause : Nat) (x : Field) : (d.heldBy cause).f x = d.latchForward.cleared.f x := Dev.f_congr rfl x

theorem f_finish_heldBy (d : Dev) (cause : Nat) (x : Field) : (finish (d.heldBy cause)).f x = d.latchForward.cleared.f x := by
  refine (f_finish_dormant (dormant_heldBy d cause) ?_ x).trans (f_heldBy d cause x)
  rw [f_heldBy, f_cleared_reset (by decide)]
  change 0 = F.EVF_STAT_COUNT.read (resetWord F.EVF_STAT_COUNT.addr)
  decide

/-- A reset of the logic die holds it with what R465 keeps. -/
theorem resetHeld_heldBy (d : Dev) (cause : Nat) : d.resetHeld (finish (d.heldBy cause)) cause := by
  have hpower := power_finish (d.heldBy cause)
  refine ⟨(alive_finish _).trans (dormant_heldBy d cause).dead, congrArg (·.resetCause) hpower, congrArg (·.coreRuns) hpower, congrArg (·.time) hpower,
    fun y hy => ?_, fun y hy => ?_, ?_, ?_, (EndSame.finish _).nv, slots_finish _, log_finish_dormant (dormant_heldBy d cause), fmap_finish _⟩
  · rw [f_finish_heldBy, f_cleared_reset hy]
  · rw [f_finish_heldBy, f_cleared_kept hy]; rfl
  · rw [f_finish_heldBy, f_cleared_store]; rfl
  · rw [f_finish_heldBy, f_cleared_eAvail]; rfl

theorem exec_nrst (s : State) : exec .nrst s = done s (s.dev.logicReset 2) := rfl
theorem exec_vlogicBrownoutReset (x : SupplyDrop) (s : State) : exec (.vlogicBrownoutReset x) s = done s (brownoutReset s.dev x) := rfl
theorem exec_vlogicBrownoutWarn (s : State) : exec .vlogicBrownoutWarn s = done s (brownoutWarn s.dev) := rfl

theorem leads_nrst (halive : s.dev.alive = true) (hquiet : s.dev.quiet) (hfaults : s.dev.faults = []) : leads .nrst s fun d => s.dev.resetHeld d 2 :=
  ⟨_, (exec_nrst s).trans (congrArg (done s) (logicReset_quiet 2 halive hquiet hfaults)), rfl, resetHeld_heldBy s.dev 2⟩

/-! ### The brown-out (R404, R405, R473) -/

/-- The device as the reset of a brown-out finds it: VKA seen, a save cut short, an entry of the fault log cut short. -/
def Dev.brownedOut (d : Dev) (x : SupplyDrop) : Dev :=
  let e := (d.putPw { d.pw with vkaLow := x.vkaLow }).onlyIf x.save Dev.cutSave
  match x.entry with
  | some n => if e.alive && e.on F.FLOG_STAT_FIRST then e.cutEntry n.val else e
  | none => e

theorem brownoutReset_eq (d : Dev) (x : SupplyDrop) : brownoutReset d x = (d.brownedOut x).logicReset 1 := rfl

/-- From `d` to `e` the supply fell: the reset finds the logic die as it was but for the power state's notes and the retained account. -/
structure Browned (d e : Dev) : Prop where
  alive  : e.alive = d.alive
  raised : e.raised = d.raised
  faults : e.faults = d.faults
  cap    : e.cap = d.cap
  slots  : e.slots = d.slots
  nv     : e.nv = d.nv

theorem browned_cutSave {c : Dev} (h : Browned d c) : Browned d c.cutSave := by
  unfold Dev.cutSave
  split
  · exact { h with alive := h.alive }
  · exact h

theorem browned_brownedOut (d : Dev) (x : SupplyDrop) : Browned d (d.brownedOut x) := by
  have hseen : Browned d (d.putPw { d.pw with vkaLow := x.vkaLow }) := ⟨rfl, rfl, rfl, rfl, rfl, rfl⟩
  have hsave : Browned d ((d.putPw { d.pw with vkaLow := x.vkaLow }).onlyIf x.save Dev.cutSave) := by
    unfold Dev.onlyIf
    split
    · exact browned_cutSave hseen
    · exact hseen
  unfold Dev.brownedOut
  dsimp only
  split
  · split
    · exact { hsave with alive := hsave.alive }
    · exact hsave
  · exact hsave

theorem log_brownedOut {x : SupplyDrop} (h : x.entry = none) : (d.brownedOut x).log = d.log := by
  unfold Dev.brownedOut Dev.onlyIf Dev.cutSave
  rw [h]
  dsimp only
  split
  · split <;> rfl
  · rfl

/-- A save that a running device began is cut short. -/
theorem pfsMissed_cutSave (halive : d.alive = true) (hdone : d.pw.pfsDone = true) : d.cutSave.pw.pfsMissed = true := by
  unfold Dev.cutSave
  rw [if_pos (by simp [halive, hdone])]
  rfl

theorem pfsMissed_brownedOut {x : SupplyDrop} (hsave : x.save = true) (halive : d.alive = true) (hdone : d.pw.pfsDone = true) :
    (d.brownedOut x).pw.pfsMissed = true := by
  have hcut : ((d.putPw { d.pw with vkaLow := x.vkaLow }).onlyIf x.save Dev.cutSave).pw.pfsMissed = true := by
    rw [hsave]
    exact pfsMissed_cutSave (d := d.putPw { d.pw with vkaLow := x.vkaLow }) halive hdone
  unfold Dev.brownedOut
  dsimp only
  split
  · split
    · exact hcut
    · exact hcut
  · exact hcut

theorem brownoutReset_quiet (x : SupplyDrop) (halive : d.alive = true) (hquiet : d.quiet) (hfaults : d.faults = []) :
    brownoutReset d x = (d.brownedOut x).heldBy 1 := by
  have hdrop := browned_brownedOut d x
  rw [brownoutReset_eq]
  refine logicReset_quiet 1 (hdrop.alive.trans halive) ⟨hdrop.raised.trans hquiet.1, ?_, ?_⟩ (hdrop.faults.trans hfaults)
  · rw [hdrop.cap]; exact hquiet.2.1
  · rw [hdrop.cap]; exact hquiet.2.2

theorem brownedOut_seen {x : SupplyDrop} (hsave : x.save = false) (hentry : x.entry = none) :
    d.brownedOut x = d.putPw { d.pw with vkaLow := x.vkaLow } := by
  unfold Dev.brownedOut
  rw [hentry, hsave]
  rfl

theorem leads_brownoutReset_uncut (x : SupplyDrop) (halive : s.dev.alive = true) (hquiet : s.dev.quiet) (hfaults : s.dev.faults = [])
    (hsave : x.save = false) (hentry : x.entry = none) :
    leads (.vlogicBrownoutReset x) s fun d => s.dev.resetHeld d 1 ∧ d.pw.vkaLow = x.vkaLow := by
  have hmeaning := brownoutReset_quiet x halive hquiet hfaults
  rw [brownedOut_seen hsave hentry] at hmeaning
  exact ⟨_, (exec_vlogicBrownoutReset x s).trans (congrArg (done s) hmeaning), rfl, resetHeld_heldBy (s.dev.putPw { s.dev.pw with vkaLow := x.vkaLow }) 1,
    congrArg (·.vkaLow) (power_finish _)⟩

theorem leads_brownoutReset (x : SupplyDrop) (halive : s.dev.alive = true) (hquiet : s.dev.quiet) (hfaults : s.dev.faults = []) :
    leads (.vlogicBrownoutReset x) s fun d =>
      d.alive = false ∧ d.pw.resetCause = 1 ∧ d.slots = s.dev.slots ∧ d.nv = s.dev.nv ∧ (x.entry = none → d.log = s.dev.log) ∧
      (x.save = true → s.dev.pw.pfsDone = true → d.pw.pfsMissed = true) := by
  have hdrop := browned_brownedOut s.dev x
  have hdormant := dormant_heldBy (s.dev.brownedOut x) 1
  refine ⟨_, (exec_vlogicBrownoutReset x s).trans (congrArg (done s) (brownoutReset_quiet x halive hquiet hfaults)), rfl,
    (alive_finish _).trans hdormant.dead, resetCause_finish _, (slots_finish _).trans hdrop.slots, (EndSame.finish _).nv.trans hdrop.nv, fun hentry => ?_,
    fun hsave hdone => ?_⟩
  · exact (log_finish_dormant hdormant).trans (log_brownedOut hentry)
  · exact (congrArg (·.pfsMissed) (power_finish ((s.dev.brownedOut x).heldBy 1))).trans (pfsMissed_brownedOut hsave halive hdone)

/-- The device after a brown-out warning (R404). -/
theorem brownoutWarn_eq (halive : d.alive = true) : brownoutWarn d = (d.raise 0 15).powerFailSave := if_pos halive

theorem powerFailSave_eq (halive : d.alive = true) : d.powerFailSave =
    (d.putPw { d.pw with pfsDone := true, pfsOld := d.ret.eAvail }).putRet
      { d.ret with eAvail := if d.f F.CHG_CFG_CHEM == 0 then d.ret.eAvail else d.f F.CHG_ENERGY_E_AVAIL } := if_pos halive

theorem effect_brownoutWarn (halive : s.dev.alive = true) : effect .vlogicBrownoutWarn s [] [.pw, .ret] [15] fun d =>
    (s.dev.f F.CHG_CFG_CHEM ≠ 0 → d.ret.eAvail = s.dev.f F.CHG_ENERGY_E_AVAIL) ∧ d.pw.pfsDone = true := by
  have hlive : (s.dev.raise 0 15).alive = true := (Dev.alive_raise ..).trans halive
  have hmeaning := (brownoutWarn_eq halive).trans (powerFailSave_eq hlive)
  refine ⟨_, (exec_vlogicBrownoutWarn s).trans (congrArg (done s) hmeaning), ((keeps.refl.raise 0 15).putPw _ rfl).putRet _ rfl,
    Dev.raise_raised _ 0 15 halive, fun hchem => ?_, congrArg (·.pfsDone) (power_finish _)⟩
  rw [ret_finish]
  change (if (s.dev.raise 0 15).f F.CHG_CFG_CHEM == 0 then _ else (s.dev.raise 0 15).f F.CHG_ENERGY_E_AVAIL) = _
  rw [Dev.f_raise, Dev.f_raise, if_neg (by simpa using hchem)]

end Sys2Proof.Machine
end

section
/-! Power-on, wakes, and the ways into keep-alive, ship mode and the power cycle (R200, R204, R205, R207, R406, R427). -/
namespace Sys2Proof.Machine

variable {d e : Dev} {s : State}

/-! ### A reset of both dies -/

/-- The fields that a reset of the power die clears beside those that a reset of the logic die does (R427). -/
def powerDieFields : List Field :=
  [F.HOLD_STAT_ABSENT_MS, F.HOLD_STAT_CB_BLOCK, F.HOLD_STAT_BAT_LOW, F.HOLD_STAT_LAST_CODE, F.THERM_HW_PD_SHUT, F.THERM_HW_PD_SEEN, F.THERM_HW_PD_SHUTS,
   F.RSTCAUSE_RESTARTS, F.RSTCAUSE_PREV, F.RSTCAUSE_CAUSE] ++
  (List.range 6).map F.C_PCTL_CB_LATCH ++
  (List.range 5).flatMap fun p => [F.GUARD_STAT_LATCHED p, F.GUARD_STAT_RETRIES p, F.GUARD_STAT_FET_ON p, F.PORT_STAT_ABOVE p, F.PORT_STAT_ABOVE_MIN p]

theorem powerDieFields_disjoint : disjointFields powerDieFields = true := by decide

theorem powerDieFields_end : ∀ y ∈ powerDieFields, y.lo + y.width ≤ 32 := by decide

/-- The power die's own registers cleared. -/
def Dev.powerDieCleared (d : Dev) : Dev := powerDieFields.foldl (fun e x => e.set x 0) d

theorem powerDieCleared_eq (e : Dev) : e.powerDieCleared =
    (([F.HOLD_STAT_ABSENT_MS, F.HOLD_STAT_CB_BLOCK, F.HOLD_STAT_BAT_LOW, F.HOLD_STAT_LAST_CODE, F.THERM_HW_PD_SHUT, F.THERM_HW_PD_SEEN, F.THERM_HW_PD_SHUTS,
      F.RSTCAUSE_RESTARTS, F.RSTCAUSE_PREV, F.RSTCAUSE_CAUSE].foldl (fun e x => e.set x 0) e).each 6 fun e c => e.set (F.C_PCTL_CB_LATCH c) 0).each 5
      fun e p => [F.GUARD_STAT_LATCHED p, F.GUARD_STAT_RETRIES p, F.GUARD_STAT_FET_ON p, F.PORT_STAT_ABOVE p, F.PORT_STAT_ABOVE_MIN p].foldl
        (fun e x => e.set x 0) e := by
  rw [Dev.powerDieCleared, powerDieFields, List.foldl_append, List.foldl_append, List.foldl_map, List.foldl_flatMap, Dev.each, Dev.each]

/-- The hidden parts of the power die started again. -/
def Dev.powerDieStarted (e : Dev) (cause : Nat) : Dev :=
  let e := e.putPw { e.pw with mode := .on, inReset := true, resetCause := cause, resetAt := none, absent := true, ldTripped := false, engines := false
                               conf := [], coreRuns := false, hostReady := false, coreInt := false, coreWake := false }
  let e := e.putServ { e.serv with rp := false }
  ((((e.putBalls { node := e.balls.node }).putTile (Vector.replicate 16 {})).putSys { vSys := e.sys.vSys }).putPort (Vector.replicate 5 {})).putRing {}

theorem powerDieReset_eq (d : Dev) (cause : Nat) : d.powerDieReset cause = d.beforeReset.cleared.powerDieCleared.powerDieStarted cause := by
  rw [powerDieCleared_eq]
  rfl

theorem f_powerDieStarted (e : Dev) (cause : Nat) (x : Field) : (e.powerDieStarted cause).f x = e.f x := rfl

theorem f_powerDieReset (d : Dev) (cause : Nat) (x : Field) : (d.powerDieReset cause).f x = d.beforeReset.cleared.powerDieCleared.f x := by
  rw [powerDieReset_eq, f_powerDieStarted]

theorem f_powerDieReset_cleared {y : Field} (h : y ∈ powerDieFields) (cause : Nat) : (d.powerDieReset cause).f y = 0 := by
  rw [f_powerDieReset]
  exact f_foldl_set_mem (fun _ => 0) powerDieFields_disjoint h (powerDieFields_end y h) (Nat.two_pow_pos _) _

theorem f_powerDieReset_apart {y : Field} (h : ∀ x ∈ powerDieFields, y.apart x = true) (cause : Nat) :
    (d.powerDieReset cause).f y = d.beforeReset.cleared.f y := by
  rw [f_powerDieReset]
  exact f_foldl_set_apart (fun _ => 0) _ h _

theorem endSame_beforeReset (d : Dev) : EndSame d d.beforeReset := .trans (.deliverAll 8 d) (.writeLogs _)

/-- A field that the reset of the logic die keeps and that of the power die does not clear. -/
theorem f_powerDieReset_kept {y : Field} (hkept : y ∈ keptFields) (h : ∀ x ∈ powerDieFields, y.apart x = true)
    (hend : endFields.all (fun x => y.apart x) = true) (cause : Nat) : (d.powerDieReset cause).f y = d.f y := by
  rw [f_powerDieReset_apart h, f_cleared_kept hkept, (endSame_beforeReset d).field y hend]

theorem f_powerDieReset_reset {y : Field} (h : ∀ x ∈ powerDieFields, y.apart x = true)
    (hreset : (F.CHG_ENERGY_E_AVAIL :: F.NAND_STAT_STATE :: keptFields).all (fun x => y.apart x) = true) (cause : Nat) :
    (d.powerDieReset cause).f y = y.read (resetWord y.addr) := by
  rw [f_powerDieReset_apart h, f_cleared_reset hreset]

theorem foldl_set_pw (g : Field → Nat) (l : List Field) (e : Dev) : (l.foldl (fun e x => e.set x (g x)) e).pw = e.pw := by
  induction l generalizing e with
  | nil => rfl
  | cons x l ih => exact ih _

theorem powerDieReset_pw (d : Dev) (cause : Nat) :
    (d.powerDieReset cause).pw = { d.beforeReset.pw with
      mode := .on, inReset := true, resetCause := cause, resetAt := none, absent := true, ldTripped := false, engines := false, conf := []
      coreRuns := false, hostReady := false, coreInt := false, coreWake := false } := rfl

theorem powerDieReset_balls (d : Dev) (cause : Nat) : (d.powerDieReset cause).balls = { node := d.beforeReset.balls.node } := rfl

theorem powerDieReset_parts (d : Dev) (cause : Nat) : (d.powerDieReset cause).raised = [] ∧ (d.powerDieReset cause).faults = [] ∧
    (d.powerDieReset cause).cap = {} ∧ (d.powerDieReset cause).ev = {} ∧ (d.powerDieReset cause).sys.holdMap = [] ∧
    (d.powerDieReset cause).nv = d.beforeReset.nv ∧ (d.powerDieReset cause).slots = d.beforeReset.slots :=
  ⟨rfl, rfl, rfl, rfl, rfl, rfl, rfl⟩

/-- The parts that a change of registers alone leaves. -/
structure SameParts (d e : Dev) : Prop where
  pw     : e.pw = d.pw
  balls  : e.balls = d.balls
  sys    : e.sys = d.sys
  cap    : e.cap = d.cap
  ev     : e.ev = d.ev
  faults : e.faults = d.faults
  nv     : e.nv = d.nv
  slots  : e.slots = d.slots

theorem sameParts_of_rest (h : e.rest [] = d.rest []) : SameParts d e :=
  ⟨congrArg (·.pw) h, congrArg (·.balls) h, congrArg (·.sys) h, congrArg (·.cap) h, congrArg (·.ev) h, congrArg (·.faults) h, congrArg (·.nv) h,
    congrArg (·.slots) h⟩

/-- The fields of the wake's record. -/
def wakeFields : List Field := [F.PWR_STAT_WAKE, F.CHG_RESV_E_HOLD_RX]

/-- A device after a reset of both dies, whatever the wake's record then takes. -/
theorem dormant_powerDieReset {cause : Nat} (h : keeps wakeFields [] (d.powerDieReset cause) e) (hraised : e.raised = []) : Dormant e := by
  obtain ⟨-, hfaults, hcap, -⟩ := powerDieReset_parts d cause
  have hsame := sameParts_of_rest h.2
  refine ⟨?_, hraised, hsame.faults.trans hfaults, ?_, ?_⟩
  · rw [Dev.alive, hsame.pw, powerDieReset_pw]; rfl
  · rw [hsame.cap, hcap]
  · rw [hsame.cap, hcap]

theorem f_finish_powerDieReset {cause : Nat} (h : keeps wakeFields [] (d.powerDieReset cause) e) (hraised : e.raised = []) (x : Field) :
    (finish e).f x = e.f x := by
  obtain ⟨-, -, -, hev, -⟩ := powerDieReset_parts d cause
  have hsame := sameParts_of_rest h.2
  refine f_finish_dormant (dormant_powerDieReset h hraised) ?_ x
  rw [hsame.ev, hev, h.1 _ (by decide), f_powerDieReset_reset (by decide) (by decide)]
  decide

/-- Both dies have powered up by `cause` (R147, R406, R427). -/
theorem poweredUp_finish {cause : Nat} (h : keeps wakeFields [] (d.powerDieReset cause) e) (hraised : e.raised = []) : d.poweredUp (finish e) cause := by
  obtain ⟨-, -, -, -, hmap, hnv, hslots⟩ := powerDieReset_parts d cause
  have hdormant := dormant_powerDieReset h hraised
  have hbefore := endSame_beforeReset d
  have hsame := sameParts_of_rest h.2
  have hpw : (finish e).pw.muted = e.pw.muted := power_finish e
  have hnode : d.beforeReset.balls.node = d.balls.node := congrArg (·.balls.node) hbefore.rest
  have hcleared {x : Field} (hx : x ∈ powerDieFields) (hwake : wakeFields.all (fun y => x.apart y) = true) : (finish e).f x = 0 := by
    rw [f_finish_powerDieReset h hraised, h.1 x hwake, f_powerDieReset_cleared hx]
  rw [hsame.pw, powerDieReset_pw] at hpw
  refine ⟨congrArg (·.mode) hpw, congrArg (·.inReset) hpw, congrArg (·.absent) hpw, congrArg (·.resetCause) hpw, ?_, ?_, fun c => ?_, fun p => ?_,
    hcleared (by decide) (by decide), ?_, hcleared (by decide) (by decide), hcleared (by decide) (by decide), ?_, ?_⟩
  · rw [balls_finish_dormant hdormant, hsame.balls, powerDieReset_balls, hnode]
  · rw [f_finish_powerDieReset h hraised, h.1 _ (by decide), f_powerDieReset_reset (by decide) (by decide)]
    decide
  · exact hcleared (by revert c; decide) (by revert c; decide)
  · exact hcleared (by revert p; decide) (by revert p; decide)
  · rw [(EndSame.finish e).sys, hsame.sys, hmap]
  · rw [(EndSame.finish e).nv, hsame.nv, hnv, hbefore.nv]
  · rw [slots_finish, hsame.slots, hslots, hbefore.slots]

/-! ### Wakes (R205) -/

theorem exec_wake (by_ : WakeBy) (s : State) : exec (.wake by_) s = done s (wake s.dev by_) := rfl
theorem exec_powerCycleRelease (s : State) : exec .powerCycleRelease s = done s (powerCycleRelease s.dev) := rfl
theorem exec_powerOn (s : State) : exec .powerOn s = done s (s.dev.keepAliveReset.powerDieReset 0) := rfl

/-- The wake's record written (R205). -/
def Dev.recordWake (d : Dev) (k : Nat) (hold : Bool) : Dev := (d.set F.PWR_STAT_WAKE k).setB F.CHG_RESV_E_HOLD_RX hold

theorem keeps_recordWake (d : Dev) (k : Nat) (hold : Bool) : keeps wakeFields [] d (d.recordWake k hold) :=
  (keeps.refl.set k (by decide)).setB hold (by decide)

theorem recordWake_raised (d : Dev) (k : Nat) (hold : Bool) : (d.recordWake k hold).raised = d.raised := rfl

/-- The device after a reset of both dies with the wake's record. -/
def Dev.woken (d : Dev) (cause k : Nat) (hold : Bool) : Dev := (d.powerDieReset cause).recordWake k hold

theorem keeps_woken (d : Dev) (cause k : Nat) (hold : Bool) : keeps wakeFields [] (d.powerDieReset cause) (d.woken cause k hold) := keeps_recordWake ..

theorem woken_raised (d : Dev) (cause k : Nat) (hold : Bool) : (d.woken cause k hold).raised = [] :=
  (recordWake_raised ..).trans (powerDieReset_parts d cause).1

theorem poweredUp_woken (d : Dev) (cause k : Nat) (hold : Bool) : d.poweredUp (finish (d.woken cause k hold)) cause :=
  poweredUp_finish (keeps_woken ..) (woken_raised ..)

theorem f_finish_woken (d : Dev) (cause k : Nat) (hold : Bool) (x : Field) : (finish (d.woken cause k hold)).f x = (d.woken cause k hold).f x :=
  f_finish_powerDieReset (keeps_woken ..) (woken_raised ..) x

theorem f_wake_woken (d : Dev) (cause : Nat) {k : Nat} (hold : Bool) (hk : k < 16) : (finish (d.woken cause k hold)).f F.PWR_STAT_WAKE = k := by
  rw [f_finish_woken]
  exact (Dev.f_set_apart _ _ (by decide)).trans (Dev.f_set_lt _ _ _ (by decide) hk)

theorem f_holdRx_woken (d : Dev) (cause k : Nat) (hold : Bool) : (finish (d.woken cause k hold)).f F.CHG_RESV_E_HOLD_RX = hold.toNat := by
  rw [f_finish_woken]
  exact f_setB_same _ _ _ (by decide) (by decide)

theorem f_btn_woken (d : Dev) (cause k : Nat) (hold : Bool) : (finish (d.woken cause k hold)).f F.PWR_STAT_BTN = d.f F.PWR_STAT_BTN := by
  rw [f_finish_woken, (keeps_woken d cause k hold).1 _ (by decide), f_powerDieReset_kept (by decide) (by decide) (by decide)]

theorem time_beforeReset (d : Dev) : d.beforeReset.pw.time = d.pw.time := congrArg (·.time) (endSame_beforeReset d).power

theorem time_woken (d : Dev) (cause k : Nat) (hold : Bool) : (finish (d.woken cause k hold)).pw.time = d.pw.time := by
  have hpw : (d.woken cause k hold).pw = (d.powerDieReset cause).pw := (sameParts_of_rest (keeps_woken d cause k hold).2).pw
  have htime : (finish (d.woken cause k hold)).pw.time = (d.woken cause k hold).pw.time := congrArg (·.time) (power_finish (d.woken cause k hold))
  rw [htime, hpw, powerDieReset_pw]
  exact time_beforeReset d

theorem wake_eq {by_ : WakeBy} {k : Nat} (hmode : d.pw.mode = .ship ∨ d.pw.mode = .keepAlive) (hvka : d.pw.vkaLow = false ∨ by_ = .source)
    (hcode : wakeCode (d.pw.mode == .ship) by_ = some k) :
    wake d by_ = ((if d.pw.mode == .ship then d.keepAliveReset else d).onlyIf (by_ == .button) fun d => d.set F.PWR_STAT_BTN 1).woken 9 k (wakeHold by_) := by
  have hasleep : ((d.pw.mode != .ship && d.pw.mode != .keepAlive) || (d.pw.vkaLow && by_ != .source)) = false := by
    rcases hmode with hmode | hmode <;> rcases hvka with hvka | hvka <;> simp [hmode, hvka]
  unfold wake
  rw [if_neg (by simp [hasleep])]
  simp only [hcode]
  rfl

/-- What a reset of both dies leaves does not tell the device apart from one with the same balls and memories. -/
theorem poweredUp_congr {c : Dev} {cause : Nat} (h : c.poweredUp e cause) (hnode : c.balls = d.balls) (hnv : c.nv = d.nv) (hslots : c.slots = d.slots) :
    d.poweredUp e cause := by
  unfold Dev.poweredUp at h ⊢
  rwa [hnode, hnv, hslots] at h

theorem wake_none {by_ : WakeBy} (h : d.pw.vkaLow = true ∧ by_ ≠ .source ∨ d.pw.mode = .ship ∧ wakeCode true by_ = none) : wake d by_ = d := by
  unfold wake
  split
  · rfl
  · rename_i hawake
    rcases h with ⟨hvka, hby⟩ | ⟨hmode, hcode⟩
    · exact absurd (by simp [hvka, hby]) hawake
    · simp [hmode, hcode]

/-! ### The keep-alive domain (R204, R444) -/

/-- The fields of the keep-alive domain. -/
def keepAliveFields : List Field := [F.PWR_STAT_WAKE, F.PWR_STAT_PRESS_10MS, F.PWR_STAT_BTN, F.CHG_RESV_E_HOLD_RX]

theorem f_keepAliveReset {x : Field} (h : x ∈ keepAliveFields) : d.keepAliveReset.f x = 0 := by
  refine (Dev.f_congr rfl x).trans (f_foldl_set_mem (fun _ => 0) (by decide) h ?_ (Nat.two_pow_pos _) d)
  revert x
  decide

/-- The device that button presses wake from ship mode. -/
def Dev.pressedAwake (d : Dev) : Dev := d.keepAliveReset.set F.PWR_STAT_BTN 1

theorem leads_wake_ship (hmode : s.dev.pw.mode = .ship) (hvka : s.dev.pw.vkaLow = false) :
    leads (.wake .button) s fun d => s.dev.poweredUp d 9 ∧ d.f F.PWR_STAT_WAKE = 1 ∧ d.f F.PWR_STAT_BTN = 1 ∧ d.pw.time = 0 := by
  have hmeaning : wake s.dev .button = s.dev.pressedAwake.woken 9 1 false := by
    rw [wake_eq (k := 1) (.inl hmode) (.inl hvka) (by rw [hmode]; rfl), hmode]
    rfl
  refine ⟨_, (exec_wake .button s).trans (congrArg (done s) hmeaning), rfl, poweredUp_congr (poweredUp_woken s.dev.pressedAwake 9 1 false) rfl rfl rfl,
    f_wake_woken _ _ _ (by decide), ?_, time_woken ..⟩
  rw [f_btn_woken]
  exact Dev.f_set_lt _ _ _ (by decide) (by decide)

/-- A wake from keep-alive other than by the button. -/
theorem wake_keepAlive {by_ : WakeBy} {k : Nat} (hmode : s.dev.pw.mode = .keepAlive) (hvka : s.dev.pw.vkaLow = false ∨ by_ = .source)
    (hby : by_ ≠ .button) (hcode : wakeCode false by_ = some k) : exec (.wake by_) s = done s (s.dev.woken 9 k (wakeHold by_)) := by
  rw [exec_wake, wake_eq (k := k) (.inr hmode) hvka (by rw [hmode]; exact hcode), hmode, Dev.onlyIf, if_neg (by simpa using hby)]
  rfl

theorem leads_powerOn (s : State) :
    leads .powerOn s fun d => s.dev.poweredUp d 0 ∧ d.f F.PWR_STAT_WAKE = 0 ∧ d.f F.RSTCAUSE_CAUSE = 0 ∧ d.pw.time = 0 := by
  have hkeeps : keeps wakeFields [] (s.dev.keepAliveReset.powerDieReset 0) (s.dev.keepAliveReset.powerDieReset 0) := keeps.refl
  obtain ⟨hraised, -⟩ := powerDieReset_parts s.dev.keepAliveReset 0
  have htime : (finish (s.dev.keepAliveReset.powerDieReset 0)).pw.time = (s.dev.keepAliveReset.powerDieReset 0).pw.time :=
    congrArg (·.time) (power_finish (s.dev.keepAliveReset.powerDieReset 0))
  refine ⟨_, exec_powerOn s, rfl, poweredUp_congr (poweredUp_finish hkeeps hraised) rfl rfl rfl, ?_, ?_, ?_⟩
  · exact (f_finish_powerDieReset hkeeps hraised _).trans
      ((f_powerDieReset_kept (by decide) (by decide) (by decide) 0).trans (f_keepAliveReset (by decide)))
  · exact (f_finish_powerDieReset hkeeps hraised _).trans (f_powerDieReset_cleared (by decide) 0)
  · refine htime.trans ?_
    rw [powerDieReset_pw]
    exact time_beforeReset _

theorem leads_powerCycleRelease (hmode : s.dev.pw.mode = .cycleHeld) :
    leads .powerCycleRelease s fun d => s.dev.poweredUp d 8 ∧ d.f F.PWR_STAT_WAKE = 3 := by
  have hmeaning : powerCycleRelease s.dev = s.dev.woken 8 3 false := if_pos (by simp [hmode])
  exact ⟨_, (exec_powerCycleRelease s).trans (congrArg (done s) hmeaning), rfl, poweredUp_woken .., f_wake_woken _ _ _ (by decide)⟩

/-! ### The ways into keep-alive, ship mode and the power cycle (R200, R204, R207) -/

theorem exec_keepaliveEntry (s : State) : exec .keepaliveEntry s = done s (keepAlive s.dev) := rfl
theorem exec_shipEntry (s : State) : exec .shipEntry s = done s (shipEntry s.dev) := rfl
theorem exec_btnPowerCycle (s : State) : exec .btnPowerCycle s = done s (powerCycle s.dev) := rfl

/-- Every course stops after the account has been retained. -/
def Dev.coursesStopped (d : Dev) : Dev := (energyRetain d).powerFailSave.each 6 fun d c => d.hardStop c true

/-- Then every port FET opens, every gate goes off, and the lamps are released. -/
def Dev.portsOpened (d : Dev) : Dev :=
  let d := d.each 5 fun d p => d.set (F.GUARD_STAT_FET_ON p) 0
  let d := d.each 16 fun d t => d.modTile t fun x => { x with gates := .off, clamp := false }
  (d.set F.STAT_CTL_PAT0 0).set F.STAT_CTL_PAT1 0

/-- The parts that no register shows, powered down. -/
def Dev.partsDown (d : Dev) (m : PowerMode) (nand : Nand) : Dev :=
  let d := (d.putServ { d.serv with rp := false }).onlyIf (m != .cycleHeld) fun d => d.putBalls { d.balls with wdoLow := false }
  let d := (d.putLamp (Vector.replicate 2 {})).putNand nand
  let d := (d.putSys { d.sys with holdRuns := false, holdDid := false, holdMap := [], handback := false }).putRing { d.ring with passThrough := true }
  d.putPw { d.pw with mode := m, inReset := true, absent := true, engines := false, coreRuns := false, hostReady := false, kaTicks := 0, kaStart := d.pw.time }

theorem powerDown_eq (d : Dev) (m : PowerMode) :
    d.powerDown m = d.coursesStopped.portsOpened.partsDown m (energyRetain d).powerFailSave.keptNand := by
  unfold Dev.powerDown Dev.coursesStopped Dev.portsOpened Dev.partsDown
  rfl

theorem coursesStopped_kept (d : Dev) : CourseKept (energyRetain d).powerFailSave d.coursesStopped :=
  CourseKept.refl.foldl _ fun _ _ hc h => h.hardStop (List.mem_range.1 hc) true

theorem energyRetain_eq (halive : d.alive = true) : energyRetain d = d.putRet { d.ret with eAvail := d.f F.CHG_ENERGY_E_AVAIL } := if_pos halive

theorem alive_energyRetain (halive : d.alive = true) : (energyRetain d).alive = true := by
  rw [energyRetain_eq halive]
  exact halive

theorem retained_eAvail (halive : d.alive = true) : (energyRetain d).powerFailSave.ret.eAvail = d.f F.CHG_ENERGY_E_AVAIL := by
  rw [powerFailSave_eq (alive_energyRetain halive), energyRetain_eq halive]
  change (if _ then _ else _) = _
  split <;> rfl

theorem retained_time (halive : d.alive = true) : (energyRetain d).powerFailSave.pw.time = d.pw.time := by
  rw [powerFailSave_eq (alive_energyRetain halive), energyRetain_eq halive]
  rfl

theorem f_retained (halive : d.alive = true) (x : Field) : (energyRetain d).powerFailSave.f x = d.f x := by
  rw [powerFailSave_eq (alive_energyRetain halive), energyRetain_eq halive]
  rfl

/-- WDO released, but for a power cycle (R207). -/
def Dev.wdoReleased (d : Dev) (m : PowerMode) : Dev := d.onlyIf (m != .cycleHeld) fun d => d.putBalls { d.balls with wdoLow := false }

theorem wdoReleased_same (d : Dev) (m : PowerMode) : (d.wdoReleased m).regs = d.regs ∧ (d.wdoReleased m).tile = d.tile ∧ (d.wdoReleased m).ret = d.ret ∧
    (d.wdoReleased m).pw = d.pw := by
  unfold Dev.wdoReleased Dev.onlyIf
  split <;> exact ⟨rfl, rfl, rfl, rfl⟩

theorem partsDown_wdo (d : Dev) (m : PowerMode) (nand : Nand) : d.partsDown m nand =
    let e := (d.putServ { d.serv with rp := false }).wdoReleased m
    let e := (e.putLamp (Vector.replicate 2 {})).putNand nand
    let e := (e.putSys { e.sys with holdRuns := false, holdDid := false, holdMap := [], handback := false }).putRing { e.ring with passThrough := true }
    e.putPw { e.pw with mode := m, inReset := true, absent := true, engines := false, coreRuns := false, hostReady := false, kaTicks := 0
                        kaStart := e.pw.time } := rfl

/-- What the parts powered down keep of the registers, the tiles, the account and the time. -/
theorem partsDown_same (d : Dev) (m : PowerMode) (n : Nand) : (∀ x : Field, (d.partsDown m n).f x = d.f x) ∧ (d.partsDown m n).tile = d.tile ∧
    (d.partsDown m n).ret = d.ret ∧ (d.partsDown m n).pw.time = d.pw.time := by
  obtain ⟨hregs, htile, hret, hpw⟩ := wdoReleased_same (d.putServ { d.serv with rp := false }) m
  rw [partsDown_wdo]
  refine ⟨Dev.f_congr ?_, ?_, ?_, ?_⟩
  · simp [hregs]
  · simp [htile]
  · simp [hret]
  · simp [hpw]

theorem partsDown_down (d : Dev) (m : PowerMode) (n : Nand) : (d.partsDown m n).pw.mode = m ∧ (d.partsDown m n).alive = false ∧
    (d.partsDown m n).pw.absent = true ∧ (d.partsDown m n).pw.coreRuns = false ∧ (d.partsDown m n).sys.holdRuns = false ∧
    (d.partsDown m n).ring.passThrough = true ∧ (d.partsDown m n).serv.rp = false := by
  cases m <;> exact ⟨rfl, rfl, rfl, rfl, rfl, rfl, rfl⟩

/-- Every gate goes off, a crowbar's too. -/
def Tile.powerless (x : Tile) : Tile := { x with gates := .off, clamp := false }

/-- The port FETs opened. -/
def Dev.fetsOpened (d : Dev) : Dev := d.each 5 fun d p => d.set (F.GUARD_STAT_FET_ON p) 0

theorem portsOpened_eq (d : Dev) :
    d.portsOpened = ((d.fetsOpened.each 16 fun d t => d.modTile t Tile.powerless).set F.STAT_CTL_PAT0 0).set F.STAT_CTL_PAT1 0 := rfl

theorem f_eachTile (d : Dev) (n : Nat) (h : Tile → Tile) (x : Field) : (d.each n fun d t => d.modTile t h).f x = d.f x :=
  each_const (g := fun d t => d.modTile t h) (fun e => e.f x) (fun _ _ => rfl) n d

theorem f_portsOpened (d : Dev) {x : Field} (hx : x.addr ≠ R.STAT_CTL) : d.portsOpened.f x = d.fetsOpened.f x := by
  rw [portsOpened_eq, Dev.f_set_ne _ _ hx, Dev.f_set_ne _ _ hx, f_eachTile]

theorem f_pat_portsOpened (d : Dev) : d.portsOpened.f F.STAT_CTL_PAT0 = 0 ∧ d.portsOpened.f F.STAT_CTL_PAT1 = 0 := by
  rw [portsOpened_eq]
  exact ⟨(Dev.f_set_apart _ _ (by decide)).trans (Dev.f_set_lt _ _ _ (by decide) (by decide)), Dev.f_set_lt _ _ _ (by decide) (by decide)⟩

theorem f_fetOn_portsOpened (d : Dev) (p : Fin 5) : d.portsOpened.f (F.GUARD_STAT_FET_ON p) = 0 := by
  rw [f_portsOpened d (by revert p; decide)]
  exact f_each (x := fun p => F.GUARD_STAT_FET_ON p) (g := fun d p => d.set (F.GUARD_STAT_FET_ON p) 0)
    (fun e k => Dev.f_set_lt e (F.GUARD_STAT_FET_ON k) 0 (by simp [F.GUARD_STAT_FET_ON]) (Nat.two_pow_pos _))
    (fun e j k hjk => Dev.f_set_ne e 0 (by simp only [F.GUARD_STAT_FET_ON, R.GUARD_STAT]; omega)) d p.isLt

theorem tile_eachTile (d : Dev) (h : Tile → Tile) (t : Fin 16) : vget (d.each 16 fun d t => d.modTile t h).tile t = h (vget d.tile t) :=
  (tile_each (I := fun _ => True) (r := fun _ => h) (fun _ _ _ _ => trivial) (fun e _ hk _ => tile_modTile_same e h hk)
    (fun e _ _ hjk => tile_modTile_ne e h hjk) trivial (Nat.le_refl 16) t).2.trans (if_pos t.isLt)

theorem tile_portsOpened (d : Dev) (t : Fin 16) : (vget d.portsOpened.tile t).gates = .off := by
  rw [portsOpened_eq, Dev.set_tile, Dev.set_tile, tile_eachTile]
  rfl

theorem fetsOpened_same (d : Dev) : d.fetsOpened.ret = d.ret ∧ d.fetsOpened.pw = d.pw := by
  unfold Dev.fetsOpened
  exact ⟨each_const (·.ret) (fun e k => Dev.set_ret e _ 0) 5 d, each_const (·.pw) (fun e k => Dev.set_pw e _ 0) 5 d⟩

theorem eachTile_same (d : Dev) (h : Tile → Tile) : (d.each 16 fun d t => d.modTile t h).ret = d.ret ∧ (d.each 16 fun d t => d.modTile t h).pw = d.pw :=
  ⟨each_const (g := fun d t => d.modTile t h) (·.ret) (fun _ _ => rfl) 16 d, each_const (g := fun d t => d.modTile t h) (·.pw) (fun _ _ => rfl) 16 d⟩

theorem portsOpened_same (d : Dev) : d.portsOpened.ret = d.ret ∧ d.portsOpened.pw = d.pw := by
  obtain ⟨hret, hpw⟩ := fetsOpened_same d
  obtain ⟨hretTiles, hpwTiles⟩ := eachTile_same d.fetsOpened Tile.powerless
  rw [portsOpened_eq, Dev.set_ret, Dev.set_ret, Dev.set_pw, Dev.set_pw]
  exact ⟨hretTiles.trans hret, hpwTiles.trans hpw⟩

/-- A field of no port guard and no lamp stays when the ports open. -/
theorem f_portsOpened_same (d : Dev) {x : Field} (hlamp : x.addr ≠ R.STAT_CTL) (hfet : ∀ p, x.apart (F.GUARD_STAT_FET_ON p) = true) :
    d.portsOpened.f x = d.f x := by
  rw [f_portsOpened d hlamp]
  exact each_const (g := fun d p => d.set (F.GUARD_STAT_FET_ON p) 0) (fun e => e.f x) (fun e k => Dev.f_set_apart e 0 (hfet k)) 5 d

/-! ### The device powered down -/

/-- A running logic die's device powered down in mode `m`. -/
theorem poweredDown_finish (halive : d.alive = true) (m : PowerMode) : d.poweredDown (finish (d.powerDown m)) m := by
  have hcourses := coursesStopped_kept d
  obtain ⟨hretPorts, hpwPorts⟩ := portsOpened_same d.coursesStopped
  have hend := EndSame.finish (d.powerDown m)
  rw [powerDown_eq] at hend ⊢
  obtain ⟨hf, htile, hret, htime⟩ := partsDown_same d.coursesStopped.portsOpened m (energyRetain d).powerFailSave.keptNand
  obtain ⟨hmode, hdead, habsent, hcore, hhold, hpass, hrp⟩ := partsDown_down d.coursesStopped.portsOpened m (energyRetain d).powerFailSave.keptNand
  obtain ⟨hpat0, hpat1⟩ := f_pat_portsOpened d.coursesStopped
  have hpower := hend.power
  refine ⟨(congrArg (·.mode) hpower).trans hmode, (alive_finish _).trans hdead, (congrArg (·.absent) hpower).trans habsent,
    (congrArg (·.coreRuns) hpower).trans hcore, fun p => ?_, fun t => ?_, ?_, ?_, ?_, ?_, ?_, ?_, ?_⟩
  · rw [hend.field _ (by revert p; decide), hf, f_fetOn_portsOpened]
  · rw [tile_finish, htile, tile_portsOpened]
  · rw [hend.field _ (by decide), hf, hpat0]
  · rw [hend.field _ (by decide), hf, hpat1]
  · rw [hend.sys, hhold]
  · rw [hend.ring, hpass]
  · rw [hend.serv, hrp]
  · rw [hend.ret, hret, hretPorts, hcourses.ret, retained_eAvail halive]
  · exact (congrArg (·.time) hpower).trans (htime.trans ((congrArg (·.time) (hpwPorts.trans hcourses.pw)).trans (retained_time halive)))

/-- The state of the button shows on through a power-down. -/
theorem f_btn_powerDown (halive : d.alive = true) (m : PowerMode) : (finish (d.powerDown m)).f F.PWR_STAT_BTN = d.f F.PWR_STAT_BTN := by
  rw [Dev.f_finish _ (by decide), powerDown_eq, (partsDown_same ..).1,
    f_portsOpened_same _ (by decide) (fun p => Field.apart_of_addr (by simp only [F.GUARD_STAT_FET_ON, F.PWR_STAT_BTN, R.GUARD_STAT, R.PWR_STAT]; omega)),
    (coursesStopped_kept d).field _ (by decide), f_retained halive]

theorem running_of_engines (halive : d.alive = true) (hengines : d.pw.engines = true) : d.running = true := by
  rw [Dev.running, halive, hengines]
  rfl

theorem noSource_of_none (h : d.bestSource = none) : d.noSource = true := by rw [Dev.noSource, h]; rfl

/-- What holds of the device that a command's meaning leaves at its end. -/
theorem leads_of_meaning {i : Instr} {P : Dev → Prop} (hexec : exec i s = done s e) (h : P (finish e)) : leads i s P := ⟨_, hexec, rfl, h⟩

theorem leads_powerDown {i : Instr} {m : PowerMode} (halive : s.dev.alive = true) (hexec : exec i s = done s d) (hmeaning : d = s.dev.powerDown m) :
    leads i s fun d => s.dev.poweredDown d m := by
  subst hmeaning
  exact leads_of_meaning hexec (poweredDown_finish halive m)

/-- RESERVE or DARK with no source and no ship mode pending: keep-alive, where a battery holds the device (R200). -/
theorem keepAlive_eq (hrunning : d.running = true) (hsource : d.bestSource = none) (hship : d.f F.PWR_STAT_SHIP_PEND = 0)
    (hstate : d.f F.PATH_STAT_STATE = 5 ∨ d.f F.PATH_STAT_STATE = 6 ∧ d.inWindow 2 = true) : keepAlive d = d.powerDown .keepAlive := by
  have hnone := noSource_of_none hsource
  have hpend : d.on F.PWR_STAT_SHIP_PEND = false := by simp [Dev.on, hship]
  unfold keepAlive
  rcases hstate with hstate | ⟨hstate, hwindow⟩
  · simp [hrunning, hnone, hpend, hstate]
  · simp [hrunning, hnone, hpend, hstate, hwindow]

/-- DARK with ship mode pending: ship mode (R200, R204). -/
theorem keepAlive_ship (hrunning : d.running = true) (hsource : d.bestSource = none) (hship : d.f F.PWR_STAT_SHIP_PEND = 1)
    (hstate : d.f F.PATH_STAT_STATE = 6) : keepAlive d = d.powerDown .ship := by
  have hnone := noSource_of_none hsource
  have hpend : d.on F.PWR_STAT_SHIP_PEND = true := by simp [Dev.on, hship]
  unfold keepAlive
  simp [hrunning, hnone, hpend, hstate]

theorem leads_keepAlive (halive : s.dev.alive = true) (hengines : s.dev.pw.engines = true) (hsource : s.dev.bestSource = none)
    (hship : s.dev.f F.PWR_STAT_SHIP_PEND = 0)
    (hstate : s.dev.f F.PATH_STAT_STATE = 5 ∨ s.dev.f F.PATH_STAT_STATE = 6 ∧ s.dev.inWindow 2 = true) :
    leads .keepaliveEntry s fun d => s.dev.poweredDown d .keepAlive :=
  leads_powerDown halive (exec_keepaliveEntry s) (keepAlive_eq (running_of_engines halive hengines) hsource hship hstate)

theorem leads_keepAlive_ship (halive : s.dev.alive = true) (hengines : s.dev.pw.engines = true) (hsource : s.dev.bestSource = none)
    (hship : s.dev.f F.PWR_STAT_SHIP_PEND = 1) (hstate : s.dev.f F.PATH_STAT_STATE = 6) :
    leads .keepaliveEntry s fun d => s.dev.poweredDown d .ship :=
  leads_powerDown halive (exec_keepaliveEntry s) (keepAlive_ship (running_of_engines halive hengines) hsource hship hstate)

theorem leads_shipEntry (halive : s.dev.alive = true) (hsource : s.dev.bestSource = none) (hship : s.dev.f F.PWR_STAT_SHIP_PEND = 1) :
    leads .shipEntry s fun d => s.dev.poweredDown d .ship := by
  have hmeaning : shipEntry s.dev = s.dev.powerDown .ship := if_pos (by simp [halive, Dev.on, hship, noSource_of_none hsource])
  exact leads_powerDown halive (exec_shipEntry s) hmeaning

theorem leads_btnPowerCycle (halive : s.dev.alive = true) (hvka : s.dev.pw.vkaLow = false) :
    leads .btnPowerCycle s fun d => s.dev.poweredDown d .cycleHeld ∧ d.f F.PWR_STAT_BTN = 1 := by
  have hmeaning : powerCycle s.dev = (s.dev.set F.PWR_STAT_BTN 1).powerDown .cycleHeld := if_neg (by simp [hvka])
  have hlive : (s.dev.set F.PWR_STAT_BTN 1).alive = true := halive
  have hdown := poweredDown_finish hlive .cycleHeld
  have havail : (s.dev.set F.PWR_STAT_BTN 1).f F.CHG_ENERGY_E_AVAIL = s.dev.f F.CHG_ENERGY_E_AVAIL := Dev.f_set_apart _ _ (by decide)
  unfold Dev.poweredDown at hdown
  rw [havail] at hdown
  refine leads_of_meaning ((exec_btnPowerCycle s).trans (congrArg (done s) hmeaning)) ⟨hdown, ?_⟩
  rw [f_btn_powerDown hlive]
  exact Dev.f_set_lt _ _ _ (by decide) (by decide)

/-- A wake that finds its source not to count leaves the device as it was. -/
theorem leads_wake_none {by_ : WakeBy} (h : s.dev.pw.vkaLow = true ∧ by_ ≠ .source ∨ s.dev.pw.mode = .ship ∧ wakeCode true by_ = none) :
    leads (.wake by_) s fun d => d = finish s.dev :=
  ⟨_, (exec_wake by_ s).trans (congrArg (done s) (wake_none h)), rfl, rfl⟩

/-- Settles O18: both dies power down through `powerDown`, whose stages each keep what the next needs; they power up through `powerDieReset` and the wake's
record; a reset of the logic die leaves the registers that R465 keeps. -/
theorem powerModes : Obligations.PowerModes := by
  refine ⟨fun s halive _ => ⟨fun hsource hengines => ⟨fun hstate hship => ?_, fun hstate hship => ?_, fun hstate hwindow hship => ?_⟩,
      leads_shipEntry halive, leads_btnPowerCycle halive⟩,
    fun h s => ⟨leads_wake_ship, fun hmode => ?_, fun hmode hvka => ?_, fun hmode => leads_wake_none (.inr ⟨hmode, rfl⟩), fun hmode hvka => ⟨?_, ?_⟩,
      leads_powerCycleRelease, leads_powerOn s⟩,
    fun x s halive hfaults hquiet => ⟨leads_nrst halive hquiet hfaults, leads_brownoutReset_uncut x halive hquiet hfaults,
      leads_brownoutReset x halive hquiet hfaults, ?_, fun hchem => ?_⟩⟩
  · exact leads_keepAlive halive hengines hsource hship (.inl hstate)
  · exact leads_keepAlive_ship halive hengines hsource hship hstate
  · exact leads_keepAlive halive hengines hsource hship (.inr ⟨hstate, hwindow⟩)
  · exact ⟨_, wake_keepAlive (k := 5) hmode (.inr rfl) (by decide) rfl, rfl, poweredUp_woken .., f_wake_woken _ _ _ (by decide), time_woken ..⟩
  · exact ⟨_, wake_keepAlive (k := 6) hmode (.inl hvka) (by simp) rfl, rfl, poweredUp_woken .., f_wake_woken _ _ _ (by decide), f_holdRx_woken ..⟩
  · exact leads_wake_none (.inl ⟨hvka, by decide⟩)
  · exact leads_wake_none (.inl ⟨hvka, by simp⟩)
  · exact (effect_brownoutWarn halive).pending.mono fun _ h => ⟨h.1.2, h.2 15 (by decide) (by decide)⟩
  · exact (effect_brownoutWarn halive).mono fun _ h => ⟨h.1 hchem, h.2⟩

end Sys2Proof.Machine
end

section
/-! What a microsecond leaves of the power state: nothing that a running device counts touches its mode, its resets or its time (R444). -/
namespace Sys2Proof.Machine

variable {d e : Dev} {s : State}

/-! ### Operations that leave the power state as it is -/

@[simp] theorem ite_pw (p : Prop) [Decidable p] (x y : Dev) : (if p then x else y).pw = if p then x.pw else y.pw := apply_ite _ p x y

theorem ite_pw_eq {p : Prop} [Decidable p] {x y : Dev} (hx : x.pw = d.pw) (hy : y.pw = d.pw) : (if p then x else y).pw = d.pw := by
  split
  · exact hx
  · exact hy

@[simp] theorem foldl_pw {α : Type} {g : Dev → α → Dev} (hg : ∀ e x, (g e x).pw = e.pw) (l : List α) (d : Dev) : (l.foldl g d).pw = d.pw := by
  induction l generalizing d with
  | nil => rfl
  | cons x l ih => exact (ih _).trans (hg d x)

@[simp] theorem Dev.each_pw {g : Dev → Nat → Dev} (hg : ∀ e k, (g e k).pw = e.pw) (n : Nat) (d : Dev) : (d.each n g).pw = d.pw := foldl_pw hg _ d

@[simp] theorem Dev.onlyIf_pw (d : Dev) (c : Bool) (g : Dev → Dev) : (d.onlyIf c g).pw = if c then (g d).pw else d.pw := ite_pw ..

@[simp] theorem Dev.fresh_pw (d : Dev) : d.fresh.2.pw = d.pw := rfl
@[simp] theorem Dev.setB_pw (d : Dev) (x : Field) (b : Bool) : (d.setB x b).pw = d.pw := rfl
@[simp] theorem Dev.setBit_pw (d : Dev) (x : Field) (i : Nat) (b : Bool) : (d.setBit x i b).pw = d.pw := rfl
@[simp] theorem Dev.setI_pw (d : Dev) (x : Field) (v : Int) : (d.setI x v).pw = d.pw := rfl
@[simp] theorem Dev.inc_pw (d : Dev) (x : Field) : (d.inc x).pw = d.pw := rfl
@[simp] theorem Dev.incSat_pw (d : Dev) (x : Field) : (d.incSat x).pw = d.pw := rfl
@[simp] theorem Dev.fault_pw (d : Dev) (b n : Nat) (l : List Nat) : (d.fault b n l).pw = d.pw := by simp [Dev.fault]
@[simp] theorem Dev.modTile_pw (d : Dev) (t : Nat) (g : Tile → Tile) : (d.modTile t g).pw = d.pw := rfl
@[simp] theorem Dev.modCourse_pw (d : Dev) (c : Nat) (g : Course → Course) : (d.modCourse c g).pw = d.pw := rfl
@[simp] theorem Dev.modPort_pw (d : Dev) (p : Nat) (g : Port → Port) : (d.modPort p g).pw = d.pw := rfl
@[simp] theorem Dev.modSeg_pw (d : Dev) (n : Nat) (g : Segment → Segment) : (d.modSeg n g).pw = d.pw := rfl
@[simp] theorem Dev.modServ_pw (d : Dev) (g : Serv → Serv) : (d.modServ g).pw = d.pw := rfl
@[simp] theorem Dev.modLens_pw (d : Dev) (n : Nat) (g : Lens → Lens) : (d.modLens n g).pw = d.pw := rfl

/-! ### Courses -/

@[simp] theorem Dev.abortTests_pw (d : Dev) (c : Nat) : (d.abortTests c).pw = d.pw := (CourseKept.refl.abortTests c).pw

theorem Dev.hardStop_pw {c : Nat} (d : Dev) (hc : c < 6) (now : Bool) : (d.hardStop c now).pw = d.pw := (CourseKept.refl.hardStop hc now).pw

theorem Dev.giveModeOpen_pw {c : Nat} (d : Dev) (hc : c < 6) (m final dir : Nat) : (d.giveModeOpen c m final dir).pw = d.pw :=
  (CourseKept.refl.giveModeOpen hc m final dir).pw

theorem Dev.giveMode_pw {c : Nat} (d : Dev) (hc : c < 6) (m final dir : Nat) : (d.giveMode c m final dir).pw = d.pw :=
  (CourseKept.refl.giveMode hc m final dir).pw

@[simp] theorem Dev.askAddAll_pw (d : Dev) (c : Nat) (mark : Course → Course) : (d.askAddAll c mark).pw = d.pw := by
  unfold Dev.askAddAll
  simp

@[simp] theorem Dev.cancelHold_pw (d : Dev) (c : Nat) : (d.cancelHold c).pw = d.pw := by
  unfold Dev.cancelHold
  simp

@[simp] theorem shedHold_pw (d : Dev) (c : Nat) (v : Bool) : (shedHold d c v).pw = d.pw := by
  unfold shedHold
  simp

@[simp] theorem addAll_pw (d : Dev) (c : Nat) : (addAll d c).pw = d.pw := by
  unfold addAll
  simp

@[simp] theorem Dev.goReserve_pw (d : Dev) : d.goReserve.pw = d.pw := by
  unfold Dev.goReserve Dev.setPath
  split
  next c hc => simp [Dev.hardStop_pw _ (courseOf_lt hc)]
  next => simp

@[simp] theorem Dev.judgeFloor_pw (d : Dev) : d.judgeFloor.pw = d.pw := by
  unfold Dev.judgeFloor
  split
  · rfl
  extract_lets was now shown told freed st
  have htold : told.pw = d.pw := by simp [told, shown]
  have hfreed : freed.pw = d.pw := by simp [freed, htold]
  split
  · exact freed.goReserve_pw.trans hfreed
  split
  · split
    next c hc => exact (freed.hardStop_pw (courseOf_lt hc) false).trans hfreed
    next => exact hfreed
  · exact hfreed

/-! ### The ring's frames -/

@[simp] theorem Dev.drive1_pw (d : Dev) (n : Nat) (f : Frame) : (d.drive1 n f).pw = d.pw := rfl
@[simp] theorem Dev.onLine_pw (d : Dev) (n : Nat) (o : Outgoing) : (d.onLine n o).pw = d.pw := rfl

@[simp] theorem Dev.sendAgain_pw (d : Dev) (n : Nat) (o : Outgoing) : (d.sendAgain n o).pw = d.pw := by
  unfold Dev.sendAgain
  simp

@[simp] theorem Dev.segStart_pw (d : Dev) (n : Nat) : (d.segStart n).pw = d.pw := by
  unfold Dev.segStart
  dsimp only
  split
  · rfl
  split
  · simp
  split
  · simp
  split
  · simp
  split <;> simp

@[simp] theorem Dev.originate_pw (d : Dev) (n typ dst prio : Nat) (data : List Byte) : (d.originate n typ dst prio data).pw = d.pw := by
  unfold Dev.originate
  simp

@[simp] theorem Dev.sendNeigh_pw (d : Dev) (n typ : Nat) (data : List Byte) : (d.sendNeigh n typ data).pw = d.pw := Dev.originate_pw ..

@[simp] theorem Dev.sendRouted_pw (d : Dev) (typ dst prio : Nat) (data : List Byte) : (d.sendRouted typ dst prio data).pw = d.pw := by
  unfold Dev.sendRouted
  simp

@[simp] theorem Dev.sendOffer_pw (d : Dev) (n : Nat) (pts : List (Nat × Nat)) (capped : Bool) : (d.sendOffer n pts capped).pw = d.pw := by
  unfold Dev.sendOffer
  simp

@[simp] theorem Dev.capContract_pw (d : Dev) (n : Nat) : (d.capContract n).pw = d.pw := by
  unfold Dev.capContract
  simp

@[simp] theorem Dev.sendRequest_pw (d : Dev) (n dst : Nat) : (d.sendRequest n dst).pw = d.pw := by
  unfold Dev.sendRequest
  split <;> simp

@[simp] theorem Dev.askAgain_pw (d : Dev) (n : Nat) : (d.askAgain n).pw = d.pw := by
  unfold Dev.askAgain
  split <;> simp

@[simp] theorem Dev.freeBytes_pw (d : Dev) (n : Nat) : (d.freeBytes n).2.pw = d.pw := by
  unfold Dev.freeBytes
  induction List.range n using List.reverseRecOn with
  | nil => rfl
  | append_singleton l k ih => rw [List.foldl_append]; exact ih

@[simp] theorem Dev.telemData_pw (d : Dev) : d.telemData.2.pw = d.pw := by
  unfold Dev.telemData
  simp

/-! ### Live fields and the actions (R74, R283) -/

@[simp] theorem Dev.liveEffect_pw (d : Dev) (x : Field) : (d.liveEffect x).pw = d.pw := by
  unfold Dev.liveEffect
  simp

@[simp] theorem Dev.liveWrite_pw (d : Dev) (x : Field) (v : Nat) : (d.liveWrite x v).pw = d.pw := by
  unfold Dev.liveWrite Dev.liveSet Dev.liveReject Dev.record
  simp

@[simp] theorem Dev.dmaRequest_pw (d : Dev) (n : Nat) : (d.dmaRequest n).pw = d.pw := by
  unfold Dev.dmaRequest
  simp

@[simp] theorem Dev.loadShadows_pw (d : Dev) (n : Nat) : (d.loadShadows n).pw = d.pw := rfl

@[simp] theorem Dev.timerReset_pw (d : Dev) (n : Nat) : (d.timerReset n).pw = d.pw := by
  unfold Dev.timerReset
  simp

theorem Dev.actReset_pw (d : Dev) (n : Nat) : (d.actReset n).pw = d.pw := by
  rw [Dev.actReset, Dev.putGtSet_pw, Dev.timerReset_pw]

theorem Dev.actLoad_pw (d : Dev) (n v : Nat) : (d.actLoad n v).pw = d.pw := rfl

@[simp] theorem Dev.act_pw (d : Dev) (code target arg : Nat) : (d.act code target arg).pw = d.pw := by
  unfold Dev.act
  refine ite_pw_eq rfl <| ite_pw_eq (ite_pw_eq (Dev.dmaRequest_pw ..) rfl) <| ite_pw_eq rfl <| ite_pw_eq rfl <| ite_pw_eq (Dev.actReset_pw ..) <|
    ite_pw_eq rfl <| ite_pw_eq rfl <| ite_pw_eq rfl <| ite_pw_eq rfl <| ite_pw_eq rfl <| ite_pw_eq (shedHold_pw ..) <| ite_pw_eq (shedHold_pw ..) <|
    ite_pw_eq (addAll_pw ..) ?_
  exact ite_pw_eq (Dev.liveWrite_pw ..) <| ite_pw_eq (Dev.liveWrite_pw ..) <| ite_pw_eq (Dev.liveWrite_pw ..) <| ite_pw_eq (Dev.liveWrite_pw ..) <|
    ite_pw_eq (Dev.liveWrite_pw ..) <| ite_pw_eq (Dev.actLoad_pw ..) rfl

/-! ### Timers and the position (R274 to R293) -/

@[simp] theorem Dev.timerAct_pw (d : Dev) (n on : Nat) : (d.timerAct n on).pw = d.pw := by
  unfold Dev.timerAct
  simp

@[simp] theorem Dev.tickCount_pw (d : Dev) (n : Nat) : (d.tickCount n).2.2.pw = d.pw := by
  unfold Dev.tickCount Dev.timerStop
  simp

theorem Dev.clockTick_pw (was : Dev) (fuel : Nat) (x : Dev × List (Nat × Nat)) (n : Nat) : (Dev.clockTick was fuel x n).1.pw = x.1.pw := by
  induction fuel generalizing x n with
  | zero => rfl
  | succ fuel ih =>
    unfold Dev.clockTick
    split
    · rfl
    · simp only [apply_ite Prod.fst, ite_pw, ih, Dev.timerAct_pw, Dev.raise_pw, Dev.tickCount_pw, ite_self]

theorem clockTicks_pw (was : Dev) (l : List Nat) (x : Dev × List (Nat × Nat)) : (l.foldl (Dev.clockTick was 12) x).1.pw = x.1.pw := by
  induction l generalizing x with
  | nil => rfl
  | cons n l ih => exact (ih _).trans (Dev.clockTick_pw ..)

@[simp] theorem Dev.clocks_pw (fuel : Nat) (d : Dev) (ticks resets : List Nat) : (Dev.clocks fuel d ticks resets).pw = d.pw := by
  induction fuel generalizing d ticks resets with
  | zero => rfl
  | succ fuel ih =>
    unfold Dev.clocks
    split
    · rfl
    · simp [ih, clockTicks_pw]

@[simp] theorem Dev.ptbTicks_pw (d : Dev) (rev : Bool) : (d.ptbTicks rev).pw = d.pw := Dev.clocks_pw ..

@[simp] theorem Dev.telemetry_pw (d : Dev) (v : Int) : (d.telemetry v).pw = d.pw := rfl

@[simp] theorem Dev.result_pw (d : Dev) (src : Nat) (v : Int) : (d.result src v).pw = d.pw := by
  unfold Dev.result
  simp

@[simp] theorem Dev.putPos_pw (d : Dev) (p : Nat) : (d.putPos p).pw = d.pw := rfl

@[simp] theorem Dev.rearmSlot_pw (d : Dev) (k : Nat) : (d.rearmSlot k).pw = d.pw := by
  unfold Dev.rearmSlot
  simp only [ite_pw, ite_self, Dev.set_pw]

@[simp] theorem Dev.armSlot_pw (d : Dev) (k : Nat) : (d.armSlot k).pw = d.pw := by
  unfold Dev.armSlot
  simp

@[simp] theorem Dev.movePos_pw (d : Dev) (q : Nat) (inTime : Bool) : (d.movePos q inTime).pw = d.pw := by
  unfold Dev.movePos
  simp

@[simp] theorem Dev.jumpTo_pw (d : Dev) (i : Nat) : (d.jumpTo i).pw = d.pw := by
  unfold Dev.jumpTo
  simp

@[simp] theorem Dev.ptbTime_pw (d : Dev) (t : Nat) : (d.ptbTime t).pw = d.pw := by
  unfold Dev.ptbTime
  simp

@[simp] theorem Dev.captureTimer_pw (d : Dev) (n : Nat) : (d.captureTimer n).pw = d.pw := by
  unfold Dev.captureTimer
  simp

@[simp] theorem Dev.captureEdge_pw (d : Dev) (src : Nat) : (d.captureEdge src).pw = d.pw := by
  unfold Dev.captureEdge
  simp

@[simp] theorem Dev.ptbStep_pw (d : Dev) (rev : Bool) (ivl : Nat) : (d.ptbStep rev ivl).pw = d.pw := by
  unfold Dev.ptbStep
  simp only [ite_pw, ite_self, Dev.putPtb_pw, Dev.jumpTo_pw, Dev.putGtSet_pw, Dev.ptbTicks_pw, Dev.movePos_pw, Dev.set_pw, Dev.setB_pw,
    Dev.captureEdge_pw, Dev.ptbTime_pw]

@[simp] theorem Dev.frameInstant_pw (d : Dev) : d.frameInstant.pw = d.pw := by
  unfold Dev.frameInstant
  simp

@[simp] theorem Dev.sendClock_pw (d : Dev) : d.sendClock.pw = d.pw := by
  unfold Dev.sendClock
  simp

/-! ### Lenses (R301 to R311) -/

@[simp] theorem Dev.compare_pw (d : Dev) (m : Nat) : (d.compare m).pw = d.pw := by
  unfold Dev.compare
  simp

@[simp] theorem Dev.lensTakes_pw (d : Dev) (m n u : Nat) : (d.lensTakes m n u).pw = d.pw := by
  unfold Dev.lensTakes Dev.restartLens
  simp

@[simp] theorem Dev.lensStandin_pw (d : Dev) (m n : Nat) : (d.lensStandin m n).pw = d.pw := by
  unfold Dev.lensStandin
  simp

@[simp] theorem Dev.stepLens_pw (d : Dev) (n : Nat) : (d.stepLens n).pw = d.pw := by
  unfold Dev.stepLens
  simp

@[simp] theorem Dev.presentLens_pw (d : Dev) (n : Nat) : (d.presentLens n).pw = d.pw := by
  unfold Dev.presentLens
  simp only [ite_pw, ite_self, Dev.putChg_pw, Dev.raise_pw, Dev.stepLens_pw, Dev.captureEdge_pw, Dev.setBit_pw]

@[simp] theorem Dev.assignLens_pw (d : Dev) (n : Nat) : (d.assignLens n).pw = d.pw := by
  unfold Dev.assignLens
  split
  · rfl
  split <;> simp

@[simp] theorem Dev.lensTick_pw (d : Dev) : d.lensTick.pw = d.pw := by
  unfold Dev.lensTick
  simp

@[simp] theorem Dev.lensCounted_pw (before d : Dev) : (before.lensCounted d).pw = d.pw := by
  unfold Dev.lensCounted Dev.mainsEdge
  simp

/-! ### SYS, the ports, the charger and the self-tests -/

@[simp] theorem Dev.absentTick_pw (d : Dev) : d.absentTick.pw = d.pw := by
  unfold Dev.absentTick
  simp

@[simp] theorem Dev.windowTick_pw (d : Dev) : d.windowTick.pw = d.pw := by
  unfold Dev.windowTick
  simp only [ite_pw, ite_self, Dev.onlyIf_pw, Dev.incSat_pw, Dev.putSys_pw]

@[simp] theorem Dev.debounceTick_pw (d : Dev) (p : Nat) : (d.debounceTick p).pw = d.pw := by
  unfold Dev.debounceTick
  simp

@[simp] theorem Dev.keepTimer_pw (d : Dev) : d.keepTimer.pw = d.pw := by
  unfold Dev.keepTimer
  dsimp only
  split <;> simp

@[simp] theorem Dev.showTimer_pw (d : Dev) : d.showTimer.pw = d.pw := by
  unfold Dev.showTimer
  split <;> exact Dev.set_pw ..

@[simp] theorem Dev.chargeTick_pw (d : Dev) : d.chargeTick.pw = d.pw := by
  unfold Dev.chargeTick
  dsimp only
  split <;> simp

@[simp] theorem Dev.testTick_pw (d : Dev) (t : Nat) : (d.testTick t).pw = d.pw := by
  unfold Dev.testTick
  split <;> simp

@[simp] theorem Dev.ageTo_pw (d : Dev) (x : Field) (h : Nat) : (d.ageTo x h).pw = d.pw := by
  unfold Dev.ageTo
  simp

@[simp] theorem Dev.ageTick_pw (d : Dev) : d.ageTick.pw = d.pw := by
  unfold Dev.ageTick
  simp only [Dev.onlyIf_pw, Dev.ageTo_pw, ite_self, Dev.putRecov_pw]

@[simp] theorem Dev.lcTick_pw (d : Dev) : d.lcTick.pw = d.pw := by
  unfold Dev.lcTick
  simp

/-! ### The service port (R253 to R265)

A source that is lost may leave the device dark, with a power-fail save; of the power state that marks the save alone. -/

@[simp] theorem Dev.setFet_pw (d : Dev) (p : Nat) (closed : Bool) : (d.setFet p closed).pw = d.pw := by
  unfold Dev.setFet
  simp

@[simp] theorem Dev.sendPd_pw (d : Dev) (m : PdMsg) : (d.sendPd m).pw = d.pw := rfl

@[simp] theorem Dev.waitSeq_pw (d : Dev) (q : PdSeq) (partner : Bool) (due : Nat) : (d.waitSeq q partner due).pw = d.pw := rfl

@[simp] theorem Dev.cancelSeq_pw (d : Dev) : d.cancelSeq.pw = d.pw := by
  unfold Dev.cancelSeq Dev.cancelOwn
  simp

@[simp] theorem Dev.heardPd_pw (d : Dev) : d.heardPd.pw = d.pw := by
  unfold Dev.heardPd Dev.goodCrc
  simp

@[simp] theorem Dev.startDischarge_pw (d : Dev) (p : Nat) : (d.startDischarge p).pw = d.pw := by
  unfold Dev.startDischarge
  split
  · split
    next c hc => simp [Dev.giveModeOpen_pw _ (courseOf_lt hc)]
    next => rfl
  · rfl

@[simp] theorem Dev.startPrebias_pw (d : Dev) (v : Nat) : (d.startPrebias v).pw = d.pw := by
  unfold Dev.startPrebias
  extract_lets opened
  have hopened : opened.pw = d.pw := by simp [opened]
  split
  next c hc => exact (Dev.giveModeOpen_pw _ (courseOf_lt hc) ..).trans ((opened.hardStop_pw (courseOf_lt hc) false).trans hopened)
  next => exact hopened

@[simp] theorem Dev.leaveEpr_pw (d : Dev) (own : Bool) : (d.leaveEpr own).pw = d.pw := by
  unfold Dev.leaveEpr
  simp

@[simp] theorem Dev.enterEpr_pw (d : Dev) (own : Bool) : (d.enterEpr own).pw = d.pw := by
  unfold Dev.enterEpr Dev.offerCaps Dev.sourceWaits
  simp

@[simp] theorem Dev.drSwap_pw (d : Dev) (own partner : Bool) : (d.drSwap own partner).pw = d.pw := by
  unfold Dev.drSwap
  simp

@[simp] theorem Dev.vconnSwap_pw (d : Dev) (own partner : Bool) : (d.vconnSwap own partner).pw = d.pw := by
  unfold Dev.vconnSwap
  simp

@[simp] theorem Dev.sendCaps_pw (d : Dev) : d.sendCaps.pw = d.pw := by
  unfold Dev.sendCaps
  simp

@[simp] theorem Dev.keepAliveTick_pw (d : Dev) : d.keepAliveTick.pw = d.pw := by
  unfold Dev.keepAliveTick
  simp

@[simp] theorem Dev.discoverTick_pw (d : Dev) : d.discoverTick.pw = d.pw := by
  unfold Dev.discoverTick
  simp

@[simp] theorem ite_unsaved (p : Prop) [Decidable p] (x y : PowerState) : (if p then x else y).unsaved = if p then x.unsaved else y.unsaved :=
  apply_ite _ p x y

@[simp] theorem Dev.handover_unsaved (d : Dev) (late : Nat) : (d.handover late).pw.unsaved = d.pw.unsaved := (PathKept.refl.handover late).power

@[simp] theorem Dev.loseSource_unsaved (d : Dev) (p late : Nat) : (d.loseSource p late).pw.unsaved = d.pw.unsaved := by
  unfold Dev.loseSource
  split
  · simp
  extract_lets marked lost st stopped
  have hlost : lost.pw = d.pw := by simp [lost, marked]
  have hstopped : stopped.pw = d.pw := by
    unfold stopped
    split
    next c hc => exact (lost.hardStop_pw (courseOf_lt hc) true).trans hlost
    next => exact hlost
  simp [hlost, hstopped, Dev.abandonTransfer]

@[simp] theorem Dev.dropPd_unsaved (d : Dev) (keep : Bool) : (d.dropPd keep).pw.unsaved = d.pw.unsaved := by
  unfold Dev.dropPd
  extract_lets had moving sinkC was ended cleared lost stopped opened told
  have hlost : lost.pw.unsaved = d.pw.unsaved := by simp [lost, cleared, ended]
  have hstopped : stopped.pw = lost.pw := by
    unfold stopped
    split
    next c hc => exact lost.hardStop_pw (courseOf_lt hc) false
    next => rfl
  have hopened : opened.pw.unsaved = d.pw.unsaved := by simp [opened, hstopped, hlost]
  simp [told, hopened]

@[simp] theorem hardReset_unsaved (d : Dev) (own : Bool) : (hardReset d own).pw.unsaved = d.pw.unsaved := by
  unfold hardReset
  split
  · rfl
  extract_lets counted sent left dropped dropped'
  have hleft : left.pw = d.pw := by simp [left, sent, counted]
  split
  · have hdropped : dropped.pw.unsaved = d.pw.unsaved := by simp [dropped, hleft]
    split
    next c hc => simp [Dev.giveMode_pw _ (courseOf_lt hc), hdropped]
    next => exact hdropped
  · simp [dropped', hleft]

@[simp] theorem Dev.doPrSwap_unsaved (d : Dev) : d.doPrSwap.pw.unsaved = d.pw.unsaved := by
  unfold Dev.doPrSwap
  simp

@[simp] theorem Dev.prSwap_unsaved (d : Dev) (own partner : Bool) : (d.prSwap own partner).pw.unsaved = d.pw.unsaved := by
  unfold Dev.prSwap
  simp

@[simp] theorem Dev.runSeq_unsaved (d : Dev) (q : PdSeq) (partner : Bool) : (d.runSeq q partner).pw.unsaved = d.pw.unsaved := by
  unfold Dev.runSeq
  split <;> simp

@[simp] theorem Dev.sourceSeq_unsaved (d : Dev) : d.sourceSeq.pw.unsaved = d.pw.unsaved := by
  unfold Dev.sourceSeq
  split <;> simp

@[simp] theorem Dev.noGoodCrc_unsaved (d : Dev) (x : PdTx) : (d.noGoodCrc x).pw.unsaved = d.pw.unsaved := by
  unfold Dev.noGoodCrc
  simp

@[simp] theorem Dev.goodCrcTick_unsaved (d : Dev) : d.goodCrcTick.pw.unsaved = d.pw.unsaved := by
  unfold Dev.goodCrcTick
  split <;> simp

@[simp] theorem Dev.servTick_unsaved (d : Dev) : d.servTick.pw.unsaved = d.pw.unsaved := by
  unfold Dev.servTick
  simp

/-! ### A step that passes time (R444) -/

@[simp] theorem Dev.runTick_unsaved (d : Dev) : d.runTick.pw.unsaved = d.pw.unsaved := by
  unfold Dev.runTick
  extract_lets counted lensed served passed sent
  have hcounted : counted.pw = d.pw := by simp [counted]
  have hserved : served.pw.unsaved = d.pw.unsaved := by simp [served, lensed, hcounted]
  have hsent : sent.pw = served.pw := by simp [sent, passed]
  simp [hsent, hserved]

theorem fields_of_unsaved {x y : PowerState} (h : x.unsaved = y.unsaved) :
    x.mode = y.mode ∧ x.inReset = y.inReset ∧ x.time = y.time ∧ x.clock = y.clock :=
  ⟨congrArg (·.mode) h, congrArg (·.inReset) h, congrArg (·.time) h, congrArg (·.clock) h⟩

theorem fields_of_muted {x y : PowerState} (h : x.muted = y.muted) :
    x.mode = y.mode ∧ x.time = y.time ∧ x.clock = y.clock ∧ x.kaTicks = y.kaTicks :=
  ⟨congrArg (·.mode) h, congrArg (·.time) h, congrArg (·.clock) h, congrArg (·.kaTicks) h⟩

/-- A microsecond later, by the device time and the block clock (R444). -/
def PowerState.later (x : PowerState) : PowerState := { x with time := timeWrap (x.time + 1), clock := x.clock + 1 }

theorem PowerState.later_kept (x : PowerState) : x.later.mode = x.mode ∧ x.later.inReset = x.inReset := by
  unfold PowerState.later
  exact ⟨rfl, rfl⟩

theorem applyBurst_nil (h : d.host.burst = []) (n : Nat) : Dev.applyBurst n d = d := by
  cases n with
  | zero => rfl
  | succ n => simp [Dev.applyBurst, h]

theorem absentTick_host (d : Dev) : d.absentTick.host = d.host := by
  unfold Dev.absentTick Dev.onlyIf
  split
  · rfl
  · dsimp only
    split <;> rfl

theorem idle_on (hmode : d.pw.mode = .on) (hburst : d.host.burst = []) : d.idle.pw.unsaved = d.pw.later.unsaved := by
  have hnone : (d.putPw d.pw.later).absentTick.host.burst = [] := by rw [absentTick_host]; exact hburst
  have hmeaning : d.idle = if !(d.putPw d.pw.later).absentTick.alive then (d.putPw d.pw.later).absentTick
      else ((Dev.applyBurst 5 (d.putPw d.pw.later).absentTick).ageTick.lcTick).onlyIf
        ((Dev.applyBurst 5 (d.putPw d.pw.later).absentTick).ageTick.lcTick).running Dev.runTick := by
    unfold Dev.idle
    rw [hmode]
    rfl
  rw [hmeaning, applyBurst_nil hnone]
  simp

/-- A tick of the 32.768 kHz clock later, where VKA powers it (R444). -/
def PowerState.ticked (x : PowerState) : PowerState :=
  { x with kaTicks := x.kaTicks + 1, time := timeWrap (x.kaStart + (x.kaTicks + 1) * 1000000 / 32768) }

theorem PowerState.ticked_kept (x : PowerState) : x.ticked.mode = x.mode ∧ x.ticked.inReset = x.inReset := by
  unfold PowerState.ticked
  exact ⟨rfl, rfl⟩

theorem idle_keepAlive (hmode : d.pw.mode = .keepAlive) : d.idle = if d.pw.vkaLow then d else d.putPw d.pw.ticked := by
  unfold Dev.idle
  rw [hmode]
  rfl

theorem idle_ship (hmode : d.pw.mode = .ship) : d.idle = d := by
  unfold Dev.idle
  rw [hmode]

theorem idle_cycleHeld (hmode : d.pw.mode = .cycleHeld) : d.idle = d.putPw d.pw.later := by
  unfold Dev.idle
  rw [hmode]
  rfl

theorem idle_mode (hburst : d.host.burst = []) : d.idle.pw.mode = d.pw.mode ∧ d.idle.pw.inReset = d.pw.inReset := by
  cases hmode : d.pw.mode with
  | on =>
    obtain ⟨hlaterMode, hlaterReset, -⟩ := fields_of_unsaved (idle_on hmode hburst)
    obtain ⟨hmodeKept, hresetKept⟩ := d.pw.later_kept
    exact ⟨hlaterMode.trans (hmodeKept.trans hmode), hlaterReset.trans hresetKept⟩
  | keepAlive =>
    obtain ⟨hmodeKept, hresetKept⟩ := d.pw.ticked_kept
    rw [idle_keepAlive hmode]
    split
    · exact ⟨hmode, rfl⟩
    · rw [Dev.putPw_pw]
      exact ⟨hmodeKept.trans hmode, hresetKept⟩
  | ship =>
    rw [idle_ship hmode]
    exact ⟨hmode, rfl⟩
  | cycleHeld =>
    obtain ⟨hmodeKept, hresetKept⟩ := d.pw.later_kept
    rw [idle_cycleHeld hmode, Dev.putPw_pw]
    exact ⟨hmodeKept.trans hmode, hresetKept⟩

theorem step_idle (h : s.pending = []) : step s = done s s.dev.idle := by
  unfold step
  rw [h]

/-- Settles O53: nothing that a running device counts in a microsecond touches the power state but for the mark of a power-fail save. -/
theorem idleSteps : Obligations.IdleSteps := by
  intro s hpending hburst
  obtain ⟨hendMode, hendTime, hendClock, hendTicks⟩ := fields_of_muted (power_finish s.dev.idle)
  obtain ⟨hmode, hreset⟩ := idle_mode hburst
  have halive : s.dev.idle.alive = s.dev.alive := by rw [Dev.alive, Dev.alive, hmode, hreset]
  refine ⟨_, step_idle hpending, hpending, hendMode.trans hmode, (alive_finish _).trans halive, fun hon => ?_, fun hkeep hvka => ?_, fun hship => ?_⟩
  · obtain ⟨-, -, htime, hclock⟩ := fields_of_unsaved (idle_on hon hburst)
    exact ⟨hendTime.trans htime, hendClock.trans hclock⟩
  · have hidle : s.dev.idle.pw = s.dev.pw.ticked := by
      rw [idle_keepAlive hkeep, if_neg (by simp [hvka]), Dev.putPw_pw]
    rw [hidle] at hendTicks hendTime
    exact ⟨hendTicks, hendTime⟩
  · rw [idle_ship hship] at hendTime ⊢
    exact ⟨hendTime, fun y hy => Dev.f_finish _ hy⟩

end Sys2Proof.Machine
end
section
/-! Three states that the statements on ring frames, retries and PD contracts leave out: a TELEM that the position counts, a busy wait beside a back-off, and a
PS_RDY before a sequence of the device's own (R229, R231, R252, R257, R258). -/
namespace Sys2Proof.Machine

@[simp] theorem ring_finish (d : Dev) : (finish d).ring = d.ring := (EndSame.finish d).ring
@[simp] theorem serv_finish (d : Dev) : (finish d).serv = d.serv := (EndSame.finish d).serv

theorem sg_finish (d : Dev) (n : Nat) : (finish d).sg n = d.sg n := congrArg (fun x : Ring => vget x.seg n) (ring_finish d)

/-! ### A TELEM of the unit in CLK_SRC steps the position (R252, R273) -/

theorem exec_ringTelemRx (g : Fin 2) (f : RxFrame) (s : State) : exec (.ringTelemRx g f) s = done s (telemRx s.dev g f) := rfl

/-- Unit 011h, whose position counts the frame clock of unit 022h. -/
def onFrameClock : Dev :=
  runningWith [(F.RING_ADDR_ADDR, 0x11), (F.SEG_STAT_LSTATE 1, 2), (F.RING_CFG_CLK_SRC, 0x22), (F.PTB_STAT_RUN, 1), (F.PTB_MAP_SOURCE, 3)]

/-- The same device at an instant of the frame clock. -/
def atInstant : Dev := onFrameClock.putRing { onFrameClock.ring with clockAt := some 0 }

/-- The same device in the step that follows, before the position moves. -/
def frameCounted : Dev := (atInstant.set F.PTB_STAT_HOMED 1).putPtb { stepped := true, counted := true, count := 1 }

/-- A TELEM of unit 022h to unit 011h. -/
def clockTelem : RxFrame := { dst := 0x11, src := 0x22, data := List.replicate 16 0 }

/-- Slots that are not enabled stay as they are. -/
theorem rearmSlots_none {d : Dev} (h : ∀ k : Fin 32, d.slotOn k = false) : d.each 32 Dev.rearmSlot = d := by
  have hlist : ∀ l : List Nat, (∀ k ∈ l, k < 32) → l.foldl Dev.rearmSlot d = d := by
    intro l hl
    induction l with
    | nil => rfl
    | cons k l ih =>
      rw [List.foldl_cons, Dev.rearmSlot, h ⟨k, hl k (by simp)⟩]
      exact ih fun j hj => hl j (by simp [hj])
  exact hlist _ fun k hk => List.mem_range.1 hk

theorem movePos_frameCounted : frameCounted.movePos 65536 false = frameCounted.putPos 65536 := by
  have hfrom : frameCounted.ptb.pos = 0 := rfl
  have hfired : frameCounted.firedSlots 0 65536 false = [] := by decide
  have hrearm : (frameCounted.putPos 65536).each 32 Dev.rearmSlot = frameCounted.putPos 65536 := rearmSlots_none (by decide)
  unfold Dev.movePos
  simp only [hfrom, hfired, List.map_nil, List.foldl_nil, hrearm]
  rfl

theorem ptbTicks_frameCounted : (frameCounted.putPos 65536).ptbTicks false = frameCounted.putPos 65536 := by
  have hnone : ((List.range 12).filter fun n => (frameCounted.putPos 65536).f (F.GT_MAP_CLOCK n) == 1 &&
      (!false || (frameCounted.putPos 65536).on (F.GT_CFG_PTB_BOTH n))) = [] := by decide
  rw [Dev.ptbTicks, hnone]
  rfl

theorem frameInstant_onFrameClock : onFrameClock.frameInstant = (frameCounted.putPos 65536).putGtSet [] := by
  calc onFrameClock.frameInstant
    _ = ((frameCounted.movePos 65536 false).ptbTicks false).putGtSet [] := by rfl
    _ = (frameCounted.putPos 65536).putGtSet [] := by rw [movePos_frameCounted, ptbTicks_frameCounted]

theorem homed_telemRx_onFrameClock : (telemRx onFrameClock 1 clockTelem).f F.PTB_STAT_HOMED = 1 := by
  have hrx : telemRx onFrameClock 1 clockTelem = onFrameClock.frameInstant.receive 1 (rxFrame clockTelem 4) true fun d => d := by rfl
  rw [hrx, frameInstant_onFrameClock]
  decide

/-! ### A busy wait ends while an answer of the unit backs off (R229, R231) -/

theorem exec_ringBusyRetry (g : Fin 2) (s : State) : exec (.ringBusyRetry g) s = done s (busyRetry s.dev g) := rfl

/-- The frame that waits after a NAK 01h. -/
def busyFrame : Outgoing := { frame := { dst := 0x22, src := 0x11, typ := 9, seq := 5 }, waitBusy := true }

/-- An ACK of the unit that a collision has stopped. -/
def stoppedAck : Outgoing := { frame := { dst := 0x22, src := 0x11, typ := 2, seq := 7 }, coll := 1, backoff := some 8 }

/-- The frame waits on an idle line while the ACK backs off. -/
def busyBesideBackoff : Dev :=
  (runningWith [(F.SEG_STAT_LSTATE 1, 2)]).modSeg 1 fun g => { g with out := some busyFrame, aside := [stoppedAck] }

/-- Nothing is driven before the back-off has ended. -/
theorem wire_busyRetry_busyBesideBackoff : ((busyRetry busyBesideBackoff 1).sg 1).wire = none := by decide

/-! ### PS_RDY while a sequence of the device's own waits (R257, R258) -/

theorem exec_pdPsRdySend (v : Nat) (s : State) : exec (.pdPsRdySend v) s = done s (psRdySend s.dev v) := rfl

/-- A Source in transition to 5.00 V at 1.00 A, with a DR_Swap of its own to follow. -/
def readyBeforeSequence : Dev :=
  (runningWith [(F.PD_STAT_ATTACHED, 1), (F.PD_STAT_PROLE, 1), (F.PD_STAT_PSTATE, 4)]).putServ
    { pend := some (500, 100), waiting := some { seq := .drSwap, partner := true, due := 0 } }

/-- Rp goes on reading SinkTxNG. -/
theorem sinkTx_psRdySend_readyBeforeSequence : (psRdySend readyBeforeSequence 500).f F.PD_STAT_SINKTX = 0 := by decide

end Sys2Proof.Machine

open Sys2Proof Sys2Proof.Machine

/-- Refutes O20: the frame of a TELEM from the unit in CLK_SRC leaves out the position, which counts the instant where its SOURCE is the frame clock: so in
the state `onFrameClock`. -/
theorem not_ringFrames : ¬ Obligations.RingFrames := by
  unfold Obligations.RingFrames
  intro h
  obtain ⟨-, -, -, -, -, -, -, htelem, -⟩ := h 1 clockTelem {} {} 0 .accept .accept false [] { dev := onFrameClock } (by decide) (by decide) (by decide) (by decide)
  have heffect := htelem (by decide) (by decide) (by decide) (by decide) (by decide)
  have hkept := heffect.field (exec_ringTelemRx 1 clockTelem _) (x := F.PTB_STAT_HOMED) (by decide) (by decide)
  exact absurd (homed_telemRx_onFrameClock.symm.trans hkept) (by decide)

/-- Refutes O21: the end of a busy wait on an idle line is to drive the frame. While an ACK, a NAK or an EMERG of the unit backs off, nothing starts on the
segment: so in the state `busyBesideBackoff`. -/
theorem not_ringRetriesAndTimers : ¬ Obligations.RingRetriesAndTimers := by
  unfold Obligations.RingRetriesAndTimers
  intro h
  obtain ⟨-, -, -, -, hretry, -⟩ := h 1 busyFrame false 0 { dev := busyBesideBackoff } (by decide)
  have heffect := hretry (by decide) (by decide) (by decide) (by decide) (by decide) (by decide) (by decide)
  obtain ⟨⟨hwire, -⟩, -⟩ := heffect.pending.of_exec (exec_ringBusyRetry 1 _)
  rw [sg_finish] at hwire
  exact absurd (wire_busyRetry_busyBesideBackoff.symm.trans hwire) (by decide)

/-- Refutes O27: a PS_RDY is to set SinkTxOK. With a sequence of the device's own waiting Rp goes on reading SinkTxNG (R258): so in the state
`readyBeforeSequence`. -/
theorem not_pdContracts : ¬ Obligations.PdContracts := by
  unfold Obligations.PdContracts
  intro h
  obtain ⟨-, -, hready, -⟩ := h [] 0 500 100 0 500 0 0 0 false { dev := readyBeforeSequence } (by decide) (by decide) (by decide) (by decide)
  obtain ⟨hsource, -⟩ := hready (by decide) (by decide)
  obtain ⟨⟨-, -, -, -, hsinkTx, -⟩, -⟩ := (hsource (by decide) (by decide) (by decide)).pending.of_exec (exec_pdPsRdySend 500 _)
  rw [Dev.f_finish _ (by decide)] at hsinkTx
  exact absurd (sinkTx_psRdySend_readyBeforeSequence.symm.trans hsinkTx) (by decide)
end
section
/-! The stop of a course leaves a tile alone that the hold loop drives: two states of the service port that the statements on attach and on PD swaps leave
out (R143, R157, R255, R259). -/
namespace Sys2Proof.Machine

namespace Held

variable {d : Dev} {t : Fin 16}

theorem setTile (h : Held t d) {x : Field} (k u v : Nat) (hx : x.addr = k + 64 * u := by rfl)
    (hk : k % 64 ≠ R.TILE_STAT 0 % 64 := by decide) : Held t (d.set x v) :=
  h.set v (Field.apart_of_addr (by rw [hx]; simp only [R.TILE_STAT, F.TILE_STAT_STATE] at hk ⊢; omega))

/-- A field above the three bits of STATE. -/
theorem setAbove (h : Held t d) {x : Field} (v : Nat) (hl : Nat.ble 3 x.lo = true := by rfl) :
    Held t (d.set x v) :=
  h.set v (Field.apart_of_bits (by simp [F.TILE_STAT_STATE, hl]))

theorem setTst_ne (h : Held t d) {u : Nat} (hu : (t : Nat) ≠ u) (v : Nat) : Held t (d.setTst u v) :=
  h.set v (Field.apart_of_addr (by simp only [R.TILE_STAT, F.TILE_STAT_STATE]; omega))

theorem modTile (h : Held t d) (u : Nat) {g : Tile → Tile} (hg : ∀ x, (g x).next = x.next := by intro; rfl) : Held t (d.modTile u g) := by
  by_cases hu : (t : Nat) = u
  · subst hu
    exact ⟨h.holds, h.run, ((congrArg Tile.next (tile_modTile_same d g t.isLt)).trans (hg _)).trans h.next⟩
  · exact h.modTile_ne g hu

theorem ite {p : Prop} [Decidable p] {x y : Dev} (hx : Held t x) (hy : Held t y) : Held t (if p then x else y) := by
  split
  · exact hx
  · exact hy

theorem raise (h : Held t d) (b n : Nat) : Held t (d.raise b n) := by
  unfold Dev.raise
  exact .ite ⟨h.holds, h.run, h.next⟩ h

theorem fault (h : Held t d) (b n : Nat) (l : List Nat) : Held t (d.fault b n l) := by
  have hraised := h.raise b n
  unfold Dev.fault Dev.logFault
  exact .ite ⟨hraised.holds, hraised.run, hraised.next⟩ hraised

theorem sendTo_ne (h : Held t d) {u : Nat} (hu : (t : Nat) ≠ u) (st : Nat) : Held t (d.sendTo u st) :=
  .ite (h.modTile_ne _ hu) ((h.setTst_ne hu st).modTile_ne _ hu)

theorem leaveTest_ne (h : Held t d) {u : Nat} (hu : (t : Nat) ≠ u) : Held t (d.leaveTest u) := by
  unfold Dev.leaveTest
  exact (h.sendTo_ne hu _).modTile_ne _ hu

/-- A self-test of the tile itself, which is not in TEST, ends in its forced ramp. -/
theorem abortTest (h : Held t d) (u : Nat) : Held t (d.abortTest u) := by
  have hstart : Held t (((d.set (F.TILE_TEST_RESULT u) 4).set (F.TILE_CTL_TEST_START u) 0).raise 1 28) :=
    ((h.setTile 0x830 u 4).setTile 0x814 u 0).raise 1 28
  unfold Dev.abortTest
  refine .ite ?_ h
  by_cases hu : (t : Nat) = u
  · subst hu
    rw [if_neg (by simp [hstart.run])]
    exact hstart.modTile t
  · exact .ite (hstart.leaveTest_ne hu) (hstart.modTile u)

theorem abortTests (h : Held t d) (c : Nat) : Held t (d.abortTests c) := h.foldl (fun _ u h => h.abortTest u) _

theorem cancelStagger (h : Held t d) (c : Nat) : Held t (d.cancelStagger c) :=
  (h.foldl (fun _ u h => (h.setTile 0x820 u 0).setTile 0x820 u 0) _).setCourse 0x1018 c 0

theorem endShed (h : Held t d) (c : Nat) : Held t (d.endShed c) := by
  refine .setCourse (.modCourse ?_ ..) 0x1018 c 0
  split
  · exact h.setAbove 0
  · exact h

theorem unshare (h : Held t d) (c : Nat) : Held t (d.unshare c) :=
  .ite (h.set _ (Field.apart_of_addr (by simp only [F.TILE_STAT_STATE, R.TILE_STAT, F.PATH_STAT_SHARERS, R.PATH_STAT]; omega))) h

theorem announceAll (h : Held t d) (c : Nat) (l : List Nat) : Held t (d.announceAll c l) :=
  h.foldl (fun _ u h => .ite (((h.setCourse 0x101C c 1).fault 1 (16 + c) _).modTile u) h) _

theorem tilesHalt (h : Held t d) (c : Nat) (now : Bool) : Held t (d.haltTiles c now) := by
  refine (h.announceAll c (d.tilesOf c)).foldl (fun e u he => ?_) _
  by_cases hu : (t : Nat) = u
  · subst hu
    rw [if_neg (by simp [he.run, he.holds, he.next])]
    exact he
  · exact .ite ((he.modTile_ne _ hu).setTile 0x824 u 0) he

theorem courseHalts (h : Held t d) (c : Nat) (now : Bool) : Held t (d.haltCourse c now) := by
  have hcalm : Held t ((((d.abortTests c).cancelStagger c).endShed c).unshare c) := (((h.abortTests c).cancelStagger c).endShed c).unshare c
  have hmode := ((hcalm.setCourse (x := F.C_MODE_MODE c) 0x1040 c 0).setCourse (x := F.C_RSTAT_DELIVER c) 0x105C c 0).setCourse
    (x := F.C_RSTAT_START_ST c) 0x105C c 0
  have hstat := (hmode.setCourse (x := F.C_RSTAT_ACTIVE c) 0x105C c 0).setCourse (x := F.C_RSTAT_TRACK_WAIT c) 0x105C c 0
  have hdemand := (hstat.setCourse (x := F.C_DEMAND_D c) 0x1058 c 0).setCourse (x := F.C_DEMAND_CODE c) 0x1058 c 0
  have href := (hdemand.setCourse (x := F.C_REF_REF c) 0x1054 c 0).setCourse (x := F.C_REF_FINAL c) 0x1054 c 0
  exact .ite h ((href.modCourse c _).tilesHalt c now)

theorem courseFalls (h : Held t d) (c : Nat) : Held t (d.fallCourse c) :=
  .ite ((((h.setCourse 0x1040 c 0).setCourse 0x105C c 3).abortTests c).modCourse c _) (h.courseHalts c false)

theorem hardStop (h : Held t d) (c : Nat) (now : Bool) : Held t (d.hardStop c now) :=
  .ite h ((h.courseHalts c now).foldl (fun _ k h => h.courseFalls k) _)

/-- A field below the tiles' registers. -/
theorem setLow (h : Held t d) {x : Field} (v : Nat) (hx : x.addr < 0x800 := by decide) : Held t (d.set x v) :=
  h.set v (Field.apart_of_addr (by simp only [F.TILE_STAT_STATE, R.TILE_STAT]; omega))

/-- A field past the tiles' registers. -/
theorem setHigh (h : Held t d) {x : Field} (v : Nat) (hx : 0xC00 ≤ x.addr := by decide) : Held t (d.set x v) :=
  h.set v (Field.apart_of_addr (by simp only [F.TILE_STAT_STATE, R.TILE_STAT]; omega))

/-- A port that is no qualified source is lost with nothing to stop. -/
theorem loseSource (h : Held t d) {p : Nat} (hq : d.qualified p = false) (late : Nat) : Held t (d.loseSource p late) := by
  unfold Dev.loseSource
  rw [if_pos (by simp [hq])]
  exact .ite ((h.setHigh _ (by simp only [F.PORT_STAT_QSTATE, R.PORT_STAT]; omega)).setHigh _ (by simp only [F.PORT_STAT_DEB_MS, R.PORT_STAT]; omega)) h

theorem putServ (h : Held t d) (x : Serv) : Held t (d.putServ x) := ⟨h.holds, h.run, h.next⟩

theorem setFet (h : Held t d) (p : Nat) (b : Bool) : Held t (d.setFet p b) :=
  .ite (h.setHigh _ (by simp only [F.GUARD_STAT_FET_ON, R.GUARD_STAT]; omega)) h

theorem servStop (h : Held t d) : Held t (match d.servCourse with | some c => d.hardStop c false | none => d) := by
  split
  · exact h.hardStop _ false
  · exact h

theorem cancelSeq (h : Held t d) : Held t d.cancelSeq := by
  unfold Dev.cancelSeq Dev.cancelOwn
  exact .putServ (.putServ (.ite (h.setHigh 1) h) _) _

/-- EPR mode ends with no message of the device. -/
theorem leaveEpr (h : Held t d) : Held t (d.leaveEpr false) := by
  unfold Dev.leaveEpr
  exact .ite ((h.setHigh 0).raise 4 26) h

theorem dropPd (h : Held t d) (hq : d.qualified 5 = false) : Held t (d.dropPd false) := by
  unfold Dev.dropPd
  extract_lets had moving sinkC _ ended cleared lost stopped closed told
  have hcleared : Held t cleared := ((Held.putServ h _).setHigh 0 |>.setHigh 0).setHigh 0
  have hqual : cleared.qualified 5 = false := by
    simp only [Dev.qualified, cleared, ended] at hq ⊢
    rw [Dev.f_set_apart _ _ (by decide), Dev.f_set_apart _ _ (by decide), Dev.f_set_apart _ _ (by decide)]
    exact hq
  have hlost : Held t lost := .ite (hcleared.loseSource hqual 0) hcleared
  have hclosed : Held t closed := .ite hlost (hlost.servStop.setFet 5 false)
  have htold : Held t told := .ite ((hclosed.setHigh 1).raise 4 31) hclosed
  exact .ite (htold.raise 4 23) htold

end Held

/-! ### Two states of the service port -/

/-- C4 on SERV in V_PORT, while the hold loop drives its tile 0; with the fields and the service port's part given. -/
def servOnHold (l : List (Field × Nat)) (x : Serv) : Dev :=
  ((runningWith (l ++ [(F.C_MAP_ENABLE 4, 1), (F.C_MAP_PORT 4, 5), (F.C_MODE_MODE 4, 2), (F.TILE_MAP_COURSE 0, 4), (F.TILE_MAP_ROLE 0, 1),
    (F.TILE_STAT_STATE 0, 3), (F.PD_STAT_ATTACHED, 1)])).putSys { holdMap := [0], holdRuns := true }).putServ x

/-- A pre-bias runs. -/
def prebiasOnHold : Dev := servOnHold [] { prebias := some 500 }

/-- As Sink the device has a contract. -/
def sinkOnHold : Dev := servOnHold [(F.PORT_STAT_CONTRACT 4, 1)] { inForce := true }

theorem exec_servPrebiasTimeout (s : State) : exec .servPrebiasTimeout s = done s (prebiasTimeout s.dev) := rfl

theorem exec_pdHardReset (own : Bool) (s : State) : exec (.pdHardReset own) s = done s (hardReset s.dev own) := rfl

theorem held_prebiasTimeout_prebiasOnHold : Held (0 : Fin 16) (prebiasTimeout prebiasOnHold) := by
  have hheld : Held (0 : Fin 16) (prebiasOnHold.putServ {}) := ⟨by decide, by decide, by decide⟩
  unfold prebiasTimeout
  rw [if_neg (by decide)]
  exact ((((hheld.servStop.setFet 5 false).setHigh _).setHigh _).setHigh _).setHigh _

theorem held_hardReset_sinkOnHold : Held (0 : Fin 16) (hardReset sinkOnHold false) := by
  have hcounted : Held (0 : Fin 16) ((sinkOnHold.incSat F.PD_CNT_HARD_RESETS).raise 4 27) := Held.raise ⟨by decide, by decide, by decide⟩ 4 27
  unfold hardReset
  rw [if_neg (by decide)]
  extract_lets counted cancelled ready source sink
  have hready : Held (0 : Fin 16) ready := hcounted.cancelSeq.leaveEpr.putServ _
  rw [if_neg (by decide), if_neg (by decide)]
  exact (hready.dropPd (by decide)).setHigh 6

end Sys2Proof.Machine

open Sys2Proof Sys2Proof.Machine

/-- Refutes O26: a pre-bias that stays out is to send every tile in RUN to ARMED. The hypotheses let the hold loop drive a tile, which no course has then: so
in the state `prebiasOnHold`. -/
theorem not_serviceAttach : ¬ Obligations.ServiceAttach := by
  unfold Obligations.ServiceAttach
  intro h
  obtain ⟨-, -, -, -, -, halone, -⟩ := h false false 0 0 4 { dev := prebiasOnHold } (by decide) (by decide)
  obtain ⟨-, htimeout, -⟩ := halone (by decide) (by decide)
  obtain ⟨⟨-, -, -, htiles⟩, -⟩ := (htimeout (by decide) (by decide)).pending.of_exec (exec_servPrebiasTimeout _)
  obtain ⟨hnext, -⟩ := htiles 0 (by decide) (by decide)
  rw [tile_finish] at hnext
  exact absurd (held_prebiasTimeout_prebiasOnHold.next.symm.trans hnext) (by decide)

/-- Refutes O28: a Hard Reset as Sink is to send every tile in RUN to ARMED. The hypotheses let the hold loop drive a tile, which no course has then: so in
the state `sinkOnHold`. -/
theorem not_pdSwapsAndResets : ¬ Obligations.PdSwapsAndResets := by
  unfold Obligations.PdSwapsAndResets
  intro h
  obtain ⟨-, -, -, -, -, -, halone, -⟩ := h false false false ⟨.drSwap, false, 0⟩ 4 { dev := sinkOnHold } (by decide) (by decide) (by decide)
  obtain ⟨-, hreset⟩ := halone (by decide) (by decide) (by decide) (by decide) (by decide) (by decide) (by decide)
  obtain ⟨⟨-, -, -, htiles⟩, -⟩ := (hreset (by decide) (by decide) (by decide)).pending.of_exec (exec_pdHardReset false _)
  obtain ⟨hnext, -⟩ := htiles 0 (by decide) (by decide)
  rw [tile_finish] at hnext
  exact absurd (held_hardReset_sinkOnHold.next.symm.trans hnext) (by decide)
end
section
/-! Frames on a segment: what sending and accepting one changes, and the frame that waits on a busy line (R219, R226 to R231). -/
namespace Sys2Proof.Machine

variable {d e : Dev}

/-! ### Segments -/

theorem sg_modSeg_same {n : Nat} (d : Dev) (g : Segment → Segment) (hn : n < 2) : (d.modSeg n g).sg n = g (d.sg n) := vget_vset_same _ _ hn

theorem sg_modSeg_ne {n k : Nat} (d : Dev) (g : Segment → Segment) (h : k ≠ n) : (d.modSeg n g).sg k = d.sg k := vget_vset_ne _ _ h

/-- A change of a segment that keeps a view of it keeps that view of every segment. -/
theorem sg_modSeg_view {α : Type} {v : Segment → α} {g : Segment → Segment} (hg : ∀ x, v (g x) = v x) (d : Dev) (n k : Nat) :
    v ((d.modSeg n g).sg k) = v (d.sg k) := by
  by_cases hk : k = n
  · by_cases hn : n < 2
    · rw [hk, sg_modSeg_same d g hn, hg]
    · simp only [Dev.sg, Dev.modSeg, Dev.putRing, vget, vset]
      rw [Vector.getElem?_eq_none (by omega), Vector.getElem?_eq_none (by omega)]
  · rw [sg_modSeg_ne d g hk]

@[simp] theorem f_modSeg (d : Dev) (n : Nat) (g : Segment → Segment) (x : Field) : (d.modSeg n g).f x = d.f x := rfl
@[simp] theorem raised_modSeg (d : Dev) (n : Nat) (g : Segment → Segment) : (d.modSeg n g).raised = d.raised := rfl
@[simp] theorem sg_set (d : Dev) (x : Field) (v k : Nat) : (d.set x v).sg k = d.sg k := rfl
@[simp] theorem sg_raise (d : Dev) (b n k : Nat) : (d.raise b n).sg k = d.sg k := congrArg (fun r : Ring => vget r.seg k) (Dev.raise_ring ..)

theorem keeps.modSeg {fs : List Field} {ps : List Part} (n : Nat) (g : Segment → Segment) (hp : ps.contains .ring = true) (h : keeps fs ps d e) :
    keeps fs ps d (e.modSeg n g) := h.putRing _ hp

/-! ### Traffic (R219, R228) -/

/-- A segment without the traffic on it: the terms that are negotiated there, and what the link has heard of the exchange of HELLOs. -/
def Segment.terms (g : Segment) : Segment :=
  { g with idle := true, queue := [], own := [], out := none, aside := [], wire := none, answer := none, line := [], seen := [] }

/-- The ring without its segments, its routes and its SEQ. -/
def Ring.apart (r : Ring) : Ring := { r with seq := 0, seg := Vector.replicate 2 {}, routes := [] }

/-- `e` is `d` but for traffic on the segments: no term of a negotiation, no flow and no EMERG of the unit has changed, and nothing outside the ring. -/
structure Traffic (d e : Dev) : Prop where
  only : e = d.putRing e.ring
  apart : e.ring.apart = d.ring.apart
  terms : ∀ k, (e.sg k).terms = (d.sg k).terms

namespace Traffic

theorem refl (d : Dev) : Traffic d d := ⟨rfl, rfl, fun _ => rfl⟩

theorem trans {c : Dev} (h : Traffic d e) (g : Traffic e c) : Traffic d c :=
  ⟨g.only.trans (congrArg (fun x : Dev => x.putRing c.ring) h.only :), g.apart.trans h.apart, fun k => (g.terms k).trans (h.terms k)⟩

theorem ite {p : Prop} [Decidable p] {x y : Dev} (hx : Traffic d x) (hy : Traffic d y) : Traffic d (if p then x else y) := by
  split
  · exact hx
  · exact hy

theorem modSeg (h : Traffic d e) (n : Nat) {g : Segment → Segment} (hg : ∀ x, (g x).terms = x.terms := by intro; rfl) : Traffic d (e.modSeg n g) :=
  h.trans ⟨rfl, rfl, sg_modSeg_view hg e n⟩

theorem putRing (h : Traffic d e) {r : Ring} (hr : r.apart = e.ring.apart := by rfl) (hs : r.seg = e.ring.seg := by rfl) : Traffic d (e.putRing r) :=
  h.trans ⟨rfl, hr, fun k => congrArg (fun v => (vget v k).terms) hs⟩

theorem f (h : Traffic d e) (x : Field) : e.f x = d.f x := by rw [h.only]; rfl
theorem raised (h : Traffic d e) : e.raised = d.raised := by rw [h.only]; rfl
theorem pw (h : Traffic d e) : e.pw = d.pw := by rw [h.only]; rfl
theorem running (h : Traffic d e) : e.running = d.running := by rw [h.only]; rfl
theorem alive (h : Traffic d e) : e.alive = d.alive := by rw [h.only]; rfl
theorem supervisor (h : Traffic d e) : e.supervisor = d.supervisor := by rw [h.only]; rfl
theorem addr (h : Traffic d e) : e.addr = d.addr := h.f _
theorem lstate (h : Traffic d e) (n : Nat) : e.lstate n = d.lstate n := h.f _
theorem cstate (h : Traffic d e) (n : Nat) : e.cstate n = d.cstate n := h.f _
theorem crole (h : Traffic d e) (n : Nat) : e.crole n = d.crole n := h.f _
theorem flows (h : Traffic d e) : e.ring.flows = d.ring.flows := (congrArg Ring.flows h.apart :)
theorem emergOut (h : Traffic d e) : e.ring.emergOut = d.ring.emergOut := (congrArg Ring.emergOut h.apart :)
theorem emergSeen (h : Traffic d e) : e.ring.emergSeen = d.ring.emergSeen := (congrArg Ring.emergSeen h.apart :)
theorem esn (h : Traffic d e) : e.ring.esn = d.ring.esn := (congrArg Ring.esn h.apart :)
theorem flow (h : Traffic d e) (i : Nat) : e.flow i = d.flow i := congrArg (fun m => Sparse.get (fun _ => ({} : FlowCtx)) m i) h.flows
theorem offer (h : Traffic d e) (n : Nat) : (e.sg n).offer = (d.sg n).offer := (congrArg Segment.offer (h.terms n) :)
theorem offerOwn (h : Traffic d e) (n : Nat) : (e.sg n).offerOwn = (d.sg n).offerOwn := (congrArg Segment.offerOwn (h.terms n) :)
theorem asked (h : Traffic d e) (n : Nat) : (e.sg n).asked = (d.sg n).asked := (congrArg Segment.asked (h.terms n) :)
theorem pend (h : Traffic d e) (n : Nat) : (e.sg n).pend = (d.sg n).pend := (congrArg Segment.pend (h.terms n) :)
theorem pendSource (h : Traffic d e) (n : Nat) : (e.sg n).pendSource = (d.sg n).pendSource := (congrArg Segment.pendSource (h.terms n) :)
theorem swapOut (h : Traffic d e) (n : Nat) : (e.sg n).swapOut = (d.sg n).swapOut := (congrArg Segment.swapOut (h.terms n) :)

theorem keeps {c : Dev} {fs : List Field} {ps : List Part} (h : Traffic d e) (hp : ps.contains .ring = true) (hk : keeps fs ps c d) : keeps fs ps c e := by
  rw [h.only]
  exact hk.putRing _ hp

/-! ### Sending (R219, R228 to R231) -/

theorem drive1 (h : Traffic d e) (n : Nat) (x : Frame) : Traffic d (e.drive1 n x) := h.modSeg n
theorem onLine (h : Traffic d e) (n : Nat) (o : Outgoing) : Traffic d (e.onLine n o) := h.modSeg n

theorem sendAgain (h : Traffic d e) (n : Nat) (o : Outgoing) : Traffic d (e.sendAgain n o) := .ite (((h.modSeg n).drive1 n _).onLine n o) h

theorem segStart (h : Traffic d e) (n : Nat) : Traffic d (e.segStart n) := by
  unfold Dev.segStart
  refine .ite h ?_
  split
  · exact h.sendAgain n _
  · split
    · exact ((h.drive1 n _).onLine n _).modSeg n
    · split
      · exact .ite h ((h.drive1 n _).modSeg n)
      · split
        · exact h
        · exact (h.drive1 n _).modSeg n

theorem originate (h : Traffic d e) (n typ dst prio : Nat) (data : List Byte) : Traffic d (e.originate n typ dst prio data) :=
  .ite h ((Traffic.modSeg (Traffic.putRing h) n).segStart n)

theorem sendRouted (h : Traffic d e) (typ dst prio : Nat) (data : List Byte) : Traffic d (e.sendRouted typ dst prio data) :=
  .originate (.putRing h) ..

theorem sendNeigh (h : Traffic d e) (n typ : Nat) (data : List Byte) : Traffic d (e.sendNeigh n typ data) := h.originate ..

theorem reply (h : Traffic d e) (typ dst refTyp refSeq arg : Nat) : Traffic d (e.reply typ dst refTyp refSeq arg) := h.sendRouted ..

theorem sendHardclose (h : Traffic d e) (n reason : Nat) : Traffic d (e.sendHardclose n reason) := .ite (h.sendNeigh ..) h

theorem answerTo (h : Traffic d e) (n : Nat) (x : Frame) (typ : Nat) (data : List Byte) : Traffic d (e.answerTo n x typ data) :=
  (Traffic.modSeg h n).onLine n _

theorem learn (h : Traffic d e) (n src : Nat) : Traffic d (e.learn n src) := h.putRing

theorem acceptFrame (h : Traffic d e) (n : Nat) (x : Frame) : Traffic d (e.acceptFrame n x) := ((Traffic.modSeg h n).learn n _).answerTo n x 2 []

end Traffic

/-! ### A frame for this unit (R226 to R230) -/

/-- Something is heard on segment `n`, whose line is busy with it. -/
def Dev.hears (d : Dev) (n : Nat) : Dev := d.modSeg n fun g => { g with idle := false }

theorem Traffic.hears (h : Traffic d e) (n : Nat) : Traffic d (e.hears n) := Traffic.modSeg h n

/-- The unit has heard frame `x` on segment `n` and accepted it. -/
def Dev.accepted (d : Dev) (n : Nat) (x : Frame) : Dev := (d.hears n).acceptFrame n x

theorem Traffic.accepted (h : Traffic d e) (n : Nat) (x : Frame) : Traffic d (e.accepted n x) := (h.hears n).acceptFrame n x

theorem heard_running (hrun : d.running = true) (n : Nat) (x : Option Frame) (bytes : List Byte) (act : Dev → Dev) :
    d.heard n x bytes act = act (d.hears n) := by
  rw [Dev.heard, if_pos hrun]
  rfl

theorem listens_hears (hl : d.listens n = true) : (d.hears n).listens n = true := hl

theorem repeats_hears (d : Dev) (n : Nat) (x : Frame) : (d.hears n).repeats n x = d.repeats n x :=
  congrArg (fun l : List (Nat × Nat) => l.contains (x.src, x.seq)) (sg_modSeg_view (v := Segment.seen) (g := fun g => { g with idle := false }) (fun _ => rfl) d n n)

/-- A frame for this unit goes no further. -/
theorem forwards_own {x : Frame} (hdst : x.dst = d.addr) (n : Nat) : d.forwards n x = false := by simp [Dev.forwards, hdst]

/-- A frame for this unit, from another, with a SEQ of its own, is accepted, and the unit does with it what its type says. -/
theorem receive_accepted {n : Nat} {x : Frame} (hl : d.listens n = true) (hr : d.repeats n x = false) (hdst : x.dst = d.addr) (hsrc : x.src ≠ d.addr)
    (act : Dev → Dev) : d.receive n x true act = act (d.accepted n x) := by
  obtain ⟨hrun, -⟩ := Bool.and_eq_true_iff.1 hl
  have hlisten := listens_hears hl
  have hseen := (repeats_hears d n x).trans hr
  have hforward : (d.hears n).forwards n x = false := forwards_own (hdst.trans ((Traffic.refl d).hears n).addr.symm) n
  have hcross : ((d.hears n).acceptFrame n x).crossedRing x = false := by
    have haddr := ((Traffic.refl d).accepted n x).addr
    simp [Dev.crossedRing, ← haddr, Dev.accepted] at hsrc ⊢
    exact fun _ h => absurd h hsrc
  rw [Dev.receive, heard_running hrun]
  simp only [hlisten, hseen, hforward, hcross, Bool.not_true, Bool.false_and, Bool.false_eq_true, if_false]
  rfl

/-- The frame reaches this unit. -/
theorem delivered_own {x : Frame} (hdst : x.dst = d.addr) (hsrc : x.src ≠ d.addr) : d.delivered x = true := by
  simp [Dev.delivered, hdst, hsrc]

section
variable {n : Nat} (x : Frame)

theorem sg_accepted (d : Dev) (hn : n < 2) : ((d.accepted n x).sg n).idle = false ∧ ((d.accepted n x).sg n).own = (d.sg n).own ∧
    ((d.accepted n x).sg n).out = (d.sg n).out := by
  unfold Dev.accepted Dev.hears Dev.acceptFrame Dev.ack Dev.answerTo Dev.onLine
  rw [sg_modSeg_same _ _ hn, sg_modSeg_same _ _ hn]
  have hlearn : ∀ c : Dev, (c.learn n x.src).sg n = c.sg n := fun _ => rfl
  rw [hlearn, Dev.remember, sg_modSeg_same _ _ hn, sg_modSeg_same _ _ hn]
  exact ⟨rfl, rfl, rfl⟩

theorem seq_accepted (d : Dev) (n : Nat) : (d.accepted n x).ring.seq = d.ring.seq := rfl

/-- The route to the frame's SRC leads over its segment. -/
theorem route_accepted (d : Dev) (n : Nat) : (d.accepted n x).route x.src = n := by
  have hroutes : ∃ l, (d.accepted n x).ring.routes = (x.src, n) :: l := ⟨_, rfl⟩
  obtain ⟨l, hl⟩ := hroutes
  rw [Dev.route, hl]
  simp

theorem hasOwn_accepted (d : Dev) (hn : n < 2) (typ : Nat) : (d.accepted n x).hasOwn n typ = d.hasOwn n typ := by
  obtain ⟨-, hown, hout⟩ := sg_accepted x d hn
  have haddr := ((Traffic.refl d).accepted n x).addr
  rw [Dev.hasOwn, Dev.hasOwn, hown, hout, haddr]

end

/-! ### A busy line (R219) -/

/-- On a busy line nothing starts. -/
theorem segStart_busy {n : Nat} (h : (d.sg n).idle = false) : d.segStart n = d := by
  unfold Dev.segStart
  rw [if_pos (by simp [h])]

/-- A frame for a busy line waits at the end of the unit's own. -/
theorem own_originate_busy {n typ dst prio : Nat} {data : List Byte} (hn : n < 2) (haddr : d.addr ≠ 0) (hbusy : (d.sg n).idle = false) :
    ((d.originate n typ dst prio data).sg n).own =
      (d.sg n).own ++ [{ dst := dst, src := d.addr, typ := typ, prio := prio, seq := d.ring.seq, data := data }] := by
  unfold Dev.originate
  rw [if_neg (by simp [haddr])]
  rw [segStart_busy (by rw [sg_modSeg_same _ _ hn]; exact hbusy), sg_modSeg_same _ _ hn]
  rfl

theorem own_sendRouted_busy {typ dst prio : Nat} {data : List Byte} (hn : d.route dst < 2) (haddr : d.addr ≠ 0)
    (hbusy : (d.sg (d.route dst)).idle = false) :
    ((d.sendRouted typ dst prio data).sg (d.route dst)).own =
      (d.sg (d.route dst)).own ++ [{ dst := dst, src := d.addr, typ := typ, prio := prio, seq := d.ring.seq, data := data }] :=
  own_originate_busy (d := d.putRing _) hn haddr hbusy

end Sys2Proof.Machine
end
section
/-! A role swap while the hold loop drives a tile of the old source's course (R143, R157, R242). -/
namespace Sys2Proof.Machine

variable {d e : Dev} {t : Fin 16}

theorem Held.traffic (h : Held t d) (g : Traffic d e) : Held t e := by
  rw [g.only]
  exact ⟨h.holds, h.run, h.next⟩

theorem Held.modSeg (h : Held t d) (n : Nat) (g : Segment → Segment) : Held t (d.modSeg n g) := ⟨h.holds, h.run, h.next⟩

/-- The old source gives up its role on EAST. -/
theorem Held.beginSwap (h : Held t d) (hrole : d.crole 0 ≠ 2) (v i : Nat) : Held t (d.beginSwap 0 v i false) := by
  unfold Dev.beginSwap
  extract_lets p source forced cleared roles swapping
  have hforced : forced = d := if_neg (by simp)
  have hcleared : Held t cleared := by
    simp only [cleared, hforced]
    exact (h.modSeg 0 _).setHigh 0
  have hroles : Held t roles := ((hcleared.setHigh _).setHigh v).setHigh i
  have hswapping : Held t swapping := (hroles.setHigh 4).modSeg 0 _
  rw [if_neg (by simp [source, hrole])]
  split
  · exact hswapping.hardStop _ false
  · exact hswapping

/-- A SWAP_ACK that answers the unit's SWAP_REQ. -/
theorem swapAckRx_accepted {n : Nat} {f : RxFrame} {o : SwapReq} (hl : d.listens n = true) (hr : d.repeats n (rxFrame f 17) = false) (hdst : f.dst = d.addr)
    (hsrc : f.src ≠ d.addr) (hlen : f.data.length = 1) (hasked : (d.sg n).swapOut = some o) (hactive : d.cstate n = 2) (hseq : beAt f.data 0 1 = o.seq) :
    swapAckRx d n f = (d.accepted n (rxFrame f 17)).beginSwap n o.v o.i o.force := by
  have haccepted := (Traffic.refl d).accepted n (rxFrame f 17)
  have hmine : (d.accepted n (rxFrame f 17)).delivered (rxFrame f 17) = true :=
    delivered_own (hdst.trans haccepted.addr.symm) fun h => hsrc (h.trans haccepted.addr)
  rw [swapAckRx, show (f.data.length == 1) = true by simp [hlen], receive_accepted hl hr hdst hsrc]
  simp [haccepted.swapOut, hasked, hmine, haccepted.cstate, hactive, hseq]

theorem exec_ringSwapAckRx (g : Fin 2) (f : RxFrame) (s : State) : exec (.ringSwapAckRx g f) s = done s (swapAckRx s.dev g f) := rfl

/-- C2 on EAST in V_PORT, the source of a contract with a SWAP_REQ outstanding, while the hold loop drives its tile 0. -/
def swapOnHold : Dev :=
  ((runningWith [(F.C_MAP_ENABLE 2, 1), (F.C_MAP_PORT 2, 3), (F.C_MODE_MODE 2, 2), (F.TILE_MAP_COURSE 0, 2), (F.TILE_MAP_ROLE 0, 1), (F.TILE_STAT_STATE 0, 3),
    (F.RING_ADDR_ADDR, 0x11), (F.SEG_STAT_LSTATE 0, 2), (F.SEG_STAT_CSTATE 0, 2), (F.SEG_STAT_CROLE 0, 1)]).putSys
      { holdMap := [0], holdRuns := true }).modSeg 0 fun g => { g with swapOut := some { v := 500, i := 100, force := false, seq := 7 } }

/-- The SWAP_ACK that grants it. -/
def swapAck : RxFrame := { dst := 0x11, src := 0x22, data := beBytes 1 7 }

theorem held_swapAckRx_swapOnHold : Held (0 : Fin 16) (swapAckRx swapOnHold 0 swapAck) := by
  have hheld : Held (0 : Fin 16) swapOnHold := ⟨by decide, by decide, by decide⟩
  have haccepted := (Traffic.refl swapOnHold).accepted 0 (rxFrame swapAck 17)
  rw [swapAckRx_accepted (o := { v := 500, i := 100, force := false, seq := 7 }) (by decide) (by decide) (by decide) (by decide) (by decide) (by decide)
    (by decide) (by decide)]
  exact (hheld.traffic haccepted).beginSwap (by rw [haccepted.crole]; decide) 500 100

end Sys2Proof.Machine

open Sys2Proof Sys2Proof.Machine

/-- Refutes O23: the old source's course that stops at a swap is to send every tile in RUN to ARMED. The hypotheses let the hold loop drive a tile, which no
course has then: so in the state `swapOnHold`. -/
theorem not_contractDropsAndSwaps : ¬ Obligations.ContractDropsAndSwaps := by
  unfold Obligations.ContractDropsAndSwaps
  rintro ⟨-, h⟩
  obtain ⟨-, halone, -⟩ := h 0 swapAck 2 { v := 500, i := 100, force := false, seq := 7 } { dev := swapOnHold } (by decide) (by decide) (by decide)
  obtain ⟨-, hswap⟩ := halone (by decide) (by decide) (by decide) (by decide) (by decide) (by decide) (by decide) (by decide)
  have heffect := hswap (by decide) (by decide) (by decide) (by decide) (by decide) (by decide) (by decide)
  obtain ⟨⟨-, -, -, -, -, -, -, htiles⟩, -⟩ := heffect.pending.of_exec (exec_ringSwapAckRx 0 swapAck _)
  obtain ⟨hnext, -⟩ := htiles 0 (by decide) (by decide)
  rw [tile_finish] at hnext
  exact absurd (held_swapAckRx_swapOnHold.next.symm.trans hnext) (by decide)
end
section
/-! Flow contexts: what opens, updates, uses up and frees one, and what of the rest of the device it leaves alone (R243 to R246). -/
namespace Sys2Proof.Machine

variable {d e : Dev} {s : State} {i k : Nat} {x : FlowCtx}

/-! ### The flow store (R243) -/

theorem flow_setFlow_same (d : Dev) (i : Nat) (x : FlowCtx) : (d.setFlow i x).flow i = x := Sparse.get_set_same ..

theorem flow_setFlow_ne (d : Dev) (x : FlowCtx) (h : k ≠ i) : (d.setFlow i x).flow k = d.flow k := Sparse.get_set_ne _ _ _ h

@[simp] theorem raised_setFlow (d : Dev) (i : Nat) (x : FlowCtx) : (d.setFlow i x).raised = d.raised := rfl

@[simp] theorem flow_raise (d : Dev) (b n i : Nat) : (d.raise b n).flow i = d.flow i := by rw [Dev.flow, Dev.raise_ring]; rfl

theorem keeps.setFlow {c : Dev} {fs : List Field} {ps : List Part} (i : Nat) (x : FlowCtx) (hx : F.FLOW_STAT_IN_USE ∈ fs) (hp : ps.contains .ring = true)
    (h : keeps fs ps c d) : keeps fs ps c (d.setFlow i x) := (h.putRing _ hp).set _ hx

/-- Work on flow context `i` alone: no other context changes, no field but IN_USE, no negotiation, nothing of the power state, and no event is lost. -/
structure FlowWork (i : Nat) (d e : Dev) : Prop where
  field  : ∀ y : Field, y.apart F.FLOW_STAT_IN_USE = true → e.f y = d.f y
  flows  : ∀ k, k ≠ i → e.flow k = d.flow k
  terms  : ∀ n, (e.sg n).terms = (d.sg n).terms
  pw     : e.pw = d.pw
  raised : ∀ p ∈ d.raised, p ∈ e.raised

namespace FlowWork

theorem refl : FlowWork i d d := ⟨fun _ _ => rfl, fun _ _ => rfl, fun _ => rfl, rfl, fun _ h => h⟩

theorem ite {p : Prop} [Decidable p] {a b : Dev} (ha : FlowWork i d a) (hb : FlowWork i d b) : FlowWork i d (if p then a else b) := by
  split
  · exact ha
  · exact hb

theorem traffic {c : Dev} (h : FlowWork i d e) (g : Traffic e c) : FlowWork i d c where
  field y hy := (g.f y).trans (h.field y hy)
  flows k hk := (g.flow k).trans (h.flows k hk)
  terms n := (g.terms n).trans (h.terms n)
  pw := g.pw.trans h.pw
  raised p hp := by rw [g.raised]; exact h.raised p hp

theorem setFlow (h : FlowWork i d e) (x : FlowCtx) : FlowWork i d (e.setFlow i x) where
  field y hy := (Dev.f_set_apart _ _ hy).trans (h.field y hy)
  flows k hk := (flow_setFlow_ne e x hk).trans (h.flows k hk)
  terms := h.terms
  pw := h.pw
  raised := h.raised

theorem raise (h : FlowWork i d e) (b n : Nat) : FlowWork i d (e.raise b n) where
  field y hy := (Dev.f_raise e b n y).trans (h.field y hy)
  flows k hk := (flow_raise e b n k).trans (h.flows k hk)
  terms n := by rw [sg_raise]; exact h.terms n
  pw := (Dev.raise_pw e b n).trans h.pw
  raised := fun p hp => by
    unfold Dev.raise
    split
    · exact List.mem_append_left _ (h.raised p hp)
    · exact h.raised p hp

theorem freeCtx (h : FlowWork i d e) : FlowWork i d (e.freeCtx i) := by
  unfold Dev.freeCtx
  exact .ite ((h.setFlow {}).raise 4 11) (h.setFlow {})

theorem openOn (h : FlowWork i d e) (n : Nat) (x : FlowCtx) : FlowWork i d (e.openOn i n x) := by
  unfold Dev.openOn
  exact (h.setFlow _).traffic ((Traffic.refl _).originate ..)

theorem reroute (h : FlowWork i d e) (x : FlowCtx) (reason : Nat) : FlowWork i d (e.reroute i x reason) := by
  unfold Dev.reroute
  exact .ite (h.openOn _ x) h

theorem sendFlowClose (h : FlowWork i d e) (dst : Nat) (x : FlowCtx) (reason : Nat) (dead : Option Nat) :
    FlowWork i d (e.sendFlowClose dst x reason dead) := by
  unfold Dev.sendFlowClose
  exact .ite (h.traffic ((Traffic.refl _).sendRouted ..)) h

theorem endFlow (h : FlowWork i d e) (reason : Nat) (dead : Option Nat) : FlowWork i d (e.endFlow i reason dead) := by
  unfold Dev.endFlow
  extract_lets x told closed freed
  have htold : FlowWork i d told := .ite (h.sendFlowClose ..) h
  have hclosed : FlowWork i d closed := .ite (htold.sendFlowClose ..) htold
  exact .ite h (.ite (hclosed.freeCtx.reroute ..) hclosed.freeCtx)

theorem tickFlow (h : FlowWork i d e) : FlowWork i d (e.tickFlow i) := by
  unfold Dev.tickFlow
  extract_lets x residue used ticked refreshed
  have hticked : FlowWork i d ticked := h.setFlow used
  exact .ite h (.ite (hticked.endFlow ..) (.ite ((hticked.raise 4 13).endFlow ..)
    (.ite ((hticked.setFlow refreshed).traffic ((Traffic.refl _).sendRouted ..)) hticked)))

end FlowWork

/-! ### A flow that has ended is not OPEN (R246) -/

theorem state_openOn (d : Dev) (i n : Nat) (x : FlowCtx) : ((d.openOn i n x).flow i).state = 1 := by
  unfold Dev.openOn
  rw [((Traffic.refl _).originate ..).flow, flow_setFlow_same]

theorem flow_freeCtx (d : Dev) (i : Nat) : (d.freeCtx i).flow i = {} := by
  unfold Dev.freeCtx
  extract_lets opened freed
  have hfreed : freed.flow i = {} := flow_setFlow_same d i {}
  split
  · rw [flow_raise, hfreed]
  · exact hfreed

theorem state_reroute (h : (d.flow i).state ≠ 2) (x : FlowCtx) (reason : Nat) : ((d.reroute i x reason).flow i).state ≠ 2 := by
  unfold Dev.reroute
  extract_lets n
  split
  · rw [state_openOn]
    omega
  · exact h

theorem state_endFlow (d : Dev) (i reason : Nat) (dead : Option Nat) : ((d.endFlow i reason dead).flow i).state ≠ 2 := by
  unfold Dev.endFlow
  extract_lets x told closed freed
  have hfreed : (freed.flow i).state ≠ 2 := by simp [freed, flow_freeCtx]
  split
  next hfree => simp [show (d.flow i).state = 0 by simpa [x] using hfree]
  next => split
          · exact state_reroute hfreed _ _
          · exact hfreed

/-! ### A millisecond of a flow (R246) -/

/-- A flow that is OPEN after its millisecond has an allowance, and its age is within the limit. -/
theorem tickFlow_bounds (d : Dev) (i : Nat) (h : ((d.tickFlow i).flow i).state = 2) :
    ((d.tickFlow i).flow i).allow ≠ 0 ∧ ((d.tickFlow i).flow i).age ≤ 10 * d.f F.RING_CFG_FLOW_AGE := by
  have hlimit (y : FlowCtx) : (d.setFlow i y).f F.RING_CFG_FLOW_AGE = d.f F.RING_CFG_FLOW_AGE := Dev.f_set_apart _ _ (by decide)
  revert h
  unfold Dev.tickFlow
  extract_lets x residue used ticked refreshed
  split
  · intro h
    simp_all [x]
  split
  · exact fun h => absurd h (state_endFlow _ _ _ _)
  split
  · exact fun h => absurd h (state_endFlow _ _ _ _)
  rename_i hallow hage
  have hused : ticked.flow i = used := flow_setFlow_same d i used
  rw [hlimit] at hage
  have hbounds : used.allow ≠ 0 ∧ used.age ≤ 10 * d.f F.RING_CFG_FLOW_AGE := ⟨by simpa using hallow, by omega⟩
  split
  · rw [((Traffic.refl _).sendRouted ..).flow, flow_setFlow_same]
    exact fun _ => ⟨hbounds.1, Nat.zero_le _⟩
  · rw [hused]
    exact fun _ => hbounds

theorem flowTicks_others {l : List Nat} (d : Dev) (hk : k ∉ l) : (l.foldl Dev.tickFlow d).flow k = d.flow k := by
  induction l generalizing d with
  | nil => rfl
  | cons i l ih =>
    obtain ⟨hi, hl⟩ : k ≠ i ∧ k ∉ l := by simpa using hk
    exact (ih _ hl).trans (FlowWork.refl.tickFlow.flows k hi)

/-- Of the flows that take their millisecond one after another, one that is OPEN at the end has kept within its bounds. -/
theorem flowTicks_bounds {l : List Nat} (d : Dev) (hk : k ∈ l) (hopen : ((l.foldl Dev.tickFlow d).flow k).state = 2) :
    ((l.foldl Dev.tickFlow d).flow k).allow ≠ 0 ∧ ((l.foldl Dev.tickFlow d).flow k).age ≤ 10 * d.f F.RING_CFG_FLOW_AGE := by
  induction l generalizing d with
  | nil => exact absurd hk List.not_mem_nil
  | cons i l ih =>
    rw [List.foldl_cons] at hopen ⊢
    by_cases hl : k ∈ l
    · rw [← (FlowWork.refl (i := i)).tickFlow.field F.RING_CFG_FLOW_AGE (by decide)]
      exact ih _ hl hopen
    · obtain rfl : k = i := (List.mem_cons.1 hk).resolve_right hl
      rw [flowTicks_others _ hl] at hopen ⊢
      exact tickFlow_bounds d k hopen

/-! ### The courses that flows enter through (R247) -/

theorem courseKept_flowModes (d : Dev) : CourseKept d d.flowModes := by
  refine CourseKept.refl.foldl _ fun e n _ he => ?_
  dsimp only
  split
  · exact he
  next c hc =>
    have hlt := courseOf_lt hc
    exact .ite he (.ite (.ite (he.stopCourse hlt) he) (.ite (he.giveMode hlt ..) he))

theorem flow_flowModes (d : Dev) (i : Nat) : d.flowModes.flow i = d.flow i :=
  congrArg (fun r : Ring => Sparse.get (fun _ => ({} : FlowCtx)) r.flows i) (courseKept_flowModes d).ring

/-- Where no course stands on a ring port, no course follows the flows. -/
theorem flowModes_none (heast : d.courseOf 3 = none) (hwest : d.courseOf 4 = none) : d.flowModes = d := by
  have hrange : List.range 2 = [0, 1] := rfl
  simp [Dev.flowModes, Dev.each, hrange, heast, hwest]

theorem courseOf_flowWork (h : ∀ y : Field, y.apart F.FLOW_STAT_IN_USE = true → e.f y = d.f y) (q : Nat) : e.courseOf q = d.courseOf q := by
  have hport (c : Nat) : e.f (F.C_MAP_PORT c) = d.f (F.C_MAP_PORT c) :=
    h _ (Field.apart_of_addr (by simp only [F.C_MAP_PORT, R.C_MAP, F.FLOW_STAT_IN_USE, R.FLOW_STAT]; omega))
  have henable (c : Nat) : e.f (F.C_MAP_ENABLE c) = d.f (F.C_MAP_ENABLE c) :=
    h _ (Field.apart_of_addr (by simp only [F.C_MAP_ENABLE, R.C_MAP, F.FLOW_STAT_IN_USE, R.FLOW_STAT]; omega))
  simp only [Dev.courseOf, Dev.portCode, Dev.on, hport, henable]

theorem FlowWork.flowModes (h : FlowWork i d e) (heast : d.courseOf 3 = none) (hwest : d.courseOf 4 = none) : e.flowModes = e :=
  flowModes_none ((courseOf_flowWork h.field 3).trans heast) ((courseOf_flowWork h.field 4).trans hwest)

/-! ### A FLOW_OPEN at its provider (R244, R245) -/

theorem exec_ringFlowOpenRx (g : Fin 2) (f : RxFrame) (ans : FlowAnswer) (s : State) :
    exec (.ringFlowOpenRx g f ans) s = done s (flowOpenRx s.dev g f ans) := rfl

/-- The context that the provider of the flow of frame `f` from segment `n` holds. -/
def providerFlow (n : Nat) (f : RxFrame) : FlowCtx :=
  { role := 0, state := 2, consumer := f.src, provider := f.dst, flowId := beAt f.data 0 2, rate := beAt f.data 4 2, rateMax := beAt f.data 6 2,
    allow := beAt f.data 8 4, inp := 0, outp := n + 1, reroute := (beAt f.data 2 2).testBit 15, seq := f.seq }

theorem freeFlow_traffic (h : Traffic d e) : e.freeFlow = d.freeFlow := by simp only [Dev.freeFlow, Dev.flowCap, h.f, h.flow]

theorem openRefusal_traffic (h : Traffic d e) (n r : Nat) : e.openRefusal n r true = d.openRefusal n r true := by
  simp [Dev.openRefusal, freeFlow_traffic h, Dev.inForce, Dev.on, h.cstate, h.crole, h.f]

/-- Context `i` of the provider is OPEN, and the consumer told so. -/
def Dev.flowGranted (d : Dev) (i n : Nat) (f : RxFrame) : Dev :=
  (((d.accepted n (rxFrame f 0x18)).setFlow i (providerFlow n f)).reply 0x0A f.src 0x18 f.seq (beAt f.data 0 2)).raise 4 10

theorem flowOpenRx_accepted {n : Nat} {f : RxFrame} (hsup : d.supervisor = true) (hl : d.listens n = true) (hdst : f.dst = d.addr) (hsrc : f.src ≠ d.addr)
    (hr : d.repeats n (rxFrame f 0x18) = false) (hlen : f.data.length = 12) (hroom : d.openRefusal n (beAt f.data 6 2) true = 0) (hfree : d.freeFlow = some i) :
    flowOpenRx d n f .accept = (d.flowGranted i n f).flowModes := by
  have haccepted := (Traffic.refl d).accepted n (rxFrame f 0x18)
  have hroom' := (openRefusal_traffic haccepted n (beAt f.data 6 2)).trans hroom
  have hfree' := (freeFlow_traffic haccepted).trans hfree
  have hsup' := haccepted.supervisor.trans hsup
  have hmine : (f.dst == (d.accepted n (rxFrame f 0x18)).addr) = true := by simp [haccepted.addr, hdst]
  have hother : (f.src == (d.accepted n (rxFrame f 0x18)).addr) = false := by simp [haccepted.addr, hsrc]
  have hforward : (d.hears n).forwards n (rxFrame f 0x18) = false := forwards_own (hdst.trans ((Traffic.refl d).hears n).addr.symm) n
  have hlength : (f.data.length != 12) = false := by simp [hlen]
  have hacceptFrame : (d.hears n).acceptFrame n (rxFrame f 0x18) = d.accepted n (rxFrame f 0x18) := rfl
  unfold flowOpenRx
  rw [heard_running (Bool.and_eq_true_iff.1 hl).1]
  simp only [listens_hears hl, hlength, repeats_hears, hr, hforward, hacceptFrame, hmine, hother, hsup', hroom', hfree', Bool.not_true, Bool.and_false,
    Bool.false_and, Bool.false_eq_true, bne_self_eq_false, if_false, if_true]
  rfl

theorem flowWork_granted (d : Dev) (i n : Nat) (f : RxFrame) : FlowWork i d (d.flowGranted i n f) :=
  (((FlowWork.refl.traffic ((Traffic.refl d).accepted n _)).setFlow _).traffic ((Traffic.refl _).reply ..)).raise 4 10

theorem flow_granted (d : Dev) (i n : Nat) (f : RxFrame) : (d.flowGranted i n f).flow i = providerFlow n f := by
  rw [Dev.flowGranted, flow_raise, ((Traffic.refl _).reply ..).flow, flow_setFlow_same]

theorem keeps_granted (d : Dev) (i n : Nat) (f : RxFrame) : keeps [F.FLOW_STAT_IN_USE] [.ring] d (d.flowGranted i n f) :=
  (((Traffic.refl _).reply ..).keeps rfl ((((Traffic.refl d).accepted n _).keeps rfl keeps.refl).setFlow i _ (by simp) rfl)).raise 4 10

theorem raised_granted (halive : d.alive = true) (i n : Nat) (f : RxFrame) : (d.flowGranted i n f).raised = d.raised ++ [(4 * 32 + 10, d.pw.time)] := by
  have hopened : FlowWork i d (((d.accepted n (rxFrame f 0x18)).setFlow i (providerFlow n f)).reply 0x0A f.src 0x18 f.seq (beAt f.data 0 2)) :=
    ((FlowWork.refl.traffic ((Traffic.refl d).accepted n _)).setFlow _).traffic ((Traffic.refl _).reply ..)
  rw [Dev.flowGranted, Dev.raise_raised _ _ _ (by rw [Dev.alive, hopened.pw]; exact halive), hopened.pw, ((Traffic.refl _).reply ..).raised,
    raised_setFlow, ((Traffic.refl d).accepted n _).raised]

/-! ### A FLOW_UPDATE and a FLOW_CLOSE (R246) -/

theorem exec_ringFlowUpdateRx (g : Fin 2) (f : RxFrame) (s : State) : exec (.ringFlowUpdateRx g f) s = done s (flowUpdateRx s.dev g f) := rfl
theorem exec_ringFlowCloseRx (g : Fin 2) (f : RxFrame) (s : State) : exec (.ringFlowCloseRx g f) s = done s (flowCloseRx s.dev g f) := rfl

theorem findFlow_traffic (h : Traffic d e) (consumer id : Nat) : e.findFlow consumer id = d.findFlow consumer id := by simp only [Dev.findFlow, h.flows]

/-- The context after the FLOW_UPDATE of frame `f`. -/
def FlowCtx.updated (x : FlowCtx) (f : RxFrame) : FlowCtx :=
  { x with rate := beAt f.data 4 2, allow := beAt f.data 6 4, fseq := beAt f.data 2 1, age := 0, residue := 0 }

theorem flowUpdateRx_accepted {n : Nat} {f : RxFrame} (hl : d.listens n = true) (hdst : f.dst = d.addr) (hsrc : f.src ≠ d.addr)
    (hr : d.repeats n (rxFrame f 0x19) = false) (hlen : f.data.length = 10) (hfound : d.findFlow f.src (beAt f.data 0 2) = some (i, x)) (hopen : x.state = 2)
    (hrate : beAt f.data 4 2 ≤ x.rateMax) :
    flowUpdateRx d n f = ((d.accepted n (rxFrame f 0x19)).setFlow i (x.updated f)).flowModes := by
  have hfound' := (findFlow_traffic ((Traffic.refl d).accepted n (rxFrame f 0x19)) ..).trans hfound
  rw [flowUpdateRx, show (f.data.length == 10) = true by simp [hlen], receive_accepted hl hr hdst hsrc]
  simp only [hfound', hopen, if_neg (Nat.not_lt.2 hrate), beq_self_eq_true, if_true, FlowCtx.updated]

/-- A flow that this unit does not reroute is not opened again. -/
theorem reroute_none (h : x.role ≠ 2 ∨ x.reroute = false) (d : Dev) (i reason : Nat) : d.reroute i x reason = d := by
  unfold Dev.reroute
  refine if_neg fun hc => ?_
  simp only [Bool.and_eq_true, beq_iff_eq] at hc
  obtain ⟨⟨⟨⟨hrole, hreroute⟩, -⟩, -⟩, -⟩ := hc
  exact h.elim (· hrole) (by simp [hreroute])

theorem freeCtx_open (h : (d.flow i).state = 2) : d.freeCtx i = (d.setFlow i {}).raise 4 11 := by
  unfold Dev.freeCtx
  exact if_pos (by simp [h])

theorem freeCtx_unopened (h : (d.flow i).state ≠ 2) : d.freeCtx i = d.setFlow i {} := by
  unfold Dev.freeCtx
  exact if_neg (by simp [h])

theorem flowCloseRx_accepted {n : Nat} {f : RxFrame} (hl : d.listens n = true) (hdst : f.dst = d.addr) (hsrc : f.src ≠ d.addr)
    (hr : d.repeats n (rxFrame f 0x1A) = false) (hlen : f.data.length = 5) (hfound : d.findFlow (beAt f.data 2 2 % 4096) (beAt f.data 0 2) = some (i, x))
    (hopen : (d.flow i).state = 2) (hkept : x.role ≠ 2 ∨ x.reroute = false) :
    flowCloseRx d n f = (((d.accepted n (rxFrame f 0x1A)).setFlow i {}).raise 4 11).flowModes := by
  have haccepted := (Traffic.refl d).accepted n (rxFrame f 0x1A)
  have hfound' := (findFlow_traffic haccepted ..).trans hfound
  rw [flowCloseRx, show (f.data.length == 5) = true by simp [hlen], receive_accepted hl hr hdst hsrc]
  simp only [hfound', reroute_none hkept, ite_self, freeCtx_open ((congrArg FlowCtx.state (haccepted.flow i)).trans hopen)]

/-! ### The millisecond, and a reservation that stays out (R244, R246) -/

theorem exec_flowTick (s : State) : exec .flowTick s = done s (flowTick s.dev) := rfl
theorem exec_flowReserveTimeout (j : BitVec 8) (s : State) : exec (.flowReserveTimeout j) s = done s (reserveTimeout s.dev j.toNat) := rfl

theorem flowTick_running (hrun : d.running = true) : flowTick d = ((d.ring.flows.map (·.1)).foldl Dev.tickFlow d).flowModes := if_pos hrun

theorem mem_flows (h : (d.flow k).state ≠ 0) : k ∈ d.ring.flows.map (·.1) := by
  have hlist : ∀ l : List (Nat × FlowCtx), (Sparse.get (fun _ => ({} : FlowCtx)) l k).state ≠ 0 → k ∈ l.map (·.1) := by
    intro l
    induction l with
    | nil => exact fun h => absurd rfl h
    | cons y l ih =>
      intro h
      by_cases hy : k = y.1
      · simp [hy]
      · rw [Sparse.get, if_neg hy] at h
        exact List.mem_cons_of_mem _ (ih h)
  exact hlist _ h

/-- The context after a millisecond in which its allowance holds. -/
def FlowCtx.ticked (x : FlowCtx) : FlowCtx :=
  { x with residue := (x.residue + x.rate) % 1000, allow := x.allow - (x.residue + x.rate) / 1000, age := x.age + 1 }

theorem tickFlow_ticked (hflow : d.flow i = x) (hopen : x.state = 2) (hrole : x.role ≠ 2) (hallow : x.residue + x.rate < 1000 * x.allow)
    (hage : x.age + 1 ≤ 10 * d.f F.RING_CFG_FLOW_AGE) (hold : x.age < 65535) : d.tickFlow i = d.setFlow i x.ticked := by
  have hleft : x.allow - (x.residue + x.rate) / 1000 ≠ 0 := by omega
  have hmin : min 65535 (x.age + 1) = x.age + 1 := by omega
  unfold Dev.tickFlow
  extract_lets y residue used ticked refreshed
  have hused : used = x.ticked := by simp only [used, residue, y, hflow, hmin, FlowCtx.ticked]
  have hticked : ticked = d.setFlow i x.ticked := congrArg (d.setFlow i) hused
  have hlimit : ticked.f F.RING_CFG_FLOW_AGE = d.f F.RING_CFG_FLOW_AGE := Dev.f_set_apart _ _ (by decide)
  rw [if_neg (by simp [y, hflow, hopen]), if_neg (by simp [hused, FlowCtx.ticked, hleft]), if_neg (by rw [hlimit, hused]; exact Nat.not_lt.2 hage),
    if_neg (by simp [hused, FlowCtx.ticked, hrole]), hticked]

theorem reserveTimeout_reserved (hrun : d.running = true) (h : (d.flow i).state = 1) : reserveTimeout d i = d.setFlow i {} := by
  rw [reserveTimeout, if_pos (by simp [hrun, h]), freeCtx_unopened (by omega)]

/-! ### The end of the command -/

theorem flow_finish (d : Dev) (i : Nat) : (finish d).flow i = d.flow i := by rw [Dev.flow, ring_finish]; rfl

theorem mem_raise (halive : d.alive = true) (b n : Nat) : (b * 32 + n, d.pw.time) ∈ (d.raise b n).raised := by
  rw [Dev.raise_raised d b n halive]
  exact List.mem_append_right _ (List.mem_singleton.2 rfl)

theorem effect_of_meaning {a : Instr} {fs : List Field} {ps : List Part} {evs : List Nat} {P : Dev → Prop} (hexec : exec a s = done s d) (h : d = e)
    (hkeeps : keeps fs ps s.dev e) (hraised : e.raised = s.dev.raised ++ evs.map fun n => (n, s.dev.pw.time)) (hp : P (finish e)) : effect a s fs ps evs P :=
  ⟨e, hexec.trans (congrArg (done s) h), hkeeps, hraised, hp⟩

/-! ### The commands -/

section
variable {g : Fin 2} {f : RxFrame} (hsup : s.dev.supervisor = true) (hl : s.dev.listens g = true) (hdst : f.dst = s.dev.addr) (hsrc : f.src ≠ s.dev.addr)
  (heast : s.dev.courseOf 3 = none) (hwest : s.dev.courseOf 4 = none)
include hl hdst hsrc

include hsup in
theorem leads_ringFlowOpenRx (hr : s.dev.repeats g (rxFrame f 0x18) = false) (hlen : f.data.length = 12) (hroom : s.dev.openRefusal g (beAt f.data 6 2) true = 0)
    (hfree : s.dev.freeFlow = some i) : leads (.ringFlowOpenRx g f .accept) s fun d => d.flow i = providerFlow g f ∧ d.pendingEvent (4 * 32 + 10) = true := by
  have hraised := raised_granted (alive_of_running (Bool.and_eq_true_iff.1 hl).1) i g f
  have hexec := exec_ringFlowOpenRx g f .accept s
  rw [flowOpenRx_accepted hsup hl hdst hsrc hr hlen hroom hfree] at hexec
  refine leads_of_meaning hexec ⟨?_, pendingEvent_finish (t := s.dev.pw.time) (by omega) ((courseKept_flowModes _).raised _ (by simp [hraised]))⟩
  rw [flow_finish, flow_flowModes, flow_granted]

include hsup heast hwest in
theorem effect_ringFlowOpenRx (hr : s.dev.repeats g (rxFrame f 0x18) = false) (hlen : f.data.length = 12) (hroom : s.dev.openRefusal g (beAt f.data 6 2) true = 0)
    (hfree : s.dev.freeFlow = some i) :
    effect (.ringFlowOpenRx g f .accept) s [F.FLOW_STAT_IN_USE] [.ring] [4 * 32 + 10] fun d => d.flow i = providerFlow g f := by
  have halive := alive_of_running (Bool.and_eq_true_iff.1 hl).1
  refine effect_of_meaning (exec_ringFlowOpenRx g f .accept s)
    ((flowOpenRx_accepted hsup hl hdst hsrc hr hlen hroom hfree).trans ((flowWork_granted s.dev i g f).flowModes heast hwest))
    (keeps_granted s.dev i g f) (raised_granted halive i g f) ?_
  rw [flow_finish, flow_granted]

theorem leads_ringFlowUpdateRx (hr : s.dev.repeats g (rxFrame f 0x19) = false) (hlen : f.data.length = 10)
    (hfound : s.dev.findFlow f.src (beAt f.data 0 2) = some (i, x)) (hopen : x.state = 2) (hrate : beAt f.data 4 2 ≤ x.rateMax) :
    leads (.ringFlowUpdateRx g f) s fun d => d.flow i = x.updated f := by
  have hexec := exec_ringFlowUpdateRx g f s
  rw [flowUpdateRx_accepted hl hdst hsrc hr hlen hfound hopen hrate] at hexec
  refine leads_of_meaning hexec ?_
  rw [flow_finish, flow_flowModes, flow_setFlow_same]

include heast hwest in
theorem effect_ringFlowUpdateRx (hr : s.dev.repeats g (rxFrame f 0x19) = false) (hlen : f.data.length = 10)
    (hfound : s.dev.findFlow f.src (beAt f.data 0 2) = some (i, x)) (hopen : x.state = 2) (hrate : beAt f.data 4 2 ≤ x.rateMax) :
    effect (.ringFlowUpdateRx g f) s [F.FLOW_STAT_IN_USE] [.ring] [] fun d => d.flow i = x.updated f := by
  have haccepted := (Traffic.refl s.dev).accepted g (rxFrame f 0x19)
  refine effect_of_meaning (exec_ringFlowUpdateRx g f s)
    ((flowUpdateRx_accepted hl hdst hsrc hr hlen hfound hopen hrate).trans ((((FlowWork.refl.traffic haccepted).setFlow _)).flowModes heast hwest))
    ((haccepted.keeps rfl keeps.refl).setFlow i _ (by simp) rfl) (by simp [haccepted.raised]) ?_
  rw [flow_finish, flow_setFlow_same]

omit hdst hsrc in
theorem raised_ringFlowCloseRx (y : Frame) :
    (((s.dev.accepted g y).setFlow i {}).raise 4 11).raised = s.dev.raised ++ [(4 * 32 + 11, s.dev.pw.time)] := by
  have halive := alive_of_running (Bool.and_eq_true_iff.1 hl).1
  have haccepted := (Traffic.refl s.dev).accepted g y
  have hfreed : FlowWork i s.dev ((s.dev.accepted g y).setFlow i {}) := (FlowWork.refl.traffic haccepted).setFlow {}
  rw [Dev.raise_raised _ _ _ (by rw [Dev.alive, hfreed.pw]; exact halive), hfreed.pw, raised_setFlow, haccepted.raised]

theorem leads_ringFlowCloseRx (hr : s.dev.repeats g (rxFrame f 0x1A) = false) (hlen : f.data.length = 5)
    (hfound : s.dev.findFlow (beAt f.data 2 2 % 4096) (beAt f.data 0 2) = some (i, x)) (hopen : (s.dev.flow i).state = 2) (hkept : x.reroute = false) :
    leads (.ringFlowCloseRx g f) s fun d => d.flow i = {} ∧ d.pendingEvent (4 * 32 + 11) = true := by
  have hraised := raised_ringFlowCloseRx (i := i) hl (rxFrame f 0x1A)
  have hexec := exec_ringFlowCloseRx g f s
  rw [flowCloseRx_accepted hl hdst hsrc hr hlen hfound hopen (Or.inr hkept)] at hexec
  refine leads_of_meaning hexec ⟨?_, pendingEvent_finish (t := s.dev.pw.time) (by omega) ((courseKept_flowModes _).raised _ (by simp [hraised]))⟩
  rw [flow_finish, flow_flowModes, flow_raise, flow_setFlow_same]

include heast hwest in
theorem effect_ringFlowCloseRx (hr : s.dev.repeats g (rxFrame f 0x1A) = false) (hlen : f.data.length = 5)
    (hfound : s.dev.findFlow (beAt f.data 2 2 % 4096) (beAt f.data 0 2) = some (i, x)) (hopen : (s.dev.flow i).state = 2) (hkept : x.role ≠ 2) :
    effect (.ringFlowCloseRx g f) s [F.FLOW_STAT_IN_USE] [.ring] [4 * 32 + 11] fun d => d.flow i = {} := by
  have haccepted := (Traffic.refl s.dev).accepted g (rxFrame f 0x1A)
  refine effect_of_meaning (exec_ringFlowCloseRx g f s)
    ((flowCloseRx_accepted hl hdst hsrc hr hlen hfound hopen (Or.inl hkept)).trans
      ((((FlowWork.refl.traffic haccepted).setFlow {}).raise 4 11).flowModes heast hwest))
    (((haccepted.keeps rfl keeps.refl).setFlow i {} (by simp) rfl).raise 4 11) (raised_ringFlowCloseRx hl (rxFrame f 0x1A)) ?_
  rw [flow_finish, flow_raise, flow_setFlow_same]

end

section
variable (hrun : s.dev.running = true)
include hrun

theorem leads_flowTick (k : Nat) : leads .flowTick s fun d =>
    (s.dev.flow k).state = 2 → (d.flow k).state = 2 → (d.flow k).allow ≠ 0 ∧ (d.flow k).age ≤ 10 * s.dev.f F.RING_CFG_FLOW_AGE := by
  refine leads_of_meaning (exec_flowTick s) ?_
  rw [flow_finish, flowTick_running hrun, flow_flowModes]
  exact fun hbefore hafter => flowTicks_bounds s.dev (mem_flows (by omega)) hafter

theorem effect_flowTick (heast : s.dev.courseOf 3 = none) (hwest : s.dev.courseOf 4 = none) (hflows : s.dev.ring.flows = [(i, x)]) (hopen : x.state = 2)
    (hrole : x.role ≠ 2) (hallow : x.residue + x.rate < 1000 * x.allow) (hage : x.age + 1 ≤ 10 * s.dev.f F.RING_CFG_FLOW_AGE) (hold : x.age < 65535) :
    effect .flowTick s [F.FLOW_STAT_IN_USE] [.ring] [] fun d => d.flow i = x.ticked := by
  have hflow : s.dev.flow i = x := by simp [Dev.flow, hflows, Sparse.get]
  have hticked : flowTick s.dev = s.dev.setFlow i x.ticked := by
    rw [flowTick_running hrun, hflows]
    simp only [List.map_cons, List.map_nil, List.foldl_cons, List.foldl_nil, tickFlow_ticked hflow hopen hrole hallow hage hold]
    exact (FlowWork.refl.setFlow _).flowModes heast hwest
  refine effect_of_meaning (exec_flowTick s) hticked (keeps.refl.setFlow i _ (by simp) rfl) (by simp) ?_
  rw [flow_finish, flow_setFlow_same]

theorem effect_flowReserveTimeout {j : BitVec 8} (hstate : (s.dev.flow j.toNat).state = 1) :
    effect (.flowReserveTimeout j) s [F.FLOW_STAT_IN_USE] [.ring] [] fun d => d.flow j.toNat = {} := by
  refine effect_of_meaning (exec_flowReserveTimeout j s) (reserveTimeout_reserved hrun hstate) (keeps.refl.setFlow _ _ (by simp) rfl) (by simp) ?_
  rw [flow_finish, flow_setFlow_same]

end

theorem running_of_supervisor (h : d.supervisor = true) : d.running = true := by
  simp only [Dev.supervisor, Bool.and_eq_true] at h
  obtain ⟨⟨hrun, -⟩, -⟩ := h
  exact hrun

theorem listens_up {n : Nat} (hrun : d.running = true) (hup : d.lstate n = 2) : d.listens n = true := by simp [Dev.listens, hrun, hup, within]

end Sys2Proof.Machine

open Sys2Proof Sys2Proof.Machine

/-- Settles O24: each command is work on one context, and a flow that is OPEN after its millisecond keeps within its bounds while the others take theirs. -/
theorem flows : Obligations.Flows := by
  unfold Obligations.Flows
  intro g f i j x s hsup hup _ hdst hsrc
  have hrun := running_of_supervisor hsup
  have hl := listens_up hrun hup
  exact ⟨leads_ringFlowOpenRx hsup hl hdst hsrc, leads_ringFlowUpdateRx hl hdst hsrc, leads_ringFlowCloseRx hl hdst hsrc, leads_flowTick hrun _,
    fun heast hwest => ⟨effect_ringFlowOpenRx hsup hl hdst hsrc heast hwest, effect_ringFlowUpdateRx hl hdst hsrc heast hwest,
      effect_ringFlowCloseRx hl hdst hsrc heast hwest, effect_flowTick hrun heast hwest, effect_flowReserveTimeout hrun⟩⟩
end
section
/-! The drop of a contract and the loss of a link: what they leave of the negotiation on the segment, and of the power state (R233, R239). -/
namespace Sys2Proof.Machine

variable {d e : Dev} {n : Nat}

/-- Work that leaves CSTATE and the terms of segment `n`, and of the power state all but a power-fail save. -/
structure NegoKept (n : Nat) (d e : Dev) : Prop where
  cstate : e.cstate n = d.cstate n
  terms  : (e.sg n).terms = (d.sg n).terms
  power  : e.pw.unsaved = d.pw.unsaved

namespace NegoKept

theorem refl : NegoKept n d d := ⟨rfl, rfl, rfl⟩

theorem trans {c : Dev} (h : NegoKept n d e) (g : NegoKept n e c) : NegoKept n d c :=
  ⟨g.cstate.trans h.cstate, g.terms.trans h.terms, g.power.trans h.power⟩

theorem ite {p : Prop} [Decidable p] {a b : Dev} (ha : NegoKept n d a) (hb : NegoKept n d b) : NegoKept n d (if p then a else b) := by
  split
  · exact ha
  · exact hb

theorem set (h : NegoKept n d e) {x : Field} (v : Nat) (hx : (F.SEG_STAT_CSTATE n).apart x = true) : NegoKept n d (e.set x v) :=
  ⟨(Dev.f_set_apart e v hx).trans h.cstate, h.terms, h.power⟩

theorem setPort (h : NegoKept n d e) {x : Field} (p v : Nat) (hx : x.addr = R.PORT_STAT p := by rfl) : NegoKept n d (e.set x v) :=
  h.set v (Field.apart_of_addr (by simp only [F.SEG_STAT_CSTATE, R.SEG_STAT, R.PORT_STAT] at hx ⊢; omega))

theorem setFet (h : NegoKept n d e) (p : Nat) (b : Bool) : NegoKept n d (e.setFet p b) :=
  .ite (h.set _ (Field.apart_of_addr (by simp only [F.SEG_STAT_CSTATE, R.SEG_STAT, F.GUARD_STAT_FET_ON, R.GUARD_STAT]; omega))) h

theorem raise (h : NegoKept n d e) (b m : Nat) : NegoKept n d (e.raise b m) :=
  ⟨(Dev.f_raise ..).trans h.cstate, by rw [sg_raise]; exact h.terms, (congrArg PowerState.unsaved (Dev.raise_pw e b m)).trans h.power⟩

theorem traffic {c : Dev} (h : NegoKept n d e) (g : Traffic e c) : NegoKept n d c :=
  h.trans ⟨g.cstate n, g.terms n, congrArg PowerState.unsaved g.pw⟩

theorem flowWork {c : Dev} {i : Nat} (h : NegoKept n d e) (g : FlowWork i e c) : NegoKept n d c :=
  h.trans ⟨g.field _ (Field.apart_of_bits (by rfl)), g.terms n, congrArg PowerState.unsaved g.pw⟩

theorem path {c : Dev} (hn : n < 2) (h : NegoKept n d e) (g : PathKept e c) : NegoKept n d c := by
  have hoff : (F.SEG_STAT_CSTATE n).offPath = true := by interval_cases n <;> decide
  exact h.trans ⟨g.field _ hoff, congrArg (fun r : Ring => (vget r.seg n).terms) (congrArg (·.ring) g.rest), g.power⟩

theorem course {c : Dev} (hn : n < 2) (h : NegoKept n d e) (g : CourseKept e c) : NegoKept n d c := h.path hn (PathKept.refl.course g)

theorem loseSource (hn : n < 2) (h : NegoKept n d e) (p late : Nat) : NegoKept n d (e.loseSource p late) := by
  unfold Dev.loseSource
  refine .ite (.ite ((h.setPort (p - 1) 0).setPort (p - 1) 0) h) ?_
  extract_lets marked lost st stopped
  have hmarked : NegoKept n d marked := (((h.setPort (p - 1) 0).setPort (p - 1) 0).setPort (p - 1) 1).setPort (p - 1) _
  have hlost : NegoKept n d lost := by
    obtain ⟨hcstate, hterms, hpower⟩ := (hmarked.raise 2 31).setFet p false
    exact ⟨hcstate, hterms, hpower⟩
  have hstopped : NegoKept n d stopped := hlost.path hn (PathKept.refl.onCourse p fun _ hc => PathKept.refl.hardStop hc true)
  refine .ite (hlost.path hn (PathKept.refl.handover late)) (.ite (hstopped.path hn PathKept.refl.abandonTransfer)
    (.ite (hstopped.path hn (PathKept.refl.putPath _)) (.ite (hstopped.set _ (Field.apart_of_addr ?_)) hstopped)))
  simp only [F.SEG_STAT_CSTATE, R.SEG_STAT, F.PATH_STAT_SHARERS, R.PATH_STAT]
  omega

theorem endFlowsOn (hn : n < 2) (h : NegoKept n d e) (m reason : Nat) (dead : Bool) : NegoKept n d (e.endFlowsOn m reason dead) := by
  have hended : ∀ (l : List (Nat × FlowCtx)) (c : Dev), NegoKept n d c →
      NegoKept n d (l.foldl (fun d x => d.endFlow x.1 reason (if dead then some m else none)) c) := by
    intro l
    induction l with
    | nil => exact fun _ hc => hc
    | cons x l ih => exact fun c hc => ih _ (hc.flowWork (FlowWork.refl.endFlow ..))
  unfold Dev.endFlowsOn
  exact (hended _ e h).course hn (courseKept_flowModes _)

theorem startDischarge (hn : n < 2) (h : NegoKept n d e) (p : Nat) : NegoKept n d (e.startDischarge p) := by
  unfold Dev.startDischarge
  refine .ite ?_ h
  split
  next c hc =>
    have hgiven := h.course hn (CourseKept.refl.giveModeOpen (courseOf_lt hc) 3 (10 * e.f F.PDIS_CFG_I_DIS) 0)
    refine .ite (hgiven.set _ (Field.apart_of_addr ?_)) hgiven
    simp only [F.SEG_STAT_CSTATE, R.SEG_STAT, F.PDIS_CFG_RUNNING, R.PDIS_CFG]
    omega
  next => exact h

end NegoKept

/-! ### The drop of a contract (R239) -/

theorem clearNego_same (hn : n < 2) (d : Dev) : ((d.clearNego n).sg n).offer = [] := by rw [Dev.clearNego, sg_modSeg_same _ _ hn]

theorem f_clearNego (d : Dev) (n : Nat) (x : Field) : (d.clearNego n).f x = d.f x := rfl

theorem cstate_set (d : Dev) {v : Nat} (hv : v < 8) : (d.set (F.SEG_STAT_CSTATE n) v).cstate n = v :=
  Dev.f_set_lt _ _ _ (by simp [F.SEG_STAT_CSTATE]) hv

/-- A contract that is dropped, or what was negotiated, is over. -/
theorem dropContract_over (hn : n < 2) (d : Dev) (reason : Nat) (dead : Bool) :
    (d.dropContract n reason dead).cstate n = 0 ∧ ((d.dropContract n reason dead).sg n).offer = [] ∧
      (d.dropContract n reason dead).pw.unsaved = d.pw.unsaved := by
  unfold Dev.dropContract
  extract_lets p cs pend moving closed cleared lost stopped opened told ended
  have hclosed : closed.cstate n = 0 :=
    (Dev.f_set_apart _ _ (Field.apart_of_addr (by simp only [F.SEG_STAT_CSTATE, F.PORT_STAT_CONTRACT, R.SEG_STAT, R.PORT_STAT]; omega))).trans
      ((Dev.f_set_apart _ _ (Field.apart_of_bits (by rfl))).trans (cstate_set d (by omega)))
  have hcleared : cleared.cstate n = 0 := by
    have hpast : (F.SEG_STAT_CSTATE n).apart (F.SEG_CONTRACT_V n) = true ∧ (F.SEG_STAT_CSTATE n).apart (F.SEG_CONTRACT_I n) = true := by
      constructor <;> exact Field.apart_of_addr (by simp only [F.SEG_STAT_CSTATE, R.SEG_STAT, F.SEG_CONTRACT_V, F.SEG_CONTRACT_I, R.SEG_CONTRACT]; omega)
    rw [Dev.cstate, f_clearNego, Dev.f_set_apart _ _ hpast.1, Dev.f_set_apart _ _ hpast.2]
    exact hclosed
  have hkept : NegoKept n cleared ((ended.raise 4 (6 + n)).startDischarge p) := by
    have hlost : NegoKept n cleared lost := NegoKept.refl.loseSource hn p 0
    have hstopped : NegoKept n cleared stopped := hlost.path hn (PathKept.refl.onCourse p fun _ hc => PathKept.refl.hardStop hc false)
    have hopened : NegoKept n cleared opened := hstopped.setFet p false
    have htold : NegoKept n cleared told := .ite ((hopened.set 1 (Field.apart_of_bits (by rfl))).raise 4 18) hopened
    exact ((htold.endFlowsOn hn n _ dead).raise 4 (6 + n)).startDischarge hn p
  split
  next hnone => exact ⟨by simp [cs] at hnone; exact hnone.1, clearNego_same hn d, rfl⟩
  next =>
    split
    · exact ⟨cstate_set _ (by omega), clearNego_same hn d, rfl⟩
    · exact ⟨hkept.cstate.trans hcleared, (congrArg Segment.offer hkept.terms :).trans (clearNego_same hn _), hkept.power⟩

/-! ### The loss of a link (R229, R231, R233) -/

theorem endFlowsOn_pw (d : Dev) (m reason : Nat) (dead : Bool) : (d.endFlowsOn m reason dead).pw = d.pw := by
  unfold Dev.endFlowsOn
  exact (courseKept_flowModes _).pw.trans (foldl_pw (fun _ _ => (FlowWork.refl.endFlow ..).pw) _ d)

theorem linkLost_unsaved (hn : n < 2) (d : Dev) : (d.linkLost n).pw.unsaved = d.pw.unsaved := by
  obtain ⟨-, -, hdrop⟩ := dropContract_over hn ((d.incSat (F.SEG_CNT_LOSSES n)).fault 4 (2 + n) [R.SEG_STAT n, R.SEG_CNT n]) 9 true
  unfold Dev.linkLost Dev.linkLossEffects
  rw [Dev.set_pw, Dev.modSeg_pw, endFlowsOn_pw, hdrop, Dev.fault_pw, Dev.incSat_pw]

theorem asideFailed_unsaved (hn : n < 2) (d : Dev) (o : Outgoing) : (d.asideFailed n o).pw.unsaved = d.pw.unsaved := by
  unfold Dev.asideFailed
  split
  · simp
  · exact linkLost_unsaved hn d

theorem attemptFailed_unsaved (hn : n < 2) (d : Dev) : (d.attemptFailed n).pw.unsaved = d.pw.unsaved := by
  unfold Dev.attemptFailed
  split
  · rfl
  · split
    · simp
    · exact linkLost_unsaved hn d

theorem collide_unsaved (hn : n < 2) (d : Dev) : (d.collide n).pw.unsaved = d.pw.unsaved := by
  unfold Dev.collide
  split
  · dsimp only
    split
    · rw [asideFailed_unsaved hn]; simp
    · simp
  · split
    · split
      · rfl
      · split
        · rw [attemptFailed_unsaved hn]; simp
        · simp
    · rfl

end Sys2Proof.Machine
end
section
/-! Emergency frames and the frame clock (R249 to R252). -/
namespace Sys2Proof.Machine

variable {d e : Dev} {s : State} {n : Nat}

/-! ### An EMERG of the unit is sent (R219, R249) -/

/-- The ring put over traffic hides it. -/
theorem Traffic.over (h : Traffic d e) (r : Ring) : e.putRing r = d.putRing r := by
  rw [h.only]
  rfl

theorem Traffic.queueEmerg (h : Traffic d e) (n : Nat) (x : Frame) : Traffic d (e.queueEmerg n x) := .ite ((h.modSeg n).segStart n) h

theorem Traffic.emitEmerg (h : Traffic d e) (code esn : Nat) : Traffic d (e.emitEmerg code esn) := ((Traffic.putRing h).queueEmerg 0 _).queueEmerg 1 _

/-- Nothing of the unit is on the line of segment `n`, or waits for it. -/
structure LineFree (d : Dev) (n : Nat) : Prop where
  up    : d.lstate n = 2
  idle  : (d.sg n).idle = true
  own   : (d.sg n).own = []
  aside : (d.sg n).aside = []

/-- On a free line an EMERG is driven at once. -/
theorem queueEmerg_free (hrun : d.running = true) (h : LineFree d n) (hn : n < 2) {x : Frame} (hx : x.typ = 0x3F) :
    d.queueEmerg n x = (((d.modSeg n fun g => { g with own := g.own ++ [x] }).drive1 n x).onLine n { frame := x }).modSeg n fun g =>
      { g with own := g.own.erase x } := by
  have hqueued : (d.modSeg n fun g => { g with own := g.own ++ [x] }).sg n = { d.sg n with own := [x] } := by
    rw [sg_modSeg_same _ _ hn, h.own]
    rfl
  have hsend : (d.modSeg n fun g => { g with own := g.own ++ [x] }).maySend n x = true := by
    have hup : (d.modSeg n fun g => { g with own := g.own ++ [x] }).lstate n = 2 := h.up
    have hruns : (d.modSeg n fun g => { g with own := g.own ++ [x] }).running = true := hrun
    simp [Dev.maySend, hup, hruns]
  unfold Dev.queueEmerg Dev.segStart
  rw [if_pos (by simp [h.up])]
  simp only [hqueued, h.idle, h.aside]
  simp [hx, hsend]

theorem sg_queueEmerg_free (hrun : d.running = true) (h : LineFree d n) (hn : n < 2) {x : Frame} (hx : x.typ = 0x3F) :
    ((d.queueEmerg n x).sg n).wire = some x ∧ ∀ k, k ≠ n → (d.queueEmerg n x).sg k = d.sg k := by
  rw [queueEmerg_free hrun h hn hx]
  unfold Dev.onLine Dev.drive1
  refine ⟨?_, fun k hk => ?_⟩
  · rw [sg_modSeg_same _ _ hn, sg_modSeg_same _ _ hn, sg_modSeg_same _ _ hn]
  · rw [sg_modSeg_ne _ _ hk, sg_modSeg_ne _ _ hk, sg_modSeg_ne _ _ hk, sg_modSeg_ne _ _ hk]

theorem emergFrame_putRing {r : Ring} (h : r.seq = d.ring.seq) (code esn : Nat) : (d.putRing r).emergFrame code esn = d.emergFrame code esn := by
  simp [Dev.emergFrame, Dev.addr, h]

/-- Where both lines are free an EMERG is driven on both. -/
theorem wire_emitEmerg (hrun : d.running = true) (h : ∀ k : Fin 2, LineFree d k) (code esn : Nat) (k : Fin 2) :
    ((d.emitEmerg code esn).sg k).wire = some (d.emergFrame code esn) := by
  have heast : LineFree (d.putRing { d.ring with seq := (d.ring.seq + 1) % 256 }) 0 := { h 0 with }
  have hsent := Traffic.queueEmerg (Traffic.putRing (Traffic.refl d) (r := { d.ring with seq := (d.ring.seq + 1) % 256 })) 0 (d.emergFrame code esn)
  obtain ⟨hwireEast, hwest⟩ := sg_queueEmerg_free (d := d.putRing { d.ring with seq := (d.ring.seq + 1) % 256 }) (x := d.emergFrame code esn) hrun heast
    (by omega) rfl
  have hfree : LineFree ((d.putRing { d.ring with seq := (d.ring.seq + 1) % 256 }).queueEmerg 0 (d.emergFrame code esn)) 1 :=
    { up := (hsent.lstate 1).trans (h 1).up, idle := by rw [hwest 1 (by omega)]; exact (h 1).idle, own := by rw [hwest 1 (by omega)]; exact (h 1).own,
      aside := by rw [hwest 1 (by omega)]; exact (h 1).aside }
  obtain ⟨hwireWest, heast'⟩ := sg_queueEmerg_free (x := d.emergFrame code esn) (hsent.running.trans hrun) hfree (by omega) rfl
  match k with
  | 0 => exact (congrArg Segment.wire (heast' 0 (by omega))).trans hwireEast
  | 1 => exact hwireWest

theorem exec_emergSend (s : State) : exec .emergSend s = done s (emergSend s.dev) := rfl
theorem exec_emergRepeat (s : State) : exec .emergRepeat s = done s (emergRepeat s.dev) := rfl

/-- The unit begins to originate an EMERG, of which two repeats are left. -/
def Dev.emergBegun (d : Dev) (code : Nat) : Dev := d.putRing { d.ring with esn := (d.ring.esn + 1) % 256, emergOut := some (code, d.ring.esn, 2) }

theorem emergSend_sent (hrun : d.running = true) (haddr : d.addr ≠ 0) (hout : d.ring.emergOut = none) (hcode : emergCode (d.f F.RING_CTL_EMERG_CODE) = true) :
    emergSend d = (d.emergBegun (d.f F.RING_CTL_EMERG_CODE)).emitEmerg (d.f F.RING_CTL_EMERG_CODE) d.ring.esn := by
  unfold emergSend
  rw [if_neg (by simp [hrun, hout]), if_neg (by simp [hcode, haddr])]
  rfl

theorem emergSend_rejected (hrun : d.running = true) (hout : d.ring.emergOut = none) (hcode : emergCode (d.f F.RING_CTL_EMERG_CODE) = false) :
    emergSend d = d.set F.RING_EMERG_SEND_REJ 1 := by
  unfold emergSend
  rw [if_neg (by simp [hrun, hout]), if_pos (by simp [hcode])]

/-- One repeat of the EMERG less is left. -/
def Dev.emergCounted (d : Dev) (code esn n : Nat) : Dev := d.putRing { d.ring with emergOut := if n = 0 then none else some (code, esn, n) }

theorem emergRepeat_sent {code esn : Nat} (hrun : d.running = true) (hout : d.ring.emergOut = some (code, esn, n + 1)) :
    emergRepeat d = (d.emergCounted code esn n).emitEmerg code esn := by
  unfold emergRepeat
  rw [hout]
  simp [hrun, Dev.emergCounted]

theorem leads_emergSend (hrun : s.dev.running = true) (haddr : s.dev.addr ≠ 0) (hout : s.dev.ring.emergOut = none)
    (hcode : emergCode (s.dev.f F.RING_CTL_EMERG_CODE) = true) :
    leads .emergSend s fun d =>
      d.ring.esn = (s.dev.ring.esn + 1) % 256 ∧ d.ring.emergOut = some (s.dev.f F.RING_CTL_EMERG_CODE, s.dev.ring.esn, 2) := by
  have hexec := exec_emergSend s
  rw [emergSend_sent hrun haddr hout hcode] at hexec
  have hsent := (Traffic.refl (s.dev.emergBegun (s.dev.f F.RING_CTL_EMERG_CODE))).emitEmerg (s.dev.f F.RING_CTL_EMERG_CODE) s.dev.ring.esn
  refine leads_of_meaning hexec ?_
  rw [ring_finish]
  exact ⟨hsent.esn, hsent.emergOut⟩

theorem leads_emergRepeat {code esn : Nat} (hrun : s.dev.running = true) (hout : s.dev.ring.emergOut = some (code, esn, n + 1)) :
    leads .emergRepeat s fun d => d.ring.emergOut = if n = 0 then none else some (code, esn, n) := by
  have hexec := exec_emergRepeat s
  rw [emergRepeat_sent hrun hout] at hexec
  refine leads_of_meaning hexec ?_
  rw [ring_finish]
  exact ((Traffic.refl (s.dev.emergCounted code esn n)).emitEmerg code esn).emergOut

section
variable (hrun : s.dev.running = true) (hfree : ∀ k : Fin 2, LineFree s.dev k)
include hrun hfree

theorem effect_emergSend (haddr : s.dev.addr ≠ 0) (hout : s.dev.ring.emergOut = none) (hcode : emergCode (s.dev.f F.RING_CTL_EMERG_CODE) = true) :
    effect .emergSend s [] [.ring] [] fun d =>
      d.ring.esn = (s.dev.ring.esn + 1) % 256 ∧ d.ring.emergOut = some (s.dev.f F.RING_CTL_EMERG_CODE, s.dev.ring.esn, 2) ∧
      ∀ k : Fin 2, (d.sg k).wire = some (s.dev.emergFrame (s.dev.f F.RING_CTL_EMERG_CODE) s.dev.ring.esn) := by
  have hsent := (Traffic.refl (s.dev.emergBegun (s.dev.f F.RING_CTL_EMERG_CODE))).emitEmerg (s.dev.f F.RING_CTL_EMERG_CODE) s.dev.ring.esn
  refine effect_of_meaning (exec_emergSend s) (emergSend_sent hrun haddr hout hcode) (hsent.keeps rfl (keeps.refl.putRing _ rfl)) (hsent.raised.trans (List.append_nil _).symm) ?_
  simp only [ring_finish, sg_finish]
  exact ⟨hsent.esn, hsent.emergOut, fun k => (wire_emitEmerg (d := s.dev.emergBegun (s.dev.f F.RING_CTL_EMERG_CODE)) hrun (fun k => { hfree k with }) _ _ k).trans (congrArg some (emergFrame_putRing rfl _ _))⟩

theorem effect_emergRepeat {code esn : Nat} (hout : s.dev.ring.emergOut = some (code, esn, n + 2)) :
    effect .emergRepeat s [] [.ring] [] fun d =>
      d.ring.emergOut = some (code, esn, n + 1) ∧ ∀ k : Fin 2, (d.sg k).wire = some (s.dev.emergFrame code esn) := by
  have hsent := (Traffic.refl (s.dev.emergCounted code esn (n + 1))).emitEmerg code esn
  refine effect_of_meaning (exec_emergRepeat s) (emergRepeat_sent hrun hout) (hsent.keeps rfl (keeps.refl.putRing _ rfl)) (hsent.raised.trans (List.append_nil _).symm) ?_
  simp only [ring_finish, sg_finish]
  exact ⟨hsent.emergOut, fun k => (wire_emitEmerg (d := s.dev.emergCounted code esn (n + 1)) hrun (fun k => { hfree k with }) _ _ k).trans (congrArg some (emergFrame_putRing rfl _ _))⟩

end

theorem effect_emergSend_rejected (hrun : s.dev.running = true) (hout : s.dev.ring.emergOut = none)
    (hcode : emergCode (s.dev.f F.RING_CTL_EMERG_CODE) = false) :
    effect .emergSend s [F.RING_EMERG_SEND_REJ] [] [] fun d => d.f F.RING_EMERG_SEND_REJ = 1 :=
  effect_set ((exec_emergSend s).trans (congrArg (done s) (emergSend_rejected hrun hout hcode))) (by decide) (by decide) (by decide)

/-! ### An EMERG arrives (R249 to R251) -/

theorem exec_ringEmergRx (g : Fin 2) (f : RxFrame) (ok : Bool) (use : LineUse) (s : State) : exec (.ringEmergRx g f ok use) s = done s (emergRx s.dev g f ok use) := rfl

/-- An EMERG is heard on segment `n`: with a good CRC its SRC is learnt, and else it is counted. -/
def Dev.emergHeard (d : Dev) (n : Nat) (f : RxFrame) (ok : Bool) : Dev :=
  if ok then (d.hears n).learn n f.src else (d.hears n).incSat (F.SEG_CNT_CRC_ERR n)

/-- One that the unit has not seen yet is remembered, alone. -/
def Dev.emergNoted (d : Dev) (src esn : Nat) (ok : Bool) : Dev :=
  d.putRing { d.ring with emergSeen := [{ src := src, esn := esn, time := d.pw.clock, acted := ok }] }

theorem emergHeard_kept (d : Dev) (n : Nat) (f : RxFrame) (ok : Bool) :
    (d.emergHeard n f ok).addr = d.addr ∧ (d.emergHeard n f ok).ring.emergSeen = d.ring.emergSeen ∧ (d.emergHeard n f ok).pw = d.pw := by
  have hhears := (Traffic.refl d).hears n
  have hcounted : ((d.hears n).incSat (F.SEG_CNT_CRC_ERR n)).addr = (d.hears n).addr :=
    Dev.f_set_apart _ _ (Field.apart_of_addr (by simp only [F.RING_ADDR_ADDR, R.RING_ADDR, F.SEG_CNT_CRC_ERR, R.SEG_CNT]; omega))
  cases ok with
  | false => exact ⟨hcounted.trans hhears.addr, hhears.emergSeen, hhears.pw⟩
  | true => exact ⟨(hhears.learn n _).addr, (hhears.learn n _).emergSeen, (hhears.learn n _).pw⟩

/-- An EMERG seen for the first time is forwarded, noted, and acted on where its CRC is good. -/
theorem emergRx_first {f : RxFrame} (hl : d.listens n = true) (hsrc : f.src ≠ d.addr) (hlen : f.data.length = 4) (hseen : d.ring.emergSeen = []) (ok : Bool) (use : LineUse) :
    emergRx d n f ok use =
      if ok then (((d.emergHeard n f ok).sendEmerg (otherSeg n) (rxFrame f 0x3F) use).emergNoted f.src (beAt f.data 1 1) ok).actEmerg f.src (beAt f.data 1 1) (beAt f.data 0 1)
      else ((d.emergHeard n f ok).sendEmerg (otherSeg n) (rxFrame f 0x3F) use).emergNoted f.src (beAt f.data 1 1) ok := by
  obtain ⟨haddr, hkept, -⟩ := emergHeard_kept d n f ok
  have hother : (f.src == (d.emergHeard n f ok).addr) = false := by simpa [haddr] using hsrc
  have hheard : (if ok then (d.hears n).learn n f.src else (d.hears n).incSat (F.SEG_CNT_CRC_ERR n)) = d.emergHeard n f ok := rfl
  have hlength : (ok && f.data.length != 4) = false := by simp [hlen]
  unfold emergRx
  rw [heard_running (Bool.and_eq_true_iff.1 hl).1]
  simp only [listens_hears hl, hlength, hheard, hother, hkept.trans hseen, List.filter_nil, List.find?_nil, Option.isNone_none, Option.map_none, Option.getD_none,
    Bool.not_true, Bool.not_false, Bool.false_and, Bool.and_true, Bool.false_or, Bool.false_eq_true, if_false, if_true]
  rfl

theorem sendEmerg_unsaved {k : Nat} (hk : k < 2) (d : Dev) (x : Frame) (use : LineUse) : (d.sendEmerg k x use).pw.unsaved = d.pw.unsaved := by
  unfold Dev.sendEmerg
  split
  · rfl
  extract_lets taken
  have htaken : taken.pw.unsaved = d.pw.unsaved := by
    cases use with
    | free => rfl
    | own => exact collide_unsaved hk d
    | neighbour => rfl
  split
  · simp [htaken]
  · exact htaken

theorem otherSeg_lt (n : Nat) : otherSeg n < 2 := by unfold otherSeg; omega

/-! ### What it does here (R251) -/

/-- RING_EMERG shows the EMERG. -/
def Dev.emergShown (d : Dev) (src esn code : Nat) : Dev :=
  (((d.set F.RING_EMERG_RX 1).set F.RING_EMERG_SRC src).set F.RING_EMERG_ESN esn).set F.RING_EMERG_CODE code

theorem actEmerg_eq {src esn code : Nat} (h : emergCode code = true) :
    d.actEmerg src esn code = if code = 1 then ((d.emergShown src esn code).raise 4 14).releaseReserve else (d.emergShown src esn code).raise 4 15 := by
  unfold Dev.actEmerg
  rw [if_neg (by simp [h])]
  simp only [beq_iff_eq]
  rfl

theorem actEmerg_ignored {src esn code : Nat} (h : emergCode code = false) : d.actEmerg src esn code = d := by
  unfold Dev.actEmerg
  rw [if_pos (by simp [h])]

theorem f_emergShown (d : Dev) (src esn : Nat) {code : Nat} (hcode : code < 256) :
    (d.emergShown src esn code).f F.RING_EMERG_RX = 1 ∧ (d.emergShown src esn code).f F.RING_EMERG_CODE = code := by
  refine ⟨?_, Dev.f_set_lt _ _ _ (by decide) hcode⟩
  unfold Dev.emergShown
  rw [Dev.f_set_apart _ _ (by decide), Dev.f_set_apart _ _ (by decide), Dev.f_set_apart _ _ (by decide)]
  exact Dev.f_set_lt _ _ _ (by decide) (by decide)

theorem f_emergShown_origin (d : Dev) {src esn : Nat} (code : Nat) (hsrc : src < 4096) (hesn : esn < 256) :
    (d.emergShown src esn code).f F.RING_EMERG_SRC = src ∧ (d.emergShown src esn code).f F.RING_EMERG_ESN = esn := by
  unfold Dev.emergShown
  constructor
  · rw [Dev.f_set_apart _ _ (by decide), Dev.f_set_apart _ _ (by decide)]
    exact Dev.f_set_lt _ _ _ (by decide) hsrc
  · rw [Dev.f_set_apart _ _ (by decide)]
    exact Dev.f_set_lt _ _ _ (by decide) hesn

theorem sg_freed (d : Dev) (k : Nat) : d.freed.sg k = d.sg k :=
  congrArg (fun r : Ring => vget r.seg k) (CourseKept.ring (d := d.set F.CHG_RESV_E_RELEASED 1) (CourseKept.refl.fault 3 10 _))

/-- During a handover a release of the reserve decides nothing. -/
theorem releaseReserve_handover (hreleased : d.f F.CHG_RESV_E_RELEASED = 0) (hstate : d.f F.PATH_STAT_STATE = 2) : d.releaseReserve = d.freed := by
  rw [Dev.releaseReserve, if_neg (by simp [Dev.on, hreleased])]
  exact pathReview_handover ((f_freed ..).trans ((Dev.f_set_apart _ _ (by decide)).trans hstate))

/-- A release of the reserve is a decision of the power path. -/
theorem releaseReserve_kept (d : Dev) : (∀ x : Field, x.offPath = true → x.apart F.CHG_RESV_E_RELEASED = true → d.releaseReserve.f x = d.f x) ∧
    d.releaseReserve.ring = d.ring ∧ ∀ p ∈ d.raised, p ∈ d.releaseReserve.raised := by
  unfold Dev.releaseReserve
  split
  · exact ⟨fun _ _ _ => rfl, rfl, fun _ h => h⟩
  · have hkept : PathKept d.freed d.freed.pathReview := PathKept.refl.pathReview
    have hfreed : CourseKept (d.set F.CHG_RESV_E_RELEASED 1) d.freed := CourseKept.refl.fault 3 10 _
    exact ⟨fun x hoff hapart => (hkept.field x hoff).trans ((f_freed d x).trans (Dev.f_set_apart _ _ hapart)),
      (congrArg (·.ring) hkept.rest :).trans hfreed.ring, fun p hp => hkept.raised p (hfreed.raised p hp)⟩

theorem beAt_lt (l : List Byte) (o n : Nat) : beAt l o n < 256 ^ n := by
  have hfold : ∀ (m : List Byte) (a : Nat), m.foldl (fun a b => a * 256 + b.toNat) a < (a + 1) * 256 ^ m.length := by
    intro m
    induction m with
    | nil => intro a; simp
    | cons b m ih =>
      intro a
      have hstep : a * 256 + b.toNat + 1 ≤ (a + 1) * 256 := by have := b.isLt; omega
      calc (b :: m).foldl (fun a b => a * 256 + b.toNat) a
        _ < (a * 256 + b.toNat + 1) * 256 ^ m.length := ih _
        _ ≤ ((a + 1) * 256) * 256 ^ m.length := Nat.mul_le_mul_right _ hstep
        _ = (a + 1) * 256 ^ (b :: m).length := by rw [List.length_cons, Nat.pow_succ']; exact Nat.mul_assoc ..
  calc beAt l o n
    _ < (0 + 1) * 256 ^ ((l.drop o).take n).length := hfold _ 0
    _ ≤ 256 ^ n := by rw [Nat.zero_add, Nat.one_mul]; exact Nat.pow_le_pow_right (by omega) (List.length_take_le ..)

theorem beAt_one (l : List Byte) (o : Nat) : beAt l o 1 < 256 := beAt_lt l o 1

/-- A HOLD or a customer code shows in RING_EMERG, and raises its event. -/
theorem actEmerg_shows {code : Nat} (halive : d.alive = true) (hcode : emergCode code = true) (hlt : code < 256) (src esn : Nat) :
    (d.actEmerg src esn code).f F.RING_EMERG_RX = 1 ∧ (d.actEmerg src esn code).f F.RING_EMERG_CODE = code ∧
      (4 * 32 + (if code = 1 then 14 else 15), d.pw.time) ∈ (d.actEmerg src esn code).raised := by
  obtain ⟨hrx, hshown⟩ := f_emergShown d src esn hlt
  have hraised (n : Nat) : (4 * 32 + n, d.pw.time) ∈ ((d.emergShown src esn code).raise 4 n).raised := mem_raise (d := d.emergShown src esn code) halive 4 n
  rw [actEmerg_eq hcode]
  split
  · obtain ⟨hfields, -, hkept⟩ := releaseReserve_kept ((d.emergShown src esn code).raise 4 14)
    refine ⟨?_, ?_, hkept _ (hraised 14)⟩
    · rw [hfields _ (by decide) (by decide), Dev.f_raise, hrx]
    · rw [hfields _ (by decide) (by decide), Dev.f_raise, hshown]
  · exact ⟨(Dev.f_raise ..).trans hrx, (Dev.f_raise ..).trans hshown, hraised 15⟩

theorem ring_actEmerg (d : Dev) (src esn code : Nat) : (d.actEmerg src esn code).ring = d.ring := by
  cases hcode : emergCode code with
  | false => rw [actEmerg_ignored hcode]
  | true =>
    rw [actEmerg_eq hcode]
    split
    · obtain ⟨-, hring, -⟩ := releaseReserve_kept ((d.emergShown src esn code).raise 4 14)
      exact hring.trans (Dev.raise_ring ..)
    · exact Dev.raise_ring ..

/-! ### The arrival -/

section
variable {g : Fin 2} {f : RxFrame} (hl : s.dev.listens g = true) (hsrc : f.src ≠ s.dev.addr) (hlen : f.data.length = 4) (hseen : s.dev.ring.emergSeen = [])
include hl hsrc hlen hseen

theorem leads_ringEmergRx (ok : Bool) (use : LineUse) :
    leads (.ringEmergRx g f ok use) s fun d =>
      d.ring.emergSeen = [{ src := f.src, esn := beAt f.data 1 1, time := s.dev.pw.clock, acted := ok }] ∧
      (ok = true → emergCode (beAt f.data 0 1) = true →
        d.f F.RING_EMERG_RX = 1 ∧ d.f F.RING_EMERG_CODE = beAt f.data 0 1 ∧ d.pendingEvent (4 * 32 + (if beAt f.data 0 1 = 1 then 14 else 15)) = true) := by
  have hexec := exec_ringEmergRx g f ok use s
  rw [emergRx_first hl hsrc hlen hseen] at hexec
  refine leads_of_meaning hexec ?_
  generalize hnoted : ((s.dev.emergHeard g f ok).sendEmerg (otherSeg g) (rxFrame f 0x3F) use).emergNoted f.src (beAt f.data 1 1) ok = noted
  obtain ⟨-, -, hheard⟩ := emergHeard_kept s.dev g f ok
  have hpower : noted.pw.unsaved = s.dev.pw.unsaved := by
    rw [← hnoted]
    exact (sendEmerg_unsaved (otherSeg_lt g) _ _ use).trans (congrArg _ hheard)
  obtain ⟨hmode, hreset, -, hclock⟩ := fields_of_unsaved hpower
  have halive : noted.alive = true := by
    rw [Dev.alive, hmode, hreset]
    exact alive_of_running (Bool.and_eq_true_iff.1 hl).1
  have hseenNow : noted.ring.emergSeen = [{ src := f.src, esn := beAt f.data 1 1, time := s.dev.pw.clock, acted := ok }] := by
    rw [← hclock, ← hnoted]
    rfl
  rw [ring_finish, apply_ite Dev.ring, ring_actEmerg, ite_self]
  refine ⟨hseenNow, fun hok hcode => ?_⟩
  obtain ⟨hrx, hshown, hraised⟩ := actEmerg_shows halive hcode (beAt_one f.data 0) f.src (beAt f.data 1 1)
  rw [if_pos hok, Dev.f_finish _ (by decide), Dev.f_finish _ (by decide)]
  exact ⟨hrx, hshown, pendingEvent_finish (by split <;> omega) hraised⟩

/-- The device that has forwarded the EMERG on an idle line and noted it, before it acts on it. -/
def Dev.emergTaken (d : Dev) (n : Nat) (f : RxFrame) : Dev :=
  ((d.emergHeard n f true).sendEmerg (otherSeg n) (rxFrame f 0x3F) .free).emergNoted f.src (beAt f.data 1 1) true

omit hl hsrc hlen hseen in
theorem sendEmerg_free {k : Nat} (hup : d.lstate k = 2) (x : Frame) : d.sendEmerg k x .free = (d.drive1 k x).onLine k { frame := x } := by
  unfold Dev.sendEmerg
  simp [hup]

omit hl hsrc hlen hseen in
theorem emergTaken_only (hup : d.lstate (otherSeg n) = 2) (f : RxFrame) :
    d.emergTaken n f = d.putRing (d.emergTaken n f).ring ∧ ((d.emergTaken n f).sg (otherSeg n)).wire = some (rxFrame f 0x3F) := by
  have hheard : Traffic d (d.emergHeard n f true) := ((Traffic.refl d).hears n).learn n _
  have hsent := (hheard.drive1 (otherSeg n) (rxFrame f 0x3F)).onLine (otherSeg n) { frame := rxFrame f 0x3F }
  unfold Dev.emergTaken
  rw [sendEmerg_free ((hheard.lstate _).trans hup)]
  refine ⟨hsent.over _, ?_⟩
  have hwire : ((((d.emergHeard n f true).drive1 (otherSeg n) (rxFrame f 0x3F)).onLine (otherSeg n) { frame := rxFrame f 0x3F }).sg (otherSeg n)).wire =
      some (rxFrame f 0x3F) := by
    unfold Dev.onLine Dev.drive1
    rw [sg_modSeg_same _ _ (otherSeg_lt n), sg_modSeg_same _ _ (otherSeg_lt n)]
  exact hwire

section
variable (hup : s.dev.lstate (otherSeg g) = 2)
include hup

omit hl hsrc hlen hseen in
/-- Outside the ring an EMERG taken changes what RING_EMERG shows, and no more. -/
theorem emergTaken_shown {fs : List Field} {ps : List Part} (src esn code : Nat)
    (hfs : [F.RING_EMERG_RX, F.RING_EMERG_SRC, F.RING_EMERG_ESN, F.RING_EMERG_CODE] ⊆ fs) (hp : ps.contains .ring = true) :
    keeps fs ps s.dev ((s.dev.emergTaken g f).emergShown src esn code) ∧ ((s.dev.emergTaken g f).emergShown src esn code).raised = s.dev.raised ∧
      ((s.dev.emergTaken g f).emergShown src esn code).pw = s.dev.pw := by
  obtain ⟨honly, -⟩ := emergTaken_only (n := g) hup f
  rw [honly]
  refine ⟨((((keeps.refl.putRing _ hp).set 1 (hfs ?_)).set src (hfs ?_)).set esn (hfs ?_)).set code (hfs ?_), rfl, rfl⟩ <;> simp

theorem effect_ringEmergRx_customer (hid : f.src < 4096) (hcode : 16 ≤ beAt f.data 0 1) :
    effect (.ringEmergRx g f true .free) s [F.RING_EMERG_RX, F.RING_EMERG_SRC, F.RING_EMERG_ESN, F.RING_EMERG_CODE] [.ring] [4 * 32 + 15] fun d =>
      d.f F.RING_EMERG_RX = 1 ∧ d.f F.RING_EMERG_SRC = f.src ∧ d.f F.RING_EMERG_CODE = beAt f.data 0 1 ∧ d.f F.RING_EMERG_ESN = beAt f.data 1 1 ∧
      (d.sg (otherSeg g)).wire = some (rxFrame f 0x3F) := by
  obtain ⟨-, hwire⟩ := emergTaken_only (n := g) hup f
  obtain ⟨hkeeps, hraised, hpw⟩ := emergTaken_shown (f := f) hup f.src (beAt f.data 1 1) (beAt f.data 0 1) (List.Subset.refl _) (ps := [.ring]) rfl
  obtain ⟨hrx, hshown⟩ := f_emergShown (s.dev.emergTaken g f) f.src (beAt f.data 1 1) (beAt_one f.data 0)
  obtain ⟨horigin, hesn⟩ := f_emergShown_origin (s.dev.emergTaken g f) (beAt f.data 0 1) hid (beAt_one f.data 1)
  have hmeaning : emergRx s.dev g f true .free = ((s.dev.emergTaken g f).emergShown f.src (beAt f.data 1 1) (beAt f.data 0 1)).raise 4 15 := by
    rw [emergRx_first hl hsrc hlen hseen, if_pos rfl, actEmerg_eq (by simp [emergCode, hcode]), if_neg (by omega)]
    rfl
  have halive : ((s.dev.emergTaken g f).emergShown f.src (beAt f.data 1 1) (beAt f.data 0 1)).alive = true := by
    rw [Dev.alive, hpw]
    exact alive_of_running (Bool.and_eq_true_iff.1 hl).1
  refine effect_of_meaning (exec_ringEmergRx g f true .free s) hmeaning (hkeeps.raise 4 15) ?_ ?_
  · rw [Dev.raise_raised _ _ _ halive, hraised, hpw]
    rfl
  · rw [Dev.f_finish _ (by decide), Dev.f_finish _ (by decide), Dev.f_finish _ (by decide), Dev.f_finish _ (by decide), sg_finish]
    simp only [Dev.f_raise, sg_raise]
    exact ⟨hrx, horigin, hshown, hesn, hwire⟩

theorem effect_ringEmergRx_hold (hcode : beAt f.data 0 1 = 1) (hreleased : s.dev.f F.CHG_RESV_E_RELEASED = 0) (hstate : s.dev.f F.PATH_STAT_STATE = 2) :
    effect (.ringEmergRx g f true .free) s [F.RING_EMERG_RX, F.RING_EMERG_SRC, F.RING_EMERG_ESN, F.RING_EMERG_CODE, F.CHG_RESV_E_RELEASED]
      [.ring, .faults] [4 * 32 + 14, 3 * 32 + 10] fun d =>
        d.f F.CHG_RESV_E_RELEASED = 1 ∧ d.f F.RING_EMERG_CODE = 1 ∧ (d.sg (otherSeg g)).wire = some (rxFrame f 0x3F) := by
  obtain ⟨-, hwire⟩ := emergTaken_only (n := g) hup f
  obtain ⟨hkeeps, hraised, hpw⟩ := emergTaken_shown (f := f) (ps := [.ring, .faults]) hup f.src (beAt f.data 1 1) 1
    (fs := [F.RING_EMERG_RX, F.RING_EMERG_SRC, F.RING_EMERG_ESN, F.RING_EMERG_CODE, F.CHG_RESV_E_RELEASED]) (by simp) rfl
  obtain ⟨⟨hfields, -⟩, -⟩ := emergTaken_shown (f := f) (ps := [.ring]) hup f.src (beAt f.data 1 1) 1 (List.Subset.refl _) rfl
  obtain ⟨-, hshown⟩ := f_emergShown (s.dev.emergTaken g f) f.src (beAt f.data 1 1) (code := 1) (by omega)
  have halive : ((s.dev.emergTaken g f).emergShown f.src (beAt f.data 1 1) 1).alive = true := by
    rw [Dev.alive, hpw]
    exact alive_of_running (Bool.and_eq_true_iff.1 hl).1
  have hmeaning : emergRx s.dev g f true .free = (((s.dev.emergTaken g f).emergShown f.src (beAt f.data 1 1) 1).raise 4 14).freed := by
    rw [emergRx_first hl hsrc hlen hseen, if_pos rfl, hcode, actEmerg_eq rfl, if_pos rfl]
    exact releaseReserve_handover ((Dev.f_raise ..).trans ((hfields _ (by decide)).trans hreleased)) ((Dev.f_raise ..).trans ((hfields _ (by decide)).trans hstate))
  refine effect_of_meaning (exec_ringEmergRx g f true .free s) hmeaning (((hkeeps.raise 4 14).set 1 (by simp)).fault 3 10 _ rfl) ?_ ?_
  · rw [freed_raised (by rw [Dev.alive, Dev.raise_pw]; exact halive), Dev.raise_raised _ _ _ halive, Dev.raise_pw, hraised, hpw, List.append_assoc]
    rfl
  · rw [Dev.f_finish _ (by decide), Dev.f_finish _ (by decide), sg_finish, f_freed_same, sg_freed, f_freed, Dev.f_set_apart _ _ (by decide), Dev.f_raise, sg_raise]
    exact ⟨rfl, hshown, hwire⟩

end
end

theorem exec_frameClockAbsent (s : State) : exec .frameClockAbsent s = done s (clockAbsent s.dev) := rfl

theorem effect_frameClockAbsent (hrun : s.dev.running = true) : effect .frameClockAbsent s [] [] [4 * 32 + 19] fun d => d.ring = s.dev.ring :=
  effect_of_meaning (exec_frameClockAbsent s) (if_pos hrun) (keeps.refl.raise 4 19) (Dev.raise_raised _ _ _ (alive_of_running hrun))
    ((ring_finish _).trans (Dev.raise_ring ..))

end Sys2Proof.Machine

open Sys2Proof Sys2Proof.Machine

/-- Settles O25: sending an EMERG touches the ring alone, and of what a collision on the other segment may lead to nothing reaches the clock, the list of the
EMERGs seen or RING_EMERG. -/
theorem emergencies : Obligations.Emergencies := by
  unfold Obligations.Emergencies
  intro g f code esn n ok use s hrun haddr
  refine ⟨leads_emergSend hrun haddr, leads_emergRepeat hrun, fun hl hsrc hlen hseen => leads_ringEmergRx hl hsrc hlen hseen ok use, fun hfree => ?_,
    effect_frameClockAbsent hrun⟩
  have hlines : ∀ k : Fin 2, LineFree s.dev k := fun k => by
    obtain ⟨hup, hidle, hown, haside⟩ := hfree k
    exact ⟨hup, hidle, hown, haside⟩
  have hl := listens_up hrun (hlines g).up
  have hup : s.dev.lstate (otherSeg g) = 2 := (hlines ⟨otherSeg g, otherSeg_lt g⟩).up
  exact ⟨fun hcode _ hout => effect_emergSend hrun hlines haddr hout hcode, fun hcode hout => effect_emergSend_rejected hrun hout hcode,
    effect_emergRepeat hrun hlines, fun hsrc hid hlen hseen => ⟨effect_ringEmergRx_customer hl hsrc hlen hseen hup hid,
      effect_ringEmergRx_hold hl hsrc hlen hseen hup⟩⟩
end

section
/-! A course that starts from NONE, and the closing of a port's FET before it (R131, R141, R173). -/
namespace Sys2Proof.Machine

variable {d e : Dev} {c : Nat}

/-- Where no self-test runs, none is aborted. -/
theorem abortTests_none (h : ∀ t : Fin 16, d.f (F.TILE_TEST_RESULT t) ≠ 1) (c : Nat) : d.abortTests c = d := by
  have hlist : ∀ l : List Nat, (∀ t ∈ l, t < 16) → l.foldl (fun d t => d.abortTest t) d = d := by
    intro l hl
    induction l with
    | nil => rfl
    | cons t l ih =>
      have hnone : d.abortTest t = d := if_neg (by simp [h ⟨t, hl t List.mem_cons_self⟩])
      rw [List.foldl_cons, hnone]
      exact ih fun u hu => hl u (List.mem_cons_of_mem _ hu)
  exact hlist _ fun _ ht => tilesOf_lt ht

/-- The course that starts in mode `m`, before it is given its reference. -/
def Dev.courseBegun (d : Dev) (c m final dr : Nat) : Dev :=
  (((((d.setDir c dr).set (F.C_MODE_MODE c) m).set (F.C_REF_FINAL c) final).modCourse c fun k => { k with
    falling := 0, integ := Vector.replicate 5 0, mirror := Vector.replicate 5 0,
    bump := false, preload := none, refFrac := 0, run3 := 0, run0 := 0, d := 0 }).set (F.C_DEMAND_D c) 0).set (F.C_RSTAT_ACTIVE c) 0

/-- A course at rest starts in mode `m`: where no self-test runs its own registers alone change. -/
theorem giveMode_start {m final dr : Nat} (hfet : d.fetOn (d.portCode c) = true) (hcan : d.canTake c = true) (hm : m ≠ 0) (hrest : d.f (F.C_MODE_MODE c) = 0)
    (htest : ∀ t : Fin 16, d.f (F.TILE_TEST_RESULT t) ≠ 1) :
    ∃ ref, d.giveMode c m final dr = ((d.courseBegun c m final dr).set (F.C_REF_REF c) ref).set (F.C_RSTAT_START_ST c) 1 := by
  have hnone : ((d.setDir c dr).set (F.C_MODE_MODE c) m).abortTests c = (d.setDir c dr).set (F.C_MODE_MODE c) m := by
    refine abortTests_none (fun t => ?_) c
    rw [Dev.f_set_apart _ _ (Field.apart_of_addr (by simp only [F.TILE_TEST_RESULT, R.TILE_TEST, F.C_MODE_MODE, R.C_MODE]; omega))]
    unfold Dev.setDir
    rw [show ∀ (e : Dev) (g : Course → Course) (x : Field), (e.modCourse c g).f x = e.f x from fun _ _ _ => rfl,
      Dev.f_set_apart _ _ (Field.apart_of_addr (by simp only [F.TILE_TEST_RESULT, R.TILE_TEST, F.C_RSTAT_DIR, R.C_RSTAT]; omega))]
    exact htest t
  unfold Dev.giveMode Dev.giveModeOpen
  rw [if_neg (by simp [hfet]), if_neg (by simpa using hm), if_neg (by simp [hcan])]
  simp only [hrest, hnone]
  rw [if_neg (by simpa using hm.symm), if_pos (by rfl)]
  exact ⟨_, rfl⟩

theorem keeps_courseBegun {fs : List Field} {ps : List Part} (m final dr : Nat) (hfs : startFields c ⊆ fs) (hp : ps.contains .course = true) (h : keeps fs ps d e) :
    keeps fs ps d (e.courseBegun c m final dr) := by
  have hmem {x : Field} (hx : x ∈ startFields c) : x ∈ fs := hfs hx
  unfold Dev.courseBegun
  exact .set 0 (hmem (by simp [startFields])) (.set 0 (hmem (by simp [startFields])) (.putCourse _ hp (.set final (hmem (by simp [startFields]))
    (.set m (hmem (by simp [startFields])) (.setDir dr (hmem (by simp [startFields])) hp h)))))

/-- The fields that a start writes one after another share no bit. -/
theorem startFields_apart : ∀ c : Fin 6, (startFields c).Pairwise (fun x y => x.apart y = true) ∧ (startFields c).Pairwise (fun x y => y.apart x = true) := by decide

/-- What a start shows: mode, final reference and direction. -/
theorem f_giveMode_start {c : Fin 6} {m final dr : Nat} (hfet : d.fetOn (d.portCode c) = true) (hcan : d.canTake c = true) (hm : m ≠ 0)
    (hrest : d.f (F.C_MODE_MODE c) = 0) (htest : ∀ t : Fin 16, d.f (F.TILE_TEST_RESULT t) ≠ 1) (hmode : m < 8) (hfinal : final < 65536) (hdr : dr < 2) :
    (d.giveMode c m final dr).f (F.C_MODE_MODE c) = m ∧ (d.giveMode c m final dr).f (F.C_REF_FINAL c) = final ∧
      (d.giveMode c m final dr).f (F.C_RSTAT_DIR c) = dr := by
  obtain ⟨ref, hstart⟩ := giveMode_start (final := final) (dr := dr) hfet hcan hm hrest htest
  obtain ⟨hafter, hbefore⟩ := startFields_apart c
  simp only [startFields, List.pairwise_cons, List.mem_cons, List.not_mem_nil, or_false, forall_eq_or_imp, forall_eq] at hafter hbefore
  rw [hstart]
  unfold Dev.courseBegun Dev.setDir
  have hcourse (e : Dev) (g : Course → Course) (x : Field) : (e.modCourse c g).f x = e.f x := rfl
  simp only [hcourse, Dev.f_set_apart, hafter, hbefore]
  exact ⟨Dev.f_set_lt _ _ _ (Nat.le_of_ble_eq_true rfl) hmode, Dev.f_set_lt _ _ _ (Nat.le_of_ble_eq_true rfl) hfinal,
    Dev.f_set_lt _ _ _ (Nat.le_of_ble_eq_true rfl) hdr⟩

/-! ### The FET of the port (R141, R173) -/

/-- A change of a port's FET changes no field of another kind of register. -/
theorem f_setFet (d : Dev) (p : Nat) (b : Bool) {x : Field} (hx : x.addr % 16 ≠ R.GUARD_STAT 0 % 16) : (d.setFet p b).f x = d.f x := by
  unfold Dev.setFet
  split
  · refine Dev.f_set_apart _ _ (Field.apart_of_addr fun heq => hx ?_)
    rw [heq]
    simp only [F.GUARD_STAT_FET_ON, R.GUARD_STAT]
    omega
  · rfl

/-- No course looks at a FET to tell whether it can take a mode. -/
theorem canTake_setFet (d : Dev) (p : Nat) (b : Bool) (c : Nat) : (d.setFet p b).canTake c = d.canTake c := by
  have hparts : (d.setFet p b).tile = d.tile ∧ (d.setFet p b).fmap = d.fmap ∧ (d.setFet p b).running = d.running := by
    unfold Dev.setFet
    split <;> exact ⟨rfl, rfl, rfl⟩
  obtain ⟨htile, hfmap, hrun⟩ := hparts
  have hcourse {x : Field} (k : Nat) (hx : x.addr = k + 128 * c) (hk : k % 16 ≠ 12) : (d.setFet p b).f x = d.f x :=
    f_setFet d p b (by simp only [hx, R.GUARD_STAT]; omega)
  have hstat (t : Nat) {x : Field} (hx : x.addr = R.TILE_STAT t) : (d.setFet p b).f x = d.f x :=
    f_setFet d p b (by simp only [hx, R.TILE_STAT, R.GUARD_STAT]; omega)
  have hzone (z : Nat) : (d.setFet p b).f (F.ZONE_CFG_COURSES z) = d.f (F.ZONE_CFG_COURSES z) ∧ (d.setFet p b).f (F.ZONE_STAT_SHUT z) = d.f (F.ZONE_STAT_SHUT z) :=
    ⟨f_setFet d p b (by simp only [F.ZONE_CFG_COURSES, R.ZONE_CFG, R.GUARD_STAT]; omega),
      f_setFet d p b (by simp only [F.ZONE_STAT_SHUT, R.ZONE_STAT, R.GUARD_STAT]; omega)⟩
  have hshut : (d.setFet p b).zoneShut c = d.zoneShut c := by simp only [Dev.zoneShut, Dev.fbit, Dev.on, (hzone _).1, (hzone _).2]
  have hmask : (d.setFet p b).f (F.C_TILES_WORK_MASK c) = d.f (F.C_TILES_WORK_MASK c) := hcourse 0x1004 rfl (by omega)
  have hslots : (d.setFet p b).slotHealthy = d.slotHealthy := by
    funext u
    have hstate (t : Nat) : (d.setFet p b).tst t = d.tst t := hstat t rfl
    have hfilled (t : Nat) : (d.setFet p b).f (F.TILE_STAT_STANDIN_V t) = d.f (F.TILE_STAT_STANDIN_V t) := hstat t rfl
    have hslot (t : Nat) : (d.setFet p b).f (F.TILE_STAT_STANDIN t) = d.f (F.TILE_STAT_STANDIN t) := hstat t rfl
    have howns : (d.setFet p b).ownsSlot u = d.ownsSlot u := by simp only [Dev.ownsSlot, Dev.on, hstate, hfilled, htile]
    have htakes : (d.setFet p b).slotTile u = d.slotTile u := by
      unfold Dev.slotTile
      simp only [Dev.on, hfilled, hslot, howns]
    simp only [Dev.slotHealthy, htakes, hstate, htile, hfmap]
  have hhealthy : (d.setFet p b).healthy c = d.healthy c := by simp only [Dev.healthy, Dev.slotsOf, Dev.fbit, hmask, hslots]
  have henable := hcourse (x := F.C_MAP_ENABLE c) 0x1000 rfl (by omega)
  have hlatch := hcourse (x := F.C_PCTL_CB_LATCH c) 0x1060 rfl (by omega)
  have hfault := hcourse (x := F.C_PCTL_MM_FAULT c) 0x1060 rfl (by omega)
  have hdie := f_setFet d p b (x := F.THERM_HW_PD_SHUT) (by decide)
  unfold Dev.canTake Dev.on
  rw [hrun, henable, hlatch, hfault, hshut, hdie, hhealthy]

end Sys2Proof.Machine
end
section
/-! A ring contract: what an OFFER, a REQUEST and the answers do on a segment, and what READY puts in force (R235 to R239). -/
namespace Sys2Proof.Machine

variable {d e : Dev} {s : State} {n : Nat}

theorem Traffic.noContracts (h : Traffic d e) : e.noContracts = d.noContracts := by simp only [Dev.noContracts, Dev.on, Dev.addr, h.f]
theorem Traffic.inForce (h : Traffic d e) (n : Nat) : e.inForce n = d.inForce n := congrArg (fun v => decide (2 ≤ v)) (h.cstate n)
theorem Traffic.port (h : Traffic d e) : e.port = d.port := by rw [h.only]; rfl
theorem Traffic.maySink (h : Traffic d e) (p : Nat) : e.maySink p = d.maySink p := by simp only [Dev.maySink, Dev.role, h.port]
theorem Traffic.maySource (h : Traffic d e) (p : Nat) : e.maySource p = d.maySource p := by simp only [Dev.maySource, Dev.role, h.port]

theorem addr_of_contracts (h : d.noContracts = false) : d.addr ≠ 0 := by
  simp only [Dev.noContracts, Bool.or_eq_false_iff, beq_eq_false_iff_ne] at h
  exact h.1

/-! ### An OFFER is answered (R236, R237) -/

theorem exec_ringOfferRx (g : Fin 2) (f : RxFrame) (s : State) : exec (.ringOfferRx g f) s = done s (offerRx s.dev g f) := rfl

theorem bestPoint_congr {p : Nat} (hmin : e.f (F.PORT_QUAL_QUAL_VMIN (p - 1)) = d.f (F.PORT_QUAL_QUAL_VMIN (p - 1)))
    (hmax : e.f (F.PORT_QUAL_QUAL_VMAX (p - 1)) = d.f (F.PORT_QUAL_QUAL_VMAX (p - 1))) (pts : List (Nat × Nat)) : e.bestPoint p pts = d.bestPoint p pts := by
  simp only [Dev.bestPoint, hmin, hmax]

/-- The negotiation that the OFFER `f` begins on segment `n`. -/
def Dev.offered (d : Dev) (n : Nat) (f : RxFrame) : Dev :=
  (d.modSeg n fun g => { g with offer := offerPoints f.data, offerOwn := false, offerSeq := f.seq, asked := none, waitUntil := none }).set (F.SEG_STAT_CSTATE n) 1

/-- The REQUEST for point `k`, `v` by `i`. -/
def Dev.requested (d : Dev) (n dst k v i : Nat) : Dev :=
  (d.sendRouted 9 dst 0 (beBytes 1 k ++ beBytes 1 0 ++ beBytes 2 i)).modSeg n fun g => { g with asked := some (v, i), waitUntil := none }

theorem cstate_modSeg (d : Dev) (n k : Nat) (g : Segment → Segment) : (d.modSeg n g).cstate k = d.cstate k := rfl

theorem sendRequest_best {dst k v i : Nat} (hsup : d.supervisor = true) (hbest : d.bestPoint (n + 3) (d.sg n).offer = some (k, v, i)) :
    d.sendRequest n dst = d.requested n dst k v (min i (d.f (F.PORT_ILIM_IN (n + 2)))) := by
  unfold Dev.sendRequest
  simp only [hbest, hsup, if_true]
  rfl

theorem offerRx_accepted {f : RxFrame} {k v i : Nat} (hsup : d.supervisor = true) (hl : d.listens n = true) (hmade : d.noContracts = false) (hdst : f.dst = d.addr)
    (hsrc : f.src ≠ d.addr) (hnone : d.cstate n = 0) (hsink : d.maySink (n + 3) = true) (hr : d.repeats n (rxFrame f 8) = false)
    (hcount : within 1 4 (beAt f.data 0 1) = true) (hlen : f.data.length = 1 + 4 * beAt f.data 0 1)
    (hn : n < 2) (hbest : d.bestPoint (n + 3) (offerPoints f.data) = some (k, v, i)) :
    offerRx d n f = ((d.accepted n (rxFrame f 8)).offered n f).requested n f.src k v (min i (d.f (F.PORT_ILIM_IN (n + 2)))) := by
  have haccepted := (Traffic.refl d).accepted n (rxFrame f 8)
  have hmine : (d.accepted n (rxFrame f 8)).delivered (rxFrame f 8) = true :=
    delivered_own (hdst.trans haccepted.addr.symm) fun h => hsrc (h.trans haccepted.addr)
  have hforce : (d.accepted n (rxFrame f 8)).inForce n = false := (haccepted.inForce n).trans (by simp [Dev.inForce, hnone])
  have hkept (x : Field) (hx : x.apart (F.SEG_STAT_CSTATE n) = true) : ((d.accepted n (rxFrame f 8)).offered n f).f x = d.f x :=
    (Dev.f_set_apart _ _ hx).trans ((f_modSeg ..).trans (haccepted.f x))
  have hpts : (((d.accepted n (rxFrame f 8)).offered n f).sg n).offer = offerPoints f.data := by rw [Dev.offered, sg_set, sg_modSeg_same _ _ hn]
  have hbest' : ((d.accepted n (rxFrame f 8)).offered n f).bestPoint (n + 3) (offerPoints f.data) = some (k, v, i) := by
    refine (bestPoint_congr (hkept _ (Field.apart_of_addr ?_)) (hkept _ (Field.apart_of_addr ?_)) _).trans hbest <;>
      simp only [F.PORT_QUAL_QUAL_VMIN, F.PORT_QUAL_QUAL_VMAX, R.PORT_QUAL, F.SEG_STAT_CSTATE, R.SEG_STAT] <;> omega
  have hsup' : ((d.accepted n (rxFrame f 8)).offered n f).supervisor = true := by
    have hhalted := hkept F.DBG_CTL_HALTED (Field.apart_of_addr (by simp only [F.DBG_CTL_HALTED, R.DBG_CTL, F.SEG_STAT_CSTATE, R.SEG_STAT]; omega))
    rw [← hsup, Dev.supervisor, Dev.supervisor, Dev.on, Dev.on, hhalted]
    rfl
  have hlimit := hkept (F.PORT_ILIM_IN (n + 2)) (Field.apart_of_addr (by simp only [F.PORT_ILIM_IN, R.PORT_ILIM, F.SEG_STAT_CSTATE, R.SEG_STAT]; omega))
  have hlength : (within 1 4 (beAt f.data 0 1) && f.data.length == 1 + 4 * beAt f.data 0 1) = true := by simp [hcount, hlen]
  have hasked := sendRequest_best hsup' (by rw [hpts]; exact hbest') (dst := f.src)
  rw [hlimit] at hasked
  rw [← hasked, offerRx, hlength, receive_accepted hl hr hdst hsrc]
  simp only [hmine, haccepted.noContracts, hmade, haccepted.maySink, hsink, hforce, cstate_modSeg, haccepted.cstate, hnone, beq_self_eq_true, Bool.not_true, Bool.false_and,
    Bool.or_false, Bool.false_eq_true, if_false, if_true]
  rfl

section
variable {f : RxFrame} {k v i : Nat} (d)

theorem cstate_requested : (((d.accepted n (rxFrame f 8)).offered n f).requested n f.src k v i).cstate n = 1 := by
  rw [Dev.requested, cstate_modSeg, ((Traffic.refl _).sendRouted ..).cstate]
  exact cstate_set _ (by omega)

theorem sg_requested (hn : n < 2) : ((((d.accepted n (rxFrame f 8)).offered n f).requested n f.src k v i).sg n).offer = offerPoints f.data ∧
    ((((d.accepted n (rxFrame f 8)).offered n f).requested n f.src k v i).sg n).asked = some (v, i) := by
  rw [Dev.requested, sg_modSeg_same _ _ hn]
  refine ⟨?_, rfl⟩
  rw [((Traffic.refl _).sendRouted ..).offer, Dev.offered, sg_set, sg_modSeg_same _ _ hn]

/-- The REQUEST waits at the end of the unit's own frames. -/
theorem own_requested (hn : n < 2) (haddr : d.addr ≠ 0) : ((((d.accepted n (rxFrame f 8)).offered n f).requested n f.src k v i).sg n).own.getLast? =
    some { dst := f.src, src := d.addr, typ := 9, prio := 0, seq := d.ring.seq, data := beBytes 1 k ++ beBytes 1 0 ++ beBytes 2 i } := by
  have hroute : ((d.accepted n (rxFrame f 8)).offered n f).route f.src = n := route_accepted (rxFrame f 8) d n
  have hidle : (((d.accepted n (rxFrame f 8)).offered n f).sg n).idle = false := by
    obtain ⟨hidle, -⟩ := sg_accepted (rxFrame f 8) d hn
    rw [Dev.offered, sg_set, sg_modSeg_same _ _ hn]
    exact hidle
  have haddr' : ((d.accepted n (rxFrame f 8)).offered n f).addr = d.addr := by
    have hplace : F.RING_ADDR_ADDR.apart (F.SEG_STAT_CSTATE n) = true :=
      Field.apart_of_addr (by simp only [F.RING_ADDR_ADDR, R.RING_ADDR, F.SEG_STAT_CSTATE, R.SEG_STAT]; omega)
    exact (Dev.f_set_apart _ _ hplace).trans ((f_modSeg ..).trans ((Traffic.refl d).accepted n _).addr)
  have hown := own_sendRouted_busy (d := (d.accepted n (rxFrame f 8)).offered n f) (typ := 9) (dst := f.src) (prio := 0)
    (data := beBytes 1 k ++ beBytes 1 0 ++ beBytes 2 i) (by rw [hroute]; exact hn) (by rw [haddr']; exact haddr) (by rw [hroute]; exact hidle)
  have hseq : ((d.accepted n (rxFrame f 8)).offered n f).ring.seq = d.ring.seq := seq_accepted (rxFrame f 8) d n
  rw [hroute, haddr', hseq] at hown
  rw [Dev.requested, sg_modSeg_same _ _ hn]
  dsimp only
  rw [hown, List.getLast?_concat]

theorem keeps_requested : keeps [F.SEG_STAT_CSTATE n] [.ring] d (((d.accepted n (rxFrame f 8)).offered n f).requested n f.src k v i) :=
  (((Traffic.refl _).sendRouted ..).keeps rfl (((((Traffic.refl d).accepted n _).keeps rfl keeps.refl).modSeg n _ rfl).set 1 (by simp))).modSeg n _ rfl

theorem raised_requested : (((d.accepted n (rxFrame f 8)).offered n f).requested n f.src k v i).raised = d.raised := by
  rw [Dev.requested, raised_modSeg, ((Traffic.refl _).sendRouted ..).raised, Dev.offered, Dev.set_raised, raised_modSeg, ((Traffic.refl d).accepted n _).raised]

end

/-! ### The end of the command -/

theorem cstate_finish (g : Fin 2) (d : Dev) : (finish d).cstate g = d.cstate g :=
  Dev.f_finish d ((by decide : ∀ g : Fin 2, endFields.all (fun y => (F.SEG_STAT_CSTATE g).apart y) = true) g)

/-- An OFFER that reaches a sink without a contract is answered by a REQUEST for the best point. -/
theorem effect_ringOfferRx {g : Fin 2} {f : RxFrame} {k v i : Nat} (hsup : s.dev.supervisor = true) (hl : s.dev.listens g = true)
    (hmade : s.dev.noContracts = false) (hdst : f.dst = s.dev.addr) (hsrc : f.src ≠ s.dev.addr) (hnone : s.dev.cstate g = 0)
    (hsink : s.dev.maySink (g + 3) = true) (hr : s.dev.repeats g (rxFrame f 8) = false) (hcount : within 1 4 (beAt f.data 0 1) = true)
    (hlen : f.data.length = 1 + 4 * beAt f.data 0 1) (hbest : s.dev.bestPoint (g + 3) (offerPoints f.data) = some (k, v, i)) :
    effect (.ringOfferRx g f) s [F.SEG_STAT_CSTATE g] [.ring] [] fun d =>
      d.cstate g = 1 ∧ (d.sg g).offer = offerPoints f.data ∧ (d.sg g).asked = some (v, min i (s.dev.f (F.PORT_ILIM_IN (g + 2)))) ∧
      (d.sg g).own.getLast? = some { dst := f.src, src := s.dev.addr, typ := 9, prio := 0, seq := s.dev.ring.seq,
                                     data := beBytes 1 k ++ beBytes 1 0 ++ beBytes 2 (min i (s.dev.f (F.PORT_ILIM_IN (g + 2)))) } := by
  refine effect_of_meaning (exec_ringOfferRx g f s) (offerRx_accepted hsup hl hmade hdst hsrc hnone hsink hr hcount hlen g.isLt hbest)
    (keeps_requested s.dev) (by simp [raised_requested]) ?_
  rw [cstate_finish, sg_finish]
  obtain ⟨hoffer, hasked⟩ := sg_requested (f := f) (k := k) (v := v) (i := min i (s.dev.f (F.PORT_ILIM_IN (g + 2)))) s.dev g.isLt
  exact ⟨cstate_requested s.dev, hoffer, hasked, own_requested s.dev g.isLt (addr_of_contracts hmade)⟩

end Sys2Proof.Machine
end
section
/-! The answers to a REQUEST, and a contract that comes into force (R235, R236, R239). -/
namespace Sys2Proof.Machine

variable {d e : Dev} {s : State} {n : Nat}

/-! ### ACCEPT, REJECT and WAIT are received (R236) -/

theorem exec_ringAcceptRx (g : Fin 2) (f : RxFrame) (s : State) : exec (.ringAcceptRx g f) s = done s (acceptRx s.dev g f) := rfl
theorem exec_ringRejectRx (g : Fin 2) (f : RxFrame) (s : State) : exec (.ringRejectRx g f) s = done s (rejectRx s.dev g f) := rfl
theorem exec_ringWaitRx (g : Fin 2) (f : RxFrame) (s : State) : exec (.ringWaitRx g f) s = done s (waitRx s.dev g f) := rfl

/-- A frame for this unit is delivered after it has been accepted. -/
theorem delivered_accepted {x : Frame} (hdst : x.dst = d.addr) (hsrc : x.src ≠ d.addr) (n : Nat) : (d.accepted n x).delivered x = true := by
  have haccepted := (Traffic.refl d).accepted n x
  exact delivered_own (hdst.trans haccepted.addr.symm) fun h => hsrc (h.trans haccepted.addr)

theorem inForce_modSeg (d : Dev) (n k : Nat) (g : Segment → Segment) : (d.modSeg n g).inForce k = d.inForce k := rfl

theorem acceptRx_accepted {f : RxFrame} {v i : Nat} (hsup : d.supervisor = true) (hl : d.listens n = true) (hmade : d.noContracts = false) (hdst : f.dst = d.addr)
    (hsrc : f.src ≠ d.addr) (hstate : d.cstate n = 1) (hr : d.repeats n (rxFrame f 10) = false) (hlen : f.data.length = 4) (href : beAt f.data 0 1 = 9)
    (hasked : (d.sg n).asked = some (v, i)) :
    acceptRx d n f = (d.accepted n (rxFrame f 10)).modSeg n fun g => { g with asked := none, pend := some (v, i), pendSource := false, offer := [] } := by
  have haccepted := (Traffic.refl d).accepted n (rxFrame f 10)
  have hforce : (d.accepted n (rxFrame f 10)).inForce n = false := (haccepted.inForce n).trans (by simp [Dev.inForce, hstate])
  rw [acceptRx, show (f.data.length == 4) = true by simp [hlen], receive_accepted hl hr hdst hsrc]
  simp [href, delivered_accepted (x := rxFrame f 10) hdst hsrc, haccepted.noContracts, hmade, haccepted.supervisor, hsup, haccepted.asked, hasked, inForce_modSeg, hforce]

theorem rejectRx_accepted {f : RxFrame} (hl : d.listens n = true) (hdst : f.dst = d.addr) (hsrc : f.src ≠ d.addr) (hn : n < 2) (hstate : d.cstate n = 1)
    (hr : d.repeats n (rxFrame f 11) = false) (hlen : f.data.length = 4) (href : beAt f.data 0 1 = 9) (hpend : (d.sg n).pend = none) :
    rejectRx d n f = ((d.accepted n (rxFrame f 11)).modSeg n fun g => { g with asked := none, offer := [], capped := false, waitUntil := none }).set
      (F.SEG_STAT_CSTATE n) 0 := by
  have haccepted := (Traffic.refl d).accepted n (rxFrame f 11)
  have hpend' : ((d.accepted n (rxFrame f 11)).sg n).pend = none := (haccepted.pend n).trans hpend
  rw [rejectRx, show (f.data.length == 4) = true by simp [hlen], receive_accepted hl hr hdst hsrc]
  simp [href, delivered_accepted (x := rxFrame f 11) hdst hsrc, cstate_modSeg, haccepted.cstate, hstate, sg_modSeg_same _ _ hn, hpend']

theorem waitRx_accepted {f : RxFrame} (hl : d.listens n = true) (hdst : f.dst = d.addr) (hsrc : f.src ≠ d.addr)
    (hr : d.repeats n (rxFrame f 12) = false) (hlen : f.data.length = 4) (href : beAt f.data 0 1 = 9) (hasked : (d.sg n).asked.isSome = true) :
    waitRx d n f = (d.accepted n (rxFrame f 12)).modSeg n fun g => { g with asked := none, waitUntil := some (d.pw.clock + 1000 * beAt f.data 2 2) } := by
  have haccepted := (Traffic.refl d).accepted n (rxFrame f 12)
  rw [waitRx, show (f.data.length == 4) = true by simp [hlen], receive_accepted hl hr hdst hsrc]
  simp [href, delivered_accepted (x := rxFrame f 12) hdst hsrc, haccepted.asked, hasked, haccepted.pw]

section
variable {g : Fin 2} {f : RxFrame} {v i : Nat} (hsup : s.dev.supervisor = true) (hmade : s.dev.noContracts = false) (hl : s.dev.listens g = true)
  (hdst : f.dst = s.dev.addr) (hsrc : f.src ≠ s.dev.addr)
include hl hdst hsrc

include hsup hmade in
theorem effect_ringAcceptRx (hstate : s.dev.cstate g = 1) (hr : s.dev.repeats g (rxFrame f 10) = false) (hlen : f.data.length = 4) (href : beAt f.data 0 1 = 9)
    (hasked : (s.dev.sg g).asked = some (v, i)) :
    effect (.ringAcceptRx g f) s [] [.ring] [] fun d => (d.sg g).pend = some (v, i) ∧ (d.sg g).pendSource = false ∧ (d.sg g).asked = none := by
  have haccepted := (Traffic.refl s.dev).accepted g (rxFrame f 10)
  refine effect_of_meaning (exec_ringAcceptRx g f s) (acceptRx_accepted hsup hl hmade hdst hsrc hstate hr hlen href hasked)
    ((haccepted.keeps rfl keeps.refl).modSeg g _ rfl) (by simp [haccepted.raised]) ?_
  rw [sg_finish, sg_modSeg_same _ _ g.isLt]
  exact ⟨rfl, rfl, rfl⟩

theorem effect_ringRejectRx (hstate : s.dev.cstate g = 1) (hr : s.dev.repeats g (rxFrame f 11) = false) (hlen : f.data.length = 4) (href : beAt f.data 0 1 = 9)
    (hpend : (s.dev.sg g).pend = none) :
    effect (.ringRejectRx g f) s [F.SEG_STAT_CSTATE g] [.ring] [] fun d => d.cstate g = 0 ∧ (d.sg g).asked = none ∧ (d.sg g).offer = [] := by
  have haccepted := (Traffic.refl s.dev).accepted g (rxFrame f 11)
  refine effect_of_meaning (exec_ringRejectRx g f s) (rejectRx_accepted hl hdst hsrc g.isLt hstate hr hlen href hpend)
    (((haccepted.keeps rfl keeps.refl).modSeg g _ rfl).set 0 (by simp)) (by simp [haccepted.raised]) ?_
  rw [cstate_finish, sg_finish, sg_set, sg_modSeg_same _ _ g.isLt]
  exact ⟨cstate_set _ (by omega), rfl, rfl⟩

theorem effect_ringWaitRx (hr : s.dev.repeats g (rxFrame f 12) = false) (hlen : f.data.length = 4) (href : beAt f.data 0 1 = 9)
    (hasked : (s.dev.sg g).asked.isSome = true) :
    effect (.ringWaitRx g f) s [] [.ring] [] fun d =>
      (d.sg g).waitUntil = some (s.dev.pw.clock + 1000 * beAt f.data 2 2) ∧ (d.sg g).asked = none := by
  have haccepted := (Traffic.refl s.dev).accepted g (rxFrame f 12)
  refine effect_of_meaning (exec_ringWaitRx g f s) (waitRx_accepted hl hdst hsrc hr hlen href hasked)
    ((haccepted.keeps rfl keeps.refl).modSeg g _ rfl) (by simp [haccepted.raised]) ?_
  rw [sg_finish, sg_modSeg_same _ _ g.isLt]
  exact ⟨rfl, rfl⟩

end

/-! ### A contract comes into force (R235, R236) -/

/-- The fields that a contract in force on segment `n` is shown by. -/
def contractFields (n : Nat) : List Field :=
  [F.SEG_CONTRACT_V n, F.SEG_CONTRACT_I n, F.SEG_STAT_CSTATE n, F.SEG_STAT_CROLE n, F.PORT_STAT_CONTRACT (n + 2)]

theorem contractFields_apart : ∀ g : Fin 2, (contractFields g).Pairwise (fun x y => x.apart y = true) ∧ (contractFields g).Pairwise (fun x y => y.apart x = true) ∧
    ∀ x ∈ contractFields g, x.apart (F.PORT_STAT_DEB_MS (g + 2)) = true ∧ x.apart (F.PORT_STAT_QSTATE (g + 2)) = true ∧ endFields.all (fun y => x.apart y) = true := by
  decide

/-- The contract for `v` by `i` is shown as in force on segment `n`, and nothing waits there any more. -/
def Dev.contractShown (d : Dev) (n v i : Nat) (source : Bool) : Dev :=
  (((((d.set (F.SEG_CONTRACT_V n) v).set (F.SEG_CONTRACT_I n) i).set (F.SEG_STAT_CSTATE n) 2).set (F.SEG_STAT_CROLE n) (if source then 1 else 2)).setB
    (F.PORT_STAT_CONTRACT (n + 2)) (!source)).modSeg n fun g => { g with pend := none, pendSource := false }

theorem contractInForce_source (d : Dev) (n v i : Nat) : d.contractInForce n v i true = (d.contractShown n v i true).raise 4 (4 + n) := rfl

/-- A debounce that starts afresh shows nothing but itself. -/
theorem restartDebounce_kept (d : Dev) (p : Nat) :
    (∀ x : Field, x.apart (F.PORT_STAT_DEB_MS (p - 1)) = true → x.apart (F.PORT_STAT_QSTATE (p - 1)) = true → (d.restartDebounce p).f x = d.f x) ∧
      (d.restartDebounce p).ring = d.ring ∧ (d.restartDebounce p).raised = d.raised :=
  ⟨fun _ hdeb hq => (Dev.f_set_apart _ _ hq).trans (Dev.f_set_apart _ _ hdeb), rfl, rfl⟩

/-- What shows that the contract for `v` by `i` is in force on segment `n`. -/
def Dev.showsContract (d : Dev) (n v i : Nat) (source : Bool) : Prop :=
  d.cstate n = 2 ∧ d.crole n = (if source then 1 else 2) ∧ d.f (F.SEG_CONTRACT_V n) = v ∧ d.f (F.SEG_CONTRACT_I n) = i ∧
    d.f (F.PORT_STAT_CONTRACT (n + 2)) = (!source).toNat

theorem showsContract_congr {v i : Nat} {source : Bool} (hf : ∀ x ∈ contractFields n, e.f x = d.f x) (h : d.showsContract n v i source) :
    e.showsContract n v i source := by
  simp only [contractFields, List.mem_cons, List.not_mem_nil, or_false, forall_eq_or_imp, forall_eq] at hf
  obtain ⟨hv, hi, hcstate, hcrole, hcontract⟩ := hf
  simp only [Dev.showsContract, Dev.cstate, Dev.crole, hv, hi, hcstate, hcrole, hcontract]
  exact h

theorem contractShown_shows (g : Fin 2) (d : Dev) {v i : Nat} (source : Bool) (hv : v < 65536) (hi : i < 65536) :
    (d.contractShown g v i source).showsContract g v i source := by
  obtain ⟨hafter, -, -⟩ := contractFields_apart g
  simp only [contractFields, List.pairwise_cons, List.mem_cons, List.not_mem_nil, or_false, forall_eq_or_imp, forall_eq] at hafter
  unfold Dev.showsContract Dev.contractShown Dev.setB Dev.cstate Dev.crole
  have hkept (e : Dev) (h : Segment → Segment) (x : Field) : (e.modSeg g h).f x = e.f x := f_modSeg ..
  simp only [hkept, Dev.f_set_apart, hafter]
  exact ⟨Dev.f_set_lt _ _ _ (by simp [F.SEG_STAT_CSTATE]) (by simp [F.SEG_STAT_CSTATE]),
    Dev.f_set_lt _ _ _ (by simp [F.SEG_STAT_CROLE]) (by cases source <;> simp [F.SEG_STAT_CROLE]),
    Dev.f_set_lt _ _ _ (by simp [F.SEG_CONTRACT_V]) (by simpa [F.SEG_CONTRACT_V] using hv), Dev.f_set_lt _ _ _ (by simp [F.SEG_CONTRACT_I]) (by simpa [F.SEG_CONTRACT_I] using hi),
    Dev.f_set_lt _ _ _ (by simp [F.PORT_STAT_CONTRACT]) (by cases source <;> simp [F.PORT_STAT_CONTRACT])⟩

theorem contractInForce_shows (g : Fin 2) (d : Dev) {v i : Nat} (source : Bool) (hv : v < 65536) (hi : i < 65536) :
    (d.contractInForce g v i source).showsContract g v i source ∧ ((d.contractInForce g v i source).sg g).pend = none ∧
      (d.contractInForce g v i source).raised = ((d.contractShown g v i source).raise 4 (4 + g)).raised ∧
      (d.contractInForce g v i source).pw = d.pw := by
  have hraised : ((d.contractShown g v i source).raise 4 (4 + g)).showsContract g v i source :=
    showsContract_congr (fun x _ => Dev.f_raise ..) (contractShown_shows g d source hv hi)
  have hpend : (((d.contractShown g v i source).raise 4 (4 + g)).sg g).pend = none := by rw [sg_raise, Dev.contractShown, sg_modSeg_same _ _ g.isLt]
  have hpw : ((d.contractShown g v i source).raise 4 (4 + g)).pw = d.pw := by rw [Dev.raise_pw]; rfl
  unfold Dev.contractInForce
  extract_lets p fresh inForce shown told
  have htold : told = (d.contractShown g v i source).raise 4 (4 + g) := rfl
  obtain ⟨hfield, hring, hevents⟩ := restartDebounce_kept told p
  split
  · refine ⟨showsContract_congr (fun x hx => ?_) hraised, (congrArg (fun r : Ring => (vget r.seg g).pend) hring).trans hpend, hevents, hpw⟩
    obtain ⟨-, -, hplace⟩ := contractFields_apart g
    obtain ⟨hdeb, hq, -⟩ := hplace x hx
    exact hfield x hdeb hq
  · exact ⟨hraised, hpend, rfl, hpw⟩

theorem keeps_contractShown {fs : List Field} {ps : List Part} {v i : Nat} {source : Bool} (hfs : contractFields n ⊆ fs) (hp : ps.contains .ring = true)
    (h : keeps fs ps d e) : keeps fs ps d (e.contractShown n v i source) := by
  have hmem {x : Field} (hx : x ∈ contractFields n) : x ∈ fs := hfs hx
  unfold Dev.contractShown
  exact .modSeg n _ hp (.setB _ (hmem (by simp [contractFields])) (.set _ (hmem (by simp [contractFields])) (.set _ (hmem (by simp [contractFields]))
    (.set _ (hmem (by simp [contractFields])) (.set _ (hmem (by simp [contractFields])) h)))))

theorem keeps_contractInForce {fs : List Field} {ps : List Part} {v i : Nat} {source : Bool} (hfs : contractFields n ⊆ fs)
    (hdeb : F.PORT_STAT_DEB_MS (n + 2) ∈ fs) (hq : F.PORT_STAT_QSTATE (n + 2) ∈ fs) (hring : ps.contains .ring = true) (hport : ps.contains .port = true)
    (h : keeps fs ps d e) : keeps fs ps d (e.contractInForce n v i source) := by
  have htold : keeps fs ps d ((e.contractShown n v i source).raise 4 (4 + n)) := (keeps_contractShown hfs hring h).raise 4 _
  exact .ite ((keeps.putPort _ hport (htold.set _ hdeb)).set _ hq) htold

/-- A contract that is shown after traffic raises its one event. -/
theorem raised_contractShown {v i : Nat} {source : Bool} (h : Traffic d e) (halive : d.alive = true) :
    ((e.contractShown n v i source).raise 4 (4 + n)).raised = d.raised ++ [4 * 32 + 4 + n].map fun m => (m, d.pw.time) := by
  have hshown : (e.contractShown n v i source).pw = d.pw ∧ (e.contractShown n v i source).raised = d.raised := ⟨h.pw, h.raised⟩
  obtain ⟨hpw, hraised⟩ := hshown
  rw [Dev.raise_raised _ _ _ (by rw [Dev.alive, hpw]; exact halive), hpw, hraised, ← Nat.add_assoc]
  rfl

/-- READY puts the contract in force, whatever else it ends. -/
theorem ready_shows (g : Fin 2) (d : Dev) {v i : Nat} (source : Bool) (halive : d.alive = true) (hv : v < 65536) (hi : i < 65536) :
    (d.ready g v i source).showsContract g v i source ∧ ((d.ready g v i source).sg g).pend = none ∧
      (4 * 32 + (4 + g.val), d.pw.time) ∈ (d.ready g v i source).raised := by
  obtain ⟨hshows, hpend, hraised, hpw⟩ := contractInForce_shows g d source hv hi
  have hevent : (4 * 32 + (4 + g.val), d.pw.time) ∈ (d.contractInForce g v i source).raised := by
    rw [hraised]
    exact mem_raise (d := d.contractShown g v i source) halive 4 (4 + g)
  unfold Dev.ready
  extract_lets swap inForce
  split
  · refine ⟨showsContract_congr (fun x _ => Dev.f_raise ..) hshows, (by rw [sg_raise]; exact hpend), ?_⟩
    rw [Dev.raise_raised _ _ _ (show inForce.alive = true by rw [Dev.alive, hpw]; exact halive)]
    exact List.mem_append_left _ hevent
  · exact ⟨hshows, hpend, hevent⟩

theorem ready_fresh {v i : Nat} {source : Bool} (h : d.cstate n ≠ 4) : d.ready n v i source = d.contractInForce n v i source := if_neg (by simp [h])

theorem showsContract_finish (g : Fin 2) {v i : Nat} {source : Bool} (h : d.showsContract g v i source) : (finish d).showsContract g v i source := by
  obtain ⟨-, -, hplace⟩ := contractFields_apart g
  refine showsContract_congr (fun x hx => Dev.f_finish d ?_) h
  obtain ⟨-, -, hend⟩ := hplace x hx
  exact hend

/-! ### READY is received (R236) -/

theorem exec_ringReadyRx (g : Fin 2) (f : RxFrame) (s : State) : exec (.ringReadyRx g f) s = done s (readyRx s.dev g f) := rfl

theorem readyRx_accepted {f : RxFrame} (hl : d.listens n = true) (hmade : d.noContracts = false) (hdst : f.dst = d.addr) (hsrc : f.src ≠ d.addr)
    (hr : d.repeats n (rxFrame f 13) = false) (hlen : f.data.length = 4) (hpend : (d.sg n).pend.isSome = true) (hsink : (d.sg n).pendSource = false) :
    readyRx d n f = (d.accepted n (rxFrame f 13)).ready n (beAt f.data 0 2) (beAt f.data 2 2) false := by
  have haccepted := (Traffic.refl d).accepted n (rxFrame f 13)
  rw [readyRx, show (f.data.length == 4) = true by simp [hlen], receive_accepted hl hr hdst hsrc]
  simp [delivered_accepted (x := rxFrame f 13) hdst hsrc, haccepted.noContracts, hmade, haccepted.pend, hpend, haccepted.pendSource, hsink]

section
variable {g : Fin 2} {f : RxFrame} {v i : Nat} (hl : s.dev.listens g = true) (hmade : s.dev.noContracts = false) (hdst : f.dst = s.dev.addr)
  (hsrc : f.src ≠ s.dev.addr)
include hl hmade hdst hsrc

theorem leads_ringReadyRx (hr : s.dev.repeats g (rxFrame f 13) = false) (hlen : f.data.length = 4) (hpend : (s.dev.sg g).pend.isSome = true)
    (hsink : (s.dev.sg g).pendSource = false) :
    leads (.ringReadyRx g f) s fun d =>
      d.cstate g = 2 ∧ d.crole g = 2 ∧ d.f (F.SEG_CONTRACT_V g) = beAt f.data 0 2 ∧ d.f (F.SEG_CONTRACT_I g) = beAt f.data 2 2 ∧
      d.f (F.PORT_STAT_CONTRACT (g + 2)) = 1 ∧ (d.sg g).pend = none ∧ d.pendingEvent (4 * 32 + 4 + g.val) = true := by
  have haccepted := (Traffic.refl s.dev).accepted g (rxFrame f 13)
  have hexec := exec_ringReadyRx g f s
  rw [readyRx_accepted hl hmade hdst hsrc hr hlen hpend hsink] at hexec
  have halive := haccepted.alive.trans (alive_of_running (Bool.and_eq_true_iff.1 hl).1)
  obtain ⟨hshows, hnone, hevent⟩ := ready_shows g _ false halive (beAt_lt f.data 0 2) (beAt_lt f.data 2 2)
  obtain ⟨hcstate, hcrole, hv, hi, hcontract⟩ := showsContract_finish g hshows
  refine leads_of_meaning hexec ⟨hcstate, hcrole, hv, hi, hcontract, ?_, ?_⟩
  · rw [sg_finish]
    exact hnone
  · rw [Nat.add_assoc]
    exact pendingEvent_finish (by omega) hevent

theorem effect_ringReadyRx (hstate : s.dev.cstate g = 1) (hr : s.dev.repeats g (rxFrame f 13) = false) (hlen : f.data.length = 4)
    (hpend : (s.dev.sg g).pend = some (v, i)) (hsink : (s.dev.sg g).pendSource = false) :
    effect (.ringReadyRx g f) s [F.SEG_CONTRACT_V g, F.SEG_CONTRACT_I g, F.SEG_STAT_CSTATE g, F.SEG_STAT_CROLE g, F.PORT_STAT_CONTRACT (g + 2),
        F.PORT_STAT_DEB_MS (g + 2), F.PORT_STAT_QSTATE (g + 2)] [.ring, .port] [4 * 32 + 4 + g.val] fun d =>
      d.cstate g = 2 ∧ d.crole g = 2 ∧ d.f (F.SEG_CONTRACT_V g) = beAt f.data 0 2 ∧ d.f (F.SEG_CONTRACT_I g) = beAt f.data 2 2 ∧
      d.f (F.PORT_STAT_CONTRACT (g + 2)) = 1 := by
  have haccepted := (Traffic.refl s.dev).accepted g (rxFrame f 13)
  obtain ⟨hshows, -, hraised, -⟩ := contractInForce_shows g (s.dev.accepted g (rxFrame f 13)) false (beAt_lt f.data 0 2) (beAt_lt f.data 2 2)
  refine effect_of_meaning (exec_ringReadyRx g f s)
    ((readyRx_accepted hl hmade hdst hsrc hr hlen (by rw [hpend]; rfl) hsink).trans (ready_fresh (by rw [haccepted.cstate, hstate]; omega)))
    (keeps_contractInForce (by simp [contractFields]) (by simp) (by simp) rfl rfl (haccepted.keeps rfl keeps.refl)) ?_ (showsContract_finish g hshows)
  rw [hraised, raised_contractShown haccepted (alive_of_running (Bool.and_eq_true_iff.1 hl).1)]

end

/-! ### READY is sent (R236) -/

theorem exec_contractReadySend (g : Fin 2) (u : Nat) (s : State) : exec (.contractReadySend g u) s = done s (readySend s.dev g u) := rfl

theorem readySend_sent {u v i : Nat} (hrun : d.running = true) (hmade : d.noContracts = false) (hpend : (d.sg n).pend = some (v, i))
    (hsource : (d.sg n).pendSource = true) (hhigh : 50 * u ≤ 51 * v) (hlow : 49 * v ≤ 50 * u) :
    readySend d n u = (d.sendNeigh n 13 (beBytes 2 v ++ beBytes 2 i)).ready n v i true := by
  simp [readySend, hpend, hrun, hmade, hsource, hhigh, hlow]

section
variable {g : Fin 2} {u v i : Nat} (hrun : s.dev.running = true) (hmade : s.dev.noContracts = false) (hv : v < 65536) (hi : i < 65536)
  (hpend : (s.dev.sg g).pend = some (v, i)) (hsource : (s.dev.sg g).pendSource = true) (hhigh : 50 * u ≤ 51 * v) (hlow : 49 * v ≤ 50 * u)
include hrun hmade hv hi hpend hsource hhigh hlow

theorem leads_contractReadySend :
    leads (.contractReadySend g u) s fun d =>
      d.cstate g = 2 ∧ d.crole g = 1 ∧ d.f (F.SEG_CONTRACT_V g) = v ∧ d.f (F.SEG_CONTRACT_I g) = i ∧ d.pendingEvent (4 * 32 + 4 + g.val) = true := by
  have hsent := (Traffic.refl s.dev).sendNeigh g 13 (beBytes 2 v ++ beBytes 2 i)
  have hexec := exec_contractReadySend g u s
  rw [readySend_sent hrun hmade hpend hsource hhigh hlow] at hexec
  obtain ⟨hshows, -, hevent⟩ := ready_shows g _ true (hsent.alive.trans (alive_of_running hrun)) hv hi
  obtain ⟨hcstate, hcrole, hshowv, hshowi, -⟩ := showsContract_finish g hshows
  refine leads_of_meaning hexec ⟨hcstate, hcrole, hshowv, hshowi, ?_⟩
  rw [Nat.add_assoc]
  exact pendingEvent_finish (by omega) hevent

theorem effect_contractReadySend (hstate : s.dev.cstate g ≠ 4) :
    effect (.contractReadySend g u) s [F.SEG_CONTRACT_V g, F.SEG_CONTRACT_I g, F.SEG_STAT_CSTATE g, F.SEG_STAT_CROLE g, F.PORT_STAT_CONTRACT (g + 2)]
      [.ring] [4 * 32 + 4 + g.val] fun d =>
        d.cstate g = 2 ∧ d.crole g = 1 ∧ d.f (F.SEG_CONTRACT_V g) = v ∧ d.f (F.SEG_CONTRACT_I g) = i ∧ d.f (F.PORT_STAT_CONTRACT (g + 2)) = 0 := by
  have hsent := (Traffic.refl s.dev).sendNeigh g 13 (beBytes 2 v ++ beBytes 2 i)
  obtain ⟨hshows, -, -⟩ := contractInForce_shows g (s.dev.sendNeigh g 13 (beBytes 2 v ++ beBytes 2 i)) true hv hi
  refine effect_of_meaning (exec_contractReadySend g u s)
    ((readySend_sent hrun hmade hpend hsource hhigh hlow).trans ((ready_fresh (by rw [hsent.cstate]; exact hstate)).trans (contractInForce_source ..)))
    ((keeps_contractShown (by simp [contractFields]) rfl (hsent.keeps rfl keeps.refl)).raise 4 _)
    (raised_contractShown hsent (alive_of_running hrun)) (showsContract_finish g hshows)

end

end Sys2Proof.Machine
end
section
/-! A REQUEST is accepted: the port's discharge ends, its FET closes and its course takes the voltage (R236, R264). -/
namespace Sys2Proof.Machine

variable {d e : Dev} {s : State} {n : Nat}

/-! ### The discharge of a port ends (R264) -/

theorem endDischarge_ends (d : Dev) (p : Nat) : (d.endDischarge p).fbit F.PDIS_CFG_RUNNING (p - 1) = false := by
  unfold Dev.endDischarge
  split
  · rw [Dev.fbit, Dev.f_raise, Dev.setBit, Dev.f_set_same _ _ _ (by decide), Nat.testBit_mod_two_pow, withBit_testBit, if_pos rfl, Bool.and_false]
  next h => simpa using h

theorem endDischarge_none {p : Nat} (h : d.fbit F.PDIS_CFG_RUNNING (p - 1) = false) : d.endDischarge p = d := by
  unfold Dev.endDischarge
  rw [h]
  exact if_neg Bool.false_ne_true

/-! ### The point is accepted (R236, R238) -/

/-- The source waits until its port reaches the point. -/
def Segment.accepting (v i : Nat) (g : Segment) : Segment := { g with pend := some (v, i), pendSource := true, offer := [], capped := false, waitUntil := none }

/-- Segment `n` on its way to the point, before the port's course moves. -/
def Dev.pointTaken (d : Dev) (n v i : Nat) : Dev :=
  (if (d.endDischarge (n + 3)).inForce n then (d.endDischarge (n + 3)).lowerContract n v i else (d.endDischarge (n + 3)).closeOut (n + 3)).modSeg n (Segment.accepting v i)

theorem acceptPoint_eq (d : Dev) (n v i : Nat) : d.acceptPoint n v i =
    match (d.pointTaken n v i).courseOf (n + 3) with
    | some c => (d.pointTaken n v i).giveMode c 2 v 1
    | none => d.pointTaken n v i := rfl

/-- No discharge runs after a point was taken. -/
theorem fbit_pointTaken (hn : n < 2) (d : Dev) (v i : Nat) : (d.pointTaken n v i).fbit F.PDIS_CFG_RUNNING (n + 2) = false := by
  have hended : (d.endDischarge (n + 3)).fbit F.PDIS_CFG_RUNNING (n + 2) = false := endDischarge_ends d (n + 3)
  have hkept {x : Field} (v : Nat) (e : Dev) (hx : x.addr ≠ R.PDIS_CFG) : (e.set x v).f F.PDIS_CFG_RUNNING = e.f F.PDIS_CFG_RUNNING :=
    Dev.f_set_apart _ _ (Field.apart_of_addr (Ne.symm hx))
  unfold Dev.pointTaken
  rw [Dev.fbit, f_modSeg]
  split
  · unfold Dev.lowerContract
    rw [hkept _ _ (by simp only [F.SEG_STAT_CSTATE, R.SEG_STAT, R.PDIS_CFG]; omega), hkept _ _ (by simp only [F.SEG_CONTRACT_I, R.SEG_CONTRACT, R.PDIS_CFG]; omega),
      hkept _ _ (by simp only [F.SEG_CONTRACT_V, R.SEG_CONTRACT, R.PDIS_CFG]; omega)]
    exact hended
  · unfold Dev.closeOut
    split
    · exact hended
    · rw [f_setFet _ _ _ (by decide)]
      exact hended

theorem sg_pointTaken (hn : n < 2) (d : Dev) (v i : Nat) : ((d.pointTaken n v i).sg n).pend = some (v, i) ∧ ((d.pointTaken n v i).sg n).pendSource = true ∧
    ((d.pointTaken n v i).sg n).offer = [] := by
  rw [Dev.pointTaken, sg_modSeg_same _ _ hn]
  exact ⟨rfl, rfl, rfl⟩

theorem courseKept_acceptPoint (d : Dev) (n v i : Nat) : CourseKept (d.pointTaken n v i) (d.acceptPoint n v i) := by
  rw [acceptPoint_eq]
  split
  next c hc => exact CourseKept.refl.giveMode (courseOf_lt hc) ..
  next => exact CourseKept.refl

theorem sg_course (h : CourseKept d e) (n : Nat) : e.sg n = d.sg n := congrArg (fun r : Ring => vget r.seg n) h.ring

/-! ### A REQUEST is received (R236) -/

theorem exec_ringRequestRx (g : Fin 2) (f : RxFrame) (ans : Decision) (s : State) : exec (.ringRequestRx g f ans) s = done s (requestRx s.dev g f ans) := rfl

/-- The unit has answered the REQUEST of frame `f` by ACCEPT. -/
def Dev.granted (d : Dev) (n : Nat) (f : RxFrame) : Dev := (d.accepted n (rxFrame f 9)).reply 0x0A f.src 9 f.seq 0

theorem traffic_granted (d : Dev) (n : Nat) (f : RxFrame) : Traffic d (d.granted n f) := ((Traffic.refl d).accepted n _).reply ..

theorem requestRx_accepted {f : RxFrame} {v i m : Nat} (hsup : d.supervisor = true) (hl : d.listens n = true) (hmade : d.noContracts = false)
    (hdst : f.dst = d.addr) (hsrc : f.src ≠ d.addr) (hn : n < 2) (hsource : d.maySource (n + 3) = true) (hr : d.repeats n (rxFrame f 9) = false)
    (hlen : f.data.length = 4) (hown : (d.sg n).offerOwn = true) (hclose : d.hasOwn n 14 = false) (hpoint : (d.sg n).offer[beAt f.data 0 1]? = some (v, m))
    (hasked : beAt f.data 2 2 = i) (him : i ≤ m) : requestRx d n f .accept = (d.granted n f).acceptPoint n v i := by
  have haccepted := (Traffic.refl d).accepted n (rxFrame f 9)
  have hoffers : (d.sg n).offer.isEmpty = false := by
    cases h : (d.sg n).offer with
    | nil => simp [h] at hpoint
    | cons _ _ => rfl
  rw [requestRx, show (f.data.length == 4) = true by simp [hlen], receive_accepted hl hr hdst hsrc]
  simp [delivered_accepted (x := rxFrame f 9) hdst hsrc, haccepted.supervisor, hsup, hasOwn_accepted _ _ hn, hclose, haccepted.noContracts, hmade, haccepted.maySource,
    hsource, haccepted.offerOwn, hown, haccepted.offer, hoffers, hpoint, hasked, Nat.not_lt.2 him, Dev.granted]

/-- A segment without a contract, whose port is neither held open nor discharged, takes a point by closing its FET. -/
theorem pointTaken_fresh {v i : Nat} (hstate : d.cstate n = 1) (hlatch : d.f (F.GUARD_STAT_LATCHED (n + 2)) = 0) (hheld : (vget d.port (n + 2)).ocHeld = false)
    (hrest : d.fbit F.PDIS_CFG_RUNNING (n + 2) = false) : d.pointTaken n v i = (d.setFet (n + 3) true).modSeg n (Segment.accepting v i) := by
  have hended : d.endDischarge (n + 3) = d := endDischarge_none (p := n + 3) hrest
  have hopen : (d.on (F.GUARD_STAT_LATCHED (n + 2)) || (vget d.port (n + 2)).ocHeld) = false := by simp [Dev.on, hlatch, hheld]
  have hclosed : d.closeOut (n + 3) = d.setFet (n + 3) true := if_neg (show ¬ (d.on (F.GUARD_STAT_LATCHED (n + 2)) || (vget d.port (n + 2)).ocHeld) = true by simp [hopen])
  rw [Dev.pointTaken, hended, hclosed, if_neg (by simp [Dev.inForce, hstate])]

theorem Traffic.canTake (h : Traffic d e) (c : Nat) : e.canTake c = d.canTake c := by rw [h.only]; rfl
theorem Traffic.courseOf (h : Traffic d e) (p : Nat) : e.courseOf p = d.courseOf p := by rw [h.only]; rfl
theorem Traffic.fbit (h : Traffic d e) (x : Field) (i : Nat) : e.fbit x i = d.fbit x i := congrArg (Nat.testBit · i) (h.f x)

theorem courseOf_setFet (d : Dev) (p q : Nat) (b : Bool) : (d.setFet p b).courseOf q = d.courseOf q := by
  have hmap (c : Nat) : (d.setFet p b).f (F.C_MAP_PORT c) = d.f (F.C_MAP_PORT c) ∧ (d.setFet p b).f (F.C_MAP_ENABLE c) = d.f (F.C_MAP_ENABLE c) :=
    ⟨f_setFet d p b (by simp only [F.C_MAP_PORT, R.C_MAP, R.GUARD_STAT]; omega), f_setFet d p b (by simp only [F.C_MAP_ENABLE, R.C_MAP, R.GUARD_STAT]; omega)⟩
  simp only [Dev.courseOf, Dev.portCode, Dev.on, (hmap _).1, (hmap _).2]

theorem keeps.setFet {fs : List Field} {ps : List Part} (p : Nat) (b : Bool) (hx : F.GUARD_STAT_FET_ON (p - 1) ∈ fs) (h : keeps fs ps d e) :
    keeps fs ps d (e.setFet p b) := .ite (h.setB b hx) h

theorem raised_setFet (d : Dev) (p : Nat) (b : Bool) : (d.setFet p b).raised = d.raised := by
  unfold Dev.setFet
  split <;> rfl

theorem f_setFet_closed (hn : n < 2) (d : Dev) : (d.setFet (n + 3) true).f (F.GUARD_STAT_FET_ON (n + 2)) = 1 := by
  rw [Dev.setFet, if_pos (by simp [within]; omega)]
  exact Dev.f_set_lt _ _ _ (by simp [F.GUARD_STAT_FET_ON]) (by simp [F.GUARD_STAT_FET_ON])

/-- The course on the port that closed for the point can start. -/
theorem startable_setFet {c : Nat} (hn : n < 2) (hcourse : d.courseOf (n + 3) = some c) (hcan : d.canTake c = true) (hrest : d.f (F.C_MODE_MODE c) = 0)
    (htest : ∀ t : Fin 16, d.f (F.TILE_TEST_RESULT t) ≠ 1) :
    (d.setFet (n + 3) true).fetOn ((d.setFet (n + 3) true).portCode c) = true ∧ (d.setFet (n + 3) true).canTake c = true ∧
      (d.setFet (n + 3) true).f (F.C_MODE_MODE c) = 0 ∧ ∀ t : Fin 16, (d.setFet (n + 3) true).f (F.TILE_TEST_RESULT t) ≠ 1 := by
  have hmode : (d.setFet (n + 3) true).f (F.C_MODE_MODE c) = 0 := (f_setFet _ _ _ (by simp only [F.C_MODE_MODE, R.C_MODE, R.GUARD_STAT]; omega)).trans hrest
  refine ⟨?_, (canTake_setFet ..).trans hcan, hmode, fun t => ?_⟩
  · rw [portCode_courseOf ((courseOf_setFet ..).trans hcourse)]
    have hport : within 1 5 (n + 3) = true := by simp [within]; omega
    simp [Dev.fetOn, Dev.on, hport, f_setFet_closed hn]
  · rw [f_setFet _ _ _ (by simp only [F.TILE_TEST_RESULT, R.TILE_TEST, R.GUARD_STAT]; omega)]
    exact htest t

theorem canTake_modSeg (d : Dev) (n c : Nat) (g : Segment → Segment) : (d.modSeg n g).canTake c = d.canTake c := rfl
theorem fetOn_modSeg (d : Dev) (n p : Nat) (g : Segment → Segment) : (d.modSeg n g).fetOn p = d.fetOn p := rfl
theorem portCode_modSeg (d : Dev) (n c : Nat) (g : Segment → Segment) : (d.modSeg n g).portCode c = d.portCode c := rfl
theorem courseOf_modSeg (d : Dev) (n p : Nat) (g : Segment → Segment) : (d.modSeg n g).courseOf p = d.courseOf p := rfl

/-- A point that is taken starts the port's course at its voltage, and changes nothing but the FET, the course's own registers and the segment. -/
theorem acceptPoint_start {c : Fin 6} {v i : Nat} (hn : n < 2) (htaken : d.pointTaken n v i = (d.setFet (n + 3) true).modSeg n (Segment.accepting v i))
    (hv : v < 65536) (hcourse : d.courseOf (n + 3) = some c.val) (hcan : d.canTake c = true) (hrest : d.f (F.C_MODE_MODE c) = 0)
    (htest : ∀ t : Fin 16, d.f (F.TILE_TEST_RESULT t) ≠ 1) :
    ((d.acceptPoint n v i).f (F.C_MODE_MODE c) = 2 ∧ (d.acceptPoint n v i).f (F.C_REF_FINAL c) = v ∧ (d.acceptPoint n v i).f (F.C_RSTAT_DIR c) = 1) ∧
      keeps (F.GUARD_STAT_FET_ON (n + 2) :: startFields c) [.ring, .course] d (d.acceptPoint n v i) ∧ (d.acceptPoint n v i).raised = d.raised := by
  obtain ⟨hfet, htake, hmode, htests⟩ := startable_setFet hn hcourse hcan hrest htest
  have hgiven : d.acceptPoint n v i = ((d.setFet (n + 3) true).modSeg n (Segment.accepting v i)).giveMode c 2 v 1 := by
    rw [acceptPoint_eq, htaken, courseOf_modSeg, courseOf_setFet, hcourse]
  have hbefore : keeps (F.GUARD_STAT_FET_ON (n + 2) :: startFields c) [.ring, .course] d ((d.setFet (n + 3) true).modSeg n (Segment.accepting v i)) :=
    (keeps.refl.setFet (n + 3) true List.mem_cons_self).modSeg n _ rfl
  have hraised : ((d.setFet (n + 3) true).modSeg n (Segment.accepting v i)).raised = d.raised := (raised_modSeg ..).trans (raised_setFet ..)
  rw [hgiven]
  rw [← fetOn_modSeg _ n _ (Segment.accepting v i), ← portCode_modSeg _ n _ (Segment.accepting v i)] at hfet
  rw [← canTake_modSeg _ n _ (Segment.accepting v i)] at htake
  rw [← f_modSeg _ n (Segment.accepting v i)] at hmode
  simp only [← f_modSeg (d.setFet (n + 3) true) n (Segment.accepting v i)] at htests
  generalize (d.setFet (n + 3) true).modSeg n (Segment.accepting v i) = t at *
  refine ⟨f_giveMode_start (m := 2) hfet htake (by decide) hmode htests (by decide) hv (by decide), ?_⟩
  obtain ⟨ref, hstart⟩ := giveMode_start (m := 2) (final := v) (dr := 1) hfet htake (by decide) hmode htests
  rw [hstart]
  have hsub : startFields c ⊆ F.GUARD_STAT_FET_ON (n + 2) :: startFields c := List.subset_cons_self ..
  exact ⟨((keeps_courseBegun _ _ _ hsub rfl hbefore).set _ (hsub (by simp [startFields]))).set _ (hsub (by simp [startFields])), hraised⟩

section
variable {g : Fin 2} {f : RxFrame} {v i m : Nat} (hsup : s.dev.supervisor = true) (hl : s.dev.listens g = true) (hmade : s.dev.noContracts = false)
  (hdst : f.dst = s.dev.addr) (hsrc : f.src ≠ s.dev.addr) (hsource : s.dev.maySource (g + 3) = true) (hr : s.dev.repeats g (rxFrame f 9) = false)
  (hlen : f.data.length = 4) (hown : (s.dev.sg g).offerOwn = true) (hclose : s.dev.hasOwn g 14 = false)
  (hpoint : (s.dev.sg g).offer[beAt f.data 0 1]? = some (v, m)) (hasked : beAt f.data 2 2 = i) (him : i ≤ m)
include hsup hl hmade hdst hsrc hsource hr hlen hown hclose hpoint hasked him

theorem leads_ringRequestRx :
    leads (.ringRequestRx g f .accept) s fun d =>
      (d.sg g).pend = some (v, i) ∧ (d.sg g).pendSource = true ∧ (d.sg g).offer = [] ∧ d.fbit F.PDIS_CFG_RUNNING (g + 2) = false := by
  have hexec := exec_ringRequestRx g f .accept s
  rw [requestRx_accepted hsup hl hmade hdst hsrc g.isLt hsource hr hlen hown hclose hpoint hasked him] at hexec
  have hkept := courseKept_acceptPoint (s.dev.granted g f) g v i
  obtain ⟨hpend, hpendSource, hoffer⟩ := sg_pointTaken g.isLt (s.dev.granted g f) v i
  refine leads_of_meaning hexec ?_
  rw [sg_finish, sg_course hkept, Dev.fbit, Dev.f_finish _ (by decide), hkept.field _ (by decide)]
  exact ⟨hpend, hpendSource, hoffer, fbit_pointTaken g.isLt ..⟩

theorem effect_ringRequestRx {c : Fin 6} (hv : v < 65536) (hstate : s.dev.cstate g = 1) (hlatch : s.dev.f (F.GUARD_STAT_LATCHED (g + 2)) = 0)
    (hheld : (vget s.dev.port (g + 2)).ocHeld = false) (hcourse : s.dev.courseOf (g + 3) = some c.val) (hcan : s.dev.canTake c = true)
    (hrest : s.dev.f (F.C_MODE_MODE c) = 0) (hlone : s.dev.lone c) (hdis : s.dev.fbit F.PDIS_CFG_RUNNING (g + 2) = false) :
    effect (.ringRequestRx g f .accept) s (F.GUARD_STAT_FET_ON (g + 2) :: startFields c) [.ring, .course] [] fun d =>
      d.f (F.GUARD_STAT_FET_ON (g + 2)) = 1 ∧ d.f (F.C_MODE_MODE c) = 2 ∧ d.f (F.C_REF_FINAL c) = v ∧ d.f (F.C_RSTAT_DIR c) = 1 ∧
      (d.sg g).pend = some (v, i) ∧ (d.sg g).pendSource = true := by
  have hgranted := traffic_granted s.dev g f
  have hkept := courseKept_acceptPoint (s.dev.granted g f) g v i
  obtain ⟨hpend, hpendSource, -⟩ := sg_pointTaken g.isLt (s.dev.granted g f) v i
  have htaken : (s.dev.granted g f).pointTaken g v i = ((s.dev.granted g f).setFet (g + 3) true).modSeg g (Segment.accepting v i) :=
    pointTaken_fresh ((hgranted.cstate g).trans hstate) ((hgranted.f _).trans hlatch) (by rw [hgranted.port]; exact hheld) ((hgranted.fbit ..).trans hdis)
  obtain ⟨-, -, htest⟩ := hlone
  obtain ⟨hshown, hkeeps, hraised⟩ := acceptPoint_start g.isLt htaken hv ((hgranted.courseOf _).trans hcourse) ((hgranted.canTake _).trans hcan)
    ((hgranted.f _).trans hrest) fun t => by rw [hgranted.f]; exact (htest t).1
  obtain ⟨hmode, hfinal, hdir⟩ := hshown
  refine effect_of_meaning (exec_ringRequestRx g f .accept s) (requestRx_accepted hsup hl hmade hdst hsrc g.isLt hsource hr hlen hown hclose hpoint hasked him)
    ((hgranted.keeps rfl keeps.refl).trans hkeeps) (by simp [hraised, hgranted.raised]) ?_
  have hfields := (by decide : ∀ (g : Fin 2) (c : Fin 6), ∀ x ∈ F.GUARD_STAT_FET_ON (g + 2) :: startFields c, endFields.all (fun y => x.apart y) = true) g c
  simp only [startFields, List.mem_cons, List.not_mem_nil, or_false, forall_eq_or_imp, forall_eq] at hfields
  obtain ⟨hendFet, hendMode, hendDir, hendFinal, -⟩ := hfields
  rw [sg_finish, sg_course hkept, Dev.f_finish _ hendFet, Dev.f_finish _ hendMode, Dev.f_finish _ hendFinal, Dev.f_finish _ hendDir,
    hkept.field _ ((by decide : ∀ g : Fin 2, (F.GUARD_STAT_FET_ON (g + 2)).pastCourses = true) g), htaken, f_modSeg, f_setFet_closed g.isLt]
  rw [htaken] at hpend hpendSource
  exact ⟨rfl, hmode, hfinal, hdir, hpend, hpendSource⟩

end

end Sys2Proof.Machine
end
section
/-! The policy of a segment: what the core offers, withdraws and asks for, and an offer that lapses (R236, R237, R241, R244). -/
namespace Sys2Proof.Machine

variable {d e : Dev} {s : State} {n : Nat}

theorem exec_policyOffer (g : Fin 2) (act : PolicyAct) (s : State) : exec (.policyOffer g act) s = done s (policyOffer s.dev g act) := rfl
theorem exec_offerLapse (g : Fin 2) (s : State) : exec (.offerLapse g) s = done s (offerLapse s.dev g) := rfl

/-! ### An offer is made (R236, R237) -/

/-- The offer of `pts` on segment `n`, sent and remembered. -/
def Dev.offersOut (d : Dev) (n : Nat) (pts : List (Nat × Nat)) (capped : Bool) : Dev :=
  (d.sendNeigh n 0x08 (beBytes 1 pts.length ++ pts.flatMap fun x => beBytes 2 x.1 ++ beBytes 2 x.2)).modSeg n fun g =>
    { g with offer := pts, offerOwn := true, offerSeq := d.ring.seq, capped := capped }

theorem sendOffer_made {pts : List (Nat × Nat)} (hmade : d.noContracts = false) (hpts : pts ≠ []) (capped : Bool) :
    d.sendOffer n pts capped = if d.cstate n = 0 then (d.offersOut n pts capped).set (F.SEG_STAT_CSTATE n) 1 else d.offersOut n pts capped := by
  have hstate : (d.offersOut n pts capped).cstate n = d.cstate n := (cstate_modSeg ..).trans (((Traffic.refl d).sendNeigh ..).cstate n)
  have hempty : pts.isEmpty = false := by simp [hpts]
  unfold Dev.sendOffer
  rw [show (d.addr == 0 || d.on F.RING_ADDR_DUP || pts.isEmpty) = (d.noContracts || pts.isEmpty) from rfl, hmade, hempty]
  simp only [Bool.or_false, Bool.false_eq_true, if_false]
  simp only [← hstate, beq_iff_eq]
  rfl

/-- An offer that is out has its points, and CSTATE is not NONE. -/
theorem sendOffer_shows {pts : List (Nat × Nat)} (hn : n < 2) (hmade : d.noContracts = false) (hpts : pts ≠ []) (capped : Bool) :
    ((d.sendOffer n pts capped).sg n).offer = pts ∧ ((d.sendOffer n pts capped).sg n).offerOwn = true ∧
      (d.sendOffer n pts capped).cstate n = if d.cstate n = 0 then 1 else d.cstate n := by
  have hout : ((d.offersOut n pts capped).sg n).offer = pts ∧ ((d.offersOut n pts capped).sg n).offerOwn = true := by
    rw [Dev.offersOut, sg_modSeg_same _ _ hn]
    exact ⟨rfl, rfl⟩
  rw [sendOffer_made hmade hpts]
  obtain ⟨hoffer, hown⟩ := hout
  split
  · exact ⟨hoffer, hown, cstate_set _ (by omega)⟩
  · exact ⟨hoffer, hown, (cstate_modSeg ..).trans (((Traffic.refl d).sendNeigh ..).cstate n)⟩

section
variable {g : Fin 2} (hsup : s.dev.supervisor = true) (hmade : s.dev.noContracts = false)
include hsup

include hmade in
theorem leads_policyOffer_offer {v i : Nat} (hup : s.dev.lstate g = 2) (hsource : s.dev.maySource (g + 3) = true) (hrole : s.dev.crole g ≠ 2)
    (hstate : s.dev.cstate g ≠ 4) :
    leads (.policyOffer g (.offer [(v, i)])) s fun d => (d.sg g).offer = [(v, i)] ∧ (d.sg g).offerOwn = true ∧ d.cstate g ≠ 0 := by
  have hmeaning : policyOffer s.dev g (.offer [(v, i)]) = s.dev.sendOffer g [(v, i)] false := by simp [policyOffer, hsup, hup, hsource, hrole, hstate]
  obtain ⟨hoffer, hown, hcstate⟩ := sendOffer_shows g.isLt hmade (List.cons_ne_nil (v, i) []) false
  refine leads_of_meaning ((exec_policyOffer g _ s).trans (congrArg (done s) hmeaning)) ?_
  rw [sg_finish, cstate_finish]
  refine ⟨hoffer, hown, ?_⟩
  rw [hcstate]
  split <;> omega

include hmade in
theorem effect_policyOffer_follow (hpolicy : s.dev.policyHolds g = true) (hnone : s.dev.cstate g = 0) (hempty : (s.dev.sg g).offer = []) :
    effect (.policyOffer g .follow) s [F.SEG_STAT_CSTATE g] [.ring] [] fun d =>
      d.cstate g = 1 ∧ (d.sg g).offer = [(s.dev.f (F.SEG_POLICY_VOFFER g), s.dev.f (F.PORT_OLIM_OUT (g + 2)))] ∧ (d.sg g).offerOwn = true := by
  have hmeaning : policyOffer s.dev g .follow =
      s.dev.sendOffer g [(s.dev.f (F.SEG_POLICY_VOFFER g), s.dev.f (F.PORT_OLIM_OUT (g + 2)))] false := by
    simp [policyOffer, hsup, Dev.followPolicy, hpolicy, hnone, hempty]
  have hpts : [(s.dev.f (F.SEG_POLICY_VOFFER g), s.dev.f (F.PORT_OLIM_OUT (g + 2)))] ≠ [] := List.cons_ne_nil _ _
  obtain ⟨hoffer, hown, hcstate⟩ := sendOffer_shows g.isLt hmade hpts false
  have hmade' := sendOffer_made (n := g) hmade hpts false
  rw [if_pos hnone] at hmade' hcstate
  have hsent := (Traffic.refl s.dev).sendNeigh g 0x08
  refine effect_of_meaning (exec_policyOffer g _ s) (hmeaning.trans hmade') ((((hsent _).keeps rfl keeps.refl).modSeg g _ rfl).set 1 (by simp)) ?_ ?_
  · rw [Dev.set_raised, Dev.offersOut, raised_modSeg, (hsent _).raised]
    simp
  · rw [sg_finish, cstate_finish, ← hmade']
    exact ⟨hcstate, hoffer, hown⟩

theorem leads_policyOffer_withdraw (hoffering : s.dev.offering g = true) :
    leads (.policyOffer g .withdraw) s fun d => d.cstate g = 0 ∧ (d.sg g).offer = [] := by
  have hmeaning : policyOffer s.dev g .withdraw = (s.dev.sendHardclose g 11).dropContract g 11 false := by simp [policyOffer, hsup, Dev.withdraw, hoffering]
  obtain ⟨hcstate, hoffer, -⟩ := dropContract_over g.isLt (s.dev.sendHardclose g 11) 11 false
  refine leads_of_meaning ((exec_policyOffer g _ s).trans (congrArg (done s) hmeaning)) ?_
  rw [sg_finish, cstate_finish]
  exact ⟨hcstate, hoffer⟩

include hmade in
theorem leads_policyOffer_swap {a : SwapAsk} (hup : s.dev.lstate g = 2) (hstate : s.dev.cstate g = 2) (hswap : (s.dev.sg g).swapOut = none) :
    leads (.policyOffer g (.swap a)) s fun d => (d.sg g).swapOut = some { v := a.v, i := a.i, force := a.force, seq := s.dev.ring.seq } := by
  refine leads_of_meaning (exec_policyOffer g _ s) ?_
  simp only [policyOffer, hsup, Dev.sendSwapReq, hup, hstate, hswap, hmade, beq_self_eq_true, Option.isNone_none, Bool.not_false, Bool.not_true, Bool.and_self,
    Bool.false_eq_true, if_true, if_false]
  rw [sg_finish, sg_modSeg_same _ _ g.isLt]

include hmade in
theorem leads_policyOffer_openFlow {b : FlowAsk} {k : Nat} (hopen : s.dev.mayOpen (s.dev.route b.provider) b.rateMax = true)
    (hfresh : s.dev.findFlow s.dev.addr b.flowId = none) (hfree : s.dev.freeFlow = some k) :
    leads (.policyOffer g (.openFlow b)) s fun d =>
      d.flow k = { consumer := s.dev.addr, provider := b.provider, flowId := b.flowId, rate := b.rate, rateMax := b.rateMax, allow := b.allow,
                   reroute := b.reroute, role := 2, state := 1, inp := s.dev.route b.provider + 1, seq := s.dev.ring.seq } := by
  have haddr := addr_of_contracts hmade
  refine leads_of_meaning (exec_policyOffer g _ s) ?_
  simp only [policyOffer, hsup, Dev.askFlow, hopen, hfresh, hfree, beq_eq_false_iff_ne.2 haddr, Option.isSome_none, Bool.not_true, Bool.or_self, Bool.false_eq_true,
    if_false]
  rw [flow_finish, Dev.openOn, ((Traffic.refl _).originate ..).flow, flow_setFlow_same]

end

/-! ### An offer lapses (R236) -/

theorem offerLapse_lapsed (hrun : d.running = true) (hoffer : (d.sg n).offer ≠ []) (hasked : (d.sg n).asked = none) (hcapped : (d.sg n).capped = false)
    (hwait : (d.sg n).waitUntil = none) : offerLapse d n =
      if d.cstate n = 1 ∧ (d.sg n).pend = none then (d.modSeg n fun g => { g with offer := [], offerOwn := false }).set (F.SEG_STAT_CSTATE n) 0
      else d.modSeg n fun g => { g with offer := [], offerOwn := false } := by
  simp [offerLapse, hrun, hoffer, hasked, hcapped, hwait, cstate_modSeg]

section
variable {g : Fin 2} (hrun : s.dev.running = true) (hoffer : (s.dev.sg g).offer ≠ []) (hasked : (s.dev.sg g).asked = none) (hcapped : (s.dev.sg g).capped = false)
  (hwait : (s.dev.sg g).waitUntil = none)
include hrun hoffer hasked hcapped hwait

theorem leads_offerLapse : leads (.offerLapse g) s fun d => (d.sg g).offer = [] ∧ (d.sg g).offerOwn = false := by
  have hexec := exec_offerLapse g s
  rw [offerLapse_lapsed hrun hoffer hasked hcapped hwait] at hexec
  refine leads_of_meaning hexec ?_
  rw [sg_finish]
  split
  · rw [sg_set, sg_modSeg_same _ _ g.isLt]
    exact ⟨rfl, rfl⟩
  · rw [sg_modSeg_same _ _ g.isLt]
    exact ⟨rfl, rfl⟩

theorem effect_offerLapse (hstate : s.dev.cstate g = 1) (hpend : (s.dev.sg g).pend = none) :
    effect (.offerLapse g) s [F.SEG_STAT_CSTATE g] [.ring] [] fun d => d.cstate g = 0 ∧ (d.sg g).offer = [] := by
  refine effect_of_meaning (exec_offerLapse g s) ((offerLapse_lapsed hrun hoffer hasked hcapped hwait).trans (if_pos ⟨hstate, hpend⟩))
    ((keeps.refl.modSeg g _ rfl).set 0 (by simp)) (by simp) ?_
  rw [cstate_finish, sg_finish, sg_set, sg_modSeg_same _ _ g.isLt]
  exact ⟨cstate_set _ (by omega), rfl⟩

end

end Sys2Proof.Machine

open Sys2Proof Sys2Proof.Machine

/-- Settles O22: a frame of the negotiation is accepted and leaves the terms it states on its segment; READY shows the contract in force; the policy and the
lapse change what is offered. -/
theorem ringContracts : Obligations.RingContracts := by
  unfold Obligations.RingContracts
  intro g f c k v i m u a b s hsup hup hmade hdst hsrc _ hv hi
  have hrun := running_of_supervisor hsup
  have hl := listens_up hrun hup
  refine ⟨effect_ringOfferRx hsup hl hmade hdst hsrc, leads_ringRequestRx hsup hl hmade hdst hsrc, leads_ringReadyRx hl hmade hdst hsrc,
    leads_contractReadySend hrun hmade hv hi, leads_policyOffer_offer hsup hmade hup, leads_policyOffer_withdraw hsup, leads_policyOffer_swap hsup hmade hup,
    leads_policyOffer_openFlow hsup hmade, ?_, effect_ringAcceptRx hsup hmade hl hdst hsrc, effect_ringRejectRx hl hdst hsrc, effect_ringWaitRx hl hdst hsrc,
    effect_ringReadyRx hl hmade hdst hsrc, effect_policyOffer_follow hsup hmade, effect_contractReadySend hrun hmade hv hi, leads_offerLapse hrun,
    effect_offerLapse hrun⟩
  intro hstate hsource hr hlen hown hclose hpoint hasked him hlatch hheld hcourse hcan hrest _ hlone hdis
  exact effect_ringRequestRx hsup hl hmade hdst hsrc hsource hr hlen hown hclose hpoint hasked him hv hstate hlatch hheld hcourse hcan hrest hlone hdis
end

section
/-! Three states that the hypotheses of the statements on timers, the time base and the slots let in: a timer that is its own master and a slot whose action
names a timer past GT11, both of which R284 forbids an image, and a PTB_FRAC that is not the fraction of the position (R274, R281, R283, R292). -/
namespace Sys2Proof.Machine

/-! ### A timer that is its own master (R284, R292) -/

theorem exec_timerOverflow (n : Fin 12) (s : State) :
    exec (.timerOverflow n) s = done s (s.dev.tickFrom n (some (s.dev.f (F.GT_PERIOD_ACTIVE n)))) := rfl

/-- GT0 runs with PERIOD 5 and compare value 1, as the gated slave of GT0: its count of 0 gives it a high level. -/
def gatedBySelf : Dev :=
  runningWith [(F.GT_CTL_RUNNING 0, 1), (F.GT_CFG_SMODE 0, 1), (F.GT_MAP_MASTER 0, 0), (F.GT_CMP_ACTIVE 0, 1), (F.GT_PERIOD_ACTIVE 0, 5)]

/-- At the compare value its own level goes low, so it never counts on to PERIOD. -/
theorem ovf_tickFrom_gatedBySelf : (gatedBySelf.tickFrom 0 (some (gatedBySelf.f (F.GT_PERIOD_ACTIVE 0)))).f (F.GT_CTL_OVF 0) = 0 := by decide

/-! ### A step to the position that is shown already (R274) -/

theorem exec_ptbStep (q : QuadSample) (ivl : Nat) (s : State) : exec (.ptbStep q ivl) s = done s (ptbStepCmd s.dev q ivl) := rfl

/-- The time base counts QA and QB from step count 0, while the position compared last is that of step count 1 and PTB_FRAC reads 1. -/
def aheadOfCount : Dev :=
  (runningWith [(F.PTB_STAT_RUN, 1), (F.PTB_MAP_SOURCE, 1), (F.PTB_FRAC_FRAC, 1)]).putPtb { pos := 65536 }

/-- A rising edge of QA while QB is low, held for longer than any FILT. -/
def risingQa : QuadSample := { qa := true, qb := false, held := 100 }

/-- The step moves the position nowhere, and leaves the fraction as it was. -/
theorem frac_ptbStep_aheadOfCount : (ptbStepCmd aheadOfCount risingQa 1).f F.PTB_FRAC_FRAC = 1 := by decide

/-! ### An action on a timer past GT11 (R281, R283) -/

theorem exec_slotPosfWrite (k : Fin 32) (t : Nat) (frac : BitVec 16) (s : State) :
    exec (.slotPosfWrite k t frac) s = done s (slotPosfWrite s.dev k t frac) := rfl

theorem slotPos_finish (d : Dev) : (finish d).slotPos = d.slotPos := congrArg (·.slotPos) (EndSame.finish d).rest

theorem slotPos_armSlot (d : Dev) (k : Nat) : (d.armSlot k).slotPos = d.slotPos := by
  unfold Dev.armSlot
  split <;> rfl

/-- The position that an accepted write of SLOTk_POSF applies (R281). -/
theorem slotPos_slotPosf {d : Dev} {k : Nat} (frac : Nat) (hk : k < 32) (hon : d.slotOn k = true) :
    vget (d.slotPosf k frac).slotPos k = d.f (F.SLOT_POSI_INT k) * 65536 + frac := by
  unfold Dev.slotPosf
  rw [if_neg (by simp [hon]), slotPos_armSlot]
  exact vget_vset_same _ _ hk

/-- The arming bits of the slots. -/
def armFields : List Field := (List.range 32).flatMap fun k => [F.SLOT_MAP_ARM_F k, F.SLOT_MAP_ARM_R k]

/-- The re-arming after a movement changes the arming bits alone (R278). -/
theorem keeps_rearmSlots (d : Dev) : keeps armFields [] d (d.each 32 Dev.rearmSlot) := by
  refine keeps.each 32 (fun c k hk hc => ?_) keeps.refl
  have hf : F.SLOT_MAP_ARM_F k ∈ armFields := List.mem_flatMap.2 ⟨k, List.mem_range.2 hk, by simp⟩
  have hr : F.SLOT_MAP_ARM_R k ∈ armFields := List.mem_flatMap.2 ⟨k, List.mem_range.2 hk, by simp⟩
  exact .ite hc (.ite (.set 1 hr (.ite (.set 1 hf hc) hc)) (.ite (.set 1 hf hc) hc))

/-- Slot 1, enabled and armed at position 0 with the held integer part 1_0000h, has the action TMR_UPDATE of timer 14, whose PERIOD would stand where
SLOT1_POSI does; the time base interpolates forward from 0. -/
def updatesPastTimers : Dev :=
  (runningWith [(F.PTB_STAT_RUN, 1), (F.PTB_CFG_INTERP, 1), (F.PTB_IVL_IVL, 4), (F.SLOT_POSI_INT 1, 0x10000), (F.SLOT_MAP_EN 1, 1), (F.SLOT_MAP_ARM_F 1, 1),
    (F.SLOT_MAP_ACTION 1, 6), (F.SLOT_MAP_TARGET 1, 14)]).putPtb { interp := true }

/-- The same device one logic clock later, before the position moves. -/
def movesPastSlot : Dev := updatesPastTimers.putPtb { updatesPastTimers.ptb with since := 1 }

/-- The same device after the firing of slot 1, before its action and the re-arming. -/
def firedSlot1 : Dev := (((movesPastSlot.putPos 16384).set (F.SLOT_MAP_ARM_F 1) 0).setBit F.PTB_HIT_HIT 1 true).raise 5 12

theorem movePos_movesPastSlot : movesPastSlot.movePos 16384 true = (firedSlot1.loadShadows 14).each 32 Dev.rearmSlot := by
  have hfired : movesPastSlot.firedSlots movesPastSlot.ptb.pos 16384 true = [(1, 1, 1)] := by decide
  unfold Dev.movePos
  rw [if_neg (by decide), if_pos (by decide), hfired]
  rfl

theorem ptbTime_updatesPastTimers : updatesPastTimers.ptbTime 1 = ((firedSlot1.loadShadows 14).each 32 Dev.rearmSlot).putGtSet [] := by
  have hpos : movesPastSlot.posAt 1 = 16384 := by decide
  rw [← movePos_movesPastSlot, ← hpos]
  unfold Dev.ptbTime
  rw [if_neg (by decide), if_neg (by decide)]
  rfl

/-- Of the shadows that the action loads, PERIOD alone is in the registers of slot 1 that the write reads. -/
theorem f_ptbTime_updatesPastTimers {x : Field} (harm : armFields.all (fun y => x.apart y) = true) (hcmp : x.addr ≠ R.GT_CMP 14) (hctl : x.addr ≠ R.GT_CTL 14) :
    (updatesPastTimers.ptbTime 1).f x = (firedSlot1.set (F.GT_PERIOD_ACTIVE 14) (firedSlot1.f (F.GT_PERIOD_PERIOD 14))).f x := by
  rw [ptbTime_updatesPastTimers, Dev.f_putGtSet, (keeps_rearmSlots _).1 x harm]
  exact (Dev.f_set_ne _ _ hctl).trans (Dev.f_set_ne _ _ hcmp)

/-- The firing in the movement up to the write has taken the held integer part to 0, and the write applies that. -/
theorem slotPos_slotPosfWrite_updatesPastTimers : vget (slotPosfWrite updatesPastTimers 1 1 0).slotPos 1 = 0 := by
  have hheld : (updatesPastTimers.ptbTime 1).f (F.SLOT_POSI_INT 1) = 0 :=
    (f_ptbTime_updatesPastTimers (by decide) (by decide) (by decide)).trans (by decide)
  have hon : (updatesPastTimers.ptbTime 1).f (F.SLOT_MAP_EN 1) = 1 :=
    (f_ptbTime_updatesPastTimers (by decide) (by decide) (by decide)).trans (by decide)
  unfold slotPosfWrite
  rw [if_pos (by decide), slotPos_slotPosf _ (by decide) (by simp [Dev.slotOn, Dev.on, hon]), hheld]
  rfl

end Sys2Proof.Machine

open Sys2Proof Sys2Proof.Machine

/-- Refutes O1: a timer that counts now is to overflow at PERIOD, whatever gates it. The hypotheses let a timer be its own master, which R284 forbids an image;
its gate then closes before PERIOD: so in the state `gatedBySelf`. -/
theorem not_timers : ¬ Obligations.Timers := by
  unfold Obligations.Timers
  rintro ⟨-, hticks⟩
  obtain ⟨hoverflow, -⟩ := hticks 0 { dev := gatedBySelf } (by decide) (by decide) (by decide) (by decide)
  obtain ⟨hovf, -⟩ := hoverflow.of_exec (exec_timerOverflow 0 _)
  have hclear := (Dev.f_finish _ (x := F.GT_CTL_OVF 0) (by decide)).trans ovf_tickFrom_gatedBySelf
  exact absurd (hclear.symm.trans hovf) (by decide)

/-- Refutes O2: PTB_FRAC is to read 0 after a step, whatever it read before. A step to the position compared last moves nothing and leaves PTB_FRAC alone,
and the hypotheses do not tie PTB_FRAC to that position: so in the state `aheadOfCount`. -/
theorem not_positionTime : ¬ Obligations.PositionTime := by
  unfold Obligations.PositionTime
  rintro ⟨hsteps, -⟩
  obtain ⟨hquad, -⟩ := hsteps risingQa false 1 { dev := aheadOfCount } (by decide) (by decide)
  obtain ⟨-, hbare⟩ := hquad (by decide) (by decide) (by decide) (by decide)
  have heffect := hbare (by decide) (by decide) (by decide) (by decide)
  obtain ⟨⟨-, hfrac, -⟩, -⟩ := heffect.pending.of_exec (exec_ptbStep risingQa 1 _)
  have hkept := (Dev.f_finish _ (x := F.PTB_FRAC_FRAC) (by decide)).trans frac_ptbStep_aheadOfCount
  exact absurd (hkept.symm.trans hfrac) (by decide)

/-- Refutes O3: a write of SLOTk_POSF is to apply the integer part held before the movement up to it. The hypotheses let the slot fire in that movement with
an action on a timer past GT11, which R284 forbids an image, and whose registers are those of a slot: so in the state `updatesPastTimers`. -/
theorem not_slots : ¬ Obligations.Slots := by
  unfold Obligations.Slots
  intro h
  obtain ⟨-, hwrite, -⟩ := h 1 1 0 { dev := updatesPastTimers } (by decide) (by decide)
  obtain ⟨hpos, -⟩ := hwrite.of_exec (exec_slotPosfWrite 1 1 0 _)
  rw [slotPos_finish] at hpos
  exact absurd (slotPos_slotPosfWrite_updatesPastTimers.symm.trans hpos) (by decide)
end

section
/-! A slot that fires with the rise of the lens which the time base counts, and whose action names timer 30, past the GT11 to which R283 and R284 bound an
image's TARGET: that timer's count would stand where LENS0_STAT does, so the action reaches the lens itself (R272, R279, R305). -/
namespace Sys2Proof.Machine

variable {d e : Dev}

/-! ### Arrays, loops, and fields that have just taken 0 -/

/-- An element written with the value it has leaves the array as it was. -/
theorem vset_vget {α : Type} [Inhabited α] {n : Nat} (v : Vector α n) (i : Nat) : vset v i (vget v i) = v := by
  ext j hj
  unfold vset
  rw [Vector.getElem_setIfInBounds hj]
  split
  next h => subst h; simp [vget, hj]
  next => rfl

theorem putBalls_node_vget (d : Dev) (c : Nat) : d.putBalls { d.balls with node := vset d.balls.node c (vget d.balls.node c) } = d := by
  rw [vset_vget]
  rfl

theorem foldl_idle {α β : Type} {g : β → α → β} {b : β} (l : List α) (h : ∀ x ∈ l, g b x = b) : l.foldl g b = b := by
  induction l with
  | nil => rfl
  | cons x l ih =>
    rw [List.foldl_cons, h x (by simp)]
    exact ih fun y hy => h y (by simp [hy])

theorem Dev.each_first {g : Dev → Nat → Dev} {n : Nat} (hfirst : g d 0 = e) (h : ∀ k : Fin n, g e (k + 1) = e) : d.each (n + 1) g = e := by
  unfold Dev.each
  rw [List.range_succ_eq_map, List.foldl_cons, hfirst]
  refine foldl_idle _ fun x hx => ?_
  obtain ⟨k, hk, rfl⟩ := List.mem_map.1 hx
  exact h ⟨k, List.mem_range.1 hk⟩

theorem Field.read_write_zero_within {x y : Field} (w : Word) (hlo : y.lo ≤ x.lo) (hhi : x.lo + x.width ≤ y.lo + y.width) (h32 : y.lo + y.width ≤ 32) :
    x.read (y.write 0 w) = 0 := by
  apply Nat.eq_of_testBit_eq
  intro i
  rw [Field.read_testBit, Nat.zero_testBit]
  by_cases hi : i < x.width
  · rw [Field.write_getLsbD _ _ _ _ (by omega), if_pos (by omega), Nat.zero_testBit, Bool.and_false]
  · simp [hi]

theorem Dev.f_set_zero_within (d : Dev) {x y : Field} (haddr : x.addr = y.addr) (hlo : y.lo ≤ x.lo) (hhi : x.lo + x.width ≤ y.lo + y.width)
    (h32 : y.lo + y.width ≤ 32) : (d.set y 0).f x = 0 := by
  unfold Dev.f Dev.set
  rw [haddr, Dev.rd_wr_same, Field.read_write_zero_within _ hlo hhi h32]

/-! ### What a result of the prism reaches (R366, R367) -/

/-- The telemetry counters. -/
def telemetryFields : List Field := [F.PRISM_TMM_MAX, F.PRISM_TMM_MIN, F.PRISM_TMEAN_COUNT, F.PRISM_TMEAN_MEAN]

theorem keeps_result (d : Dev) (src : Nat) (v : Int) : keeps telemetryFields [.prism, .cap] d (d.result src v) := by
  have htelemetry : keeps telemetryFields [.prism, .cap] d (d.telemetry v) :=
    (((keeps.refl.putPrism _ rfl).setI _ (by simp [telemetryFields])).setI _ (by simp [telemetryFields])).set _ (by simp [telemetryFields])
      |>.setI _ (by simp [telemetryFields])
  exact keeps.each _ (fun c k _ hc => .ite (hc.putCap _ rfl) hc) (.ite htelemetry keeps.refl)

/-! ### A movement in which one slot fires forward (R278, R279) -/

/-- The position has moved forward to `q`, past slot `k`, which is disarmed (R278). -/
def Dev.passedSlot (d : Dev) (q k : Nat) : Dev := (d.putPos q).set (F.SLOT_MAP_ARM_F k) 0

/-- The firing of slot `k` in a forward movement to `q` (R281, R283). -/
def Dev.firedSlot (d : Dev) (q k : Nat) : Dev :=
  (((d.passedSlot q k).setBit F.PTB_HIT_HIT k true).raise 5 12).act ((d.passedSlot q k).f (F.SLOT_MAP_ACTION k)) ((d.passedSlot q k).f (F.SLOT_MAP_TARGET k))
    ((d.passedSlot q k).f (F.SLOT_ARG_ARG k))

/-- What follows the action changes the arming bits and the telemetry counters alone. -/
theorem f_movePos_of_firedSlots {q c k : Nat} {inTime : Bool} {x : Field} (hmoves : d.ptb.pos ≠ q)
    (hfired : d.firedSlots d.ptb.pos q inTime = [(c, k, 1)]) (harm : armFields.all (fun y => x.apart y) = true)
    (htelemetry : telemetryFields.all (fun y => x.apart y) = true) : (d.movePos q inTime).f x = (d.firedSlot q k).f x := by
  have hrearm : ((d.firedSlot q k).each 32 Dev.rearmSlot).f x = (d.firedSlot q k).f x := (keeps_rearmSlots _).1 x harm
  unfold Dev.movePos
  rw [if_neg (by simpa using hmoves), hfired]
  dsimp only [List.map_cons, List.map_nil, List.foldl_cons, List.foldl_nil]
  split
  · exact hrearm
  · exact ((keeps_result _ _ _).1 x htelemetry).trans hrearm

/-- No timer that counts PTB steps ticks (R286). -/
theorem ptbTicks_none (h : ∀ n : Fin 12, d.f (F.GT_MAP_CLOCK n) ≠ 1) (rev : Bool) : d.ptbTicks rev = d := by
  have hnone : ((List.range 12).filter fun n => d.f (F.GT_MAP_CLOCK n) == 1 && (!rev || d.on (F.GT_CFG_PTB_BOTH n))) = [] :=
    List.filter_eq_nil_iff.2 fun n hn => by simp [h ⟨n, List.mem_range.1 hn⟩]
  rw [Dev.ptbTicks, hnone]
  rfl

/-! ### The first edge of the lens that the time base counts (R272, R274) -/

/-- The device in the step of its first mains edge, before the position moves. -/
def Dev.firstEdge (d : Dev) : Dev :=
  ((((d.set F.PTB_IVL_IVL 0).setB F.PTB_STAT_DIR false).set F.PTB_STAT_STALLED 0).set F.PTB_STAT_HOMED 1).putPtb { stepped := true, counted := true, count := 1 }

theorem mainsEdge_first (hfresh : d.ptb = {}) (hsource : d.f F.PTB_MAP_SOURCE = 2) (hcapture : d.capturing 25 = []) :
    d.mainsEdge 0 = ((d.firstEdge.movePos 65536 false).ptbTicks false).putGtSet [] := by
  have hnow : d.ptbTime 0 = d := by simp [Dev.ptbTime]
  have hcaptured : d.captureEdge 25 = d := by simp [Dev.captureEdge, hcapture]
  have hunblanked : d.mainsEdge 0 = d.ptbStep false 0 := by
    unfold Dev.mainsEdge
    rw [if_neg (by simp [hfresh])]
  rw [hunblanked]
  unfold Dev.ptbStep
  extract_lets start i j wrap same shown turned homed counted jumped stepped unjumped unstepped moving
  have hstart : start = d := by rw [← hcaptured, ← hnow]
  have hj : j = 1 := by simp [j, i, hstart, hfresh]
  have hwrap : wrap = false := by simp [wrap, hj]
  have hturned : turned = ((d.set F.PTB_IVL_IVL 0).setB F.PTB_STAT_DIR false).set F.PTB_STAT_STALLED 0 := by
    simp [turned, shown, same, hstart, hfresh]
  have hhomed : homed = turned.set F.PTB_STAT_HOMED 1 := by
    unfold homed
    rw [hturned, Dev.f_set_ne _ _ (by decide), Dev.f_setB_ne _ _ (by decide), Dev.f_set_ne _ _ (by decide), hsource]
    rfl
  have hptb : homed.ptb = {} := by rw [hhomed, hturned]; exact hfresh
  have hmoving : moving = d.firstEdge := by
    simp only [moving, unstepped, jumped, counted, Dev.putPtb_ptb, hptb, hj, same, hstart, hfresh]
    rw [hhomed, hturned]
    rfl
  rw [hwrap, hmoving, hj]
  rfl

/-- The registers of the time base that the edge and the movement after it write. -/
def edgeRegs : List Nat := [R.PTB_IVL, R.PTB_STAT, R.PTB_FRAC, R.PTB_HIT]

theorem f_firstEdge {x : Field} (h : x.addr ∉ edgeRegs) : d.firstEdge.f x = d.f x := by
  simp only [edgeRegs, List.mem_cons, List.not_mem_nil, or_false, not_or] at h
  obtain ⟨hivl, hstat, -, -⟩ := h
  unfold Dev.firstEdge
  rw [Dev.f_putPtb, Dev.f_set_ne _ _ hstat, Dev.f_set_ne _ _ hstat, Dev.f_setB_ne _ _ hstat, Dev.f_set_ne _ _ hivl]

theorem f_passedSlot {x : Field} {k : Nat} (q : Nat) (h : x.addr ∉ edgeRegs) (harm : x.apart (F.SLOT_MAP_ARM_F k) = true) :
    (d.firstEdge.passedSlot q k).f x = d.f x := by
  have hfrac : x.addr ≠ R.PTB_FRAC := fun hx => h (by simp [edgeRegs, hx])
  unfold Dev.passedSlot Dev.putPos
  rw [Dev.f_set_apart _ _ harm, Dev.f_set_ne _ _ hfrac, Dev.f_putPtb, f_firstEdge h]

/-! ### The action reaches the lens (R283, R284) -/

/-- The time base waits for its first mains edge; slot 0 alone is enabled, at position 0, with the action TMR_LOAD 0 of timer 30, whose count would stand where
LENS0_STAT does. -/
structure LoadsLens (d : Dev) : Prop where
  fresh : d.ptb = {}
  source : d.f F.PTB_MAP_SOURCE = 2
  needsNoHome : d.f F.PTB_CFG_NEED_HOME = 0
  captures : d.capturing 25 = []
  clocks : ∀ n : Fin 12, d.f (F.GT_MAP_CLOCK n) ≠ 1
  enabled : ∀ k : Fin 32, d.f (F.SLOT_MAP_EN k) = if k = 0 then 1 else 0
  armed : d.f (F.SLOT_MAP_ARM_F 0) = 1
  position : vget d.slotPos 0 = 0
  action : d.f (F.SLOT_MAP_ACTION 0) = 0x15
  target : d.f (F.SLOT_MAP_TARGET 0) = 30
  arg : d.f (F.SLOT_ARG_ARG 0) = 0

namespace LoadsLens

theorem slotFires_first (h : LoadsLens d) : d.firstEdge.slotFires 0 0 65536 = 1 := by
  have hon : d.firstEdge.f (F.SLOT_MAP_EN 0) = 1 := (f_firstEdge (by decide)).trans (h.enabled 0)
  have harmed : d.firstEdge.f (F.SLOT_MAP_ARM_F 0) = 1 := (f_firstEdge (by decide)).trans h.armed
  have hhome : d.firstEdge.f F.PTB_CFG_NEED_HOME = 0 := (f_firstEdge (by decide)).trans h.needsNoHome
  have hpos : vget d.firstEdge.slotPos 0 = 0 := h.position
  simp [Dev.slotFires, Dev.slotOn, Dev.on, hon, harmed, hhome, hpos]

theorem slotFires_other (h : LoadsLens d) {k : Fin 32} (hk : k ≠ 0) : d.firstEdge.slotFires k 0 65536 = 0 := by
  have haddr : (F.SLOT_MAP_EN k).addr ∉ edgeRegs := by revert k; decide
  have hoff : d.firstEdge.f (F.SLOT_MAP_EN k) = 0 := (f_firstEdge haddr).trans ((h.enabled k).trans (if_neg hk))
  simp [Dev.slotFires, Dev.slotOn, Dev.on, hoff]

theorem firedSlots (h : LoadsLens d) : d.firstEdge.firedSlots 0 65536 false = [(0, 0, 1)] := by
  have hrange : List.range 32 = 0 :: (List.range 31).map (· + 1) := List.range_succ_eq_map
  unfold Dev.firedSlots
  rw [hrange, List.foldl_cons, h.slotFires_first]
  refine foldl_idle _ fun k hk => if_pos ?_
  have hlisted : k ≠ 0 ∧ k < 32 := by simp at hk; omega
  exact beq_iff_eq.2 (h.slotFires_other (k := ⟨k, hlisted.2⟩) fun hzero => hlisted.1 (congrArg Fin.val hzero))

theorem firedSlot (h : LoadsLens d) :
    d.firstEdge.firedSlot 65536 0 = (((d.firstEdge.passedSlot 65536 0).setBit F.PTB_HIT_HIT 0 true).raise 5 12).actLoad 30 0 := by
  unfold Dev.firedSlot
  rw [f_passedSlot _ (by decide) (by decide), f_passedSlot _ (by decide) (by decide), f_passedSlot _ (by decide) (by decide), h.action, h.target, h.arg]
  rfl

theorem f_movePos (h : LoadsLens d) {x : Field} (harm : armFields.all (fun y => x.apart y) = true) (htelemetry : telemetryFields.all (fun y => x.apart y) = true) :
    (d.firstEdge.movePos 65536 false).f x = ((((d.firstEdge.passedSlot 65536 0).setBit F.PTB_HIT_HIT 0 true).raise 5 12).set (F.GT_CNT_COUNT 30) 0).f x := by
  have hpos : d.firstEdge.ptb.pos = 0 := rfl
  rw [f_movePos_of_firedSlots (c := 0) (k := 0) (by simp [hpos]) (by rw [hpos]; exact h.firedSlots) harm htelemetry, h.firedSlot]
  rfl

theorem clocks_movePos (h : LoadsLens d) (n : Fin 12) : (d.firstEdge.movePos 65536 false).f (F.GT_MAP_CLOCK n) ≠ 1 := by
  have hedge : (F.GT_MAP_CLOCK n).addr ∉ edgeRegs := by revert n; decide
  have hcount : (F.GT_MAP_CLOCK n).addr ≠ (F.GT_CNT_COUNT 30).addr := by revert n; decide
  have hslot : (F.GT_MAP_CLOCK n).apart (F.SLOT_MAP_ARM_F 0) = true := by revert n; decide
  have hhit : (F.GT_MAP_CLOCK n).addr ≠ F.PTB_HIT_HIT.addr := by revert n; decide
  rw [h.f_movePos (by revert n; decide) (by revert n; decide), Dev.f_set_ne _ _ hcount, Dev.f_raise, Dev.setBit, Dev.f_set_ne _ _ hhit, f_passedSlot _ hedge hslot]
  exact h.clocks n

/-- The low half of LENS0_STAT reads 0 after the edge. -/
theorem stat_mainsEdge (h : LoadsLens d) {x : Field} (haddr : x.addr = R.LENS_STAT 0) (hlow : x.lo + x.width ≤ 16) : (d.mainsEdge 0).f x = 0 := by
  have hapart : ∀ y ∈ armFields ++ telemetryFields, R.LENS_STAT 0 ≠ y.addr := by decide
  have harm : armFields.all (fun y => x.apart y) = true :=
    List.all_eq_true.2 fun y hy => Field.apart_of_addr (haddr ▸ hapart y (List.mem_append_left _ hy))
  have htelemetry : telemetryFields.all (fun y => x.apart y) = true :=
    List.all_eq_true.2 fun y hy => Field.apart_of_addr (haddr ▸ hapart y (List.mem_append_right _ hy))
  rw [mainsEdge_first h.fresh h.source h.captures, ptbTicks_none h.clocks_movePos, Dev.f_putGtSet, h.f_movePos harm htelemetry]
  exact Dev.f_set_zero_within _ haddr (Nat.zero_le _) (by simpa [F.GT_CNT_COUNT] using hlow) (by decide)

/-- The lens that the time base counts rises: with it the low half of LENS0_STAT takes 0 (R272). -/
theorem stat_lensCounted {before : Dev} (h : LoadsLens d) (hon : d.ptbOn = true) (hrise : d.fbit F.LENS_OUT_OUT (d.f F.PTB_MAP_LENS) = true)
    (hlow : before.fbit F.LENS_OUT_OUT (d.f F.PTB_MAP_LENS) = false) {x : Field} (haddr : x.addr = R.LENS_STAT 0) (hbits : x.lo + x.width ≤ 16) :
    (before.lensCounted d).f x = 0 := by
  have hcounted : before.lensCounted d = d.mainsEdge 0 := by
    unfold Dev.lensCounted
    rw [if_pos (by simp [hon, h.source, hrise, hlow]), h.fresh]
  rw [hcounted]
  exact h.stat_mainsEdge haddr hbits

end LoadsLens

/-! ### The lens rises (R302, R305) -/

/-- A lens that no timer, course or charger takes and whose edges give no event: its level alone is shown (R305, R306). -/
theorem presentLens_quiet {n : Nat} (hn : n < 24) (hchanged : d.fbit F.LENS_OUT_OUT n ≠ d.presented n) (hedge : d.f (F.LENS_CFG_EDGE n) = 0)
    (hcaptures : ∀ k : Fin 12, d.f (F.GT_CFG_CAPSRC k) ≠ n) (hsteps : ∀ c : Fin 6, d.f (F.C_SHED_STEP_LENS c) ≠ n) (hbalances : d.f F.CHG_CFG_BAL_LENS ≠ n) :
    d.presentLens n = d.setBit F.LENS_OUT_OUT n (d.presented n) := by
  unfold Dev.presentLens
  extract_lets new shown e raised taken
  have hkept : ∀ x : Field, x.addr ≠ R.LENS_OUT → shown.f x = d.f x := fun x hx => Dev.f_set_ne _ _ hx
  have hraised : raised = shown := by
    have hnone : e = 0 := (hkept _ (by simp only [F.LENS_CFG_EDGE, R.LENS_CFG, R.LENS_OUT]; omega)).trans hedge
    refine if_neg ?_
    rw [hnone]
    split <;> decide
  have hcaptured : shown.captureEdge n = shown := by
    have hnone : shown.capturing n = [] := List.filter_eq_nil_iff.2 fun k hk => by
      have hk12 := List.mem_range.1 hk
      have hsource := hkept (F.GT_CFG_CAPSRC k) (by simp only [F.GT_CFG_CAPSRC, R.GT_CFG, R.LENS_OUT]; omega)
      simpa [hsource] using hcaptures ⟨k, hk12⟩
    simp [Dev.captureEdge, hnone]
  have hstepped : shown.stepLens n = shown := foldl_idle _ fun c hc => by
    have hc6 := List.mem_range.1 hc
    have hlens := hkept (F.C_SHED_STEP_LENS c) (by simp only [F.C_SHED_STEP_LENS, R.C_SHED, R.LENS_OUT]; omega)
    exact if_neg (by simp [hlens, hsteps ⟨c, hc6⟩])
  have htaken : taken = shown := by
    unfold taken
    rw [hraised, hcaptured, hstepped, ite_self]
  rw [if_neg (by simpa using hchanged), htaken, if_neg (by simp [hkept F.CHG_CFG_BAL_LENS (by decide), hbalances])]

/-- The time base counts lens 0, which watches AIN0 with both thresholds at 0 and for which a check waits. -/
def loadsLens : Dev :=
  runningWith [(F.LENS_CFG_INPUT 0, 0), (F.LENS_STAT_PENDING 0, 1), (F.PTB_STAT_RUN, 1), (F.PTB_MAP_SOURCE, 2), (F.PTB_MAP_LENS, 0), (F.SLOT_MAP_EN 0, 1),
    (F.SLOT_MAP_ARM_F 0, 1), (F.SLOT_MAP_ACTION 0, 0x15), (F.SLOT_MAP_TARGET 0, 30)]

/-- The node of lens 0 stands where it stood: of all lenses, lens 0 alone is compared and presented (R302, R305). -/
theorem lensNode_loadsLens : loadsLens.lensNode 0 0 = (loadsLens.compare 0).setBit F.LENS_OUT_OUT 0 true := by
  have hinput : loadsLens.f (F.LENS_CFG_INPUT 0) = 0 := by decide
  have hstands : vget loadsLens.balls.node 0 = 0 := by decide
  have hnode : loadsLens.putBalls { loadsLens.balls with node := vset loadsLens.balls.node 0 0 } = loadsLens := by
    rw [← hstands]
    exact putBalls_node_vget loadsLens 0
  have hcompared : (loadsLens.each 24 fun d m => if d.f (F.LENS_CFG_INPUT (d.watches m)) == 0 && !d.on (F.LENS_STAT_TESTING m) then d.compare m else d) =
      loadsLens.compare 0 := by
    have hothers : ∀ k : Fin 23, (loadsLens.compare 0).f (F.LENS_CFG_INPUT ((loadsLens.compare 0).watches (k + 1))) ≠ 0 := by decide
    exact Dev.each_first (if_pos (by decide)) fun k => if_neg (by simp [hothers k])
  have hpresented : ((loadsLens.compare 0).each 24 fun d k => if d.f (F.LENS_CFG_INPUT k) == 0 then d.presentLens k else d) =
      (loadsLens.compare 0).setBit F.LENS_OUT_OUT 0 true := by
    have hlevel : (loadsLens.compare 0).presented 0 = true := by decide
    have hquiet : (loadsLens.compare 0).presentLens 0 = (loadsLens.compare 0).setBit F.LENS_OUT_OUT 0 ((loadsLens.compare 0).presented 0) :=
      presentLens_quiet (by decide) (by decide) (by decide) (by decide) (by decide) (by decide)
    have hothers : ∀ k : Fin 23, ((loadsLens.compare 0).setBit F.LENS_OUT_OUT 0 true).f (F.LENS_CFG_INPUT (k + 1)) ≠ 0 := by decide
    refine Dev.each_first ((if_pos (by decide)).trans ?_) fun k => if_neg (by simp [hothers k])
    exact hquiet.trans (by rw [hlevel])
  unfold Dev.lensNode
  dsimp only
  rw [hinput, hnode, if_neg (by decide), if_neg (by decide), hcompared, hpresented]

theorem loadsLens_risen : LoadsLens ((loadsLens.compare 0).setBit F.LENS_OUT_OUT 0 true) := by
  constructor <;> decide

/-- The upper comparator has gone high, and the action takes it low. -/
theorem cHi_lensCounted_lensNode : (loadsLens.lensCounted (loadsLens.lensNode 0 0)).f (F.LENS_STAT_C_HI 0) = 0 := by
  rw [lensNode_loadsLens]
  exact loadsLens_risen.stat_lensCounted (by decide) (by decide) (by decide) rfl (by decide)

theorem exec_lensOutputChange (n : Fin 24) (uv : Int) (s : State) :
    exec (.lensOutputChange n uv) s = done s (s.dev.lensCounted (s.dev.lensNode n uv)) := rfl

/-- A threshold of 0 V holds its comparator high wherever the input stands (R302). -/
theorem comparator_zero (high : Bool) (hyst v : Nat) : comparator high 0 hyst v = true := by simp [comparator]

/-! ### A spare covers the lens (R309) -/

theorem loadsLens_covered : LoadsLens (lensAdmit loadsLens 0) := by
  constructor <;> decide

/-- The check has started, with spare 22 as its cover, whose level rises; the action takes TESTING away. -/
theorem testing_lensCounted_lensAdmit : (loadsLens.lensCounted (lensAdmit loadsLens 0)).f (F.LENS_STAT_TESTING 0) = 0 :=
  loadsLens_covered.stat_lensCounted (by decide) (by decide) (by decide) rfl (by decide)

theorem exec_lensCheckAdmit (m : Fin 24) (s : State) : exec (.lensCheckAdmit m) s = done s (s.dev.lensCounted (lensAdmit s.dev m)) := rfl

end Sys2Proof.Machine

open Sys2Proof Sys2Proof.Machine

/-- Refutes O34: the upper comparator of a lens is to stand, after its node has changed, where R302 puts it. The hypotheses let the time base count the lens and a
slot fire with its rise whose action names a timer past GT11, which R284 forbids an image, and which writes LENS0_STAT: so in the state `loadsLens`. -/
theorem not_lensLevels : ¬ Obligations.LensLevels := by
  unfold Obligations.LensLevels
  intro h
  obtain ⟨hnode, -⟩ := h 0 0 0 0 { dev := loadsLens } (by decide)
  obtain ⟨-, -, hfollows⟩ := (hnode (by decide)).of_exec (exec_lensOutputChange 0 0 _)
  have hhigh := hfollows (by decide) (by decide)
  have hth : loadsLens.f (F.LENS_TH_HI 0) = 0 := by decide
  have hcHi := (Dev.f_finish _ (x := F.LENS_STAT_C_HI 0) (by decide)).trans cHi_lensCounted_lensNode
  have hlow : (finish (loadsLens.lensCounted (loadsLens.lensNode 0 0))).on (F.LENS_STAT_C_HI 0) = false := by simp [Dev.on, hcHi]
  exact absurd (hlow.symm.trans (hhigh.trans (hth ▸ comparator_zero _ _ _))) (by decide)

/-- Refutes O35: a lens whose check is admitted is to be under check. The hypotheses let the time base count the lens and a slot fire with its rise whose action
names a timer past GT11, which R284 forbids an image, and which writes LENS0_STAT: so in the state `loadsLens`, where a spare covers the check. -/
theorem not_lensChecks : ¬ Obligations.LensChecks := by
  unfold Obligations.LensChecks
  intro h
  obtain ⟨-, hadmit, -⟩ := h 0 0 (Vector.replicate 10 false) 0 { dev := loadsLens } (by decide)
  obtain ⟨htesting, -⟩ := (hadmit (by decide) (by decide) (by decide)).of_exec (exec_lensCheckAdmit 0 _)
  have hcleared := (Dev.f_finish _ (x := F.LENS_STAT_TESTING 0) (by decide)).trans testing_lensCounted_lensAdmit
  exact absurd (hcleared.symm.trans htesting) (by decide)
end

section
/-! The throttle step of a zone, its floor, and the comparators where nothing changes (R326, R327, R329, R336). -/
namespace Sys2Proof.Machine

variable {d e : Dev} {s : State}

theorem exec_throttleStepTimer (z : Fin 4) (s : State) : exec (.throttleStepTimer z) s = done s (throttleTimer s.dev z) := rfl
theorem exec_pdThermalTrip (a b : Int) (s : State) : exec (.pdThermalTrip a b) s = done s (if pairTrips 1600 a b then pdTrip s.dev else s.dev) := rfl
theorem exec_pdThermalRelease (a b : Int) (s : State) : exec (.pdThermalRelease a b) s = done s (if pairCool a b then pdRelease s.dev else s.dev) := rfl
theorem exec_ldThermalTrip (a b : Int) (s : State) : exec (.ldThermalTrip a b) s = done s (if pairTrips 1550 a b then ldTrip s.dev else s.dev) := rfl
theorem exec_ldThermalRelease (a b : Int) (s : State) :
    exec (.ldThermalRelease a b) s = done s (if pairCool a b then s.dev.putPw { s.dev.pw with ldTripped := false } else s.dev) := rfl
theorem exec_zoneFloorWrite (z : Fin 4) (v : BitVec 5) (h : s.dev.alive = true) :
    exec (.zoneFloorWrite z v) s = done s (s.dev.liveWrite (F.ZONE_CFG_FLOOR z) v.toNat) := congrArg (done s) (if_pos h)

/-! ### The throttle step (R326, R329) -/

theorem step_apart_end : ∀ z : Fin 4, endFields.all (fun y => (F.ZONE_STAT_STEP z).apart y) = true := by decide

theorem floor_apart_end : ∀ z : Fin 4, endFields.all (fun y => (F.ZONE_CFG_FLOOR z).apart y) = true := by decide

/-- The floor of a zone stands apart from the steps. -/
theorem f_set_step_floor (d : Dev) (z v : Nat) : (d.set (F.ZONE_STAT_STEP z) v).f (F.ZONE_CFG_FLOOR z) = d.f (F.ZONE_CFG_FLOOR z) :=
  Dev.f_set_ne _ _ (by simp only [F.ZONE_CFG_FLOOR, R.ZONE_CFG, F.ZONE_STAT_STEP, R.ZONE_STAT]; omega)

theorem f_keepSteps (d : Dev) (x : Field) : d.keepSteps.f x = d.f x := rfl

theorem f_onlyIf_raise (d : Dev) (c : Bool) (b n : Nat) (x : Field) : (d.onlyIf c fun d => d.raise b n).f x = d.f x := by
  cases c
  · rfl
  · exact Dev.f_raise ..

theorem steps_keepSteps (d : Dev) : d.keepSteps.ret.steps = (List.range 4).map fun k => d.keepSteps.f (F.ZONE_STAT_STEP k) := rfl

theorem setStep_self (h : v = d.f (F.ZONE_STAT_STEP z)) : d.setStep z v = d := if_pos (by simpa using h)

/-- A step that changes is shown, with its three events, and retained. -/
theorem setStep_moves (h : v ≠ d.f (F.ZONE_STAT_STEP z)) : d.setStep z v =
    ((((d.set (F.ZONE_STAT_STEP z) v).onlyIf (d.f (F.ZONE_STAT_STEP z) == 16) fun d => d.raise 3 17).onlyIf (v == 16) fun d => d.raise 3 18).onlyIf
      (v == d.f (F.ZONE_CFG_FLOOR z)) fun d => d.raise 3 28).keepSteps := by
  have hfloor (c c' : Bool) : (((d.set (F.ZONE_STAT_STEP z) v).onlyIf c fun d => d.raise 3 17).onlyIf c' fun d => d.raise 3 18).f (F.ZONE_CFG_FLOOR z) =
      d.f (F.ZONE_CFG_FLOOR z) := by rw [f_onlyIf_raise, f_onlyIf_raise, f_set_step_floor]
  rw [← hfloor (d.f (F.ZONE_STAT_STEP z) == 16) (v == 16)]
  exact if_neg (by simpa using h)

theorem f_setStep {z v : Nat} (hv : v < 32) : (d.setStep z v).f (F.ZONE_STAT_STEP z) = v := by
  by_cases h : v = d.f (F.ZONE_STAT_STEP z)
  · rw [setStep_self h, h]
  · rw [setStep_moves h, f_keepSteps, f_onlyIf_raise, f_onlyIf_raise, f_onlyIf_raise]
    exact Dev.f_set_lt _ _ _ (Nat.le_refl 32) hv

theorem floor_lt (d : Dev) (z : Nat) : d.f (F.ZONE_CFG_FLOOR z) < 32 := Dev.f_lt ..
theorem step_lt (d : Dev) (z : Nat) : d.f (F.ZONE_STAT_STEP z) < 32 := Dev.f_lt ..

theorem throttleTimer_down {z : Nat} (hrun : d.running = true) (h : d.f (F.ZONE_STAT_DEMAND z) = 1) :
    throttleTimer d z = d.setStep z (max (d.f (F.ZONE_CFG_FLOOR z)) (d.f (F.ZONE_STAT_STEP z) - 1)) := by
  simp [throttleTimer, hrun, h]

theorem throttleTimer_up {z : Nat} (hrun : d.running = true) (h : d.f (F.ZONE_STAT_DEMAND z) = 2) (hhold : d.f (F.ZONE_STAT_BROKEN_HOLD z) = 0) :
    throttleTimer d z = d.setStep z (min 16 (d.f (F.ZONE_STAT_STEP z) + 1)) := by
  simp [throttleTimer, hrun, h, Dev.on, hhold]

theorem leads_setStep {i : Instr} {z : Fin 4} {v : Nat} (hexec : exec i s = done s (s.dev.setStep z v)) (hv : v < 32) :
    leads i s fun d => d.f (F.ZONE_STAT_STEP z) = v :=
  ⟨_, hexec, rfl, (Dev.f_finish _ (step_apart_end z)).trans (f_setStep hv)⟩

theorem mem_raised_raise {p : Nat × Nat} (b n : Nat) (h : p ∈ d.raised) : p ∈ (d.raise b n).raised := (CourseKept.refl.raise b n).raised p h

/-- A step that reaches 16 raises EVB3 source 18. -/
theorem mem_raised_setStep {z : Nat} (halive : d.alive = true) (h : d.f (F.ZONE_STAT_STEP z) ≠ 16) : (3 * 32 + 18, d.pw.time) ∈ (d.setStep z 16).raised := by
  have hfull : (3 * 32 + 18, d.pw.time) ∈ ((d.set (F.ZONE_STAT_STEP z) 16).raise 3 18).raised := mem_raise (d := d.set _ _) halive 3 18
  rw [setStep_moves (Ne.symm h), beq_eq_false_iff_ne.2 h]
  cases 16 == d.f (F.ZONE_CFG_FLOOR z)
  · exact hfull
  · exact mem_raised_raise 3 28 hfull

/-- A step that stays below 16 and off the floor raises nothing. -/
theorem setStep_between {z v : Nat} (h : v ≠ d.f (F.ZONE_STAT_STEP z)) (hwas : d.f (F.ZONE_STAT_STEP z) ≠ 16) (hv : v ≠ 16)
    (hfloor : v ≠ d.f (F.ZONE_CFG_FLOOR z)) : d.setStep z v = (d.set (F.ZONE_STAT_STEP z) v).keepSteps := by
  rw [setStep_moves h, beq_eq_false_iff_ne.2 hwas, beq_eq_false_iff_ne.2 hv, beq_eq_false_iff_ne.2 hfloor]
  rfl

theorem setStep_full {z : Nat} (hwas : d.f (F.ZONE_STAT_STEP z) ≠ 16) (hfloor : d.f (F.ZONE_CFG_FLOOR z) ≠ 16) :
    d.setStep z 16 = ((d.set (F.ZONE_STAT_STEP z) 16).raise 3 18).keepSteps := by
  rw [setStep_moves (Ne.symm hwas), beq_eq_false_iff_ne.2 hwas, beq_eq_false_iff_ne.2 (Ne.symm hfloor)]
  rfl

theorem leads_throttle_down (hrun : s.dev.running = true) {z : Fin 4} (h : s.dev.f (F.ZONE_STAT_DEMAND z) = 1) :
    leads (.throttleStepTimer z) s fun d => d.f (F.ZONE_STAT_STEP z) = max (s.dev.f (F.ZONE_CFG_FLOOR z)) (s.dev.f (F.ZONE_STAT_STEP z) - 1) := by
  have hfloor := floor_lt s.dev z
  have hstep := step_lt s.dev z
  exact leads_setStep ((exec_throttleStepTimer z s).trans (congrArg (done s) (throttleTimer_down hrun h))) (by omega)

theorem leads_throttle_up (hrun : s.dev.running = true) {z : Fin 4} (h : s.dev.f (F.ZONE_STAT_DEMAND z) = 2) (hhold : s.dev.f (F.ZONE_STAT_BROKEN_HOLD z) = 0) :
    leads (.throttleStepTimer z) s fun d => d.f (F.ZONE_STAT_STEP z) = min 16 (s.dev.f (F.ZONE_STAT_STEP z) + 1) ∧
      (s.dev.f (F.ZONE_STAT_STEP z) = 15 → d.pendingEvent (3 * 32 + 18) = true) := by
  refine ⟨_, (exec_throttleStepTimer z s).trans (congrArg (done s) (throttleTimer_up hrun h hhold)), rfl, ?_, fun h15 => ?_⟩
  · exact (Dev.f_finish _ (step_apart_end z)).trans (f_setStep (by omega))
  · rw [h15]
    exact pendingEvent_finish (by decide) (mem_raised_setStep (alive_of_running hrun) (by omega))

theorem effect_throttle_down (hrun : s.dev.running = true) {z : Fin 4} (h : s.dev.f (F.ZONE_STAT_DEMAND z) = 1)
    (hfloor : s.dev.f (F.ZONE_CFG_FLOOR z) + 1 < s.dev.f (F.ZONE_STAT_STEP z)) (hstep : s.dev.f (F.ZONE_STAT_STEP z) < 16) :
    effect (.throttleStepTimer z) s [F.ZONE_STAT_STEP z] [.ret] [] fun d => d.f (F.ZONE_STAT_STEP z) = s.dev.f (F.ZONE_STAT_STEP z) - 1 := by
  have hmax : max (s.dev.f (F.ZONE_CFG_FLOOR z)) (s.dev.f (F.ZONE_STAT_STEP z) - 1) = s.dev.f (F.ZONE_STAT_STEP z) - 1 := by omega
  have hdown := throttleTimer_down hrun h
  rw [hmax, setStep_between (by omega) (by omega) (by omega) (by omega)] at hdown
  refine ⟨_, (exec_throttleStepTimer z s).trans (congrArg (done s) hdown), ?_, (List.append_nil _).symm, ?_⟩
  · exact (keeps.refl.set _ (List.mem_singleton_self _)).putRet _ rfl
  · exact (Dev.f_finish _ (step_apart_end z)).trans (Dev.f_set_lt _ _ _ (Nat.le_refl 32) (by simp only [F.ZONE_STAT_STEP] at *; omega))

theorem effect_throttle_full (hrun : s.dev.running = true) {z : Fin 4} (h : s.dev.f (F.ZONE_STAT_DEMAND z) = 2)
    (hhold : s.dev.f (F.ZONE_STAT_BROKEN_HOLD z) = 0) (hstep : s.dev.f (F.ZONE_STAT_STEP z) = 15) (hfloor : s.dev.f (F.ZONE_CFG_FLOOR z) ≠ 16) :
    effect (.throttleStepTimer z) s [F.ZONE_STAT_STEP z] [.ret] [3 * 32 + 18] fun d =>
      d.f (F.ZONE_STAT_STEP z) = 16 ∧ d.ret.steps = (List.range 4).map fun k => d.f (F.ZONE_STAT_STEP k) := by
  have hup := throttleTimer_up hrun h hhold
  rw [hstep, show min 16 (15 + 1) = 16 from rfl, setStep_full (by omega) hfloor] at hup
  refine ⟨_, (exec_throttleStepTimer z s).trans (congrArg (done s) hup), ?_, ?_, ?_, ?_⟩
  · exact ((keeps.refl.set _ (List.mem_singleton_self _)).raise 3 18).putRet _ rfl
  · exact Dev.raise_raised _ 3 18 (alive_of_running hrun)
  · exact (Dev.f_finish _ (step_apart_end z)).trans ((Dev.f_raise ..).trans (Dev.f_set_lt _ _ _ (Nat.le_refl 32) (show 16 < 32 by decide)))
  · have hret : (finish ((s.dev.set (F.ZONE_STAT_STEP z) 16).raise 3 18).keepSteps).ret = ((s.dev.set (F.ZONE_STAT_STEP z) 16).raise 3 18).keepSteps.ret :=
      congrArg (·.ret) (EndSame.finish _).rest
    rw [hret, steps_keepSteps]
    exact List.map_congr_left fun k hk => (Dev.f_finish _ (step_apart_end ⟨k, List.mem_range.1 hk⟩)).symm

/-! ### The floor of a zone (R327) -/

/-- FLOOR is none of the other live fields that have a bound or an effect. -/
theorem floor_ne : ∀ z : Fin 4, (∀ x ∈ [F.SYS_SETPT_SETPOINT, F.SYS_LOADLINE_SLOPE, F.CHG_ICC_I_CC, F.CHG_RESV_CYC, F.PORT_OLIM_OUT 2, F.PORT_OLIM_OUT 3],
    F.ZONE_CFG_FLOOR z ≠ x) ∧ ((List.range 6).any fun c => F.ZONE_CFG_FLOOR z == F.C_ILIM_ILIM c) = false ∧
    ((List.range 5).any fun p => F.ZONE_CFG_FLOOR z == F.PORT_ILIM_IN p || F.ZONE_CFG_FLOOR z == F.PORT_OLIM_OUT p) = false ∧
    ((List.range 4).any fun k => F.ZONE_CFG_FLOOR z == F.ZONE_CFG_FLOOR k) = true := by decide

theorem liveBound_floor (z : Fin 4) (d : Dev) (v : Nat) : d.liveBound (F.ZONE_CFG_FLOOR z) v = within 2 (d.f ⟨R.ZONE_CFG z, 8, 5⟩) v := by
  obtain ⟨hfixed, hcourse, hport, hzone⟩ := floor_ne z
  simp only [List.forall_mem_cons] at hfixed
  obtain ⟨hset, hload, hcc, hcyc, -⟩ := hfixed
  simp only [Dev.liveBound, beq_eq_false_iff_ne.2 hset, beq_eq_false_iff_ne.2 hload, beq_eq_false_iff_ne.2 hcc, beq_eq_false_iff_ne.2 hcyc, hcourse, hport,
    hzone]
  rfl

theorem liveEffect_floor (z : Fin 4) (d : Dev) : d.liveEffect (F.ZONE_CFG_FLOOR z) = d := by
  obtain ⟨hfixed, -⟩ := floor_ne z
  simp only [List.forall_mem_cons] at hfixed
  obtain ⟨-, -, -, hcyc, heast, hwest, -⟩ := hfixed
  simp [Dev.liveEffect, hcyc, heast, hwest]

theorem effect_floor_taken (halive : s.dev.alive = true) {z : Fin 4} {v : BitVec 5} (h : within 2 (s.dev.f ⟨R.ZONE_CFG z, 8, 5⟩) v.toNat = true) :
    effect (.zoneFloorWrite z v) s [F.ZONE_CFG_FLOOR z] [.live] [] fun d => d.f (F.ZONE_CFG_FLOOR z) = v.toNat := by
  have hwrite := liveWrite_accepted ((liveBound_floor z s.dev v.toNat).trans h)
  rw [liveEffect_floor] at hwrite
  exact (effect_liveSet ((exec_zoneFloorWrite z v halive).trans (congrArg (done s) hwrite)) (floor_apart_end z) (Nat.le_of_ble_eq_true rfl) v.isLt).mono
    fun _ h => h.1

theorem effect_floor_refused (halive : s.dev.alive = true) {z : Fin 4} {v : BitVec 5} (h : within 2 (s.dev.f ⟨R.ZONE_CFG z, 8, 5⟩) v.toNat = false) :
    effect (.zoneFloorWrite z v) s [F.IMGSTAT_LIVE_REJ] [] [3] fun d => d.f (F.ZONE_CFG_FLOOR z) = s.dev.f (F.ZONE_CFG_FLOOR z) := by
  have hwrite := liveWrite_rejected ((liveBound_floor z s.dev v.toNat).trans h)
  refine (effect_liveReject halive ((exec_zoneFloorWrite z v halive).trans (congrArg (done s) hwrite))).mono fun _ h => h.2 _ (floor_apart_end z) ?_
  exact Field.apart_of_addr (by simp only [F.ZONE_CFG_FLOOR, R.ZONE_CFG, F.IMGSTAT_LIVE_REJ, R.IMGSTAT]; omega)

/-! ### The comparators where nothing changes, and the release of the logic die (R336) -/

theorem power_mode_finish (d : Dev) : (finish d).pw.mode = d.pw.mode := congrArg (·.mode) (power_finish d)

theorem ldTripped_finish (d : Dev) : (finish d).pw.ldTripped = d.pw.ldTripped := congrArg (·.ldTripped) (power_finish d)

theorem f_finish_pdShut (d : Dev) : (finish d).f F.THERM_HW_PD_SHUT = d.f F.THERM_HW_PD_SHUT := Dev.f_finish d (by decide)

theorem effect_ldRelease {a b : Int} (h : pairCool a b = true) :
    effect (.ldThermalRelease a b) s [] [.pw] [] fun d => d.pw.ldTripped = false ∧ d.pw.mode = s.dev.pw.mode :=
  ⟨_, (exec_ldThermalRelease a b s).trans (congrArg (done s) (if_pos h)), keeps.refl.putPw _ rfl, (List.append_nil _).symm, ldTripped_finish _,
    power_mode_finish _⟩

theorem effect_ldRelease_warm {a b : Int} (h : pairCool a b = false) :
    effect (.ldThermalRelease a b) s [] [] [] fun d => d.pw.ldTripped = s.dev.pw.ldTripped :=
  effect_unchanged ((exec_ldThermalRelease a b s).trans (congrArg (done s) (if_neg (by simp [h])))) (ldTripped_finish _)

theorem effect_pdTrip_below {a b : Int} (h : pairTrips 1600 a b = false) :
    effect (.pdThermalTrip a b) s [] [] [] fun d => d.f F.THERM_HW_PD_SHUT = s.dev.f F.THERM_HW_PD_SHUT :=
  effect_unchanged ((exec_pdThermalTrip a b s).trans (congrArg (done s) (if_neg (by simp [h])))) (f_finish_pdShut _)

theorem effect_pdRelease_warm {a b : Int} (h : pairCool a b = false) :
    effect (.pdThermalRelease a b) s [] [] [] fun d => d.f F.THERM_HW_PD_SHUT = s.dev.f F.THERM_HW_PD_SHUT :=
  effect_unchanged ((exec_pdThermalRelease a b s).trans (congrArg (done s) (if_neg (by simp [h])))) (f_finish_pdShut _)

theorem effect_ldTrip_below (halive : s.dev.alive = true) {a b : Int} (h : pairTrips 1550 a b = false) :
    effect (.ldThermalTrip a b) s [] [] [] fun d => d.alive = true :=
  effect_unchanged ((exec_ldThermalTrip a b s).trans (congrArg (done s) (if_neg (by simp [h])))) ((alive_finish _).trans halive)

/-! ### The logic-die comparator (R336, R337) -/

/-- The device as the logic-die comparator counts its trip. -/
def Dev.ldCounted (d : Dev) : Dev := (d.incSat F.THERM_HW_LD_SHUTS).set F.THERM_HW_LD_SEEN 1

theorem ldTrip_eq (hmode : d.pw.mode = .on) (h : d.pw.ldTripped = false) :
    ldTrip d = (d.ldCounted.logicReset 6).putPw { (d.ldCounted.logicReset 6).pw with ldTripped := true, ldRaise := true } := by
  simp [ldTrip, Dev.ldCounted, hmode, h]

/-- The reset of a running logic die keeps what R465 keeps. -/
theorem f_logicReset_kept {cause : Nat} {x : Field} (halive : d.alive = true) (hx : x ∈ keptFields) (hend : endFields.all (fun y => x.apart y) = true) :
    (d.logicReset cause).f x = d.f x := by
  have hup : d.pw.mode = .on ∧ d.pw.inReset = false := by simpa [Dev.alive] using halive
  unfold Dev.logicReset
  rw [if_neg (by simp [hup.1]), if_neg (by simp [hup.2])]
  exact (Dev.f_putPw ..).trans ((f_cleared_kept hx).trans ((endSame_beforeReset d).field x hend))

theorem leads_ldTrip (halive : s.dev.alive = true) {a b : Int} (h : pairTrips 1550 a b = true) (hfree : s.dev.pw.ldTripped = false) :
    leads (.ldThermalTrip a b) s fun d => d.alive = false ∧ d.pw.resetCause = 6 ∧ d.pw.ldTripped = true ∧ d.f F.THERM_HW_LD_SEEN = 1 ∧
      d.f F.THERM_HW_LD_SHUTS = min (s.dev.f F.THERM_HW_LD_SHUTS + 1) (2 ^ F.THERM_HW_LD_SHUTS.width - 1) := by
  have hmode : s.dev.pw.mode = .on := by simp_all [Dev.alive]
  have hcounted : s.dev.ldCounted.alive = true := halive
  obtain ⟨hdead, hcause, -⟩ := logicReset_spec 6 hcounted
  refine ⟨_, (exec_ldThermalTrip a b s).trans (congrArg (done s) ((if_pos h).trans (ldTrip_eq hmode hfree))), rfl, ?_, ?_, ldTripped_finish _, ?_, ?_⟩
  · exact (alive_finish _).trans hdead
  · exact (resetCause_finish _).trans hcause
  · refine (Dev.f_finish _ (by decide)).trans ((f_logicReset_kept hcounted (by decide) (by decide)).trans ?_)
    exact Dev.f_set_lt _ _ _ (by decide) (by decide)
  · refine (Dev.f_finish _ (by decide)).trans ((f_logicReset_kept hcounted (by decide) (by decide)).trans ?_)
    exact (Dev.f_set_apart _ _ (by decide)).trans (f_incSat _ _ (by decide))

end Sys2Proof.Machine
end

section
/-! A course that has stopped stays so while the others stop (R143). -/
namespace Sys2Proof.Machine

/-- Past its end a vector reads as before. -/
theorem vget_vset_out {β : Type} [Inhabited β] {n i : Nat} (v : Vector β n) (x : β) (h : n ≤ i) : vget (vset v i x) i = vget v i := by
  simp [vget, h]

/-- From `d` to `e` the mode of course `c` and the mode it falls in are kept. -/
structure ModeKept (c : Nat) (d e : Dev) : Prop where
  mode    : e.f (F.C_MODE_MODE c) = d.f (F.C_MODE_MODE c)
  falling : (vget e.course c).falling = (vget d.course c).falling

variable {c : Nat} {d e : Dev}

namespace ModeKept

theorem refl : ModeKept c d d := ⟨rfl, rfl⟩

theorem regMode (h : ModeKept c d e) : e.regMode c = d.regMode c := by simp only [Dev.regMode, h.mode, h.falling]

theorem set (h : ModeKept c d e) {x : Field} (v : Nat) (hx : R.C_MODE c ≠ x.addr) : ModeKept c d (e.set x v) :=
  ⟨(Dev.f_set_ne e v hx).trans h.mode, h.falling⟩

/-- A field of a tile's register, or of PATH_STAT. -/
theorem setTile (h : ModeKept c d e) {x : Field} (k u v : Nat) (hx : x.addr = k + 64 * u := by rfl) (hk : k % 64 ≠ 0 := by decide) :
    ModeKept c d (e.set x v) := h.set v (by simp only [R.C_MODE]; omega)

theorem setCourse (h : ModeKept c d e) {x : Field} (k n v : Nat) (hx : x.addr = k + 128 * n := by rfl) (hk : k % 128 ≠ 0x40 := by decide) :
    ModeKept c d (e.set x v) := h.set v (by simp only [R.C_MODE]; omega)

theorem setMode (h : ModeKept c d e) {n : Nat} (hn : n ≠ c) (v : Nat) : ModeKept c d (e.set (F.C_MODE_MODE n) v) :=
  h.set v (by simp only [F.C_MODE_MODE, R.C_MODE]; omega)

theorem modTile (h : ModeKept c d e) (u : Nat) (g : Tile → Tile) : ModeKept c d (e.modTile u g) := ⟨h.mode, h.falling⟩

theorem modCourse_ne (h : ModeKept c d e) {n : Nat} (hn : n ≠ c) (g : Course → Course) : ModeKept c d (e.modCourse n g) :=
  ⟨h.mode, (congrArg Course.falling (vget_vset_ne _ _ (Ne.symm hn))).trans h.falling⟩

theorem modCourse (h : ModeKept c d e) (n : Nat) {g : Course → Course} (hg : ∀ k, (g k).falling = k.falling := by intro; rfl) :
    ModeKept c d (e.modCourse n g) := by
  by_cases hn : n = c
  · subst hn
    refine ⟨h.mode, ?_⟩
    by_cases hlt : n < 6
    · exact ((congrArg Course.falling (vget_vset_same _ _ hlt)).trans (hg _)).trans h.falling
    · exact (congrArg Course.falling (vget_vset_out _ _ (Nat.le_of_not_lt hlt))).trans h.falling
  · exact h.modCourse_ne hn g

theorem ite {p : Prop} [Decidable p] {x y : Dev} (hx : ModeKept c d x) (hy : ModeKept c d y) : ModeKept c d (if p then x else y) := by
  split
  · exact hx
  · exact hy

theorem raise (h : ModeKept c d e) (b n : Nat) : ModeKept c d (e.raise b n) :=
  ⟨(Dev.f_raise ..).trans h.mode, by rw [Dev.raise_course]; exact h.falling⟩

theorem fault (h : ModeKept c d e) (b n : Nat) (l : List Nat) : ModeKept c d (e.fault b n l) :=
  ⟨(Dev.f_logFault ..).trans (h.raise b n).mode, by unfold Dev.fault; rw [Dev.logFault_course]; exact (h.raise b n).falling⟩

theorem foldl {g : Dev → Nat → Dev} (l : List Nat) (hg : ∀ e, ∀ x ∈ l, ModeKept c d e → ModeKept c d (g e x)) (h : ModeKept c d e) :
    ModeKept c d (l.foldl g e) := by
  induction l generalizing e with
  | nil => exact h
  | cons x l ih => exact ih (fun e y hy => hg e y (List.mem_cons_of_mem _ hy)) (hg e x List.mem_cons_self h)

theorem sendTo (h : ModeKept c d e) (u st : Nat) : ModeKept c d (e.sendTo u st) := .ite (h.modTile ..) ((h.setTile 0x818 u st).modTile ..)

theorem leaveTest (h : ModeKept c d e) (u : Nat) : ModeKept c d (e.leaveTest u) := by
  unfold Dev.leaveTest
  exact (h.sendTo u _).modTile ..

theorem abortTest (h : ModeKept c d e) (u : Nat) : ModeKept c d (e.abortTest u) := by
  have hstart : ModeKept c d (((e.set (F.TILE_TEST_RESULT u) 4).set (F.TILE_CTL_TEST_START u) 0).raise 1 28) :=
    ((h.setTile 0x830 u 4).setTile 0x814 u 0).raise 1 28
  unfold Dev.abortTest
  exact .ite (.ite (hstart.leaveTest u) (hstart.modTile ..)) h

theorem abortTests (h : ModeKept c d e) (n : Nat) : ModeKept c d (e.abortTests n) := h.foldl _ fun _ u _ h => h.abortTest u

theorem cancelStagger (h : ModeKept c d e) (n : Nat) : ModeKept c d (e.cancelStagger n) :=
  (h.foldl _ fun _ u _ h => (h.setTile 0x820 u 0).setTile 0x820 u 0).setCourse 0x1018 n 0

theorem endShed (h : ModeKept c d e) (n : Nat) : ModeKept c d (e.endShed n) := by
  refine .setCourse (.modCourse ?_ n) 0x1018 n 0
  split
  next u _ => exact h.setTile 0x818 u 0
  · exact h

theorem unshare (h : ModeKept c d e) (n : Nat) : ModeKept c d (e.unshare n) :=
  .ite (h.set _ (by simp only [R.C_MODE, F.PATH_STAT_SHARERS, R.PATH_STAT]; omega)) h

theorem haltTiles (h : ModeKept c d e) (n : Nat) (now : Bool) : ModeKept c d (e.haltTiles n now) := by
  have htrace : ModeKept c d (e.announceAll n (e.tilesOf n)) :=
    h.foldl _ fun _ _ _ h => .ite (.modTile ((h.setCourse 0x101C n 1).fault 1 (16 + n) _) ..) h
  exact htrace.foldl _ fun _ u _ h => .ite (.setTile (.modTile h ..) 0x824 u 0) h

theorem haltCourse (h : ModeKept c d e) {n : Nat} (hn : n ≠ c) (now : Bool) : ModeKept c d (e.haltCourse n now) := by
  have hcalm : ModeKept c d ((((e.abortTests n).cancelStagger n).endShed n).unshare n) := (((h.abortTests n).cancelStagger n).endShed n).unshare n
  have hstat := (((((hcalm.setMode hn 0).setCourse (x := F.C_RSTAT_DELIVER n) 0x105C n 0).setCourse (x := F.C_RSTAT_START_ST n) 0x105C n 0).setCourse
    (x := F.C_RSTAT_ACTIVE n) 0x105C n 0).setCourse (x := F.C_RSTAT_TRACK_WAIT n) 0x105C n 0)
  have hdemand := (hstat.setCourse (x := F.C_DEMAND_D n) 0x1058 n 0).setCourse (x := F.C_DEMAND_CODE n) 0x1058 n 0
  have href := (hdemand.setCourse (x := F.C_REF_REF n) 0x1054 n 0).setCourse (x := F.C_REF_FINAL n) 0x1054 n 0
  exact .ite h ((href.modCourse_ne hn _).haltTiles n now)

theorem fallCourse (h : ModeKept c d e) {n : Nat} (hn : n ≠ c) : ModeKept c d (e.fallCourse n) :=
  .ite ((((h.setMode hn 0).setCourse 0x105C n 3).abortTests n).modCourse_ne hn _) (h.haltCourse hn false)

end ModeKept

theorem mode_of_regMode (h : d.regMode c = 0) : d.f (F.C_MODE_MODE c) = 0 := by
  by_contra hne
  simp [Dev.regMode, hne] at h

theorem regMode_of_parts (hmode : d.f (F.C_MODE_MODE c) = 0) (hfall : (vget d.course c).falling = 0) : d.regMode c = 0 := by
  simp [Dev.regMode, hmode, hfall]

/-- What halts a course clears the mode it falls in. -/
theorem regMode_halting (hc : c < 6) (now : Bool) {g : Course → Course} (hmode : d.f (F.C_MODE_MODE c) = 0) (hg : ∀ k, (g k).falling = 0) :
    ((d.modCourse c g).haltTiles c now).regMode c = 0 :=
  (ModeKept.refl.haltTiles c now).regMode.trans (regMode_of_parts hmode ((congrArg Course.falling (vget_vset_same _ _ hc)).trans (hg _)))

theorem f_set_mode (d : Dev) (c : Nat) : (d.set (F.C_MODE_MODE c) 0).f (F.C_MODE_MODE c) = 0 :=
  Dev.f_set_lt _ _ 0 (Nat.le_of_ble_eq_true rfl) (Nat.two_pow_pos _)

/-- A course that is halted regulates in no mode. -/
theorem regMode_haltCourse (d : Dev) (hc : c < 6) (now : Bool) : (d.haltCourse c now).regMode c = 0 := by
  unfold Dev.haltCourse
  split
  next h => simpa using h
  next =>
    refine regMode_halting hc now (Eq.trans (ModeKept.mode ?_) (f_set_mode ((((d.abortTests c).cancelStagger c).endShed c).unshare c) c)) fun _ => rfl
    refine .setCourse (.setCourse (.setCourse (.setCourse ?_ 0x1058 c 0) 0x1058 c 0) 0x1054 c 0) 0x1054 c 0
    exact .setCourse (.setCourse (.setCourse (.setCourse .refl 0x105C c 0) 0x105C c 0) 0x105C c 0) 0x105C c 0

/-- A course that follows regulates in a mode. -/
theorem ne_of_follower {n k : Nat} (h : d.regMode c = 0) (hk : k ∈ d.followers n) : k ≠ c := by
  rintro rfl
  simp [Dev.followers, mode_of_regMode h, within] at hk

theorem self_notFollower {k : Nat} (hk : k ∈ d.followers c) : k ≠ c := by
  simp only [Dev.followers, List.mem_filter, Bool.and_eq_true, bne_iff_ne] at hk
  exact hk.2.1.1.1

theorem regMode_hardStop_same (d : Dev) (hc : c < 6) (now : Bool) : (d.hardStop c now).regMode c = 0 := by
  unfold Dev.hardStop
  split
  next h => simpa using h
  next => exact (ModeKept.refl.foldl _ fun _ _ hk h => h.fallCourse (self_notFollower hk)).regMode.trans (regMode_haltCourse d hc now)

theorem regMode_hardStop_ne {n : Nat} (h : d.regMode c = 0) (hn : n ≠ c) (now : Bool) : (d.hardStop n now).regMode c = 0 := by
  have hkept : ModeKept c d (d.hardStop n now) :=
    .ite .refl ((ModeKept.refl.haltCourse hn now).foldl _ fun _ _ hk h' => h'.fallCourse (ne_of_follower h hk))
  exact hkept.regMode.trans h

/-- A course without a mode has nothing to stop. -/
theorem hardStop_idle (h : d.regMode c = 0) (now : Bool) : d.hardStop c now = d := if_pos (by simpa using h)

/-- Every course stops, in turn. -/
def Dev.allStopped (d : Dev) (n : Nat) : Dev := d.each n fun d c => (d.abortTests c).hardStop c true

theorem courseKept_allStopped (d : Dev) : CourseKept d (d.allStopped 6) :=
  CourseKept.refl.foldl _ fun _ _ hc h => (h.abortTests _).hardStop (List.mem_range.1 hc) true

theorem regMode_allStopped (d : Dev) {n : Nat} (hn : n ≤ 6) (hc : c < n) : (d.allStopped n).regMode c = 0 := by
  induction n with
  | zero => omega
  | succ n ih =>
    rw [Dev.allStopped, each_succ]
    by_cases h : n = c
    · subst h
      exact regMode_hardStop_same _ (by omega) true
    · exact regMode_hardStop_ne ((ModeKept.refl.abortTests n).regMode.trans (ih (by omega) (by omega))) h true

end Sys2Proof.Machine
end

section
/-! What the hold loop's stop, its start and its show change: the state, the arming and the hold mark of the tiles, HOLD_ACTIVE, and no gate is turned on
(R157, R160, R336). -/
namespace Sys2Proof.Machine

variable {d e : Dev} {fs : List Field} {ps : List Part}

/-- The fields that show the hold loop and the tiles it gives up. -/
def holdFields : List Field :=
  F.SYSCFG_HOLD_ACTIVE :: (List.range 16).flatMap fun t => [F.TILE_STAT_STATE t, F.TILE_STAT_ARMING t, F.TILE_STAT_HOLD t]

theorem mem_holdFields {t : Nat} (h : t < 16) : F.TILE_STAT_STATE t ∈ holdFields ∧ F.TILE_STAT_ARMING t ∈ holdFields ∧ F.TILE_STAT_HOLD t ∈ holdFields := by
  have hmem (x : Field) (hx : x ∈ [F.TILE_STAT_STATE t, F.TILE_STAT_ARMING t, F.TILE_STAT_HOLD t]) : x ∈ holdFields :=
    List.mem_cons_of_mem _ (List.mem_flatMap.2 ⟨t, List.mem_range.2 h, hx⟩)
  exact ⟨hmem _ (by simp), hmem _ (by simp), hmem _ (by simp)⟩

theorem heldTiles_lt {t : Nat} (h : t ∈ e.heldTiles.filter fun t => !(vget e.tile t).clamp) : t < 16 :=
  List.mem_range.1 (List.mem_filter.1 (List.mem_filter.1 h).1).1

section
variable (hfs : holdFields ⊆ fs)
include hfs

theorem keeps.showHold (h : keeps fs ps d e) : keeps fs ps d e.showHold := by
  have hactive : F.SYSCFG_HOLD_ACTIVE ∈ fs := hfs List.mem_cons_self
  unfold Dev.showHold
  extract_lets rest shown state
  have hshown (c : Dev) (t : Nat) (ht : t < 16) (hc : keeps fs ps d c) : keeps fs ps d (shown c t) := hc.setB _ (hfs (mem_holdFields ht).2.2)
  have hstate (c : Dev) (t : Nat) (ht : t < 16) (hc : keeps fs ps d c) : keeps fs ps d (state c t) :=
    .ite (hc.set 3 (hfs (mem_holdFields ht).1)) (.ite (hc.set rest (hfs (mem_holdFields ht).1)) hc)
  have heach := h.each 16 (g := fun d t => if d.running then shown d t else state (shown d t) t) fun c t ht hc =>
    .ite (hshown c t ht hc) (hstate _ t ht (hshown c t ht hc))
  exact .ite (.ite (heach.set 1 hactive) heach) h

theorem keeps.takeRole (hp : ps.contains .tile = true) {t : Nat} (ht : t < 16) (h : keeps fs ps d e) : keeps fs ps d (e.takeRole t) := by
  obtain ⟨hstate, harming, -⟩ := mem_holdFields ht
  exact .ite ((h.set 0 (hfs hstate)).modTile t _ hp) (((h.set _ (hfs hstate)).set 1 (hfs harming)).modTile t _ hp)

theorem keeps.dropHold (htile : ps.contains .tile = true) (hsys : ps.contains .sys = true) (h : keeps fs ps d e) : keeps fs ps d e.dropHold := by
  unfold Dev.dropHold
  extract_lets ts sys off
  have hoff : keeps fs ps d off := (h.putSys _ hsys).foldl ts fun _ t _ hc => hc.modTile t _ htile
  exact .ite (.showHold hfs (.ite (hoff.foldl ts fun _ t ht hc => .ite (hc.takeRole hfs htile (heldTiles_lt ht)) hc) hoff)) h

theorem keeps.startHold (hblock : F.HOLD_STAT_CB_BLOCK ∈ fs) (hsys : ps.contains .sys = true) (h : keeps fs ps d e) : keeps fs ps d e.startHold :=
  .ite h (.ite (h.set 1 hblock) (.ite (h.set 0 hblock) (.showHold hfs ((h.set 0 hblock).putSys _ hsys))))

end

/-! ### With the loop stopped no gate comes on -/

/-- Every gate is off but for those of the tiles that the crowbar holds. -/
def Dev.noGates (d : Dev) : Prop := ∀ u : Fin 16, (vget d.tile u).gates = .off ∨ (vget d.tile u).clamp = true

/-- From `d` to `e` no event was raised; in `e` the hold loop is stopped and every gate off but for those the crowbar holds. -/
structure HoldOff (d e : Dev) : Prop where
  raised : e.raised = d.raised
  runs   : e.sys.holdRuns = false
  gates  : e.noGates

namespace HoldOff

theorem set (h : HoldOff d e) (x : Field) (v : Nat) : HoldOff d (e.set x v) := ⟨h.raised, h.runs, h.gates⟩

/-- A change of a tile that turns its gates off, or leaves them as they are. -/
theorem modTile (h : HoldOff d e) {t : Nat} (ht : t < 16) {g : Tile → Tile} (hg : ∀ x, (g x).gates = .off ∨ (g x).gates = x.gates := by intro; simp)
    (hclamp : ∀ x, (g x).clamp = x.clamp := by intro; rfl) : HoldOff d (e.modTile t g) := by
  refine ⟨h.raised, h.runs, fun u => ?_⟩
  by_cases hu : (u : Nat) = t
  · subst hu
    rw [tile_modTile_same e g ht, hclamp]
    rcases hg (vget e.tile u) with hoff | hsame
    · exact .inl hoff
    · rw [hsame]
      exact h.gates u
  · rw [tile_modTile_ne e g hu]
    exact h.gates u

theorem ite {p : Prop} [Decidable p] {x y : Dev} (hx : HoldOff d x) (hy : HoldOff d y) : HoldOff d (if p then x else y) := by
  split
  · exact hx
  · exact hy

theorem foldl {g : Dev → Nat → Dev} (l : List Nat) (hg : ∀ e, ∀ t ∈ l, HoldOff d e → HoldOff d (g e t)) (h : HoldOff d e) : HoldOff d (l.foldl g e) := by
  induction l generalizing e with
  | nil => exact h
  | cons x l ih => exact ih (fun e y hy => hg e y (List.mem_cons_of_mem _ hy)) (hg e x List.mem_cons_self h)

theorem showHold (h : HoldOff d e) : HoldOff d e.showHold := by
  unfold Dev.showHold
  extract_lets rest shown state
  have hshown (c : Dev) (t : Nat) (hc : HoldOff d c) : HoldOff d (shown c t) := hc.set ..
  have hstate (c : Dev) (t : Nat) (hc : HoldOff d c) : HoldOff d (state c t) := .ite (hc.set ..) (.ite (hc.set ..) hc)
  have heach : HoldOff d (e.each 16 fun d t => if d.running then shown d t else state (shown d t) t) :=
    h.foldl _ fun c t _ hc => .ite (hshown c t hc) (hstate _ t (hshown c t hc))
  exact .ite (.ite (heach.set ..) heach) h

theorem takeRole (h : HoldOff d e) {t : Nat} (ht : t < 16) : HoldOff d (e.takeRole t) :=
  .ite ((h.set ..).modTile ht) (((h.set ..).set ..).modTile ht)

end HoldOff

/-- The hold loop stops (R157): no gate comes on, and no event is raised. -/
theorem holdOff_dropHold (h : d.noGates) : HoldOff d d.dropHold := by
  unfold Dev.dropHold
  split
  next =>
    extract_lets ts sys off
    have hdropped : HoldOff d (d.putSys { sys with holdRuns := false }) := ⟨rfl, rfl, h⟩
    have hoff : HoldOff d off := hdropped.foldl ts fun _ t ht hc => hc.modTile (heldTiles_lt ht)
    exact .showHold (.ite (hoff.foldl ts fun _ t ht hc => .ite (hc.takeRole (heldTiles_lt ht)) hc) hoff)
  next hstopped => exact ⟨rfl, by simpa using hstopped, h⟩

theorem dropHold_stopped (h : d.sys.holdRuns = false) : d.dropHold = d := if_neg (by simp [h])

theorem startHold_empty (h : d.sys.holdMap = []) : d.startHold = d := if_pos (by simp [h])

/-! ### Every gate off (R336) -/

/-- The hidden part of a tile as every gate goes off. -/
theorem tile_gatesOff (d : Dev) (u : Fin 16) :
    vget d.gatesOff.tile u = if (vget d.tile u).clamp then vget d.tile u else { vget d.tile u with gates := .off } := by
  simp [Dev.gatesOff, vget]

theorem noGates_gatesOff (d : Dev) : d.gatesOff.noGates := fun u => by
  rw [tile_gatesOff]
  split
  next h => exact .inr h
  next => exact .inl rfl

theorem gates_gatesOff (d : Dev) (u : Fin 16) : (vget d.gatesOff.tile u).gates = if (vget d.tile u).clamp then (vget d.tile u).gates else .off := by
  rw [tile_gatesOff]
  split <;> rfl

end Sys2Proof.Machine
end

section
/-! The power-die comparator: its trip, which stops every course, and its release (R336, R338). -/
namespace Sys2Proof.Machine

variable {d e : Dev} {s : State}

/-- The device as the comparator counts its trip (R338). -/
def Dev.pdCounted (d : Dev) : Dev := (((d.set F.THERM_HW_PD_SHUT 1).set F.THERM_HW_PD_SEEN 1).incSat F.THERM_HW_PD_SHUTS).raise 3 26

/-- The device with every course stopped and every gate off but what the crowbar holds. -/
def Dev.pdStopped (d : Dev) : Dev := (d.pdCounted.allStopped 6).gatesOff.dropHold

theorem running_of_pw (h : e.pw = d.pw) : e.running = d.running := by
  unfold Dev.running Dev.alive
  rw [h]

theorem on_of_running (h : d.running = true) : d.pw.mode = .on := by simp_all [Dev.running, Dev.alive]

theorem pdTrip_eq (hrun : d.running = true) (h : d.f F.THERM_HW_PD_SHUT = 0) : pdTrip d =
    if d.pdStopped.running && d.pdCounted.f F.PATH_STAT_LEAD != 0 then
      d.pdStopped.goDark.putPath { d.pdStopped.path with target := 0, incoming := 0 }
    else d.pdStopped := by
  unfold pdTrip
  rw [if_neg (by simp [on_of_running hrun, Dev.on, h])]
  simp only [Dev.pdStopped, Dev.pdCounted, Dev.allStopped]
  rfl

theorem keeps_pdCounted : keeps [F.THERM_HW_PD_SHUT, F.THERM_HW_PD_SEEN, F.THERM_HW_PD_SHUTS] [.tile] d d.pdCounted :=
  (((keeps.refl.set 1 (by simp)).set 1 (by simp)).incSat (by simp)).raise 3 26

theorem pdCounted_pw (d : Dev) : d.pdCounted.pw = d.pw := Dev.raise_pw ..
theorem pdCounted_course (d : Dev) : d.pdCounted.course = d.course := Dev.raise_course ..
theorem pdCounted_sys (d : Dev) : d.pdCounted.sys = d.sys := Dev.raise_sys ..
theorem pdCounted_tile (d : Dev) : d.pdCounted.tile = d.tile := Dev.raise_tile ..

theorem f_pdCounted (d : Dev) : d.pdCounted.f F.THERM_HW_PD_SHUT = 1 ∧ d.pdCounted.f F.THERM_HW_PD_SEEN = 1 := by
  have hshut : ((d.set F.THERM_HW_PD_SHUT 1).set F.THERM_HW_PD_SEEN 1).f F.THERM_HW_PD_SHUT = 1 :=
    (Dev.f_set_apart _ _ (by decide)).trans (Dev.f_set_lt _ _ _ (by decide) (by decide))
  have hseen : ((d.set F.THERM_HW_PD_SHUT 1).set F.THERM_HW_PD_SEEN 1).f F.THERM_HW_PD_SEEN = 1 := Dev.f_set_lt _ _ _ (by decide) (by decide)
  exact ⟨(Dev.f_raise ..).trans ((Dev.f_set_apart _ _ (by decide)).trans hshut), (Dev.f_raise ..).trans ((Dev.f_set_apart _ _ (by decide)).trans hseen)⟩

theorem raised_pdCounted (halive : d.alive = true) : d.pdCounted.raised = d.raised ++ [(3 * 32 + 26, d.pw.time)] := Dev.raise_raised _ 3 26 halive

/-- The stop of the hold loop leaves a register past the courses alone. -/
theorem hold_apart {x : Field} (h : 0x1300 ≤ x.addr) : holdFields.all (fun y => x.apart y) = true := by
  simp only [holdFields, List.all_cons, List.all_flatMap, List.all_eq_true, Bool.and_eq_true, List.mem_range, List.all_nil, and_true]
  refine ⟨Field.apart_of_addr (by simp only [F.SYSCFG_HOLD_ACTIVE, R.SYSCFG]; omega), fun t ht => ⟨?_, ?_, ?_⟩⟩ <;>
    exact Field.apart_of_addr (by simp only [F.TILE_STAT_STATE, F.TILE_STAT_ARMING, F.TILE_STAT_HOLD, R.TILE_STAT]; omega)

theorem mode_apart_hold : ∀ c : Fin 6, holdFields.all (fun y => (F.C_MODE_MODE c).apart y) = true := by decide

theorem mode_apart_path : ∀ c : Fin 6, [F.PATH_STAT_STATE, F.PATH_STAT_LEAD, F.PATH_STAT_SHARERS, F.PATH_STAT_ASSIST].all
    (fun y => (F.C_MODE_MODE c).apart y) = true := by decide

theorem mode_apart_end : ∀ c : Fin 6, endFields.all (fun y => (F.C_MODE_MODE c).apart y) = true := by decide

theorem keeps_dropHold (d : Dev) : keeps holdFields [.tile, .sys] d d.dropHold := keeps.dropHold (List.Subset.refl _) rfl rfl keeps.refl

theorem dropHold_pw (d : Dev) : d.dropHold.pw = d.pw := congrArg (·.pw) (keeps_dropHold d).2
theorem dropHold_course (d : Dev) : d.dropHold.course = d.course := congrArg (·.course) (keeps_dropHold d).2

theorem modeKept_dropHold (c : Fin 6) (d : Dev) : ModeKept c d d.dropHold :=
  ⟨(keeps_dropHold d).1 _ (mode_apart_hold c), by rw [dropHold_course]⟩

/-- What the trip has stopped: the courses and the hold loop; the registers past the courses and the events raised are kept. -/
structure PdStopped (d e : Dev) : Prop where
  field  : ∀ x : Field, x.pastCourses = true → e.f x = d.f x
  modes  : ∀ c : Fin 6, e.regMode c = 0
  pw     : e.pw = d.pw
  raised : ∀ p ∈ d.raised, p ∈ e.raised
  runs   : e.sys.holdRuns = false
  gates  : e.noGates

theorem CourseKept.gatesOff (h : CourseKept d e) : CourseKept d e.gatesOff := by
  unfold Dev.gatesOff
  exact { h with rest := (Dev.rest_putTile _ _ rfl).trans h.rest }

theorem regMode_gatesOff (d : Dev) (c : Nat) : d.gatesOff.regMode c = d.regMode c := rfl

theorem pdStopped_spec (d : Dev) : PdStopped d.pdCounted d.pdStopped := by
  have hcourses : CourseKept d.pdCounted (d.pdCounted.allStopped 6).gatesOff := (courseKept_allStopped _).gatesOff
  have hdrop : keeps holdFields [.tile, .sys] (d.pdCounted.allStopped 6).gatesOff d.pdStopped := keeps_dropHold _
  have hoff : HoldOff (d.pdCounted.allStopped 6).gatesOff d.pdStopped := holdOff_dropHold (noGates_gatesOff _)
  refine ⟨fun x hx => ?_, fun c => ?_, (dropHold_pw (d.pdCounted.allStopped 6).gatesOff).trans hcourses.pw, fun p hp => ?_, hoff.runs, hoff.gates⟩
  · have haddr : 0x1300 ≤ x.addr := by
      simp only [Field.pastCourses, Bool.and_eq_true, decide_eq_true_eq] at hx
      exact hx.1.1
    exact (hdrop.1 x (hold_apart haddr)).trans (hcourses.field x hx)
  · rw [Dev.pdStopped, (modeKept_dropHold c _).regMode, regMode_gatesOff]
    exact regMode_allStopped d.pdCounted (Nat.le_refl 6) c.isLt
  · rw [hoff.raised]
    exact hcourses.raised p hp

/-! ### The power path enters DARK with every course stopped (R182, R336) -/

/-- What DARK shows of the path. -/
def Dev.darkened (d : Dev) : Dev :=
  ((((d.putPath { d.path with target := 0, incoming := 0, stepTwo := false, stepTwoRun := 0 }).setPath 6 0).set F.PATH_STAT_SHARERS 0).set
    F.PATH_STAT_ASSIST 0).powerFailSave

/-- A change that does nothing to the course enabled on a port. -/
theorem onCourse_self {x : Dev} {p : Nat} {g : Nat → Dev} (hg : ∀ n < 6, g n = d) : (match x.courseOf p with | some n => g n | none => d) = d := by
  split
  next n hn => exact hg n (courseOf_lt hn)
  next => rfl

theorem goDark_stopped (h : ∀ c : Fin 6, d.regMode c = 0) : d.goDark = d.darkened := by
  unfold Dev.goDark
  extract_lets sources battery path dark
  have hsources : sources = d :=
    foldl_idle _ fun p _ => onCourse_self fun n hn => by rw [hardStop_idle (h ⟨n, hn⟩), ite_self]
  have hbattery : battery = d := by
    refine (onCourse_self (d := sources) fun n hn => if_neg ?_).trans hsources
    rw [hsources, mode_of_regMode (h ⟨n, hn⟩)]
    decide
  have hdark (x : Dev) (hx : x = d) : ((((x.putPath { x.path with target := 0, incoming := 0, stepTwo := false, stepTwoRun := 0 }).setPath 6 0).set
      F.PATH_STAT_SHARERS 0).set F.PATH_STAT_ASSIST 0).powerFailSave = d.darkened := by rw [hx]; rfl
  exact hdark battery hbattery

theorem keeps_darkened (d : Dev) :
    keeps [F.PATH_STAT_STATE, F.PATH_STAT_LEAD, F.PATH_STAT_SHARERS, F.PATH_STAT_ASSIST] [.path, .pw, .ret] d d.darkened := by
  have hpath := ((((keeps.refl (fs := [F.PATH_STAT_STATE, F.PATH_STAT_LEAD, F.PATH_STAT_SHARERS, F.PATH_STAT_ASSIST]) (ps := [.path, .pw, .ret])
    (d := d)).putPath { d.path with target := 0, incoming := 0, stepTwo := false, stepTwoRun := 0 } rfl).set (x := F.PATH_STAT_STATE) 6 (by simp)).set
      (x := F.PATH_STAT_LEAD) 0 (by simp))
  exact .ite (((hpath.set 0 (by simp)).set 0 (by simp)).putPw _ rfl |>.putRet _ rfl) ((hpath.set 0 (by simp)).set 0 (by simp))

theorem darkened_course (d : Dev) : d.darkened.course = d.course := congrArg (·.course) (keeps_darkened d).2
theorem darkened_sys (d : Dev) : d.darkened.sys = d.sys := congrArg (·.sys) (keeps_darkened d).2
theorem darkened_tile (d : Dev) : d.darkened.tile = d.tile := congrArg (·.tile) (keeps_darkened d).2

theorem lead_darkened (d : Dev) : d.darkened.f F.PATH_STAT_LEAD = 0 := by
  have hsave (e : Dev) : e.powerFailSave.f F.PATH_STAT_LEAD = e.f F.PATH_STAT_LEAD := by
    unfold Dev.powerFailSave
    split <;> rfl
  refine (hsave _).trans ((Dev.f_set_apart _ _ (by decide)).trans ((Dev.f_set_apart _ _ (by decide)).trans ?_))
  exact Dev.f_set_lt _ _ _ (by decide) (by decide)

theorem raised_darkened (d : Dev) : d.darkened.raised = d.raised := by
  have hsave (e : Dev) : e.powerFailSave.raised = e.raised := by
    unfold Dev.powerFailSave
    split <;> rfl
  exact hsave _

/-! ### The trip -/

/-- The device right after the trip (R336). -/
structure PdTripped (d e : Dev) : Prop where
  shut   : e.f F.THERM_HW_PD_SHUT = 1
  seen   : e.f F.THERM_HW_PD_SEEN = 1
  lead   : e.f F.PATH_STAT_LEAD = 0
  modes  : ∀ c : Fin 6, e.regMode c = 0
  raised : (3 * 32 + 26, d.pw.time) ∈ e.raised
  runs   : e.sys.holdRuns = false
  gates  : e.noGates

theorem pdStopped_tripped (halive : d.alive = true) (hlead : d.f F.PATH_STAT_LEAD = 0) : PdTripped d d.pdStopped := by
  have h := pdStopped_spec d
  obtain ⟨hshut, hseen⟩ := f_pdCounted d
  refine ⟨(h.field _ (by decide)).trans hshut, (h.field _ (by decide)).trans hseen, ?_, h.modes, h.raised _ ?_, h.runs, h.gates⟩
  · exact (h.field _ (by decide)).trans ((keeps_pdCounted.1 _ (by decide)).trans hlead)
  · rw [raised_pdCounted halive]
    exact List.mem_append_right _ (List.mem_singleton_self _)

theorem PdTripped.putPath (h : PdTripped d e) (x : Path) : PdTripped d (e.putPath x) := ⟨h.shut, h.seen, h.lead, h.modes, h.raised, h.runs, h.gates⟩

theorem darkened_tripped (halive : d.alive = true) : PdTripped d d.pdStopped.darkened := by
  have h := pdStopped_spec d
  obtain ⟨hshut, hseen⟩ := f_pdCounted d
  have hkeeps := keeps_darkened d.pdStopped
  have hcourse := darkened_course d.pdStopped
  have hsys := darkened_sys d.pdStopped
  have htile := darkened_tile d.pdStopped
  have hmode (c : Fin 6) : ModeKept c d.pdStopped d.pdStopped.darkened := ⟨hkeeps.1 _ (mode_apart_path c), by rw [hcourse]⟩
  refine ⟨?_, ?_, lead_darkened d.pdStopped, fun c => (hmode c).regMode.trans (h.modes c), ?_, ?_, ?_⟩
  · exact (hkeeps.1 _ (by decide)).trans ((h.field _ (by decide)).trans hshut)
  · exact (hkeeps.1 _ (by decide)).trans ((h.field _ (by decide)).trans hseen)
  · rw [raised_darkened]
    refine h.raised _ ?_
    rw [raised_pdCounted halive]
    exact List.mem_append_right _ (List.mem_singleton_self _)
  · rw [hsys, h.runs]
  · unfold Dev.noGates
    rw [htile]
    exact h.gates

theorem pdTrip_tripped (hrun : d.running = true) (hshut : d.f F.THERM_HW_PD_SHUT = 0) : PdTripped d (pdTrip d) := by
  have halive := alive_of_running hrun
  have hrunning : d.pdStopped.running = true := by
    rw [running_of_pw ((pdStopped_spec d).pw.trans (pdCounted_pw d))]
    exact hrun
  rw [pdTrip_eq hrun hshut, hrunning, Bool.true_and]
  split
  next =>
    rw [goDark_stopped (pdStopped_spec d).modes]
    exact (darkened_tripped halive).putPath _
  next hlead =>
    refine pdStopped_tripped halive (Eq.trans (keeps_pdCounted.1 _ (by decide)).symm ?_)
    simpa using hlead

theorem leads_pdTrip (hrun : s.dev.running = true) {a b : Int} (h : pairTrips 1600 a b = true) (hshut : s.dev.f F.THERM_HW_PD_SHUT = 0) :
    leads (.pdThermalTrip a b) s fun d =>
      d.f F.THERM_HW_PD_SHUT = 1 ∧ d.f F.THERM_HW_PD_SEEN = 1 ∧ d.pendingEvent (3 * 32 + 26) = true ∧ d.f F.PATH_STAT_LEAD = 0 ∧ d.sys.holdRuns = false ∧
      (∀ u : Fin 16, (vget d.tile u).gates = .off ∨ (vget d.tile u).clamp = true) ∧ ∀ c : Fin 6, d.regMode c = 0 := by
  have htrip := pdTrip_tripped hrun hshut
  refine ⟨_, (exec_pdThermalTrip a b s).trans (congrArg (done s) (if_pos h)), rfl, (f_finish_pdShut _).trans htrip.shut,
    (Dev.f_finish _ (by decide)).trans htrip.seen, pendingEvent_finish (by decide) htrip.raised, (Dev.f_finish _ (by decide)).trans htrip.lead, ?_, ?_,
    fun c => ?_⟩
  · exact (congrArg SysLoop.holdRuns (EndSame.finish _).sys).trans htrip.runs
  · rw [tile_finish]
    exact htrip.gates
  · have hcourse : (finish (pdTrip s.dev)).course = (pdTrip s.dev).course := congrArg (·.course) (EndSame.finish _).rest
    have hkept : ModeKept c (pdTrip s.dev) (finish (pdTrip s.dev)) := ⟨Dev.f_finish _ (mode_apart_end c), by rw [hcourse]⟩
    exact hkept.regMode.trans (htrip.modes c)

/-! ### The trip with every course stopped -/

theorem allStopped_idle (hmode : ∀ c : Fin 6, d.regMode c = 0) (htest : ∀ u : Fin 16, d.f (F.TILE_TEST_RESULT u) ≠ 1) : d.allStopped 6 = d :=
  each_self fun c hc => by rw [abortTests_idle htest, hardStop_idle (hmode ⟨c, hc⟩)]

theorem test_apart_shut : ∀ u : Fin 16, [F.THERM_HW_PD_SHUT, F.THERM_HW_PD_SEEN, F.THERM_HW_PD_SHUTS].all (fun y => (F.TILE_TEST_RESULT u).apart y) = true := by
  decide

theorem mode_apart_shut : ∀ c : Fin 6, [F.THERM_HW_PD_SHUT, F.THERM_HW_PD_SEEN, F.THERM_HW_PD_SHUTS].all (fun y => (F.C_MODE_MODE c).apart y) = true := by
  decide

theorem effect_pdTrip_stopped (hrun : s.dev.running = true) (hmode : ∀ c : Fin 6, s.dev.regMode c = 0)
    (htest : ∀ u : Fin 16, s.dev.f (F.TILE_TEST_RESULT u) ≠ 1) (hlead : s.dev.f F.PATH_STAT_LEAD = 0) (hhold : s.dev.sys.holdRuns = false)
    {a b : Int} (h : pairTrips 1600 a b = true) (hshut : s.dev.f F.THERM_HW_PD_SHUT = 0) (t : Fin 16) :
    effect (.pdThermalTrip a b) s [F.THERM_HW_PD_SHUT, F.THERM_HW_PD_SEEN, F.THERM_HW_PD_SHUTS] [.tile] [3 * 32 + 26] fun d =>
      d.f F.THERM_HW_PD_SHUT = 1 ∧ d.f F.THERM_HW_PD_SEEN = 1 ∧
      (vget d.tile t).gates = (if (vget s.dev.tile t).clamp then (vget s.dev.tile t).gates else .off) := by
  have hcounted := keeps_pdCounted (d := s.dev)
  have hidle : s.dev.pdCounted.allStopped 6 = s.dev.pdCounted := by
    refine allStopped_idle (fun c => ?_) fun u => ?_
    · have hkept : ModeKept c s.dev s.dev.pdCounted := ⟨hcounted.1 _ (mode_apart_shut c), by rw [pdCounted_course]⟩
      exact hkept.regMode.trans (hmode c)
    · rw [hcounted.1 _ (test_apart_shut u)]
      exact htest u
  have hstopped : s.dev.pdStopped = s.dev.pdCounted.gatesOff := by
    unfold Dev.pdStopped
    rw [hidle]
    exact dropHold_stopped ((congrArg SysLoop.holdRuns (pdCounted_sys s.dev)).trans hhold)
  have htrip : pdTrip s.dev = s.dev.pdCounted.gatesOff := by
    rw [pdTrip_eq hrun hshut, hcounted.1 _ (by decide), hlead, hstopped]
    simp
  obtain ⟨hshown, hseen⟩ := f_pdCounted s.dev
  refine ⟨_, (exec_pdThermalTrip a b s).trans (congrArg (done s) ((if_pos h).trans htrip)), hcounted.putTile _ rfl, ?_, ?_, ?_, ?_⟩
  · exact raised_pdCounted (alive_of_running hrun)
  · exact (f_finish_pdShut _).trans hshown
  · exact (Dev.f_finish _ (by decide)).trans hseen
  · rw [tile_finish, gates_gatesOff, pdCounted_tile]

end Sys2Proof.Machine
end

section
/-! The release of the power-die comparator (R336). -/
namespace Sys2Proof.Machine

variable {d e : Dev} {s : State}

/-- A tile that runs or is shed is ARMED at the release. -/
def Dev.armTile (d : Dev) (t : Nat) : Dev := if d.runs t || d.tst t == 4 then (d.setTst t 2).modTile t fun x => { x with next := none } else d

/-- The device with the trip over and its tiles ARMED. -/
def Dev.pdArmed (d : Dev) : Dev := (d.set F.THERM_HW_PD_SHUT 0).each 16 Dev.armTile

theorem pdRelease_eq (hrun : d.running = true) (h : d.f F.THERM_HW_PD_SHUT = 1) : pdRelease d =
    if !d.pdArmed.startHold.running then d.pdArmed.startHold
    else (d.pdArmed.startHold.each 5 fun d i => if d.sourceContract (i + 1) then d.startContract (i + 1) else d).pathReview := by
  unfold pdRelease
  rw [if_neg (by simp [on_of_running hrun, Dev.on, h])]
  rfl

/-! ### The tiles are ARMED -/

theorem keeps.armTiles {fs : List Field} {ps : List Part} (hfs : (List.range 16).map F.TILE_STAT_STATE ⊆ fs) (hp : ps.contains .tile = true)
    (h : keeps fs ps d e) : keeps fs ps d (e.each 16 Dev.armTile) :=
  h.each 16 fun _ t ht h => .ite ((h.set 2 (hfs (List.mem_map.2 ⟨t, List.mem_range.2 ht, rfl⟩))).modTile t _ hp) h

theorem tst_armTile_same (t : Nat) (h : d.sys.holdRuns = false) : (d.armTile t).tst t = if d.tst t = 3 ∨ d.tst t = 4 then 2 else d.tst t := by
  have hruns : (d.runs t || d.tst t == 4) = decide (d.tst t = 3 ∨ d.tst t = 4) := by simp [Dev.runs, Dev.holds, h, Bool.decide_or, beq_eq_decide]
  unfold Dev.armTile
  rw [hruns]
  by_cases hstate : d.tst t = 3 ∨ d.tst t = 4
  · rw [if_pos (by simpa using hstate), if_pos hstate]
    exact tst_setTst d t (by decide)
  · rw [if_neg (by simpa using hstate), if_neg hstate]

theorem tst_armTile_ne {t u : Nat} (h : t ≠ u) : (d.armTile u).tst t = d.tst t := by
  unfold Dev.armTile
  split
  · exact Dev.f_set_ne _ _ (tileStat_ne h)
  · rfl

theorem sys_armTile (d : Dev) (t : Nat) : (d.armTile t).sys = d.sys := by
  unfold Dev.armTile
  split <;> rfl

theorem raised_armTile (d : Dev) (t : Nat) : (d.armTile t).raised = d.raised := by
  unfold Dev.armTile
  split <;> rfl

theorem tst_armTiles (h : d.sys.holdRuns = false) (t n : Nat) :
    (d.each n Dev.armTile).tst t = if t < n ∧ (d.tst t = 3 ∨ d.tst t = 4) then 2 else d.tst t := by
  induction n with
  | zero => simp [Dev.each]
  | succ n ih =>
    have hhold : (d.each n Dev.armTile).sys.holdRuns = false := (congrArg SysLoop.holdRuns (each_const (·.sys) sys_armTile n d)).trans h
    rw [each_succ]
    by_cases hn : t = n
    · subst hn
      simp [tst_armTile_same t hhold, ih]
    · have hlt : t < n + 1 ↔ t < n := by omega
      simp only [tst_armTile_ne hn, ih, hlt]

/-! ### The release -/

theorem shut_apart_states : ((List.range 16).map F.TILE_STAT_STATE).all (fun y => F.THERM_HW_PD_SHUT.apart y) = true := by decide

theorem f_pdArmed (d : Dev) : d.pdArmed.f F.THERM_HW_PD_SHUT = 0 :=
  ((keeps.refl.armTiles (List.Subset.refl _) (ps := [.tile]) rfl).1 _ shut_apart_states).trans (Dev.f_set_lt _ _ _ (by decide) (by decide))

theorem f_startHold_shut (d : Dev) : d.startHold.f F.THERM_HW_PD_SHUT = d.f F.THERM_HW_PD_SHUT :=
  (keeps.startHold (fs := F.HOLD_STAT_CB_BLOCK :: holdFields) (ps := [.sys]) (List.subset_cons_self _ _) List.mem_cons_self rfl keeps.refl).1 _ (by decide)

/-- The course of a port under contract starts: work on a course (R235). -/
theorem CourseKept.startContract (h : CourseKept d e) (p : Nat) : CourseKept d (e.startContract p) := by
  unfold Dev.startContract
  split
  next c hc => exact h.giveMode (courseOf_lt hc) ..
  next => exact h

theorem courseKept_startContracts (d : Dev) : CourseKept d (d.each 5 fun d i => if d.sourceContract (i + 1) then d.startContract (i + 1) else d) :=
  CourseKept.refl.foldl _ fun _ _ _ h => .ite (h.startContract _) h

theorem leads_pdRelease (hrun : s.dev.running = true) {a b : Int} (h : pairCool a b = true) (hshut : s.dev.f F.THERM_HW_PD_SHUT = 1) :
    leads (.pdThermalRelease a b) s fun d => d.f F.THERM_HW_PD_SHUT = 0 := by
  refine ⟨_, (exec_pdThermalRelease a b s).trans (congrArg (done s) (if_pos h)), rfl, (f_finish_pdShut _).trans ?_⟩
  have harmed := (f_startHold_shut s.dev.pdArmed).trans (f_pdArmed s.dev)
  rw [pdRelease_eq hrun hshut]
  split
  · exact harmed
  · exact ((PathKept.refl.course (courseKept_startContracts _)).pathReview.field _ (by decide)).trans harmed

/-! ### The release with no contract and a handover running -/

theorem pathReview_handing (h : d.f F.PATH_STAT_STATE = 2) : d.pathReview = d := by
  simp [Dev.pathReview, h]

/-- What a SOURCE contract of a port reads. -/
theorem sourceContract_congr (hf : ∀ x : Field, x.addr = R.SEG_STAT 0 ∨ x.addr = R.SEG_STAT 1 ∨ x.addr = R.PD_STAT → e.f x = d.f x)
    (hserv : e.serv = d.serv) (p : Nat) : e.sourceContract p = d.sourceContract p := by
  have hring (h : within 3 4 p = true) : e.inForce (p - 3) = d.inForce (p - 3) ∧ e.crole (p - 3) = d.crole (p - 3) := by
    obtain rfl | rfl : p = 3 ∨ p = 4 := by simp [within] at h; omega
    · exact ⟨congrArg (fun v => decide (2 ≤ v)) (hf (F.SEG_STAT_CSTATE 0) (.inl rfl)), hf (F.SEG_STAT_CROLE 0) (.inl rfl)⟩
    · exact ⟨congrArg (fun v => decide (2 ≤ v)) (hf (F.SEG_STAT_CSTATE 1) (.inr (.inl rfl))), hf (F.SEG_STAT_CROLE 1) (.inr (.inl rfl))⟩
  unfold Dev.sourceContract Dev.on
  rw [hserv, hf F.PD_STAT_PROLE (.inr (.inr rfl))]
  by_cases h : within 3 4 p = true
  · rw [(hring h).1, (hring h).2]
  · simp [Bool.eq_false_of_not_eq_true h]

/-- The registers of the ring's contracts and of the service port stand apart from what the release writes. -/
theorem release_apart {x : Field} (hx : x.addr = R.SEG_STAT 0 ∨ x.addr = R.SEG_STAT 1 ∨ x.addr = R.PD_STAT) :
    (F.THERM_HW_PD_SHUT :: (List.range 16).map F.TILE_STAT_STATE).all (fun y => x.apart y) = true := by
  have haddr (y : Field) (hy : y.addr = R.THERM_HW ∨ ∃ t < 16, y.addr = R.TILE_STAT t) : x.apart y = true := by
    refine Field.apart_of_addr ?_
    simp only [R.SEG_STAT, R.PD_STAT, R.THERM_HW, R.TILE_STAT] at hx hy
    omega
  simp only [List.all_cons, List.all_map, List.all_eq_true, Bool.and_eq_true, List.mem_range]
  exact ⟨haddr _ (.inl rfl), fun t ht => haddr _ (.inr ⟨t, ht, rfl⟩)⟩

theorem serv_of_keeps {fs : List Field} (h : keeps fs [.tile] d e) : e.serv = d.serv := congrArg (·.serv) h.2

theorem state_apart_end : ∀ t : Fin 16, endFields.all (fun y => (F.TILE_STAT_STATE t).apart y) = true := by decide

theorem effect_pdRelease_stopped (hrun : s.dev.running = true) (hhold : s.dev.sys.holdRuns = false) {a b : Int} (h : pairCool a b = true)
    (hshut : s.dev.f F.THERM_HW_PD_SHUT = 1) (hstate : s.dev.f F.PATH_STAT_STATE = 2) (hmap : s.dev.sys.holdMap = [])
    (hnone : ∀ p : Fin 5, s.dev.sourceContract (p + 1) = false) (t : Fin 16) :
    effect (.pdThermalRelease a b) s (F.THERM_HW_PD_SHUT :: (List.range 16).map F.TILE_STAT_STATE) [.tile] [] fun d =>
      d.f F.THERM_HW_PD_SHUT = 0 ∧ d.tst t = (if s.dev.tst t = 3 ∨ s.dev.tst t = 4 then 2 else s.dev.tst t) := by
  have hkeeps : keeps (F.THERM_HW_PD_SHUT :: (List.range 16).map F.TILE_STAT_STATE) [.tile] s.dev s.dev.pdArmed :=
    (keeps.refl.set 0 List.mem_cons_self).armTiles (List.subset_cons_self _ _) rfl
  have hsys : s.dev.pdArmed.sys = s.dev.sys := each_const (·.sys) sys_armTile 16 _
  have hraised : s.dev.pdArmed.raised = s.dev.raised := each_const (·.raised) raised_armTile 16 _
  have hidle : s.dev.pdArmed.startHold = s.dev.pdArmed := startHold_empty ((congrArg SysLoop.holdMap hsys).trans hmap)
  have hcontracts : (s.dev.pdArmed.each 5 fun d i => if d.sourceContract (i + 1) then d.startContract (i + 1) else d) = s.dev.pdArmed := by
    refine each_self fun p hp => if_neg ?_
    rw [sourceContract_congr (fun x hx => hkeeps.1 x (release_apart hx)) (serv_of_keeps hkeeps), hnone ⟨p, hp⟩]
    decide
  have hrelease : pdRelease s.dev = s.dev.pdArmed := by
    rw [pdRelease_eq hrun hshut, hidle, hcontracts, pathReview_handing ((hkeeps.1 _ (by decide)).trans hstate), ite_self]
  refine ⟨_, (exec_pdThermalRelease a b s).trans (congrArg (done s) ((if_pos h).trans hrelease)), hkeeps, hraised.trans (List.append_nil _).symm,
    (f_finish_pdShut _).trans (f_pdArmed s.dev), (Dev.f_finish _ (state_apart_end t)).trans ?_⟩
  have hset : (s.dev.set F.THERM_HW_PD_SHUT 0).tst t = s.dev.tst t :=
    Dev.f_set_ne _ _ (by simp only [F.TILE_STAT_STATE, R.TILE_STAT, F.THERM_HW_PD_SHUT, R.THERM_HW]; omega)
  have harmed := tst_armTiles (d := s.dev.set F.THERM_HW_PD_SHUT 0) hhold t 16
  rw [hset] at harmed
  exact harmed.trans (by simp)

end Sys2Proof.Machine

open Sys2Proof Sys2Proof.Machine

/-- Settles O37: the throttle by its step's three events, the power-die comparator by the courses that stay stopped, the logic-die one by what a reset
keeps. -/
theorem throttleAndComparators : Obligations.ThrottleAndComparators := by
  unfold Obligations.ThrottleAndComparators
  intro z v t a b s
  refine ⟨fun _ hcool => effect_ldRelease hcool, effect_ldRelease_warm, fun hrun => ?_⟩
  have halive := alive_of_running hrun
  refine ⟨leads_throttle_down hrun, leads_throttle_up hrun, leads_pdTrip hrun, effect_pdTrip_below, leads_pdRelease hrun, effect_pdRelease_warm,
    effect_ldTrip_below halive, effect_throttle_down hrun, effect_throttle_full hrun, effect_floor_taken halive, effect_floor_refused halive,
    fun hmode htest hlead hhold => ⟨fun htrip hshut => effect_pdTrip_stopped hrun hmode htest hlead hhold htrip hshut t,
      fun hcool hshut hstate hmap hnone => effect_pdRelease_stopped hrun hhold hcool hshut hstate hmap hnone t⟩, leads_ldTrip halive⟩
end

section
/-! What the work on courses, ports, flows, contracts and the charger leaves alone of the sensors: what they read and what broke them, their stand-ins, and
the count of rounds (R324, R331, R334, R335). -/
namespace Sys2Proof.Machine

variable {d e : Dev} {i : Nat}

/-- The field is of a sensor's reading, its broken state or its stand-in, or counts the rounds; EXEMPT is its zone's. -/
def Field.sensing (x : Field) : Bool :=
  (decide (0x1C00 ≤ x.addr) && decide (x.addr < 0x1D80) && (x.addr % 32 == 0xC || (x.addr % 32 == 0x14 && decide (x.lo + x.width ≤ 17)))) ||
    x.addr == R.THERM_ROUND

/-- The hidden part of a sensor without what its zone notes of it. -/
def Sensor.judged (x : Sensor) : Sensor := { x with holds := false }

/-- From `d` to `e` no sensor was judged: the fields of sensing, the hidden part of each sensor but for its zone's note, and the events raised are kept. -/
structure SensingKept (d e : Dev) : Prop where
  field  : ∀ x : Field, x.sensing = true → e.f x = d.f x
  judged : ∀ j, (vget e.sensor j).judged = (vget d.sensor j).judged
  raised : ∀ p ∈ d.raised, p ∈ e.raised

theorem Field.sensing_addr {x : Field} (h : x.sensing = true) : 0x1C00 ≤ x.addr ∧ (x.addr < 0x1D80 ∨ x.addr = 0x1DC8) := by
  simp only [Field.sensing, R.THERM_ROUND, Bool.or_eq_true, Bool.and_eq_true, decide_eq_true_eq, beq_iff_eq] at h
  omega

theorem Field.sensing_offPath {x : Field} (h : x.sensing = true) : x.offPath = true := by
  simp only [Field.sensing, R.THERM_ROUND, Bool.or_eq_true, Bool.and_eq_true, decide_eq_true_eq, beq_iff_eq] at h
  simp only [Field.offPath, Field.pastCourses, Bool.and_eq_true, bne_iff_ne, decide_eq_true_eq, R.PATH_STAT, R.CHG_PHASE, R.SYS_TARGET]
  exact ⟨⟨⟨⟨⟨by omega, by omega⟩, Field.apart_of_addr (by simp only [F.PATH_STAT_SHARERS, R.PATH_STAT]; omega)⟩, by omega⟩, by omega⟩, by omega⟩

namespace SensingKept

theorem refl : SensingKept d d := ⟨fun _ _ => rfl, fun _ => rfl, fun _ h => h⟩

theorem trans {c : Dev} (h : SensingKept d e) (g : SensingKept e c) : SensingKept d c :=
  ⟨fun x hx => (g.field x hx).trans (h.field x hx), fun j => (g.judged j).trans (h.judged j), fun p hp => g.raised p (h.raised p hp)⟩

theorem ite {p : Prop} [Decidable p] {a b : Dev} (ha : SensingKept d a) (hb : SensingKept d b) : SensingKept d (if p then a else b) := by
  split
  · exact ha
  · exact hb

theorem foldl {β : Type} {g : Dev → β → Dev} (l : List β) (hg : ∀ e, ∀ x ∈ l, SensingKept d e → SensingKept d (g e x)) (h : SensingKept d e) :
    SensingKept d (l.foldl g e) := by
  induction l generalizing e with
  | nil => exact h
  | cons x l ih => exact ih (fun e y hy => hg e y (List.mem_cons_of_mem _ hy)) (hg e x List.mem_cons_self h)

/-- A write of a register apart from those of the sensors. -/
theorem wr (h : SensingKept d e) {a : Nat} (w : Word) (ha : a < 0x1C00 ∨ (0x1D80 ≤ a ∧ a ≠ 0x1DC8) := by decide) : SensingKept d (e.wr a w) :=
  { h with
    field := fun x hx => by
      have haddr := Field.sensing_addr hx
      have hne : x.addr ≠ a := by omega
      exact (congrArg x.read (Dev.rd_wr_ne e w hne)).trans (h.field x hx) }

theorem set (h : SensingKept d e) {x : Field} (v : Nat) (hx : x.addr < 0x1C00 ∨ (0x1D80 ≤ x.addr ∧ x.addr ≠ 0x1DC8) := by decide) :
    SensingKept d (e.set x v) := h.wr _ hx

/-- A field of PORTn_STAT. -/
theorem setPort (h : SensingKept d e) {x : Field} {p : Nat} (v : Nat) (hp : p < 5) (hx : x.addr = R.PORT_STAT p := by rfl) : SensingKept d (e.set x v) :=
  h.set v (.inl (by simp only [R.PORT_STAT] at hx; omega))

/-- Only the requests of the fault log and other parts of the state change. -/
theorem of_same {c : Dev} (h : SensingKept d e) (hregs : c.regs = e.regs := by rfl) (hsensor : c.sensor = e.sensor := by rfl)
    (hraised : c.raised = e.raised := by rfl) : SensingKept d c :=
  h.trans ⟨fun x _ => Dev.f_congr hregs x, fun j => by rw [hsensor], fun p hp => hraised ▸ hp⟩

theorem path {c : Dev} (h : SensingKept d e) (g : PathKept e c) : SensingKept d c :=
  h.trans ⟨fun x hx => g.field x (Field.sensing_offPath hx), fun j => congrArg (fun v => (vget v j).judged) (congrArg (·.sensor) g.rest :), g.raised⟩

theorem course {c : Dev} (h : SensingKept d e) (g : CourseKept e c) : SensingKept d c := h.path (PathKept.refl.course g)

theorem raise (h : SensingKept d e) (b n : Nat) : SensingKept d (e.raise b n) := h.course (CourseKept.refl.raise b n)

theorem fault (h : SensingKept d e) (b n : Nat) (l : List Nat) : SensingKept d (e.fault b n l) := h.course (CourseKept.refl.fault b n l)

theorem hardStop (h : SensingKept d e) {n : Nat} (hn : n < 6) (now : Bool) : SensingKept d (e.hardStop n now) := h.course (CourseKept.refl.hardStop hn now)

/-- A change for the course enabled on a port, if there is one. -/
theorem onCourse {x : Dev} (h : SensingKept d e) (p : Nat) {g : Nat → Dev} (hg : ∀ n < 6, SensingKept d (g n)) :
    SensingKept d (match x.courseOf p with | some n => g n | none => e) := by
  split
  next n hn => exact hg n (courseOf_lt hn)
  next => exact h

theorem traffic {c : Dev} (h : SensingKept d e) (g : Traffic e c) : SensingKept d c := by
  rw [g.only]
  exact h.of_same

/-! ### Flows (R246, R248) -/

theorem setFlow (h : SensingKept d e) (x : FlowCtx) : SensingKept d (e.setFlow i x) := (h.of_same (c := e.putRing _)).set _

theorem freeCtx (h : SensingKept d e) : SensingKept d (e.freeCtx i) := .ite ((h.setFlow {}).raise 4 11) (h.setFlow {})

theorem openOn (h : SensingKept d e) (n : Nat) (x : FlowCtx) : SensingKept d (e.openOn i n x) := (h.setFlow _).traffic ((Traffic.refl _).originate ..)

theorem reroute (h : SensingKept d e) (x : FlowCtx) (reason : Nat) : SensingKept d (e.reroute i x reason) := .ite (h.openOn _ x) h

theorem sendFlowClose (h : SensingKept d e) (dst : Nat) (x : FlowCtx) (reason : Nat) (dead : Option Nat) :
    SensingKept d (e.sendFlowClose dst x reason dead) := .ite (h.traffic ((Traffic.refl _).sendRouted ..)) h

theorem endFlow (h : SensingKept d e) (reason : Nat) (dead : Option Nat) : SensingKept d (e.endFlow i reason dead) := by
  unfold Dev.endFlow
  extract_lets x told closed freed
  have htold : SensingKept d told := .ite (h.sendFlowClose ..) h
  have hclosed : SensingKept d closed := .ite (htold.sendFlowClose ..) htold
  exact .ite h (.ite (hclosed.freeCtx.reroute ..) hclosed.freeCtx)

theorem endFlowsOn (h : SensingKept d e) (n reason : Nat) (dead : Bool) : SensingKept d (e.endFlowsOn n reason dead) :=
  (h.foldl _ fun _ _ _ h => h.endFlow ..).course (courseKept_flowModes _)

/-! ### Ports and contracts (R172, R173, R239, R254, R264) -/

theorem setFet (h : SensingKept d e) (p : Nat) (b : Bool) : SensingKept d (e.setFet p b) := by
  unfold Dev.setFet
  split
  next hp =>
    refine h.set _ (.inl ?_)
    simp [within] at hp
    simp only [F.GUARD_STAT_FET_ON, R.GUARD_STAT]
    omega
  next => exact h

theorem restartDebounce (h : SensingKept d e) {p : Nat} (hp : p ≤ 5) : SensingKept d (e.restartDebounce p) := by
  unfold Dev.restartDebounce
  extract_lets wait go cleared
  have hset := h.setPort (x := F.PORT_STAT_DEB_MS (p - 1)) (p := p - 1) 0 (by omega)
  have hcleared : SensingKept d cleared := hset.of_same
  exact hcleared.setPort (p := p - 1) _ (by omega)

theorem loseSource (h : SensingKept d e) {p : Nat} (hp : p ≤ 5) (late : Nat) : SensingKept d (e.loseSource p late) := by
  have hlt : p - 1 < 5 := by omega
  unfold Dev.loseSource
  refine .ite (.ite ((h.setPort 0 hlt).setPort 0 hlt) h) ?_
  extract_lets marked lost st stopped
  have hmarked : SensingKept d marked := (((h.setPort 0 hlt).setPort 0 hlt).setPort 1 hlt).setPort _ hlt
  have hlost : SensingKept d lost := ((hmarked.raise 2 31).setFet p false).of_same
  have hstopped : SensingKept d stopped := hlost.onCourse p fun _ hc => hlost.hardStop hc true
  exact .ite (hlost.path (PathKept.refl.handover late)) (.ite (hstopped.path PathKept.refl.abandonTransfer)
    (.ite hstopped.of_same (.ite (hstopped.set _) hstopped)))

theorem startDischarge (h : SensingKept d e) (p : Nat) : SensingKept d (e.startDischarge p) := by
  unfold Dev.startDischarge
  refine .ite (h.onCourse p fun c hc => ?_) h
  have hgiven := h.course (CourseKept.refl.giveModeOpen hc 3 (10 * e.f F.PDIS_CFG_I_DIS) 0)
  exact .ite (hgiven.set _) hgiven

theorem clearNego (h : SensingKept d e) (n : Nat) : SensingKept d (e.clearNego n) := h.of_same

theorem dropContract (h : SensingKept d e) {n : Nat} (hn : n < 2) (reason : Nat) (dead : Bool) : SensingKept d (e.dropContract n reason dead) := by
  have hstat : R.SEG_STAT n < 0x1C00 := by simp only [R.SEG_STAT]; omega
  have hcontract : R.SEG_CONTRACT n < 0x1C00 := by simp only [R.SEG_CONTRACT]; omega
  unfold Dev.dropContract
  extract_lets p cs pend moving closed cleared lost stopped opened told ended
  have hclosed : SensingKept d closed := ((h.set 0 (.inl hstat)).set 0 (.inl hstat)).setPort (p := p - 1) 0 (by omega)
  have hcleared : SensingKept d cleared := ((hclosed.set 0 (.inl hcontract)).set 0 (.inl hcontract)).clearNego n
  have hlost : SensingKept d lost := hcleared.loseSource (by omega) 0
  have hstopped : SensingKept d stopped := hlost.onCourse p fun _ hc => hlost.hardStop hc false
  have hopened : SensingKept d opened := hstopped.setFet p false
  have htold : SensingKept d told := .ite ((hopened.set 1 (.inl hstat)).raise 4 18) hopened
  exact .ite (h.clearNego n) (.ite ((h.clearNego n).set 0 (.inl hstat)) (((htold.endFlowsOn n _ dead).raise 4 (6 + n)).startDischarge p))

theorem dropPd (h : SensingKept d e) (keep : Bool) : SensingKept d (e.dropPd keep) := by
  unfold Dev.dropPd
  extract_lets had moving sinkC serv emptied closed lost stopped opened told
  have hclosed : SensingKept d closed := ((h.of_same (c := emptied)).set 0).set 0 |>.set 0
  have hlost : SensingKept d lost := .ite (hclosed.loseSource (Nat.le_refl 5) 0) hclosed
  have hstopped : SensingKept d stopped := hlost.onCourse 5 fun _ hc => hlost.hardStop hc false
  have hopened : SensingKept d opened := .ite hlost (hstopped.setFet 5 false)
  have htold : SensingKept d told := .ite ((hopened.set 1).raise 4 31) hopened
  exact .ite (htold.raise 4 23) htold

theorem servDetach (h : SensingKept d e) : SensingKept d e.servDetach := by
  unfold Dev.servDetach
  refine .ite h.of_same ?_
  extract_lets counted dropped left free dark idle
  have hdropped : SensingKept d dropped := (SensingKept.raise (h.set _) 4 21).dropPd false
  have hleft : SensingKept d left := .ite ((hdropped.set 0).raise 4 26) hdropped
  have hdark : SensingKept d dark := ((((hleft.set 0).set 0).set 0).set 0).wr 0#32 |>.set 0
  exact (hdark.of_same (c := idle)).startDischarge 5

theorem sourceLost (h : SensingKept d e) {p : Nat} (hp : p ≤ 5) (late : Nat) : SensingKept d (e.sourceLost p late) := by
  unfold Dev.sourceLost
  extract_lets was lost
  have hlost : SensingKept d lost := h.loseSource hp late
  refine .ite hlost ?_
  split
  next hring =>
    simp [within] at hring
    exact (hlost.traffic ((Traffic.refl _).sendHardclose ..)).dropContract (by omega) 9 false
  next => exact .ite hlost.servDetach (hlost.startDischarge p)

theorem loseCoursePort (h : SensingKept d e) (c : Nat) : SensingKept d (e.loseCoursePort c) := by
  unfold Dev.loseCoursePort
  extract_lets p
  refine .ite (h.path (PathKept.refl.loseBattery true false)) ?_
  split
  next hp =>
    simp [within] at hp
    exact h.sourceLost hp.2 0
  next => exact h

end SensingKept
end Sys2Proof.Machine
end

section
/-! What the end of a round for a zone, THERM_MAX, the capture and the charger's part of a round leave alone of the sensors (R325 to R335, R194 to R203). -/
namespace Sys2Proof.Machine

variable {d e : Dev}

namespace SensingKept

/-! ### The charger (R188 to R196, R201) -/

theorem showTimer (h : SensingKept d e) : SensingKept d e.showTimer := by
  unfold Dev.showTimer
  split
  · exact h.set 0
  · exact h.set _

theorem keepTimer (h : SensingKept d e) : SensingKept d e.keepTimer := by
  unfold Dev.keepTimer
  extract_lets p
  split
  · exact .ite h.of_same h
  · exact h.of_same

theorem setPhase (h : SensingKept d e) (p : Nat) : SensingKept d (e.setPhase p) := by
  unfold Dev.setPhase
  extract_lets old moved done resume chg timed
  have hmoved : SensingKept d moved := ((h.set old).set p).raise 3 0
  have hdone : SensingKept d done := .ite (hmoved.raise 3 5) hmoved
  have htimed : SensingKept d timed := by
    simp only [timed]
    split
    · exact hdone.of_same
    · exact hdone
  exact .ite h htimed.keepTimer.showTimer

theorem chargeFault (h : SensingKept d e) (cause : Nat) : SensingKept d (e.chargeFault cause) := by
  have hfault := SensingKept.fault ((h.setPhase 10).set (x := F.CHG_PHASE_CAUSE) cause) 3 1 [R.CHG_PHASE, R.CHG_MEAS]
  exact .ite (hfault.raise 3 14) hfault

theorem checkPresence (h : SensingKept d e) : SensingKept d e.checkPresence := by
  have hput (x : Charger) : SensingKept d (e.putChg x) := h.of_same
  refine .ite (.ite h (SensingKept.raise ?_ 3 3)) h
  exact .ite (.setPhase (.ite ((hput _).set 0) (hput _)) _) ((hput _).setPhase 0)

theorem batteryRound (h : SensingKept d e) : SensingKept d e.batteryRound := by
  unfold Dev.batteryRound
  extract_lets n x isOpen short wasShort chg noted faulted was w chg' seen shown
  have hnoted : SensingKept d noted := h.of_same
  have hfaulted : SensingKept d faulted := .ite hnoted (.ite (hnoted.raise 3 14) (hnoted.chargeFault 5))
  have hseen : SensingKept d seen := hfaulted.of_same
  have hshown : SensingKept d shown := .ite (hseen.set w) hseen
  exact .ite h (.ite hfaulted.checkPresence (SensingKept.checkPresence (hshown.set _)))

/-! ### Zones (R325 to R335) -/

theorem hottest (h : SensingKept d e) (ns : List Nat) : SensingKept d (e.hottest ns).2 := by
  unfold Dev.hottest
  dsimp only
  split
  · exact h
  · split
    · exact h
    · exact h.of_same

theorem deviceMax (h : SensingKept d e) : SensingKept d e.deviceMax := by
  unfold Dev.deviceMax
  extract_lets ns top
  have htop : SensingKept d top.2 := h.hottest ns
  exact (htop.set _).set _

/-- EXEMPT is no field of sensing. -/
theorem exempt_apart {x : Field} (h : x.sensing = true) (n : Nat) : x.apart (F.TS_STAT_EXEMPT n) = true := by
  by_cases haddr : x.addr = R.TS_STAT n
  · simp only [Field.sensing, R.THERM_ROUND, R.TS_STAT, Bool.or_eq_true, Bool.and_eq_true, decide_eq_true_eq, beq_iff_eq] at h haddr
    have hbits : x.lo + x.width ≤ 17 := by omega
    simp [Field.apart, F.TS_STAT_EXEMPT, hbits]
  · exact Field.apart_of_addr haddr

theorem setExempt (h : SensingKept d e) (n v : Nat) : SensingKept d (e.set (F.TS_STAT_EXEMPT n) v) :=
  { h with field := fun x hx => (Dev.f_set_apart e v (exempt_apart hx n)).trans (h.field x hx) }

theorem setZone (h : SensingKept d e) {x : Field} {z : Nat} (v : Nat) (hx : x.addr = R.ZONE_STAT z := by rfl) : SensingKept d (e.set x v) :=
  h.set v (.inr (by simp only [R.ZONE_STAT] at hx; omega))

theorem judgeExempt (h : SensingKept d e) (z : Nat) : SensingKept d (e.judgeExempt z) := .ite (h.setExempt ..) h

theorem zoneReport (h : SensingKept d e) (z : Nat) : SensingKept d (e.zoneReport z) := by
  unfold Dev.zoneReport
  extract_lets ms top topped lv was shown
  have htop : SensingKept d top.2 := h.hottest ms
  have hshown : SensingKept d shown := ((htop.setZone (z := z) _).setZone (z := z) _).setZone (z := z) lv
  exact .ite (hshown.raise 3 16) hshown

theorem modHolds (h : SensingKept d e) (n : Nat) (b : Bool) : SensingKept d (e.modSensor n fun x => { x with holds := b }) := by
  refine h.trans ⟨fun _ _ => rfl, fun j => ?_, fun _ h => h⟩
  simp only [Dev.modSensor, Dev.putSensor]
  by_cases hj : j = n
  · subst hj
    by_cases hlt : j < 12
    · rw [vget_vset_same _ _ hlt]
      rfl
    · rw [vget_vset_out _ _ (by omega)]
  · rw [vget_vset_ne _ _ hj]

theorem setStep (h : SensingKept d e) (z v : Nat) : SensingKept d (e.setStep z v) := by
  unfold Dev.setStep
  extract_lets was stepped below full floored
  have hstepped : SensingKept d stepped := h.setZone (z := z) v
  have hbelow : SensingKept d below := .ite (hstepped.raise 3 17) hstepped
  have hfull : SensingKept d full := .ite (hbelow.raise 3 18) hbelow
  have hfloored : SensingKept d floored := .ite (hfull.raise 3 28) hfull
  exact .ite h hfloored.of_same

theorem zoneThrottle (h : SensingKept d e) (z : Nat) : SensingKept d (e.zoneThrottle z) := by
  unfold Dev.zoneThrottle
  extract_lets us newly noted held floor st dem st'
  have hnoted : SensingKept d noted := h.foldl _ fun _ n _ h => h.modHolds n _
  have hheld : SensingKept d held := hnoted.setZone (z := z) _
  exact (hheld.setZone (z := z) dem).setStep z _

theorem showHold (h : SensingKept d e) : SensingKept d e.showHold := by
  have htile {t : Nat} (ht : t < 16) : R.TILE_STAT t < 0x1C00 := by simp only [R.TILE_STAT]; omega
  unfold Dev.showHold
  extract_lets rest shown state
  have hshown (c : Dev) (t : Nat) (ht : t < 16) (hc : SensingKept d c) : SensingKept d (shown c t) := hc.set _ (.inl (htile ht))
  have hstate (c : Dev) (t : Nat) (ht : t < 16) (hc : SensingKept d c) : SensingKept d (state c t) :=
    .ite (hc.set 3 (.inl (htile ht))) (.ite (hc.set rest (.inl (htile ht))) hc)
  have heach : SensingKept d (e.each 16 fun d t => if d.running then shown d t else state (shown d t) t) :=
    h.foldl _ fun c t ht hc => .ite (hshown c t (List.mem_range.1 ht) hc) (hstate _ t (List.mem_range.1 ht) (hshown c t (List.mem_range.1 ht) hc))
  exact .ite (.ite (heach.set 1) heach) h

theorem sendHoldMap (h : SensingKept d e) : SensingKept d e.sendHoldMap := by
  unfold Dev.sendHoldMap
  extract_lets m sys sent
  have hsent : SensingKept d sent := h.of_same
  exact .ite hsent.showHold hsent

theorem zoneCourses_lt {z c : Nat} (h : c ∈ e.zoneCourses z) : c < 6 := List.mem_range.1 (List.mem_filter.1 h).1

theorem shutZone (h : SensingKept d e) (z : Nat) (double : Bool) : SensingKept d (e.shutZone z double) := by
  unfold Dev.shutZone
  extract_lets shown shut told cs stopped lost
  have hshut : SensingKept d shut := ((h.setZone (z := z) 1).setZone (z := z) _).fault 3 19 _
  have htold : SensingKept d told := .ite (hshut.raise 3 25) hshut
  have hstopped : SensingKept d stopped := htold.foldl _ fun _ _ hc h => (h.course (CourseKept.refl.abortTests _)).hardStop (zoneCourses_lt hc) false
  have hlost : SensingKept d lost := hstopped.foldl _ fun _ _ _ h => h.loseCoursePort _
  exact .ite htold (.ite hlost.sendHoldMap hlost)

theorem openZone (h : SensingKept d e) (z : Nat) : SensingKept d (e.openZone z) := by
  unfold Dev.openZone
  extract_lets told stepped cs sent opened
  have htold : SensingKept d told := ((h.setZone (z := z) 0).setZone (z := z) 0).raise 3 20
  have hstepped : SensingKept d stepped := htold.setStep z _
  have hsent : SensingKept d sent := .ite hstepped.sendHoldMap hstepped
  have hopened : SensingKept d opened := hsent.foldl _ fun c n _ h => by
    dsimp only
    split
    · exact h
    next hp =>
      refine .ite (h.course (CourseKept.refl.startContract _)) (.ite h (h.restartDebounce ?_))
      simp [within] at hp
      omega
  exact .ite hstepped (hopened.path PathKept.refl.pathReview)

theorem zoneShutdown (h : SensingKept d e) (z : Nat) : SensingKept d (e.zoneShutdown z) := by
  unfold Dev.zoneShutdown
  extract_lets ms double top cool
  exact .ite (.ite (h.shutZone ..) h) (.ite ((h.setZone (z := z) 1).raise 3 25) (.ite h (h.openZone z)))

theorem zoneEnd (h : SensingKept d e) (z : Nat) : SensingKept d (e.zoneEnd z) := (((h.judgeExempt z).zoneReport z).zoneThrottle z).zoneShutdown z

theorem zoneOfSensor (h : SensingKept d e) (n : Nat) : SensingKept d (e.zoneOfSensor n) := .ite (h.zoneEnd _) h

end SensingKept
end Sys2Proof.Machine
end

section
/-! The sensors in a round: each is judged by the round's readings alone (R320 to R324). -/
namespace Sys2Proof.Machine

variable {d e : Dev} {rs : Vector SensorReading 12} {fs : List Field} {ps : List Part}

/-! ### The fields of sensing -/

theorem sensing_val {x : Field} {n : Nat} (hn : n < 12) (hx : x.addr = R.TS_VAL n := by rfl) : x.sensing = true := by
  simp only [Field.sensing, R.THERM_ROUND, Bool.or_eq_true, Bool.and_eq_true, decide_eq_true_eq, beq_iff_eq]
  simp only [R.TS_VAL] at hx
  omega

theorem sensing_stat {x : Field} {n : Nat} (hn : n < 12) (hx : x.addr = R.TS_STAT n := by rfl) (hbits : x.lo + x.width ≤ 17 := by exact Nat.le_of_ble_eq_true rfl) :
    x.sensing = true := by
  simp only [Field.sensing, R.THERM_ROUND, Bool.or_eq_true, Bool.and_eq_true, decide_eq_true_eq, beq_iff_eq]
  simp only [R.TS_STAT] at hx
  omega

theorem end_offSensors : endFields.all (fun y => decide (y.addr < 0x1C00) || decide (0x1DCC ≤ y.addr)) = true := by decide

theorem f_finish_sensing {x : Field} (h : x.sensing = true) (d : Dev) : (finish d).f x = d.f x := by
  have haddr := Field.sensing_addr h
  refine Dev.f_finish d (List.all_eq_true.2 fun y hy => Field.apart_of_addr ?_)
  have hoff := List.all_eq_true.1 end_offSensors y hy
  simp only [Bool.or_eq_true, decide_eq_true_eq] at hoff
  omega

theorem sensor_finish (d : Dev) : (finish d).sensor = d.sensor := congrArg (·.sensor) (EndSame.finish _).rest

theorem val_ne {j n : Nat} (h : j ≠ n) : R.TS_VAL j ≠ R.TS_VAL n := by simp only [R.TS_VAL]; omega

theorem map_ne_val (j n : Nat) : R.TS_MAP j ≠ R.TS_VAL n := by simp only [R.TS_MAP, R.TS_VAL]; omega

/-! ### One sensor -/

/-- The condition of sensor `n` is counted (R324). -/
def Dev.counted (d : Dev) (rs : Vector SensorReading 12) (n : Nat) : Dev :=
  d.modSensor n fun x => { x with
    cause := causeMet rs n
    rounds := if causeMet rs n == 0 then 0 else if causeMet rs n == x.cause then x.rounds + 1 else 1
    absent := if d.on (F.TS_VAL_BROKEN n) && d.causeGone rs n then x.absent + 1 else 0 }

/-- The level of sensor `n` at `t`: without history that of its band (R323). -/
def Dev.levelFor (d : Dev) (n : Nat) (t : Int) : Nat := if (vget d.sensor n).fresh then d.bandOf n t else d.levelAt n t (d.f (F.TS_VAL_LEVEL n))

/-- Sensor `n` has the usable reading `t`. -/
def Dev.taken (d : Dev) (n : Nat) (t : Int) : Dev :=
  (((d.setI (F.TS_VAL_TEMP n) t).set (F.TS_VAL_VALID n) 1).set (F.TS_VAL_LEVEL n) (d.levelFor n t)).modSensor n fun x => { x with fresh := false }

/-- A reading of sensor `n` is usable. -/
def Dev.usable (d : Dev) (rs : Vector SensorReading 12) (n : Nat) : Bool :=
  !(d.on (F.TS_VAL_BROKEN n) || causeMet rs n == 1 || causeMet rs n == 2 || causeMet rs n == 4)

theorem senseOne_unsensed {n : Nat} (h : d.sensed n = false) : d.senseOne rs n = d.set (F.TS_VAL_VALID n) 0 := if_pos (by simp [h])

theorem senseOne_unusable {n : Nat} (h : d.sensed n = true) (hu : d.usable rs n = false) :
    d.senseOne rs n = (d.counted rs n).set (F.TS_VAL_VALID n) 0 := by
  unfold Dev.senseOne
  rw [if_neg (by simp [h])]
  exact if_pos (by simpa only [Dev.usable, Bool.not_eq_false'] using hu)

theorem senseOne_usable {n : Nat} (h : d.sensed n = true) (hu : d.usable rs n = true) :
    d.senseOne rs n = ((d.counted rs n).reading n (vget rs n)).2.taken n ((d.counted rs n).reading n (vget rs n)).1 := by
  unfold Dev.senseOne
  rw [if_neg (by simp [h])]
  exact if_neg (by simpa [Dev.usable] using hu)

theorem reading_diode {n : Nat} (hn : n < 4) (d : Dev) (r : SensorReading) : d.reading n r = (r.temp, d) := if_pos hn

/-- A reading takes at most a free value. -/
theorem reading_same (d : Dev) (n : Nat) (r : SensorReading) : ((d.reading n r).2.regs = d.regs ∧ (d.reading n r).2.sensor = d.sensor) ∧
    (d.reading n r).2.raised = d.raised := by
  unfold Dev.reading
  split
  · exact ⟨⟨rfl, rfl⟩, rfl⟩
  · split <;> exact ⟨⟨rfl, rfl⟩, rfl⟩

/-! ### What the judging of one sensor changes -/

/-- The fields of a sensor's reading. -/
def readFields (n : Nat) : List Field := [F.TS_VAL_TEMP n, F.TS_VAL_VALID n, F.TS_VAL_LEVEL n]

theorem keeps.modSensor (n : Nat) (g : Sensor → Sensor) (hp : ps.contains .sensor = true) (h : keeps fs ps d e) : keeps fs ps d (e.modSensor n g) :=
  h.putSensor _ hp

theorem keeps.taken {n : Nat} (t : Int) (hfs : readFields n ⊆ fs) (hp : ps.contains .sensor = true) (h : keeps fs ps d e) : keeps fs ps d (e.taken n t) := by
  simp only [readFields, List.cons_subset] at hfs
  obtain ⟨htemp, hvalid, hlevel, -⟩ := hfs
  exact (((h.setI _ htemp).set _ hvalid).set _ hlevel).modSensor _ _ hp

theorem keeps.reading {n : Nat} (r : SensorReading) (hfree : n < 4 ∨ ps.contains .free = true) (h : keeps fs ps d e) :
    keeps fs ps d (e.reading n r).2 := by
  unfold Dev.reading
  split
  · exact h
  next hn =>
    split
    · exact h
    · exact h.putFreeCount _ (hfree.resolve_left hn)

theorem keeps.senseOne {n : Nat} (hfs : readFields n ⊆ fs) (hp : ps.contains .sensor = true) (hfree : n < 4 ∨ e.sensed n = false ∨ ps.contains .free = true)
    (h : keeps fs ps d e) : keeps fs ps d (e.senseOne rs n) := by
  have hvalid : F.TS_VAL_VALID n ∈ fs := hfs (by simp [readFields])
  cases hs : e.sensed n with
  | false =>
    rw [senseOne_unsensed hs]
    exact h.set 0 hvalid
  | true =>
    have hcounted : keeps fs ps d (e.counted rs n) := h.modSensor _ _ hp
    cases hu : e.usable rs n with
    | false =>
      rw [senseOne_unusable hs hu]
      exact hcounted.set 0 hvalid
    | true =>
      rw [senseOne_usable hs hu]
      refine (hcounted.reading _ ?_).taken _ hfs hp
      simpa [hs] using hfree

theorem raised_senseOne (d : Dev) (n : Nat) : (d.senseOne rs n).raised = d.raised := by
  cases hs : d.sensed n with
  | false => rw [senseOne_unsensed hs]; rfl
  | true =>
    cases hu : d.usable rs n with
    | false => rw [senseOne_unusable hs hu]; rfl
    | true =>
      rw [senseOne_usable hs hu]
      exact (reading_same ..).2

theorem sensor_modSensor_same {n : Nat} (hn : n < 12) (d : Dev) (g : Sensor → Sensor) : vget (d.modSensor n g).sensor n = g (vget d.sensor n) :=
  vget_vset_same _ _ hn

theorem sensor_modSensor_ne {j n : Nat} (h : j ≠ n) (d : Dev) (g : Sensor → Sensor) : vget (d.modSensor n g).sensor j = vget d.sensor j := vget_vset_ne _ _ h

theorem sensor_senseOne_ne {j n : Nat} (h : j ≠ n) (d : Dev) : vget (d.senseOne rs n).sensor j = vget d.sensor j := by
  cases hs : d.sensed n with
  | false => rw [senseOne_unsensed hs]; rfl
  | true =>
    have hcounted : vget (d.counted rs n).sensor j = vget d.sensor j := sensor_modSensor_ne h ..
    cases hu : d.usable rs n with
    | false => rw [senseOne_unusable hs hu]; exact hcounted
    | true =>
      obtain ⟨⟨-, hsensor⟩, -⟩ := reading_same (d.counted rs n) n (vget rs n)
      rw [senseOne_usable hs hu]
      exact (sensor_modSensor_ne h ..).trans ((congrArg (vget · j) hsensor :).trans hcounted)

/-- A field of no reading of sensor `n` reads as before. -/
theorem f_senseOne {n : Nat} {x : Field} (h : (readFields n).all (fun y => x.apart y) = true) (d : Dev) : (d.senseOne rs n).f x = d.f x :=
  (keeps.refl.senseOne (List.Subset.refl _) (ps := [.sensor, .free]) rfl (.inr (.inr rfl))).1 x h

theorem apart_read_of_addr {n : Nat} {x : Field} (h : x.addr ≠ R.TS_VAL n) : (readFields n).all (fun y => x.apart y) = true := by
  simp only [readFields, List.all_cons, List.all_nil, Bool.and_true, Bool.and_eq_true]
  exact ⟨Field.apart_of_addr h, Field.apart_of_addr h, Field.apart_of_addr h⟩

theorem broken_apart_read (j n : Nat) : (readFields n).all (fun y => (F.TS_VAL_BROKEN j).apart y) = true := by
  simp only [readFields, List.all_cons, List.all_nil, Bool.and_true, Bool.and_eq_true]
  exact ⟨Field.apart_of_bits (by rfl), Field.apart_of_bits (by rfl), Field.apart_of_bits (by rfl)⟩

/-- Whether a sensor is measured follows from its map and the battery's choice alone. -/
theorem sensed_congr {j : Nat} (h : ∀ x : Field, x.addr = R.TS_MAP j ∨ x.addr = R.CHG_CFG → e.f x = d.f x) : e.sensed j = d.sensed j := by
  simp only [Dev.sensed, Dev.isBattery, Dev.batterySensor, h (F.TS_MAP_ZONE j) (.inl rfl), h (F.TS_MAP_SPARE_FOR j) (.inl rfl),
    h F.CHG_CFG_CHEM (.inr rfl), h F.CHG_CFG_NTC_SEL (.inr rfl)]

theorem sensed_senseOne (d : Dev) (j n : Nat) : (d.senseOne rs n).sensed j = d.sensed j := by
  refine sensed_congr fun x hx => f_senseOne (apart_read_of_addr ?_) d
  simp only [R.TS_MAP, R.TS_VAL, R.CHG_CFG] at hx ⊢
  omega

/-! ### What the judging of one sensor gives -/

/-- Sensor `j` as it was measured in a round, from `d` before it to `e`. -/
structure Measured (rs : Vector SensorReading 12) (d : Dev) (j : Nat) (e : Dev) : Prop where
  count  : d.sensed j = true → (vget e.sensor j).cause = causeMet rs j ∧ ((vget e.sensor j).rounds = 0 ↔ causeMet rs j = 0)
  read   : j < 4 → d.f (F.TS_VAL_BROKEN j) = 0 → causeMet rs j ≠ 4 → e.f (F.TS_VAL_TEMP j) = toTwos 16 (vget rs j).temp ∧ e.f (F.TS_VAL_VALID j) = 1
  silent : d.f (F.TS_VAL_BROKEN j) = 1 ∨ d.sensed j = false → e.f (F.TS_VAL_VALID j) = 0

theorem toTwos_lt (w : Nat) (v : Int) : toTwos w v < 2 ^ w := by
  have hpos : (0 : Int) < (2 ^ w : Nat) := by positivity
  have hmod := Int.emod_lt_of_pos v hpos
  unfold toTwos
  omega

theorem counted_spec {j : Nat} (hj : j < 12) (d : Dev) : (vget (d.counted rs j).sensor j).cause = causeMet rs j ∧
    ((vget (d.counted rs j).sensor j).rounds = 0 ↔ causeMet rs j = 0) := by
  have hcounted := sensor_modSensor_same hj d fun x => { x with
    cause := causeMet rs j
    rounds := if causeMet rs j == 0 then 0 else if causeMet rs j == x.cause then x.rounds + 1 else 1
    absent := if d.on (F.TS_VAL_BROKEN j) && d.causeGone rs j then x.absent + 1 else 0 }
  rw [Dev.counted, hcounted]
  refine ⟨rfl, ?_⟩
  by_cases hzero : causeMet rs j = 0
  · simp [hzero]
  · simp only [beq_eq_false_iff_ne.2 hzero, Bool.false_eq_true, if_false, hzero, iff_false]
    split <;> simp

theorem taken_sensor {j : Nat} (hj : j < 12) (d : Dev) (t : Int) : vget (d.taken j t).sensor j = { vget d.sensor j with fresh := false } :=
  sensor_modSensor_same hj ..

theorem f_setI {x : Field} (h : x.lo + x.width ≤ 32) (d : Dev) (v : Int) : (d.setI x v).f x = toTwos x.width v := Dev.f_set_lt _ _ _ h (toTwos_lt _ v)

theorem f_modSensor (d : Dev) (n : Nat) (g : Sensor → Sensor) (x : Field) : (d.modSensor n g).f x = d.f x := rfl

theorem f_taken (d : Dev) (j : Nat) (t : Int) : (d.taken j t).f (F.TS_VAL_TEMP j) = toTwos 16 t ∧ (d.taken j t).f (F.TS_VAL_VALID j) = 1 := by
  have hvalid (e : Dev) : (e.set (F.TS_VAL_VALID j) 1).f (F.TS_VAL_VALID j) = 1 := Dev.f_set_lt _ _ _ (Nat.le_of_ble_eq_true rfl) (show 1 < 2 by decide)
  constructor
  · rw [Dev.taken, f_modSensor, Dev.f_set_apart _ _ (Field.apart_of_bits (by rfl)), Dev.f_set_apart _ _ (Field.apart_of_bits (by rfl))]
    exact f_setI (Nat.le_of_ble_eq_true rfl) d t
  · rw [Dev.taken, f_modSensor, Dev.f_set_apart _ _ (Field.apart_of_bits (by rfl)), hvalid]

theorem causeMet_diode {j : Nat} (hj : j < 4) : causeMet rs j ≠ 1 ∧ causeMet rs j ≠ 2 := by
  unfold causeMet
  dsimp only
  rw [if_pos hj]
  split
  · decide
  · split <;> decide

theorem f_set_valid (d : Dev) (j : Nat) : (d.set (F.TS_VAL_VALID j) 0).f (F.TS_VAL_VALID j) = 0 :=
  Dev.f_set_lt _ _ _ (Nat.le_of_ble_eq_true rfl) (show 0 < 2 by decide)

theorem measured_senseOne {j : Nat} (hj : j < 12) (d : Dev) : Measured rs d j (d.senseOne rs j) := by
  cases hs : d.sensed j with
  | false =>
    have hdiode : ¬ j < 4 := fun hlt => by simp [Dev.sensed, hlt] at hs
    rw [senseOne_unsensed hs]
    exact ⟨fun h => by simp [hs] at h, fun h => absurd h hdiode, fun _ => f_set_valid d j⟩
  | true =>
    cases hu : d.usable rs j with
    | false =>
      rw [senseOne_unusable hs hu]
      refine ⟨fun _ => ?_, fun hlt hb h4 => ?_, fun _ => f_set_valid _ j⟩
      · rw [Dev.set_sensor]
        exact counted_spec hj d
      · simp [Dev.usable, Dev.on, hb, h4, causeMet_diode hlt] at hu
    | true =>
      rw [senseOne_usable hs hu]
      obtain ⟨⟨-, hsensor⟩, -⟩ := reading_same (d.counted rs j) j (vget rs j)
      refine ⟨fun _ => ?_, fun hlt _ _ => ?_, fun h => ?_⟩
      · rw [taken_sensor hj, hsensor]
        exact counted_spec hj d
      · rw [reading_diode hlt]
        exact f_taken ..
      · rcases h with hb | hs'
        · simp [Dev.usable, Dev.on, hb] at hu
        · simp [hs] at hs'

/-- The judging of another sensor leaves all this as it is. -/
theorem Measured.other {j n : Nat} (h : Measured rs d j e) (hne : j ≠ n) : Measured rs d j (e.senseOne rs n) := by
  have hfield {x : Field} (hx : x.addr = R.TS_VAL j) : (e.senseOne rs n).f x = e.f x := f_senseOne (apart_read_of_addr (by rw [hx]; exact val_ne hne)) e
  refine ⟨fun hs => ?_, fun hj hb h4 => ?_, fun hb => (hfield rfl).trans (h.silent hb)⟩
  · rw [sensor_senseOne_ne hne]
    exact h.count hs
  · rw [hfield rfl, hfield rfl]
    exact h.read hj hb h4

/-- The device with the first `n` sensors judged. -/
def Dev.sensedAll (d : Dev) (rs : Vector SensorReading 12) (n : Nat) : Dev := d.each n fun d k => d.senseOne rs k

theorem sensed_sensedAll (d : Dev) (j n : Nat) : (d.sensedAll rs n).sensed j = d.sensed j := each_const (Dev.sensed · j) (fun e k => sensed_senseOne e j k) n d

theorem broken_sensedAll (d : Dev) (j n : Nat) : (d.sensedAll rs n).f (F.TS_VAL_BROKEN j) = d.f (F.TS_VAL_BROKEN j) :=
  each_const (Dev.f · (F.TS_VAL_BROKEN j)) (fun e k => f_senseOne (broken_apart_read j k) e) n d

theorem measured_sensedAll {n : Nat} (hn : n ≤ 12) (d : Dev) : ∀ j < n, Measured rs d j (d.sensedAll rs n) := by
  induction n with
  | zero => intro j hj; omega
  | succ n ih =>
    intro j hj
    have hstep : d.sensedAll rs (n + 1) = (d.sensedAll rs n).senseOne rs n := each_succ ..
    rw [hstep]
    by_cases hne : j = n
    · subst hne
      obtain ⟨hcount, hread, hsilent⟩ := measured_senseOne (rs := rs) hn (d.sensedAll rs j)
      rw [sensed_sensedAll, broken_sensedAll] at *
      exact ⟨hcount, hread, hsilent⟩
    · exact (ih (by omega) j (by omega)).other hne

end Sys2Proof.Machine
end

section
/-! A round, a broken sensor, one that is valid again, and a stand-in: what each gives whatever its zone does then (R320 to R325, R331). -/
namespace Sys2Proof.Machine

variable {d e : Dev} {rs : Vector SensorReading 12} {s : State}

theorem exec_thermalRound (rs : Vector SensorReading 12) (s : State) : exec (.thermalRound rs) s = done s (thermalRound s.dev rs) := rfl
theorem exec_sensorBroken (n : Fin 12) (s : State) : exec (.sensorBroken n) s = done s (sensorBroken s.dev n) := rfl
theorem exec_sensorClear (n : Fin 12) (s : State) : exec (.sensorClear n) s = done s (sensorClear s.dev n) := rfl
theorem exec_sensorStandin (n : Fin 12) (s : State) : exec (.sensorStandin n) s = done s (sensorStandin s.dev n) := rfl

namespace SensingKept

theorem cause (h : SensingKept d e) (j : Nat) : (vget e.sensor j).cause = (vget d.sensor j).cause := (congrArg Sensor.cause (h.judged j) :)
theorem rounds (h : SensingKept d e) (j : Nat) : (vget e.sensor j).rounds = (vget d.sensor j).rounds := (congrArg Sensor.rounds (h.judged j) :)
theorem fresh (h : SensingKept d e) (j : Nat) : (vget e.sensor j).fresh = (vget d.sensor j).fresh := (congrArg Sensor.fresh (h.judged j) :)

theorem result (h : SensingKept d e) (src : Nat) (v : Int) : SensingKept d (e.result src v) := by
  unfold Dev.result
  extract_lets counted
  have hput : SensingKept d (e.putPrism { e.prism with sum := e.prism.sum + v, count := e.prism.count + 1 }) := h.of_same
  have htelemetry : SensingKept d (e.telemetry v) := (((hput.set _).set _).set _).set _
  have hcounted : SensingKept d counted := .ite htelemetry h
  exact hcounted.foldl _ fun _ _ _ hc => .ite hc.of_same hc

end SensingKept

/-! ### A round (R321) -/

/-- The results of a round reach the telemetry counters and the capture (R366). -/
def Dev.resulted (d : Dev) : Dev := d.each 12 fun d n => if d.sensed n then d.result (0x40 + n) (d.fI (F.TS_VAL_TEMP n)) else d

/-- What follows the measuring in a round, but for its count. -/
def Dev.roundEnd (d : Dev) : Dev := (d.resulted.each 4 Dev.zoneEnd).deviceMax.batteryRound

theorem thermalRound_eq (hrun : d.running = true) : thermalRound d rs = (d.sensedAll rs 12).roundEnd.inc F.THERM_ROUND_ROUNDS := if_neg (by simp [hrun])

theorem sensingKept_roundEnd (d : Dev) : SensingKept d d.roundEnd := by
  have hresulted : SensingKept d d.resulted := SensingKept.refl.foldl _ fun _ _ _ h => .ite (h.result ..) h
  exact (hresulted.foldl _ fun _ z _ h => h.zoneEnd z).deviceMax.batteryRound

theorem rounds_sensedAll (d : Dev) (n : Nat) : (d.sensedAll rs n).f F.THERM_ROUND_ROUNDS = d.f F.THERM_ROUND_ROUNDS :=
  each_const (Dev.f · F.THERM_ROUND_ROUNDS) (fun e k => f_senseOne (apart_read_of_addr (by simp only [F.THERM_ROUND_ROUNDS, R.THERM_ROUND, R.TS_VAL]; omega)) e) n d

theorem Measured.kept {j : Nat} {c : Dev} (h : Measured rs d j e) (hf : ∀ x : Field, x.addr = R.TS_VAL j → c.f x = e.f x)
    (hcause : (vget c.sensor j).cause = (vget e.sensor j).cause) (hrounds : (vget c.sensor j).rounds = (vget e.sensor j).rounds) : Measured rs d j c := by
  refine ⟨fun hs => ?_, fun hlt hb h4 => ?_, fun hb => (hf _ rfl).trans (h.silent hb)⟩
  · rw [hcause, hrounds]
    exact h.count hs
  · rw [hf _ rfl, hf _ rfl]
    exact h.read hlt hb h4

theorem measured_finish_round {j : Nat} (hrun : d.running = true) (hj : j < 12) : Measured rs d j (finish (thermalRound d rs)) := by
  have hend := sensingKept_roundEnd (d.sensedAll rs 12)
  refine (measured_sensedAll (Nat.le_refl 12) d j hj).kept (fun x hx => ?_) ?_ ?_ <;> rw [thermalRound_eq hrun]
  · have hsensing := sensing_val hj hx
    refine (f_finish_sensing hsensing _).trans ((Dev.f_set_ne _ _ ?_).trans (hend.field x hsensing))
    simp only [hx, R.TS_VAL, F.THERM_ROUND_ROUNDS, R.THERM_ROUND]
    omega
  · rw [sensor_finish]
    exact hend.cause j
  · rw [sensor_finish]
    exact hend.rounds j

theorem rounds_finish_round (hrun : d.running = true) :
    (finish (thermalRound d rs)).f F.THERM_ROUND_ROUNDS = (d.f F.THERM_ROUND_ROUNDS + 1) % 2 ^ F.THERM_ROUND_ROUNDS.width := by
  have hend := (sensingKept_roundEnd (d.sensedAll rs 12)).field F.THERM_ROUND_ROUNDS (by decide)
  rw [f_finish_sensing (by decide), thermalRound_eq hrun, Dev.inc, Dev.f_set_same _ _ _ (by decide), hend, rounds_sensedAll]

theorem leads_thermalRound (hrun : s.dev.running = true) : leads (.thermalRound rs) s fun d =>
    d.f F.THERM_ROUND_ROUNDS = (s.dev.f F.THERM_ROUND_ROUNDS + 1) % 2 ^ F.THERM_ROUND_ROUNDS.width ∧
    (∀ j : Fin 12, s.dev.sensed j = true → (vget d.sensor j).cause = causeMet rs j ∧ ((vget d.sensor j).rounds = 0 ↔ causeMet rs j = 0)) ∧
    (∀ j : Fin 4, s.dev.f (F.TS_VAL_BROKEN j) = 0 → causeMet rs j ≠ 4 →
      d.f (F.TS_VAL_TEMP j) = toTwos 16 (vget rs j).temp ∧ d.f (F.TS_VAL_VALID j) = 1) ∧
    (∀ j : Fin 12, s.dev.f (F.TS_VAL_BROKEN j) = 1 ∨ s.dev.sensed j = false → d.f (F.TS_VAL_VALID j) = 0) :=
  ⟨_, exec_thermalRound rs s, rfl, rounds_finish_round hrun, fun j => (measured_finish_round hrun j.isLt).count,
    fun j => (measured_finish_round hrun (Nat.lt_trans j.isLt (by decide))).read j.isLt, fun j => (measured_finish_round hrun j.isLt).silent⟩

/-! ### A broken sensor (R324) -/

/-- The zone of a sensor and THERM_MAX at the end of a command of a sensor. -/
def Dev.rezoned (d : Dev) (n : Nat) : Dev := (d.zoneOfSensor n).deviceMax

theorem sensingKept_rezoned (d : Dev) (n : Nat) : SensingKept d (d.rezoned n) := (SensingKept.refl.zoneOfSensor n).deviceMax

theorem f_finish_rezoned {x : Field} (h : x.sensing = true) (d : Dev) (n : Nat) : (finish (d.rezoned n)).f x = d.f x :=
  (f_finish_sensing h _).trans ((sensingKept_rezoned d n).field x h)

theorem pendingEvent_rezoned {m t : Nat} (hm : m < 192) (h : (m, t) ∈ d.raised) (n : Nat) : (finish (d.rezoned n)).pendingEvent m = true :=
  pendingEvent_finish hm ((sensingKept_rezoned d n).raised _ h)

/-- Sensor `n` is broken by the cause `c`, with its event and its entry of the fault log. -/
def Dev.broke (d : Dev) (n c : Nat) : Dev :=
  ((((((d.set (F.TS_VAL_BROKEN n) 1).set (F.TS_VAL_CAUSE n) c).modSensor n fun y => { y with absent := 0 }).set (F.TS_VAL_VALID n) 0).set
    (F.TS_VAL_LEVEL n) 0).incSat (F.TS_STAT_BREAKS n)).fault 3 21 [R.TS_VAL n, R.TS_STAT n]

/-- A stand-in stops serving sensor `p` (R331). -/
def Dev.unserve (d : Dev) (n p : Nat) : Dev :=
  (((d.set (F.TS_STAT_STANDIN_V n) 0).set (F.TS_STAT_SERVES n) 0).set (F.TS_STAT_SERVED p) 0).raise 3 24

/-- A stand-in that breaks stops serving. -/
def Dev.standinEnds (d : Dev) (n : Nat) : Dev :=
  if d.on (F.TS_STAT_STANDIN_V n) then (d.unserve n (d.f (F.TS_STAT_SERVES n))).zoneOfSensor (d.f (F.TS_STAT_SERVES n)) else d

theorem sensorBroken_eq {n : Nat} (hrun : d.running = true) (hb : d.f (F.TS_VAL_BROKEN n) = 0) (hcause : (vget d.sensor n).cause ≠ 0)
    (hrounds : 2 ≤ (vget d.sensor n).rounds) :
    sensorBroken d n = ((d.broke n (vget d.sensor n).cause).standinEnds n).rezoned n := by
  unfold sensorBroken
  rw [if_neg (by simp [hrun, Dev.on, hb, hcause, Nat.not_lt.2 hrounds])]
  rfl

theorem f_fault (d : Dev) (b n : Nat) (l : List Nat) (x : Field) : (d.fault b n l).f x = d.f x := (Dev.f_logFault ..).trans (Dev.f_raise ..)

theorem raised_fault (halive : d.alive = true) (b n : Nat) (l : List Nat) : (d.fault b n l).raised = d.raised ++ [(b * 32 + n, d.pw.time)] :=
  (Dev.logFault_raised ..).trans (Dev.raise_raised d b n halive)

/-- A flag that has just been written. -/
theorem f_set_flag (d : Dev) (x : Field) {v : Nat} (hv : v < 2) (hw : x.width = 1 := by rfl) (h : x.lo + 1 ≤ 32 := by exact Nat.le_of_ble_eq_true rfl) :
    (d.set x v).f x = v := Dev.f_set_lt d x v (by rw [hw]; exact h) (by rw [hw]; exact hv)

theorem cause_bits : (F.TS_VAL_CAUSE n).lo + (F.TS_VAL_CAUSE n).width ≤ 32 := Nat.le_of_ble_eq_true rfl

theorem raised_broke (halive : d.alive = true) (n c : Nat) : (d.broke n c).raised = d.raised ++ [(3 * 32 + 21, d.pw.time)] :=
  raised_fault (d := (((((d.set (F.TS_VAL_BROKEN n) 1).set (F.TS_VAL_CAUSE n) c).modSensor n _).set (F.TS_VAL_VALID n) 0).set
    (F.TS_VAL_LEVEL n) 0).incSat (F.TS_STAT_BREAKS n)) halive ..

theorem f_broke (d : Dev) (n : Nat) {c : Nat} (hc : c < 16) :
    (d.broke n c).f (F.TS_VAL_BROKEN n) = 1 ∧ (d.broke n c).f (F.TS_VAL_CAUSE n) = c ∧ (d.broke n c).f (F.TS_VAL_VALID n) = 0 := by
  have hstat (x : Field) (hx : x.addr = R.TS_VAL n) : x.addr ≠ (F.TS_STAT_BREAKS n).addr := by
    simp only [hx, F.TS_STAT_BREAKS, R.TS_VAL, R.TS_STAT]
    omega
  simp only [Dev.broke, f_fault, Dev.incSat, Dev.addSat]
  refine ⟨?_, ?_, ?_⟩ <;> rw [Dev.f_set_ne _ _ (hstat _ rfl), Dev.f_set_apart _ _ (Field.apart_of_bits (by rfl))]
  · rw [Dev.f_set_apart _ _ (Field.apart_of_bits (by rfl)), f_modSensor, Dev.f_set_apart _ _ (Field.apart_of_bits (by rfl))]
    exact f_set_flag d _ (by decide)
  · rw [Dev.f_set_apart _ _ (Field.apart_of_bits (by rfl)), f_modSensor]
    exact Dev.f_set_lt _ _ _ cause_bits hc
  · exact f_set_flag _ _ (by decide)

theorem stat_ne_val (n p : Nat) : R.TS_VAL n ≠ R.TS_STAT p := by simp only [R.TS_VAL, R.TS_STAT]; omega

/-- What the end of a stand-in leaves of a broken sensor. -/
theorem f_standinEnds {n : Nat} (hn : n < 12) {x : Field} (hx : x.addr = R.TS_VAL n) (d : Dev) : (d.standinEnds n).f x = d.f x := by
  unfold Dev.standinEnds
  split
  · refine ((SensingKept.refl.zoneOfSensor _).field x (sensing_val hn hx)).trans ?_
    have hne (p : Nat) : x.addr ≠ R.TS_STAT p := by rw [hx]; exact stat_ne_val n p
    rw [Dev.unserve, Dev.f_raise, Dev.f_set_ne _ _ (hne _), Dev.f_set_ne _ _ (hne _), Dev.f_set_ne _ _ (hne _)]
  · rfl

theorem standin_standinEnds {n : Nat} (hn : n < 12) (d : Dev) : (d.standinEnds n).f (F.TS_STAT_STANDIN_V n) = 0 := by
  unfold Dev.standinEnds
  split
  · refine ((SensingKept.refl.zoneOfSensor _).field _ (sensing_stat hn)).trans ?_
    rw [Dev.unserve, Dev.f_raise, Dev.f_set_apart _ _ (Field.apart_of_bits (by rfl)), Dev.f_set_apart _ _ (Field.apart_of_bits (by rfl))]
    exact f_set_flag _ _ (by decide)
  next hoff => simpa [Dev.on] using hoff

theorem raised_standinEnds {p : Nat × Nat} (n : Nat) (h : p ∈ d.raised) : p ∈ (d.standinEnds n).raised := by
  unfold Dev.standinEnds
  split
  · exact (SensingKept.refl.zoneOfSensor _).raised p (mem_raised_raise 3 24 h)
  · exact h

/-- The end of SENSOR_BROKEN on a broken sensor: its value stays, no stand-in of its is left, and its events are delivered. -/
theorem finish_standinEnds {n : Nat} (hn : n < 12) (d : Dev) : (∀ x : Field, x.addr = R.TS_VAL n → (finish ((d.standinEnds n).rezoned n)).f x = d.f x) ∧
    (finish ((d.standinEnds n).rezoned n)).f (F.TS_STAT_STANDIN_V n) = 0 ∧
    ∀ m t, m < 192 → (m, t) ∈ d.raised → (finish ((d.standinEnds n).rezoned n)).pendingEvent m = true :=
  ⟨fun _ hx => (f_finish_rezoned (sensing_val hn hx) ..).trans (f_standinEnds hn hx d),
    (f_finish_rezoned (sensing_stat hn) ..).trans (standin_standinEnds hn d), fun _ _ hm h => pendingEvent_rezoned hm (raised_standinEnds n h) n⟩

/-- What SENSOR_BROKEN gives (R324). -/
theorem finish_broke (halive : d.alive = true) {n c : Nat} (hn : n < 12) (hc : c < 16) :
    let e := finish (((d.broke n c).standinEnds n).rezoned n)
    e.f (F.TS_VAL_BROKEN n) = 1 ∧ e.f (F.TS_VAL_CAUSE n) = c ∧ e.f (F.TS_VAL_VALID n) = 0 ∧ e.f (F.TS_STAT_STANDIN_V n) = 0 ∧
      e.pendingEvent (3 * 32 + 21) = true := by
  obtain ⟨hbroken, hcause, hvalid⟩ := f_broke d n hc
  obtain ⟨hval, hstandin, hevents⟩ := finish_standinEnds hn (d.broke n c)
  refine ⟨(hval _ rfl).trans hbroken, (hval _ rfl).trans hcause, (hval _ rfl).trans hvalid, hstandin, hevents _ d.pw.time (by decide) ?_⟩
  rw [raised_broke halive]
  simp

theorem leads_sensorBroken {n : Fin 12} (hrun : s.dev.running = true) (hb : s.dev.f (F.TS_VAL_BROKEN n) = 0) (hcause : (vget s.dev.sensor n).cause ≠ 0)
    (hlt : (vget s.dev.sensor n).cause < 16) (hrounds : 2 ≤ (vget s.dev.sensor n).rounds) :
    leads (.sensorBroken n) s fun d => d.f (F.TS_VAL_BROKEN n) = 1 ∧ d.f (F.TS_VAL_CAUSE n) = (vget s.dev.sensor n).cause ∧
      d.f (F.TS_VAL_VALID n) = 0 ∧ d.f (F.TS_STAT_STANDIN_V n) = 0 ∧ d.pendingEvent (3 * 32 + 21) = true :=
  leads_of_meaning ((exec_sensorBroken n s).trans (congrArg (done s) (sensorBroken_eq hrun hb hcause hrounds))) (finish_broke (alive_of_running hrun) n.isLt hlt)

/-! ### A sensor that is valid again (R324) -/

/-- Sensor `n` is no longer broken and starts without history. -/
def Dev.mended (d : Dev) (n : Nat) : Dev :=
  ((((d.set (F.TS_VAL_BROKEN n) 0).set (F.TS_VAL_CAUSE n) 0).set (F.TS_STAT_EXEMPT n) 0).raise 3 22).modSensor n fun y => { y with absent := 0, fresh := true }

theorem sensorClear_eq {n : Nat} (hrun : d.running = true) (hb : d.f (F.TS_VAL_BROKEN n) = 1) (hserved : d.f (F.TS_STAT_SERVED n) = 0)
    (habsent : 1000 ≤ (vget d.sensor n).absent) : sensorClear d n = (d.mended n).rezoned n := by
  unfold sensorClear
  rw [if_neg (by simp [hrun, Dev.on, hb, hserved, Nat.not_lt.2 habsent])]
  simp only [Dev.rezoned, Dev.mended]

theorem raised_mended (halive : d.alive = true) (n : Nat) : (d.mended n).raised = d.raised ++ [(3 * 32 + 22, d.pw.time)] :=
  Dev.raise_raised (((d.set (F.TS_VAL_BROKEN n) 0).set (F.TS_VAL_CAUSE n) 0).set (F.TS_STAT_EXEMPT n) 0) 3 22 halive

theorem f_mended (d : Dev) (n : Nat) : (d.mended n).f (F.TS_VAL_BROKEN n) = 0 ∧ (d.mended n).f (F.TS_VAL_CAUSE n) = 0 := by
  simp only [Dev.mended, f_modSensor, Dev.f_raise]
  refine ⟨?_, ?_⟩ <;> rw [Dev.f_set_ne _ _ (stat_ne_val n n)]
  · rw [Dev.f_set_apart _ _ (Field.apart_of_bits (by rfl))]
    exact f_set_flag d _ (by decide)
  · exact Dev.f_set_lt _ _ _ cause_bits (show 0 < 16 by decide)

theorem fresh_mended {n : Nat} (hn : n < 12) (d : Dev) : (vget (d.mended n).sensor n).fresh = true := by
  rw [Dev.mended, sensor_modSensor_same hn]

/-- What SENSOR_CLEAR gives (R324). -/
theorem finish_mended (halive : d.alive = true) {n : Nat} (hn : n < 12) :
    let e := finish ((d.mended n).rezoned n)
    e.f (F.TS_VAL_BROKEN n) = 0 ∧ e.f (F.TS_VAL_CAUSE n) = 0 ∧ (vget e.sensor n).fresh = true ∧ e.pendingEvent (3 * 32 + 22) = true := by
  obtain ⟨hbroken, hcause⟩ := f_mended d n
  refine ⟨(f_finish_rezoned (sensing_val hn) ..).trans hbroken, (f_finish_rezoned (sensing_val hn) ..).trans hcause, ?_,
    pendingEvent_rezoned (t := d.pw.time) (by decide) ?_ n⟩
  · rw [sensor_finish, (sensingKept_rezoned _ n).fresh]
    exact fresh_mended hn d
  · rw [raised_mended halive]
    simp

theorem leads_sensorClear {n : Fin 12} (hrun : s.dev.running = true) (hb : s.dev.f (F.TS_VAL_BROKEN n) = 1) (hserved : s.dev.f (F.TS_STAT_SERVED n) = 0)
    (habsent : 1000 ≤ (vget s.dev.sensor n).absent) :
    leads (.sensorClear n) s fun d => d.f (F.TS_VAL_BROKEN n) = 0 ∧ d.f (F.TS_VAL_CAUSE n) = 0 ∧ (vget d.sensor n).fresh = true ∧
      d.pendingEvent (3 * 32 + 22) = true :=
  leads_of_meaning ((exec_sensorClear n s).trans (congrArg (done s) (sensorClear_eq hrun hb hserved habsent))) (finish_mended (alive_of_running hrun) n.isLt)

/-! ### A stand-in (R331) -/

/-- Sensor `k` serves sensor `n`. -/
def Dev.served (d : Dev) (n k : Nat) : Dev := ((d.set (F.TS_STAT_STANDIN_V k) 1).set (F.TS_STAT_SERVES k) n).set (F.TS_STAT_SERVED n) 1

/-- The spare `k` stands in for sensor `n`, without history. -/
def Dev.standsIn (d : Dev) (n k : Nat) : Dev :=
  ((d.served n k).set (F.TS_VAL_LEVEL k) ((d.served n k).bandOf k ((d.served n k).fI (F.TS_VAL_TEMP k)))).fault 3 23 [R.TS_STAT k, R.TS_VAL n]

theorem sensorStandin_eq {n k : Nat} (hrun : d.running = true) (hb : d.f (F.TS_VAL_BROKEN n) = 1) (hserved : d.f (F.TS_STAT_SERVED n) = 0)
    (hspare : d.f (F.TS_MAP_SPARE_FOR n) = 0xFF) (hk : d.spareOf n = some k) : sensorStandin d n = (d.standsIn n k).rezoned n := by
  unfold sensorStandin
  rw [if_neg (by simp [hrun, Dev.on, hb, hserved, hspare]), hk]
  rfl

theorem raised_standsIn (halive : d.alive = true) (n k : Nat) : (d.standsIn n k).raised = d.raised ++ [(3 * 32 + 23, d.pw.time)] :=
  raised_fault (d := (d.served n k).set (F.TS_VAL_LEVEL k) _) halive ..

theorem f_standsIn (d : Dev) {n : Nat} (hn : n < 12) (k : Nat) : (d.standsIn n k).f (F.TS_STAT_STANDIN_V k) = 1 ∧
    (d.standsIn n k).f (F.TS_STAT_SERVES k) = n ∧ (d.standsIn n k).f (F.TS_STAT_SERVED n) = 1 := by
  simp only [Dev.standsIn, f_fault]
  refine ⟨?_, ?_, ?_⟩ <;> rw [Dev.f_set_ne _ _ (stat_ne_val k _).symm, Dev.served]
  · rw [Dev.f_set_apart _ _ (Field.apart_of_bits (by rfl)), Dev.f_set_apart _ _ (Field.apart_of_bits (by rfl))]
    exact f_set_flag d _ (by decide)
  · rw [Dev.f_set_apart _ _ (Field.apart_of_bits (by rfl))]
    exact Dev.f_set_lt _ _ _ (Nat.le_of_ble_eq_true rfl) (show n < 16 by omega)
  · exact f_set_flag _ _ (by decide)

/-- What SENSOR_STANDIN gives (R331). -/
theorem finish_standsIn (halive : d.alive = true) {n k : Nat} (hn : n < 12) (hk : k < 12) :
    let e := finish ((d.standsIn n k).rezoned n)
    e.f (F.TS_STAT_STANDIN_V k) = 1 ∧ e.f (F.TS_STAT_SERVES k) = n ∧ e.f (F.TS_STAT_SERVED n) = 1 ∧ e.pendingEvent (3 * 32 + 23) = true := by
  obtain ⟨hstandin, hserves, hserved⟩ := f_standsIn d hn k
  refine ⟨(f_finish_rezoned (sensing_stat hk) ..).trans hstandin, (f_finish_rezoned (sensing_stat hk) ..).trans hserves,
    (f_finish_rezoned (sensing_stat hn) ..).trans hserved, pendingEvent_rezoned (t := d.pw.time) (by decide) ?_ n⟩
  rw [raised_standsIn halive]
  simp

theorem leads_sensorStandin {n k : Fin 12} (hrun : s.dev.running = true) (hb : s.dev.f (F.TS_VAL_BROKEN n) = 1)
    (hserved : s.dev.f (F.TS_STAT_SERVED n) = 0) (hspare : s.dev.f (F.TS_MAP_SPARE_FOR n) = 0xFF) (hk : s.dev.spareOf n = some k.val) :
    leads (.sensorStandin n) s fun d => d.f (F.TS_STAT_STANDIN_V k) = 1 ∧ d.f (F.TS_STAT_SERVES k) = n ∧ d.f (F.TS_STAT_SERVED n) = 1 ∧
      d.pendingEvent (3 * 32 + 23) = true :=
  leads_of_meaning ((exec_sensorStandin n s).trans (congrArg (done s) (sensorStandin_eq hrun hb hserved hspare hk)))
    (finish_standsIn (alive_of_running hrun) n.isLt k.isLt)

end Sys2Proof.Machine
end

section
/-! Sensors outside the zones: what a broken sensor, one that is valid again and a stand-in change then (R324, R325, R331). -/
namespace Sys2Proof.Machine

variable {d e : Dev} {s : State} {fs : List Field} {ps : List Part}

/-! ### No zone has a member -/

/-- Every stand-in serves one of the twelve sensors. -/
def Dev.servesSensors (d : Dev) : Prop := ∀ j : Fin 12, d.f (F.TS_STAT_STANDIN_V j) = 1 → d.f (F.TS_STAT_SERVES j) < 12

theorem servesSensors_of_none (h : ∀ j : Fin 12, d.f (F.TS_STAT_STANDIN_V j) = 0) : d.servesSensors := fun j hj => by
  rw [h j] at hj
  exact absurd hj (by decide)

theorem primary_unzoned (hzone : ∀ j : Fin 12, 4 ≤ d.f (F.TS_MAP_ZONE j)) {z n : Nat} (hz : z < 4) (hn : n < 12) : d.primary z n = false := by
  have hfar : 4 ≤ d.f (F.TS_MAP_ZONE n) := hzone ⟨n, hn⟩
  have hne : d.f (F.TS_MAP_ZONE n) ≠ z := by omega
  simp [Dev.primary, hne]

theorem primaries_unzoned (hzone : ∀ j : Fin 12, 4 ≤ d.f (F.TS_MAP_ZONE j)) {z : Nat} (hz : z < 4) : d.primaries z = [] :=
  List.filter_eq_nil_iff.2 fun n hn => by rw [primary_unzoned hzone hz (List.mem_range.1 hn)]; decide

theorem unserved_unzoned (hzone : ∀ j : Fin 12, 4 ≤ d.f (F.TS_MAP_ZONE j)) {z : Nat} (hz : z < 4) : d.unserved z = [] := by
  rw [Dev.unserved, primaries_unzoned hzone hz, List.filter_nil]

theorem flag_of_on {x : Field} (h : d.on x = true) (hw : x.width = 1 := by rfl) : d.f x = 1 := by
  have hlt := Dev.f_lt d x
  rw [hw] at hlt
  have hne : d.f x ≠ 0 := by simpa [Dev.on] using h
  omega

theorem members_unzoned (hzone : ∀ j : Fin 12, 4 ≤ d.f (F.TS_MAP_ZONE j)) (hserves : d.servesSensors) {z : Nat} (hz : z < 4) : d.members z = [] := by
  refine List.filter_eq_nil_iff.2 fun n hn => ?_
  have hlt := List.mem_range.1 hn
  rw [primary_unzoned hzone hz hlt]
  simp only [Bool.false_and, Bool.false_or, Bool.and_eq_true, not_and]
  intro hstandin
  rw [primary_unzoned hzone hz (hserves ⟨n, hlt⟩ (flag_of_on hstandin))]
  decide

theorem hottest_none {ns : List Nat} (h : ∀ n ∈ ns, d.f (F.TS_VAL_VALID n) = 0) : d.hottest ns = ((0x7FFF, 0xF), d) := by
  have hnone : ns.filter (fun n => d.on (F.TS_VAL_VALID n)) = [] := List.filter_eq_nil_iff.2 fun n hn => by simp [Dev.on, h n hn]
  unfold Dev.hottest
  simp only [hnone]

/-- THERM_MAX with no sensor to report. -/
def Dev.maxNone (d : Dev) : Dev := (d.set F.THERM_MAX_TEMP 0x7FFF).set F.THERM_MAX_TS 0xF

/-- The sensors that THERM_MAX is over (R325). -/
def Dev.reported (d : Dev) : List Nat := (List.range 12).filter fun n => d.isBattery n || (List.range 4).any fun z => (d.members z).contains n

theorem deviceMax_eq (d : Dev) :
    d.deviceMax = ((d.hottest d.reported).2.set F.THERM_MAX_TEMP (d.hottest d.reported).1.1).set F.THERM_MAX_TS (d.hottest d.reported).1.2 := rfl

theorem deviceMax_unzoned (hzone : ∀ j : Fin 12, 4 ≤ d.f (F.TS_MAP_ZONE j)) (hserves : d.servesSensors)
    (hbattery : d.f F.CHG_CFG_CHEM ≠ 0 → d.f (F.TS_VAL_VALID d.batterySensor) = 0) : d.deviceMax = d.maxNone := by
  rw [deviceMax_eq, hottest_none fun n hn => ?_]
  · rfl
  have hwhy := (List.mem_filter.1 hn).2
  have hmembers : ((List.range 4).any fun z => (d.members z).contains n) = false :=
    List.any_eq_false.2 fun z hz => by simp [members_unzoned hzone hserves (List.mem_range.1 hz)]
  rw [hmembers, Bool.or_false] at hwhy
  obtain ⟨hchem, rfl⟩ : d.f F.CHG_CFG_CHEM ≠ 0 ∧ n = d.batterySensor := by simpa [Dev.isBattery] using hwhy
  exact hbattery hchem

theorem rezoned_unzoned (h : d.noZones) (hserves : d.servesSensors) {n : Nat} (hn : n < 12) : d.rezoned n = d.maxNone := by
  have hout : ¬ d.f (F.TS_MAP_ZONE n) < 4 := Nat.not_lt.2 (h.1 ⟨n, hn⟩)
  have hsame : d.zoneOfSensor n = d := if_neg hout
  rw [Dev.rezoned, hsame, deviceMax_unzoned h.1 hserves fun _ => h.2]

theorem keeps.maxNone (htemp : F.THERM_MAX_TEMP ∈ fs) (hts : F.THERM_MAX_TS ∈ fs) (h : keeps fs ps d e) : keeps fs ps d e.maxNone :=
  (h.set _ htemp).set _ hts

/-- A field of the maps of the sensors or of CHG_CFG. -/
def Field.isMap (x : Field) : Prop := (∃ j < 12, x.addr = R.TS_MAP j) ∨ x.addr = R.CHG_CFG

theorem noZones_of_maps (h : d.noZones) (hmap : ∀ x : Field, x.isMap → e.f x = d.f x)
    (hvalid : d.f (F.TS_VAL_VALID d.batterySensor) = 0 → e.f (F.TS_VAL_VALID d.batterySensor) = 0) : e.noZones := by
  have hsel : e.batterySensor = d.batterySensor := congrArg (4 + ·) (hmap F.CHG_CFG_NTC_SEL (.inr rfl))
  refine ⟨fun k => ?_, ?_⟩
  · rw [hmap _ (.inl ⟨k, k.isLt, rfl⟩)]
    exact h.1 k
  · rw [hsel]
    exact hvalid h.2

/-- A map stands apart from every field of TSn_VAL, of TSn_STAT and of THERM_MAX. -/
theorem map_apart {x y : Field} (hx : x.isMap) (hy : (∃ n, y.addr = R.TS_VAL n ∨ y.addr = R.TS_STAT n) ∨ y.addr = R.THERM_MAX) :
    x.apart y = true := by
  refine Field.apart_of_addr ?_
  rcases hx with ⟨j, hj, hx⟩ | hx <;> rcases hy with ⟨n, hy | hy⟩ | hy <;> rw [hx, hy] <;>
    simp only [R.TS_MAP, R.CHG_CFG, R.TS_VAL, R.TS_STAT, R.THERM_MAX] <;> omega


/-! ### A broken sensor (R324) -/

/-- The fields of a sensor that breaks. -/
def brokenFields (n : Nat) : List Field :=
  [F.TS_VAL_BROKEN n, F.TS_VAL_CAUSE n, F.TS_VAL_VALID n, F.TS_VAL_LEVEL n, F.TS_STAT_BREAKS n, F.THERM_MAX_TEMP, F.THERM_MAX_TS]

theorem map_apart_broken {x : Field} (hx : x.isMap) (n : Nat) : (brokenFields n).all (fun y => x.apart y) = true := by
  simp only [brokenFields, List.all_cons, List.all_nil, Bool.and_true, Bool.and_eq_true]
  have hval (y : Field) (hy : y.addr = R.TS_VAL n) := map_apart hx (.inl ⟨n, .inl hy⟩)
  exact ⟨hval _ rfl, hval _ rfl, hval _ rfl, hval _ rfl, map_apart hx (.inl ⟨n, .inr rfl⟩), map_apart hx (.inr rfl), map_apart hx (.inr rfl)⟩

theorem standin_apart_broken : ∀ n j : Fin 12, (brokenFields n).all (fun y => (F.TS_STAT_STANDIN_V j).apart y) = true := by decide

theorem keeps_broke (d : Dev) (n c : Nat) : keeps (brokenFields n) [.sensor, .faults] d (d.broke n c) := by
  have hvalues : keeps (brokenFields n) [.sensor, .faults] d ((d.set (F.TS_VAL_BROKEN n) 1).set (F.TS_VAL_CAUSE n) c) :=
    (keeps.refl.set _ (by simp [brokenFields])).set _ (by simp [brokenFields])
  exact ((((hvalues.modSensor n _ rfl).set _ (by simp [brokenFields])).set _ (by simp [brokenFields])).incSat (by simp [brokenFields])).fault 3 21 _ rfl

theorem valid_broke {n m c : Nat} (hc : c < 16) (h : d.f (F.TS_VAL_VALID m) = 0) : (d.broke n c).f (F.TS_VAL_VALID m) = 0 := by
  by_cases hm : m = n
  · subst hm
    exact (f_broke d m hc).2.2
  · refine ((keeps_broke d n c).1 _ ?_).trans h
    simp only [brokenFields, List.all_cons, List.all_nil, Bool.and_true, Bool.and_eq_true]
    have hval (y : Field) (hy : y.addr = R.TS_VAL n) : (F.TS_VAL_VALID m).apart y = true := Field.apart_of_addr (by rw [hy]; exact val_ne hm)
    have hmax (y : Field) (hy : y.addr = R.THERM_MAX) : (F.TS_VAL_VALID m).apart y = true :=
      Field.apart_of_addr (by rw [hy]; simp only [F.TS_VAL_VALID, R.TS_VAL, R.THERM_MAX]; omega)
    exact ⟨hval _ rfl, hval _ rfl, hval _ rfl, hval _ rfl, Field.apart_of_addr (stat_ne_val m n), hmax _ rfl, hmax _ rfl⟩

theorem effect_sensorBroken {n : Fin 12} (hrun : s.dev.running = true) (hz : s.dev.noZones) (hb : s.dev.f (F.TS_VAL_BROKEN n) = 0)
    (hcause : (vget s.dev.sensor n).cause ≠ 0) (hlt : (vget s.dev.sensor n).cause < 16) (hrounds : 2 ≤ (vget s.dev.sensor n).rounds)
    (hnone : ∀ j : Fin 12, s.dev.f (F.TS_STAT_STANDIN_V j) = 0) :
    effect (.sensorBroken n) s (brokenFields n) [.sensor, .faults] [3 * 32 + 21] fun d =>
      d.f (F.TS_VAL_BROKEN n) = 1 ∧ d.f (F.TS_VAL_CAUSE n) = (vget s.dev.sensor n).cause ∧ d.f (F.TS_VAL_VALID n) = 0 := by
  have hkeeps := keeps_broke s.dev n (vget s.dev.sensor n).cause
  have hstandin (j : Fin 12) : (s.dev.broke n (vget s.dev.sensor n).cause).f (F.TS_STAT_STANDIN_V j) = 0 :=
    (hkeeps.1 _ (standin_apart_broken n j)).trans (hnone j)
  have hends : (s.dev.broke n (vget s.dev.sensor n).cause).standinEnds n = s.dev.broke n (vget s.dev.sensor n).cause :=
    if_neg (by simp [Dev.on, hstandin n])
  have hzones := noZones_of_maps hz (fun x hx => hkeeps.1 x (map_apart_broken hx n)) (valid_broke hlt)
  have hsame := rezoned_unzoned hzones (servesSensors_of_none hstandin) n.isLt
  obtain ⟨hbroken, hcausing, hvalid, -⟩ := finish_broke (d := s.dev) (alive_of_running hrun) n.isLt hlt
  rw [hends] at hbroken hcausing hvalid
  refine ⟨_, (exec_sensorBroken n s).trans (congrArg (done s) ((sensorBroken_eq hrun hb hcause hrounds).trans (congrArg (Dev.rezoned · n) hends))), ?_, ?_,
    hbroken, hcausing, hvalid⟩
  · rw [hsame]
    exact hkeeps.maxNone (by simp [brokenFields]) (by simp [brokenFields])
  · rw [hsame]
    exact raised_broke (alive_of_running hrun) ..

/-! ### A sensor that is valid again (R324) -/

/-- The fields of a sensor that is valid again. -/
def mendedFields (n : Nat) : List Field := [F.TS_VAL_BROKEN n, F.TS_VAL_CAUSE n, F.TS_STAT_EXEMPT n, F.THERM_MAX_TEMP, F.THERM_MAX_TS]

theorem map_apart_mended {x : Field} (hx : x.isMap) (n : Nat) : (mendedFields n).all (fun y => x.apart y) = true := by
  simp only [mendedFields, List.all_cons, List.all_nil, Bool.and_true, Bool.and_eq_true]
  exact ⟨map_apart hx (.inl ⟨n, .inl rfl⟩), map_apart hx (.inl ⟨n, .inl rfl⟩), map_apart hx (.inl ⟨n, .inr rfl⟩), map_apart hx (.inr rfl),
    map_apart hx (.inr rfl)⟩

theorem standin_apart_mended : ∀ n j : Fin 12, (mendedFields n).all (fun y => (F.TS_STAT_STANDIN_V j).apart y) = true := by decide

theorem valid_apart_mended (m n : Nat) : (mendedFields n).all (fun y => (F.TS_VAL_VALID m).apart y) = true := by
  simp only [mendedFields, List.all_cons, List.all_nil, Bool.and_true, Bool.and_eq_true]
  have hmax (y : Field) (hy : y.addr = R.THERM_MAX) : (F.TS_VAL_VALID m).apart y = true :=
    Field.apart_of_addr (by rw [hy]; simp only [F.TS_VAL_VALID, R.TS_VAL, R.THERM_MAX]; omega)
  exact ⟨Field.apart_of_bits (by rfl), Field.apart_of_bits (by rfl), Field.apart_of_addr (stat_ne_val m n), hmax _ rfl, hmax _ rfl⟩

theorem keeps_mended (d : Dev) (n : Nat) : keeps (mendedFields n) [.sensor] d (d.mended n) :=
  ((((keeps.refl.set _ (by simp [mendedFields])).set _ (by simp [mendedFields])).set _ (by simp [mendedFields])).raise 3 22).modSensor n _ rfl

theorem effect_sensorClear {n : Fin 12} (hrun : s.dev.running = true) (hz : s.dev.noZones) (hb : s.dev.f (F.TS_VAL_BROKEN n) = 1)
    (hserved : s.dev.f (F.TS_STAT_SERVED n) = 0) (habsent : 1000 ≤ (vget s.dev.sensor n).absent)
    (hnone : ∀ j : Fin 12, s.dev.f (F.TS_STAT_STANDIN_V j) = 0) :
    effect (.sensorClear n) s (mendedFields n) [.sensor] [3 * 32 + 22] fun d =>
      d.f (F.TS_VAL_BROKEN n) = 0 ∧ d.f (F.TS_VAL_CAUSE n) = 0 ∧ (vget d.sensor n).fresh = true := by
  have hkeeps := keeps_mended s.dev n
  have hzones : (s.dev.mended n).noZones :=
    noZones_of_maps hz (fun x hx => hkeeps.1 x (map_apart_mended hx n)) ((hkeeps.1 _ (valid_apart_mended _ n)).trans ·)
  have hsame := rezoned_unzoned hzones (servesSensors_of_none fun j => (hkeeps.1 _ (standin_apart_mended n j)).trans (hnone j)) n.isLt
  obtain ⟨hbroken, hcause, hfresh, -⟩ := finish_mended (d := s.dev) (alive_of_running hrun) n.isLt
  refine ⟨_, (exec_sensorClear n s).trans (congrArg (done s) (sensorClear_eq hrun hb hserved habsent)), ?_, ?_, hbroken, hcause, hfresh⟩
  · rw [hsame]
    exact hkeeps.maxNone (by simp [mendedFields]) (by simp [mendedFields])
  · rw [hsame]
    exact raised_mended (alive_of_running hrun) n

/-! ### A stand-in (R331) -/

/-- The fields of the spare `k` that stands in for sensor `n`. -/
def standinFields (n k : Nat) : List Field :=
  [F.TS_STAT_STANDIN_V k, F.TS_STAT_SERVES k, F.TS_STAT_SERVED n, F.TS_VAL_LEVEL k, F.THERM_MAX_TEMP, F.THERM_MAX_TS]

theorem map_apart_standin {x : Field} (hx : x.isMap) (n k : Nat) : (standinFields n k).all (fun y => x.apart y) = true := by
  simp only [standinFields, List.all_cons, List.all_nil, Bool.and_true, Bool.and_eq_true]
  have hstat (y : Field) (m : Nat) (hy : y.addr = R.TS_STAT m) := map_apart hx (.inl ⟨m, .inr hy⟩)
  exact ⟨hstat _ k rfl, hstat _ k rfl, hstat _ n rfl, map_apart hx (.inl ⟨k, .inl rfl⟩), map_apart hx (.inr rfl), map_apart hx (.inr rfl)⟩

theorem standin_apart_standin {j k : Nat} (h : j ≠ k) (n : Nat) :
    (standinFields n k).all (fun y => (F.TS_STAT_STANDIN_V j).apart y) = true := by
  simp only [standinFields, List.all_cons, List.all_nil, Bool.and_true, Bool.and_eq_true]
  have hother (y : Field) (hy : y.addr = R.TS_STAT k ∨ y.addr = R.TS_VAL k ∨ y.addr = R.THERM_MAX) : (F.TS_STAT_STANDIN_V j).apart y = true :=
    Field.apart_of_addr (by simp only [F.TS_STAT_STANDIN_V, R.TS_STAT, R.TS_VAL, R.THERM_MAX] at hy ⊢; omega)
  exact ⟨hother _ (.inl rfl), hother _ (.inl rfl), Field.apart_of_bits (by rfl), hother _ (.inr (.inl rfl)), hother _ (.inr (.inr rfl)),
    hother _ (.inr (.inr rfl))⟩

theorem valid_apart_standin (m n k : Nat) : (standinFields n k).all (fun y => (F.TS_VAL_VALID m).apart y) = true := by
  simp only [standinFields, List.all_cons, List.all_nil, Bool.and_true, Bool.and_eq_true]
  have hmax (y : Field) (hy : y.addr = R.THERM_MAX) : (F.TS_VAL_VALID m).apart y = true :=
    Field.apart_of_addr (by rw [hy]; simp only [F.TS_VAL_VALID, R.TS_VAL, R.THERM_MAX]; omega)
  exact ⟨Field.apart_of_addr (stat_ne_val m k), Field.apart_of_addr (stat_ne_val m k), Field.apart_of_addr (stat_ne_val m n),
    Field.apart_of_bits (by rfl), hmax _ rfl, hmax _ rfl⟩

theorem keeps_standsIn (d : Dev) (n k : Nat) : keeps (standinFields n k) [.faults] d (d.standsIn n k) := by
  have hserved : keeps (standinFields n k) [.faults] d (d.served n k) :=
    ((keeps.refl.set _ (by simp [standinFields])).set _ (by simp [standinFields])).set _ (by simp [standinFields])
  exact (hserved.set _ (by simp [standinFields])).fault 3 23 _ rfl

theorem servesSensors_standsIn {n : Nat} (hn : n < 12) (k : Nat) (hnone : ∀ j : Fin 12, d.f (F.TS_STAT_STANDIN_V j) = 0) : (d.standsIn n k).servesSensors := by
  intro j hj
  obtain ⟨-, hserves, -⟩ := f_standsIn d hn k
  by_cases hk : (j : Nat) = k
  · rw [hk, hserves]
    exact hn
  · rw [(keeps_standsIn d n k).1 _ (standin_apart_standin hk n), hnone j] at hj
    exact absurd hj (by decide)

theorem effect_sensorStandin {n k : Fin 12} (hrun : s.dev.running = true) (hz : s.dev.noZones) (hb : s.dev.f (F.TS_VAL_BROKEN n) = 1)
    (hserved : s.dev.f (F.TS_STAT_SERVED n) = 0) (hspare : s.dev.f (F.TS_MAP_SPARE_FOR n) = 0xFF) (hk : s.dev.spareOf n = some k.val)
    (hnone : ∀ j : Fin 12, s.dev.f (F.TS_STAT_STANDIN_V j) = 0) :
    effect (.sensorStandin n) s (standinFields n k) [.faults] [3 * 32 + 23] fun d =>
      d.f (F.TS_STAT_STANDIN_V k) = 1 ∧ d.f (F.TS_STAT_SERVES k) = n ∧ d.f (F.TS_STAT_SERVED n) = 1 := by
  have hkeeps := keeps_standsIn s.dev n k
  have hzones : (s.dev.standsIn n k).noZones :=
    noZones_of_maps hz (fun x hx => hkeeps.1 x (map_apart_standin hx n k)) ((hkeeps.1 _ (valid_apart_standin _ n k)).trans ·)
  have hsame := rezoned_unzoned hzones (servesSensors_standsIn n.isLt k hnone) n.isLt
  obtain ⟨hstandin, hserves, hserving, -⟩ := finish_standsIn (d := s.dev) (alive_of_running hrun) n.isLt k.isLt
  refine ⟨_, (exec_sensorStandin n s).trans (congrArg (done s) (sensorStandin_eq hrun hb hserved hspare hk)), ?_, ?_, hstandin, hserves, hserving⟩
  · rw [hsame]
    exact hkeeps.maxNone (by simp [standinFields]) (by simp [standinFields])
  · rw [hsame]
    exact raised_standsIn (alive_of_running hrun) n k

end Sys2Proof.Machine
end

section
/-! A round in which only the diodes read, outside the zones: what it changes (R321 to R327). -/
namespace Sys2Proof.Machine

variable {d e : Dev} {rs : Vector SensorReading 12} {s : State} {z : Nat}

/-- The fields that a zone's report and demand change. -/
def reportFields (z : Nat) : List Field :=
  [F.ZONE_STAT_MAX z, F.ZONE_STAT_MAX_TS z, F.ZONE_STAT_LEVEL z, F.ZONE_STAT_BROKEN_HOLD z, F.ZONE_STAT_DEMAND z]

/-- The fields of a round without members of a zone. -/
def roundFields : List Field :=
  (List.range 12).flatMap readFields ++ (List.range 4).flatMap reportFields ++ [F.THERM_MAX_TEMP, F.THERM_MAX_TS, F.THERM_ROUND_ROUNDS]

/-- No zone has a member or a shutdown, every step is at 16, no spare stands in, the unit has no battery, and neither the telemetry counters nor the
capture takes a result of a sensor. -/
structure RoundIdle (d : Dev) : Prop where
  zone     : ∀ j : Fin 12, 4 ≤ d.f (F.TS_MAP_ZONE j)
  standin  : ∀ j : Fin 12, d.f (F.TS_STAT_STANDIN_V j) = 0
  chem     : d.f F.CHG_CFG_CHEM = 0
  source   : d.f F.PRISM_TSEL_SOURCE < 0x40
  channels : d.f F.CAP_CFG_CHANNELS = 0
  step     : ∀ z : Fin 4, d.f (F.ZONE_STAT_STEP z) = 16
  floor    : ∀ z : Fin 4, d.f (F.ZONE_CFG_FLOOR z) ≤ 16
  shut     : ∀ z : Fin 4, d.f (F.ZONE_STAT_SHUT z) = 0

theorem idle_apart_round : (∀ j : Fin 12, roundFields.all (fun y => (F.TS_MAP_ZONE j).apart y) = true) ∧
    (∀ j : Fin 12, roundFields.all (fun y => (F.TS_STAT_STANDIN_V j).apart y) = true) ∧
    (∀ x ∈ [F.CHG_CFG_CHEM, F.PRISM_TSEL_SOURCE, F.CAP_CFG_CHANNELS], roundFields.all (fun y => x.apart y) = true) ∧
    ∀ z : Fin 4, ∀ x ∈ [F.ZONE_STAT_STEP z, F.ZONE_CFG_FLOOR z, F.ZONE_STAT_SHUT z], roundFields.all (fun y => x.apart y) = true := by decide

/-- What a round reads of all this none of its own changes touches. -/
theorem RoundIdle.kept {ps : List Part} (h : RoundIdle d) (g : keeps roundFields ps d e) : RoundIdle e := by
  obtain ⟨hmap, hstandin, hfixed, hzones⟩ := idle_apart_round
  simp only [List.forall_mem_cons] at hfixed hzones
  obtain ⟨hchem, hsource, hchannels, -⟩ := hfixed
  refine ⟨fun j => ?_, fun j => (g.1 _ (hstandin j)).trans (h.standin j), (g.1 _ hchem).trans h.chem, ?_, (g.1 _ hchannels).trans h.channels,
    fun z => (g.1 _ (hzones z).1).trans (h.step z), fun z => ?_, fun z => (g.1 _ (hzones z).2.2.1).trans (h.shut z)⟩
  · rw [g.1 _ (hmap j)]
    exact h.zone j
  · rw [g.1 _ hsource]
    exact h.source
  · rw [g.1 _ (hzones z).2.1]
    exact h.floor z

theorem isBattery_none (h : d.f F.CHG_CFG_CHEM = 0) (n : Nat) : d.isBattery n = false := by simp [Dev.isBattery, h]

/-! ### A zone without members -/

/-- The report and the demand of a zone without members: UP at once. -/
def Dev.zoneNone (d : Dev) (z : Nat) : Dev :=
  ((((d.set (F.ZONE_STAT_MAX z) 0x7FFF).set (F.ZONE_STAT_MAX_TS z) 0xF).set (F.ZONE_STAT_LEVEL z) 0).setB (F.ZONE_STAT_BROKEN_HOLD z) false).set
    (F.ZONE_STAT_DEMAND z) 2

theorem judgeExempt_idle (h : d.f F.CHG_CFG_CHEM = 0) (z : Nat) : d.judgeExempt z = d := if_neg (by simp [isBattery_none h])

theorem zoneReport_none (h : d.members z = []) :
    d.zoneReport z = ((d.set (F.ZONE_STAT_MAX z) 0x7FFF).set (F.ZONE_STAT_MAX_TS z) 0xF).set (F.ZONE_STAT_LEVEL z) 0 := by
  have htop : d.hottest [] = ((0x7FFF, 0xF), d) := rfl
  simp only [Dev.zoneReport, h, htop, List.foldl_nil, bne_self_eq_false, Bool.and_false, Bool.false_eq_true, if_false]

theorem zoneThrottle_none (hzone : ∀ j : Fin 12, 4 ≤ d.f (F.TS_MAP_ZONE j)) (hz : z < 4)
    (hmembers : (d.setB (F.ZONE_STAT_BROKEN_HOLD z) false).members z = []) :
    d.zoneThrottle z = ((d.setB (F.ZONE_STAT_BROKEN_HOLD z) false).set (F.ZONE_STAT_DEMAND z) 2).setStep z
      (max (d.f (F.ZONE_CFG_FLOOR z)) (d.f (F.ZONE_STAT_STEP z))) := by
  have hhold : (d.setB (F.ZONE_STAT_BROKEN_HOLD z) false).on (F.ZONE_STAT_BROKEN_HOLD z) = false := by
    simp only [Dev.on, Dev.setB, f_set_flag d (F.ZONE_STAT_BROKEN_HOLD z) (v := false.toNat) (by decide)]
    rfl
  have hdemand : (d.setB (F.ZONE_STAT_BROKEN_HOLD z) false).demandOf z = 2 := by simp [Dev.demandOf, hmembers, hhold]
  have hfloor : (d.setB (F.ZONE_STAT_BROKEN_HOLD z) false).f (F.ZONE_CFG_FLOOR z) = d.f (F.ZONE_CFG_FLOOR z) :=
    Dev.f_set_ne _ _ (by simp only [F.ZONE_CFG_FLOOR, R.ZONE_CFG, F.ZONE_STAT_BROKEN_HOLD, R.ZONE_STAT]; omega)
  have hstep : (d.setB (F.ZONE_STAT_BROKEN_HOLD z) false).f (F.ZONE_STAT_STEP z) = d.f (F.ZONE_STAT_STEP z) :=
    Dev.f_set_apart _ _ (Field.apart_of_bits (by rfl))
  unfold Dev.zoneThrottle
  simp only [unserved_unzoned hzone hz, primaries_unzoned hzone hz, List.any_nil, List.foldl_nil, List.isEmpty_nil, Bool.not_true, Bool.false_eq_true,
    if_false, hdemand, hfloor, hstep]
  rfl

theorem zoneShutdown_none (hmembers : d.members z = []) (hunserved : d.unserved z = []) (hshut : d.f (F.ZONE_STAT_SHUT z) = 0) : d.zoneShutdown z = d := by
  simp [Dev.zoneShutdown, hmembers, hunserved, Dev.on, hshut]

theorem mem_roundFields {x : Field} (hz : z < 4) (hx : x ∈ reportFields z) : x ∈ roundFields :=
  List.mem_append_left _ (List.mem_append_right _ (List.mem_flatMap.2 ⟨z, List.mem_range.2 hz, hx⟩))

theorem keeps.zoneNone {ps : List Part} (hz : z < 4) (h : keeps roundFields ps d e) : keeps roundFields ps d (e.zoneNone z) := by
  have hmem {x : Field} (hx : x ∈ reportFields z) := mem_roundFields hz hx
  exact ((((h.set _ (hmem (by simp [reportFields]))).set _ (hmem (by simp [reportFields]))).set _ (hmem (by simp [reportFields]))).setB _
    (hmem (by simp [reportFields]))).set _ (hmem (by simp [reportFields]))

/-- A zone of an idle round takes its empty report. -/
theorem zoneEnd_idle (h : RoundIdle d) (hz : z < 4) : d.zoneEnd z = d.zoneNone z := by
  have hmem {x : Field} (hx : x ∈ reportFields z) := mem_roundFields hz hx
  have hmembers {c : Dev} (hc : RoundIdle c) : c.members z = [] := members_unzoned hc.zone (servesSensors_of_none hc.standin) hz
  have hreport : keeps roundFields [] d (d.zoneReport z) := by
    rw [zoneReport_none (hmembers h)]
    exact ((keeps.refl.set _ (hmem (by simp [reportFields]))).set _ (hmem (by simp [reportFields]))).set _ (hmem (by simp [reportFields]))
  have hidle := h.kept hreport
  have hnone := h.kept (keeps.refl.zoneNone (ps := []) hz)
  have hthrottle : (d.zoneReport z).zoneThrottle z = d.zoneNone z := by
    have hfull : max ((d.zoneReport z).f (F.ZONE_CFG_FLOOR z)) ((d.zoneReport z).f (F.ZONE_STAT_STEP z)) = 16 := by
      rw [show (d.zoneReport z).f (F.ZONE_STAT_STEP z) = 16 from hidle.step ⟨z, hz⟩]
      exact Nat.max_eq_right (hidle.floor ⟨z, hz⟩)
    rw [zoneThrottle_none hidle.zone hz (hmembers (hidle.kept (ps := []) (keeps.refl.setB false (hmem (by simp [reportFields]))))), hfull,
      zoneReport_none (hmembers h)]
    exact setStep_self (hnone.step ⟨z, hz⟩).symm
  rw [Dev.zoneEnd, judgeExempt_idle h.chem, hthrottle]
  exact zoneShutdown_none (hmembers hnone) (unserved_unzoned hnone.zone hz) (hnone.shut ⟨z, hz⟩)

/-! ### The round -/

/-- What a round without members of a zone changes: its fields and the sensors, with no event. -/
structure RoundQuiet (d e : Dev) : Prop where
  kept   : keeps roundFields [.sensor] d e
  raised : e.raised = d.raised

theorem roundQuiet_sensedAll (h : ∀ j : Fin 12, 4 ≤ j.val → d.sensed j = false) : RoundQuiet d (d.sensedAll rs 12) := by
  refine ⟨?_, each_const (·.raised) (fun e k => raised_senseOne e k) 12 d⟩
  have hall (n : Nat) (hn : n ≤ 12) : keeps roundFields [.sensor] d (d.sensedAll rs n) := by
    induction n with
    | zero => exact keeps.refl
    | succ n ih =>
      have hfree : n < 4 ∨ (d.sensedAll rs n).sensed n = false ∨ [Part.sensor].contains .free = true := by
        by_cases hlt : n < 4
        · exact .inl hlt
        · exact .inr (.inl ((sensed_sensedAll d n n).trans (h ⟨n, hn⟩ (Nat.not_lt.1 hlt))))
      have hread : readFields n ⊆ roundFields := fun x hx =>
        List.mem_append_left _ (List.mem_append_left _ (List.mem_flatMap.2 ⟨n, List.mem_range.2 hn, hx⟩))
      have hstep : d.sensedAll rs (n + 1) = (d.sensedAll rs n).senseOne rs n := each_succ ..
      rw [hstep]
      exact (ih (by omega)).senseOne hread rfl hfree
  exact hall 12 (Nat.le_refl 12)

theorem result_idle (h : RoundIdle d) (n : Nat) (v : Int) : d.result (0x40 + n) v = d := by
  have hsource := h.source
  have hne : d.f F.PRISM_TSEL_SOURCE ≠ 0x40 + n := by omega
  simp [Dev.result, hne, h.channels, Dev.each]

theorem resulted_idle (h : RoundIdle d) : d.resulted = d := each_self fun k _ => by rw [result_idle h, ite_self]

theorem roundQuiet_zones (h : RoundIdle d) {n : Nat} (hn : n ≤ 4) : RoundQuiet d (d.each n Dev.zoneEnd) := by
  induction n with
  | zero => exact ⟨keeps.refl, rfl⟩
  | succ n ih =>
    obtain ⟨hkept, hraised⟩ := ih (by omega)
    rw [each_succ, zoneEnd_idle (h.kept hkept) hn]
    exact ⟨hkept.zoneNone hn, hraised⟩

theorem batteryRound_none (h : d.f F.CHG_CFG_CHEM = 0) : d.batteryRound = d := if_pos (by simp [h])

theorem roundQuiet_round (hrun : d.running = true) (h : RoundIdle d) (hsensed : ∀ j : Fin 12, 4 ≤ j.val → d.sensed j = false) :
    RoundQuiet d (thermalRound d rs) := by
  obtain ⟨hkept, hraised⟩ := roundQuiet_sensedAll (rs := rs) hsensed
  have hidle := h.kept hkept
  obtain ⟨hzones, hzonesRaised⟩ := roundQuiet_zones hidle (Nat.le_refl 4)
  have hend := hidle.kept hzones
  have hmax : keeps roundFields [.sensor] d ((d.sensedAll rs 12).each 4 Dev.zoneEnd).maxNone :=
    (hkept.trans hzones).maxNone (by simp [roundFields]) (by simp [roundFields])
  rw [thermalRound_eq hrun, Dev.roundEnd, resulted_idle hidle,
    deviceMax_unzoned hend.zone (servesSensors_of_none hend.standin) fun hchem => absurd hend.chem hchem, batteryRound_none (h.kept hmax).chem]
  exact ⟨hmax.inc (by simp [roundFields]), hzonesRaised.trans hraised⟩

theorem effect_thermalRound (hrun : s.dev.running = true) (h : RoundIdle s.dev) (hsensed : ∀ j : Fin 12, 4 ≤ j.val → s.dev.sensed j = false)
    (hread : ∀ j : Fin 4, causeMet rs j = 0 ∧ s.dev.f (F.TS_VAL_BROKEN j) = 0) :
    effect (.thermalRound rs) s roundFields [.sensor] [] fun d =>
      (∀ j : Fin 4, d.f (F.TS_VAL_TEMP j) = toTwos 16 (vget rs j).temp ∧ d.f (F.TS_VAL_VALID j) = 1) ∧
      d.f F.THERM_ROUND_ROUNDS = (s.dev.f F.THERM_ROUND_ROUNDS + 1) % 2 ^ F.THERM_ROUND_ROUNDS.width := by
  obtain ⟨hkept, hraised⟩ := roundQuiet_round (rs := rs) hrun h hsensed
  refine ⟨_, exec_thermalRound rs s, hkept, hraised.trans (List.append_nil _).symm, fun j => ?_, rounds_finish_round hrun⟩
  obtain ⟨hcause, hbroken⟩ := hread j
  exact (measured_finish_round hrun (Nat.lt_trans j.isLt (by decide))).read j.isLt hbroken (by rw [hcause]; decide)

end Sys2Proof.Machine

open Sys2Proof Sys2Proof.Machine

/-- Settles O36: the sensors keep what a round and the commands of one sensor give them, whatever the zones do then (`SensingKept`); outside the zones
nothing follows but an empty THERM_MAX. -/
theorem sensors : Obligations.Sensors := by
  unfold Obligations.Sensors
  intro n k rs s hrun
  refine ⟨leads_thermalRound hrun, leads_sensorBroken hrun, leads_sensorClear hrun, leads_sensorStandin hrun, fun hz => ⟨?_, ?_, ?_, ?_⟩⟩
  · intro hsensed hread hchem hsource hchannels hzones hnone
    exact effect_thermalRound hrun ⟨hz.1, hnone, hchem, hsource, hchannels, fun z => (hzones z).1, fun z => (hzones z).2.1, fun z => (hzones z).2.2⟩
      hsensed hread
  · intro hb hcause hlt hrounds _ hnone
    exact effect_sensorBroken hrun hz hb hcause hlt hrounds hnone
  · exact effect_sensorClear hrun hz
  · exact effect_sensorStandin hrun hz
end
